-- ==== Sys2Proof/Word.lean ====
section
/-! DEFINITION. The word types of the Y512 model and the plain data that commands carry: the operand
fields of Hexah and thread words (Tables 7.2 and 10.2), and what a command reports of the world outside
(host read data, observed syndrome classes, message contents).  Only types and their plainest forms stand here. -/

namespace Sys2Proof

abbrev Byte := BitVec 8
abbrev Half := BitVec 16
abbrev Word32 := BitVec 32
abbrev Word64 := BitVec 64

/-- The two Treadles (06 R193). -/
inductive Treadle where
  | a
  | b
deriving DecidableEq, Repr

/-- A rail whose regulation the power logic watches (03 Table 3.2, R121). -/
inductive Rail where
  | group (g : Nat)
  | vesp
  | vunc
  | vtrd
  | vphy
  | vsp
  | hbm
deriving DecidableEq, Repr

/-- The syndrome classes of 13 Table 13.2. -/
inductive SynClass where
  | clean
  | data
  | check
  | uncorrectable
  | poison
deriving DecidableEq, Repr

/-- How a host read ends (13 R455, 22 Table 22.6). -/
inductive HostStatus where
  | ok
  | ep
  | unsupported
  | abort
  | timeout
deriving DecidableEq, Repr

/-- What a host read returns to the device: the bytes and how the read ended (22 R758). -/
structure HostData where
  status : HostStatus
  bytes  : List Byte
deriving DecidableEq, Repr

/-- What a command that reads memory meets outside the registers: the answer of a host read, and the syndrome
class that each listed granule's codeword decodes to (granule = device physical address / 32 for HBM; a
granule that is not listed decodes to what the memory holds: clean or poisoned).  `spEcc` lists the same for
scratchpad granules, as cluster and granule within the array. -/
structure Env where
  host  : HostData
  ecc   : List (Nat × SynClass)
  spEcc : List (Nat × Nat × SynClass)
deriving DecidableEq, Repr

/-- A shed: partition, slot of the partition, shed of the slot (09 "Placement", "Sheds and issue"). -/
structure ShedRef where
  part : BitVec 3
  slot : BitVec 9
  shed : BitVec 2
deriving DecidableEq, Repr

/-- The fields of thread format T3 (10 Table 10.2). -/
structure T3 where
  guard : BitVec 4
  rd    : BitVec 6
  ra    : BitVec 6
  rb    : BitVec 6
  rc    : BitVec 6
  mod   : BitVec 8
deriving DecidableEq, Repr

/-- The fields of thread format TI (10 Table 10.2). -/
structure TI where
  guard : BitVec 4
  rd    : BitVec 6
  ra    : BitVec 6
  mod   : BitVec 8
  imm   : BitVec 32
deriving DecidableEq, Repr

/-- The fields of thread format TB (10 Table 10.2). -/
structure TB where
  pk  : BitVec 3
  off : BitVec 32
deriving DecidableEq, Repr

/-- The fields of thread format TM (10 Table 10.2). -/
structure TM where
  md  : BitVec 3
  ma  : BitVec 3
  mb  : BitVec 3
  ga  : BitVec 6
  gb  : BitVec 6
  mod : BitVec 8
deriving DecidableEq, Repr

/-- A setting as a Hexah word of format S names it (07 Table 7.2, R247, R254). -/
structure SetRef where
  blk     : BitVec 5
  idx     : BitVec 12
  indexed : Bool
  rb      : BitVec 5
deriving DecidableEq, Repr

/-- The sampled strap pins (02 R62). -/
structure Straps where
  profile : BitVec 2
  chnSlot : BitVec 4
  smbAddr : BitVec 2
deriving DecidableEq, Repr

/-- Why a block fails its start-up test (05 R161, R162, R164), or the CRC-32C of the signature ROM (R188), which fails the fuse and
security block. -/
inductive BistCause where
  | signature (observed expected : BitVec 64)
  | mbist
  | timeout
  | romCrc
deriving DecidableEq, Repr

/-- One failing block: its domain number (03 Table 3.3) and the cause. -/
structure BistFail where
  domain : Nat
  cause  : BistCause
deriving DecidableEq, Repr

/-- One wrong element of a tile product: row, column, and the deviation in units of the least significant bit
of the product's exact form (12 R414). -/
structure TileErr where
  row   : BitVec 6
  col   : BitVec 6
  delta : Int
deriving DecidableEq, Repr

/-- A detected error as its source presents it (15 R515, R516). -/
structure ErrEvent where
  code     : BitVec 16
  srcClass : BitVec 8
  srcIndex : BitVec 16
  ctx      : BitVec 16
  domain   : BitVec 16
  payload  : List Byte
deriving DecidableEq, Repr

/-- A received flit-group (17 Table 17.2); `crcOk` says whether its CRC-32C matches its bytes 0 to 267. -/
structure FlitGroup where
  kind    : Byte
  flags   : Byte
  seq     : BitVec 16
  ack     : BitVec 16
  credit0 : Byte
  credit1 : Byte
  poison  : Byte
  payload : List Byte
  crcOk   : Bool
deriving DecidableEq, Repr

/-- What a TIME exchange yields (17 R596); instants in units of 0.0625 ns. -/
structure TimeFlit where
  rootSerial : BitVec 64
  hops       : BitVec 8
  bound      : BitVec 16
  t1         : Int
  t2         : Int
  t3         : Int
  t4         : Int
deriving DecidableEq, Repr

/-- The neighbour identity exchanged at training (17 R587). -/
structure NeighbourId where
  serial : BitVec 64
  coord  : BitVec 64
  port   : BitVec 3
deriving DecidableEq, Repr

/-- A link-operation message (17 R585). -/
structure LinkOpMsg where
  id           : BitVec 32
  srcCtx       : BitVec 16
  jobTag       : BitVec 32
  remoteCtx    : BitVec 16
  dst          : BitVec 64
  remoteObject : BitVec 16
  e2e          : Bool
  e2eOk        : Bool
  data         : List Byte
  poison       : List Nat
deriving DecidableEq, Repr

/-- The header every pleached-pair message carries (11 R402). -/
structure PairHdr where
  port    : BitVec 3
  jobTag  : BitVec 32
  ctx     : BitVec 8
deriving DecidableEq, Repr

/-- A FORM message (18 R609). -/
structure FormMsg where
  jobTag  : BitVec 32
  key     : BitVec 16
  extents : BitVec 12
  wrap    : BitVec 3
  offsets : BitVec 12
  dsig    : BitVec 64
deriving DecidableEq, Repr

/-- The header every collective message carries (18 R613): group key, sequence number, descriptor CRC and the
algorithm chosen. -/
structure ColHdr where
  port : BitVec 3
  key  : BitVec 16
  seq  : BitVec 64
  crc  : BitVec 32
  alg  : BitVec 2
deriving DecidableEq, Repr

/-- What a piece or chunk of a collective carries (18 R625, R626): the offset of the sender on the axis, the
axis, the first element, the direction, whether it is on the return, the values and its marks. -/
structure ColData where
  axis    : BitVec 2
  offset  : BitVec 4
  first   : Nat
  back    : Bool
  values  : List (BitVec 64)
  stamp   : BitVec 64
  unsync  : Bool
  poison  : Bool
  e2eOk   : Bool
deriving DecidableEq, Repr

/-- The counts of pairs that a collision test met (19 R660). -/
structure PairCounts where
  n1 : BitVec 32
  n2 : BitVec 32
  n3 : BitVec 32
deriving DecidableEq, Repr

/-- What the lanes report of one candidate (19 R660): counts, first blocking primitive and sample. -/
structure CandResult where
  counts : PairCounts
  prim   : Byte
  sample : BitVec 16
  lane   : BitVec 7
deriving DecidableEq, Repr

/-- The header of a tray-controller burst (21 Table 21.3). -/
structure ChnHdr where
  dst : Byte
  seq : Byte
deriving DecidableEq, Repr

/-- A beacon as received (21 R715, R718): payload fields, whether its CRC matched, and the distance in ns of
its start-character edge from the predicted instant. -/
structure BeaconMsg where
  frame    : BitVec 32
  mute     : BitVec 16
  guardHit : BitVec 16
  crcOk    : Bool
  errNs    : Nat
deriving DecidableEq, Repr

/-- A PCIe configuration write (22 R748), one field each. -/
inductive CfgWrite where
  | busMaster (v : Bool)
  | memSpace (v : Bool)
  | d3hot (v : Bool)
  | vfEnable (v : Bool)
  | numVfs (n : BitVec 16)
  | cplTimeout (v : BitVec 4)
  | msixEnable (v : Bool)
  | msixMask (v : Bool)
deriving DecidableEq, Repr

end Sys2Proof
end

