-- ==== Sys2Proof/Syntax.lean ====
section
/-! DEFINITION. The commands of the Y512: one constructor for each of the 372 rows of spec/opcode_table.json, in
the table's order, with the row's operands.  The table gives no row any bits; an operand is what the rule of the row
names (a queue, a slot, a register field), or what the command reports of the world (a reading, a received message). -/

namespace Sys2Proof

/-- The commands.  Hexah instructions carry the execution slot (06 R214) whose program issues them, thread
instructions the shed that issues them (10 R342). -/
inductive Instr where
  -- 02, 03, 04, 05: power, thermal, pins and start-up test
  | vaux33Rise (straps : Straps) (tbRef : Bool)
  | keepAliveReached (fails : List BistFail) (nvReadable : Bool)
  | vaux33Loss
  | pwrEnAssert (railsOk : Bool)
  | thermalWaitEnd
  | pwrEnDeassert
  | pwrWarn
  | pwrWarnCleared
  | vin12Undervoltage
  | railFault (rail : Rail)
  | capMeterSample (mV mA : Nat)
  | domainSwitchComplete (domain : Nat) (testPass : Bool)
  | domainSwitchFail (domain : Nat)
  | stateChange
  | naturalIdleCalibration (group : BitVec 6)
  | forcedQuietWindow
  | quietWindowEnd
  | estimateStale (group : BitVec 6)
  | sensorMeasure (zone : Nat) (readings : List (Nat × BitVec 16))
  | sensorConversionTimeout (sensor : Nat)
  | sensorReferenceCheck (sensor : Nat) (pass : Bool)
  | fastCadenceEnd (zone : Nat)
  | tripVote (voter : BitVec 2)
  | tripVoterBroken (voter : BitVec 2)
  | thermalBlockFault
  | tbRefLost
  | bypassOpenFail (axis : BitVec 2)
  | bypassCloseFail (axis : BitVec 2)
  | extestEnter (axis : BitVec 2)
  | extestExit (axis : BitVec 2)
  | scanReq
  | scanEnabled
  | bistPhaseEnd (fails : List BistFail) (repaired : List Nat)
  | bistPhaseTimeout (domain : Nat)
  | startUpTestEnd (micros : BitVec 32)
  | bistReportRepeat
  | fuseWordComplete
  -- 06: queues and Treadles
  | commandDoorbell (fn : BitVec 6) (queue : BitVec 10) (width : Nat) (value : BitVec 32)
  | completionDoorbell (fn : BitVec 6) (queue : BitVec 10) (width : Nat) (value : BitVec 32)
  | entryFetch (queue : BitVec 10) (env : Env)
  | programStart (slot : BitVec 6) (queue : BitVec 10)
  | programBudget (slot : BitVec 6)
  | completionRecordIssue (queue : BitVec 10)
  | trdLockstepMismatch (t : Treadle)
  | trdHeartbeatLost (t : Treadle)
  | treadleMemoryUe (t : Treadle)
  | standbyLost
  | standbyHot (crcMatch : Bool)
  | treadleRecoveryTestEnd (pass : Bool)
  | treadleCheckpoint
  | commitTokenGrant (copiesOk : Bool)
  | commitPrepareTimeout (domain : BitVec 16)
  | hardenedRefresh (blk : BitVec 5) (idx : BitVec 12) (copiesOk : Bool)
  | settingParity (blk : BitVec 5) (idx : BitVec 12) (ctx : BitVec 8) (imageOk : Bool)
  -- 07: Hexah instructions
  | add (slot : BitVec 6) (rd ra rb : BitVec 5)
  | sub (slot : BitVec 6) (rd ra rb : BitVec 5)
  | mul (slot : BitVec 6) (rd ra rb : BitVec 5)
  | mulhu (slot : BitVec 6) (rd ra rb : BitVec 5)
  | divu (slot : BitVec 6) (rd ra rb : BitVec 5)
  | remu (slot : BitVec 6) (rd ra rb : BitVec 5)
  | and (slot : BitVec 6) (rd ra rb : BitVec 5)
  | or (slot : BitVec 6) (rd ra rb : BitVec 5)
  | xor (slot : BitVec 6) (rd ra rb : BitVec 5)
  | shl (slot : BitVec 6) (rd ra rb : BitVec 5)
  | shr (slot : BitVec 6) (rd ra rb : BitVec 5)
  | sar (slot : BitVec 6) (rd ra rb : BitVec 5)
  | slt (slot : BitVec 6) (rd ra rb : BitVec 5)
  | sltu (slot : BitVec 6) (rd ra rb : BitVec 5)
  | seq (slot : BitVec 6) (rd ra rb : BitVec 5)
  | addi (slot : BitVec 6) (rd ra : BitVec 5) (imm : BitVec 32)
  | andi (slot : BitVec 6) (rd ra : BitVec 5) (imm : BitVec 32)
  | ori (slot : BitVec 6) (rd ra : BitVec 5) (imm : BitVec 32)
  | xori (slot : BitVec 6) (rd ra : BitVec 5) (imm : BitVec 32)
  | shli (slot : BitVec 6) (rd ra : BitVec 5) (imm : BitVec 32)
  | shri (slot : BitVec 6) (rd ra : BitVec 5) (imm : BitVec 32)
  | sari (slot : BitVec 6) (rd ra : BitVec 5) (imm : BitVec 32)
  | movi (slot : BitVec 6) (rd : BitVec 5) (imm : BitVec 32)
  | ldih (slot : BitVec 6) (rd ra : BitVec 5) (imm : BitVec 32)
  | gtc (slot : BitVec 6) (rd : BitVec 5)
  | beq (slot : BitVec 6) (ra rb : BitVec 5) (off : BitVec 32)
  | bne (slot : BitVec 6) (ra rb : BitVec 5) (off : BitVec 32)
  | blt (slot : BitVec 6) (ra rb : BitVec 5) (off : BitVec 32)
  | bge (slot : BitVec 6) (ra rb : BitVec 5) (off : BitVec 32)
  | bltu (slot : BitVec 6) (ra rb : BitVec 5) (off : BitVec 32)
  | bgeu (slot : BitVec 6) (ra rb : BitVec 5) (off : BitVec 32)
  | jal (slot : BitVec 6) (rd : BitVec 5) (off : BitVec 32)
  | jr (slot : BitVec 6) (rd ra : BitVec 5)
  | endProg (slot : BitVec 6)
  | ld (slot : BitVec 6) (rd ra : BitVec 5) (imm : BitVec 32) (env : Env)
  | lw (slot : BitVec 6) (rd ra : BitVec 5) (imm : BitVec 32) (env : Env)
  | st (slot : BitVec 6) (ra rb : BitVec 5) (imm : BitVec 32)
  | sw (slot : BitVec 6) (ra rb : BitVec 5) (imm : BitVec 32)
  | rds (slot : BitVec 6) (rd : BitVec 5) (set : SetRef)
  | rdst (slot : BitVec 6) (rd : BitVec 5) (set : SetRef)
  | stage (slot : BitVec 6) (ra : BitVec 5) (set : SetRef)
  | wri (slot : BitVec 6) (ra : BitVec 5) (set : SetRef)
  | check (slot : BitVec 6) (rd : BitVec 5)
  | commit (slot : BitVec 6) (rd : BitVec 5) (imm : BitVec 32)
  | abandon (slot : BitVec 6)
  | ctxsel (slot : BitVec 6) (ra : BitVec 5)
  | ctxnew (slot : BitVec 6) (rd ra rb : BitVec 5) (imm : BitVec 32)
  | ctxdel (slot : BitVec 6) (rd ra : BitVec 5)
  | qcreate (slot : BitVec 6) (rd ra rb : BitVec 5) (env : Env)
  | qctlEnable (slot : BitVec 6) (rd ra : BitVec 5)
  | qctlDisable (slot : BitVec 6) (rd ra : BitVec 5)
  | qctlStop (slot : BitVec 6) (rd ra : BitVec 5)
  | qctlDestroy (slot : BitVec 6) (rd ra : BitVec 5)
  | gseed (slot : BitVec 6) (ra rb : BitVec 5)
  | launch (slot : BitVec 6) (rd ra : BitVec 5) (env : Env)
  | sctr (slot : BitVec 6) (rd : BitVec 5)
  | sset (slot : BitVec 6) (rd ra : BitVec 5)
  | syadd (slot : BitVec 6) (rd ra rb : BitVec 5)
  | syset (slot : BitVec 6) (ra rb : BitVec 5)
  | syrd (slot : BitVec 6) (rd ra : BitVec 5)
  | wait (slot : BitVec 6) (rd ra rb : BitVec 5) (imm : BitVec 32)
  | waitWake (slot : BitVec 6)
  | waitTimeout (slot : BitVec 6)
  | fence (slot : BitVec 6)
  | resetContext (slot : BitVec 6) (rd ra : BitVec 5)
  | resetJobTag (slot : BitVec 6) (rd ra : BitVec 5)
  | resetEngine (slot : BitVec 6) (rd ra : BitVec 5)
  | resetPartition (slot : BitVec 6) (rd ra : BitVec 5)
  | resetChip (slot : BitVec 6) (rd ra : BitVec 5)
  | resetPowerCycle (slot : BitVec 6) (rd ra : BitVec 5)
  | pwrdom (slot : BitVec 6) (rd ra : BitVec 5) (imm : BitVec 32)
  | acct (slot : BitVec 6) (imm : BitVec 32)
  | tsnap (slot : BitVec 6) (ra : BitVec 5)
  | binst (slot : BitVec 6) (rd ra rb : BitVec 5) (env : Env)
  | bkey (slot : BitVec 6) (imm : BitVec 32)
  | bdeep (slot : BitVec 6) (rd ra : BitVec 5)
  | cstate (slot : BitVec 6) (rd ra : BitVec 5) (imm : BitVec 32) (testPass : Bool)
  | fkey (slot : BitVec 6) (rd ra rb : BitVec 5) (imm : BitVec 32) (env : Env)
  | fcop (slot : BitVec 6) (rd ra : BitVec 5)
  | log (slot : BitVec 6) (ra rb : BitVec 5) (imm : BitVec 32) (env : Env)
  | send (slot : BitVec 6) (rd ra rb : BitVec 5) (env : Env)
  -- 09: launches, slots and steps
  | launchStart (ctx : BitVec 8)
  | slotSwitch (cluster : BitVec 9) (toPart : BitVec 3) (toSlot : BitVec 9)
  | stepCommitPoint (ctx : BitVec 8)
  | xlatDone (ctx : BitVec 8)
  -- 10: thread instructions
  | threadEnd (w : ShedRef) (f : T3)
  | nop (w : ShedRef) (f : T3)
  | bars (w : ShedRef) (f : T3)
  | threadAdd (w : ShedRef) (f : T3)
  | threadSub (w : ShedRef) (f : T3)
  | threadMul (w : ShedRef) (f : T3)
  | threadMulhu (w : ShedRef) (f : T3)
  | threadDivu (w : ShedRef) (f : T3)
  | threadRemu (w : ShedRef) (f : T3)
  | threadAnd (w : ShedRef) (f : T3)
  | threadOr (w : ShedRef) (f : T3)
  | threadXor (w : ShedRef) (f : T3)
  | threadShl (w : ShedRef) (f : T3)
  | threadShr (w : ShedRef) (f : T3)
  | threadSar (w : ShedRef) (f : T3)
  | min (w : ShedRef) (f : T3)
  | max (w : ShedRef) (f : T3)
  | minu (w : ShedRef) (f : T3)
  | maxu (w : ShedRef) (f : T3)
  | threadAddi (w : ShedRef) (f : TI)
  | threadAndi (w : ShedRef) (f : TI)
  | threadOri (w : ShedRef) (f : TI)
  | threadXori (w : ShedRef) (f : TI)
  | threadShli (w : ShedRef) (f : TI)
  | threadShri (w : ShedRef) (f : TI)
  | threadSari (w : ShedRef) (f : TI)
  | threadMovi (w : ShedRef) (f : TI)
  | threadLdih (w : ShedRef) (f : TI)
  | sel (w : ShedRef) (f : T3)
  | setp (w : ShedRef) (f : T3)
  | pand (w : ShedRef) (f : T3)
  | por (w : ShedRef) (f : T3)
  | pxor (w : ShedRef) (f : T3)
  | pnot (w : ShedRef) (f : T3)
  | pmov (w : ShedRef) (f : T3)
  | mif (w : ShedRef) (f : T3)
  | melse (w : ShedRef) (f : T3)
  | mend (w : ShedRef) (f : T3)
  | mbrk (w : ShedRef) (f : T3)
  | mget (w : ShedRef) (f : T3)
  | br (w : ShedRef) (f : TB)
  | bany (w : ShedRef) (f : TB)
  | ball (w : ShedRef) (f : TB)
  | bnone (w : ShedRef) (f : TB)
  | call (w : ShedRef) (f : TB)
  | ret (w : ShedRef) (f : TB)
  | ldB (w : ShedRef) (f : TI) (env : Env)
  | ldH (w : ShedRef) (f : TI) (env : Env)
  | ldW (w : ShedRef) (f : TI) (env : Env)
  | ldD (w : ShedRef) (f : TI) (env : Env)
  | ldQ (w : ShedRef) (f : TI) (env : Env)
  | stB (w : ShedRef) (f : TI) (env : Env)
  | stH (w : ShedRef) (f : TI) (env : Env)
  | stW (w : ShedRef) (f : TI) (env : Env)
  | stD (w : ShedRef) (f : TI) (env : Env)
  | stQ (w : ShedRef) (f : TI) (env : Env)
  | atom (w : ShedRef) (f : T3) (env : Env)
  | atomf (w : ShedRef) (f : T3) (env : Env)
  | threadFence (w : ShedRef) (f : T3)
  | vadd (w : ShedRef) (f : T3)
  | vsub (w : ShedRef) (f : T3)
  | vmul (w : ShedRef) (f : T3)
  | vfma (w : ShedRef) (f : T3)
  | vmin (w : ShedRef) (f : T3)
  | vmax (w : ShedRef) (f : T3)
  | vabs (w : ShedRef) (f : T3)
  | vneg (w : ShedRef) (f : T3)
  | vcvt (w : ShedRef) (f : T3)
  | viadd (w : ShedRef) (f : T3)
  | vimul (w : ShedRef) (f : T3)
  | vimad (w : ShedRef) (f : T3)
  | vand (w : ShedRef) (f : T3)
  | vor (w : ShedRef) (f : T3)
  | vxor (w : ShedRef) (f : T3)
  | tld (w : ShedRef) (f : TM) (env : Env)
  | tst (w : ShedRef) (f : TM) (env : Env)
  | tmma (w : ShedRef) (f : TM)
  | tzero (w : ShedRef) (f : TM)
  | stepBegin (w : ShedRef) (f : T3) (env : Env)
  | stepCommit (w : ShedRef) (f : T3)
  | stepCtr (w : ShedRef) (f : T3)
  | ckassert (w : ShedRef) (f : T3)
  | ckstat (w : ShedRef) (f : TI)
  | rng (w : ShedRef) (f : T3)
  | syAdd (w : ShedRef) (f : T3)
  | syRd (w : ShedRef) (f : T3)
  | syWait (w : ShedRef) (f : T3)
  | syWaitRelease (w : ShedRef)
  | trigArm (w : ShedRef) (f : T3) (env : Env)
  | triggeredOpComplete (engine : Nat) (env : Env)
  -- 12, 13: checking and memory protection
  | tileCheckComplete (cluster : BitVec 9) (prodErrs : List TileErr) (sumFault residueFault accFault accAgain : Bool)
  | arbiterResult (cluster : BitVec 9) (crcOk sumsOk : Bool) (qErrs : List TileErr) (ownCheckOk : Bool)
  | repeatResult (cluster : BitVec 9) (p2Errs : List TileErr)
  | patrolScrubRead (stack : BitVec 3) (cls : SynClass) (writeOk : Bool)
  | scrubLate (stack : BitVec 3)
  | scrubWindowExpiry (stack : BitVec 3)
  | scratchpadScrub (cluster : BitVec 9) (granule : Nat) (cls : SynClass)
  -- 14: Burling
  | burlingOffer (cluster : BitVec 9)
  | itemEnd (cluster : BitVec 9) (crc : BitVec 64)
  | sliceEnd (cluster : BitVec 9)
  | itemSkipped (cluster : BitVec 9)
  | shareShortfall (cluster : BitVec 9)
  | deepRunStart
  | deepRunEnd (cluster : BitVec 9) (pass shortPass : Bool)
  | packVerifyEnd
  | burlingStoreUe (installedHalf : Bool)
  -- 15, 16: error pipeline, hangs and resets
  | errorAccept (e : ErrEvent)
  | entryTaken
  | errHandlingTimeout (handler : BitVec 4)
  | errQueueFault
  | ctxWatchdog (ctx : BitVec 8)
  | engineHang (domain : BitVec 16)
  | collectiveTimeout (ctx : BitVec 8) (group : BitVec 4)
  | drainBudgetExpiry (id : Nat)
  | resetOverrun (id : Nat)
  | resetComplete (id : Nat) (dossierOk : Bool)
  | oosClear (slot : BitVec 6)
  -- 17, 11: links, pleached pair
  | flitGroupReceive (port : BitVec 3) (fg : FlitGroup)
  | replayTimeout (port : BitVec 3)
  | alignSend (port : BitVec 3)
  | timeFlitSend (port : BitVec 3)
  | timeFlitReceive (port : BitVec 3) (t : TimeFlit)
  | timeBoundExpiry
  | linkTrainStart (port : BitVec 3)
  | linkTrained (port : BitVec 3) (nbr : NeighbourId)
  | linkTrainTimeout (port : BitVec 3)
  | linkTrainRetry (port : BitVec 3)
  | linkDown (port : BitVec 3) (cause : BitVec 4)
  | linkKeepExpiry (port : BitVec 3)
  | linkOpReceive (port : BitVec 3) (m : LinkOpMsg) (env : Env)
  | linkOpReplyReceive (port : BitVec 3) (id : BitVec 32) (accepted : Bool)
  | pair (h : PairHdr) (dsig stepCtr : BitVec 64)
  | digest (h : PairHdr) (stepCtr : BitVec 64) (step : BitVec 128) (slots : List (BitVec 128))
  | locate (h : PairHdr) (slot : BitVec 9) (digests : List (BitVec 48 × BitVec 128))
  | pairEnd (h : PairHdr)
  | pleachPeerLost (ctx : BitVec 8)
  -- 18: collectives
  | formSend (ctx : BitVec 8) (group : BitVec 4)
  | form (port : BitVec 3) (m : FormMsg)
  | collectiveFetch (ctx : BitVec 8) (env : Env)
  | collectiveGrant (h : ColHdr) (axis : BitVec 2) (first : Nat)
  | pieceReceive (h : ColHdr) (d : ColData)
  | chunkReceive (h : ColHdr) (d : ColData)
  | abort (h : ColHdr) (cause : Byte)
  | barrierRelease (ctx : BitVec 8) (group : BitVec 4)
  | collectiveEnd (ctx : BitVec 8) (group : BitVec 4) (env : Env)
  -- 19: Espalier
  | espCommandFetch (env : Env)
  | model (env : Env)
  | library (env : Env)
  | map (env : Env)
  | epochSwap
  | stop (env : Env)
  | cycleOpen
  | batch (env : Env)
  | batchComplete (results : List CandResult)
  | doubleCheckComplete (second : CandResult) (third : Option CandResult)
  | cycleClose
  | stopValidationComplete (half0 half1 : List PairCounts) (third : List PairCounts) (lane : BitVec 7)
  | planningDeadline
  | epochExpiry
  | espStopNow (slot : BitVec 6)
  -- 20: recorder
  | recordProgramStep (retries : Nat) (ok : Bool)
  | eraseComplete (block : BitVec 9) (ok : Bool)
  | rateWindowClose (code : BitVec 16)
  | powerOnSecondsStore
  | freezeStart (slot : BitVec 6) (ra : BitVec 5)
  | freezeEnd (slot : BitVec 6) (ra : BitVec 5)
  | freezeLimitExpiry
  | readPtrWrite (slot : BitVec 6) (ra : BitVec 5)
  | readDataAutoinc (slot : BitVec 6) (rd : BitVec 5)
  | perfStart (slot : BitVec 6) (ra : BitVec 5)
  | perfStop (slot : BitVec 6) (ra : BitVec 5)
  | perfZero (slot : BitVec 6) (ra : BitVec 5)
  | injectArm (slot : BitVec 6) (ra : BitVec 5)
  | injectDisarm (slot : BitVec 6) (ra : BitVec 5)
  -- 21: Chorno and SMBus
  | beacon (b : BeaconMsg)
  | deviceSlot (collided : Bool)
  | programSeg (h : ChnHdr) (progId : BitVec 16) (seg nseg : Byte) (data : List Byte)
  | programAssemblyTimeout
  | grant (h : ChnHdr) (queue : BitVec 16) (action : Byte)
  | readSetting (h : ChnHdr) (blk : Byte) (idx : BitVec 16) (words : Byte)
  | recRead (h : ChnHdr) (region : Byte) (index : BitVec 64)
  | packData (h : ChnHdr) (chunk pushId : BitVec 16) (data : List Byte)
  | packQuery (h : ChnHdr) (pushId : BitVec 16)
  | holdReport
  | page (write : Option Byte) (pecOk : Bool)
  | clearFaults (pecOk : Bool)
  | capability
  | statusByte
  | statusWord
  | statusInput
  | statusTemperature
  | statusCml
  | readVin (mV : Nat)
  | readIin
  | readTemperature1
  | readTemperature2
  | readPin
  | pmbusRevision
  | mfrId
  | mfrModel
  | mfrRevision
  | mfrSerial
  | mfrDevStatus
  | mfrBistResult
  | mfrRecPtr (region : Byte) (index : BitVec 64) (pecOk : Bool)
  | mfrRecRead
  | alertResponse
  -- 22: PCIe
  | perstLAssert
  | perstLDeassert
  | flrVf (fn : BitVec 6)
  | flrPf
  | hotReset
  | linkDisable
  | pcieLinkDown
  | pcieLinkUp (speed : BitVec 4) (width : Byte) (flit : Bool)
  | pcieTrainRetry
  | q0Create
  | q0Reenable
  | barWrite (fn : BitVec 6) (bar : BitVec 3) (offset : BitVec 32) (data : List Byte) (ep : Bool)
  | hostReadCompletion (tag : Nat) (d : HostData)
  | hostCompletionTimeout (tag : Nat)
  | pcieUncorrectable (aerBit : Byte) (ur : Bool)
  | msixUnmask (fn : BitVec 6) (vector : BitVec 12)
  | heartbeatMailboxRefresh
  -- rows that stand at the end of the table
  | vin12Loss
  | powerCycleMark
  | railsInRange
  | tripVoteCleared (voter : BitVec 2)
  | takeoverComplete
  | configurationWrite (fn : BitVec 6) (c : CfgWrite)
  | pcieCorrected (aerBit : Byte)
  | undefinedInstruction (slot : BitVec 6) (word : BitVec 64)
  | illegalInstr (w : ShedRef) (word : BitVec 64)
deriving DecidableEq, Repr

end Sys2Proof
end

