-- ==== Sys2Proof/Decode.lean ====
section
/-! DEFINITION. The command that a word spells by the bits of spec/opcode_table.json.  The table gives no row any bits, so no word
spells a command. -/

namespace Sys2Proof

/-- The command of a word of the table: none, since the table gives no row bits.
Log 9 (DESIGN CHOICE). -/
def decodeTableWord (_nbits _w : Nat) : Option Instr := none

end Sys2Proof
end

