-- ==== Sys2Proof/Config.lean ====
section
/-! DEFINITION. What the spec leaves open: constants without a body, so that nothing can be proved of their values. -/

namespace Sys2Proof.Config

/-- The free values: value number `n` of a run, where the spec says that a value is unspecified or states none.  The
step reads them in order through the counter `freeCtr` of the state.
Log 16 (DESIGN CHOICE). -/
opaque freeValue : Nat → Word64

/-- The bytes of one record of a dossier section (16 Table 16.7): the spec lists the contents of a record and its size
and not where each stands in it.  Arguments: section type, the contents in the order of the table, the byte's offset.
Log 14 (DESIGN CHOICE). -/
opaque dossierByte : Nat → List Nat → Nat → Byte

/-- The bytes of a message or flit-group payload whose fields the spec lists and whose layout it does not give (17 R585, R596, 11
R402, 18 R613).  Arguments: the kind of message, its fields in the order of the rule, the byte's offset.
Log 14 (DESIGN CHOICE). -/
opaque linkByte : Nat → List Nat → Nat → Byte

/-- The bytes that a tile or a held line contributes to a slot digest (11 R400: index and sums in exact form; address and
value): the contents are given and their form is not.  Arguments: kind (0 tile, 1 line, 2 atomic), the contents.
Log 14 (DESIGN CHOICE). -/
opaque digestBytes : Nat → List Int → List Byte

/-- The digest that LOCATE carries for a TMMA (11 R402, R404), from its tile index and its sums.
Log 14 (DESIGN CHOICE). -/
opaque locateDigest : List Int → Nat

/-- The number k of intervals at which a primitive is sampled (19 R647), where the longest path of a sphere centre is not that of the
base alone: R647 states it as an exact length, which the spec gives no way to compute.  Arguments: library entry, model
record, voxel size in mm.
Log 106 (DEDUCED). -/
opaque sampleCount : List Byte → List Byte → Nat → Nat

/-- The resident test pack in mask ROM (14 R479): the spec gives its limits and not its contents.
Log 15 (DESIGN CHOICE). -/
opaque residentPack : List Byte

/-- The vendor's public key in the vendor key slot (07 R266, 14 R476), x and y: programmed at manufacture, and the spec does not give it.
Log 15 (DESIGN CHOICE). -/
opaque vendorKey : List Byte

/-- SEC.SCAN_POLICY (05 R183) by its scan_lock fuse: the spec names the field and gives it no place in the word.
Log 30 (DESIGN CHOICE). -/
opaque scanPolicy : Bool → Word64

/-- The sensor number that THM.STATUS names while no digital sensor is valid (04 R146 gives none).
Log 28 (DESIGN CHOICE). -/
opaque noHottest : Nat

/-- The temperature in LINEAR11 that SMBus reads while there is none: no valid digital sensor, or none in the uncore zone (21 Table
21.9 gives no value).
Log 28 (DESIGN CHOICE). -/
opaque noTemp : Nat → Half

/-- Bit 12, MFR, of STATUS_WORD (21 Table 21.9): the spec names it and does not say what sets it.  Argument: the status flags.
Log 117 (DESIGN CHOICE). -/
opaque mfrStatus : Nat → Bool

/-- The busy beats (kind 0) and the beats in which a ready shed could not issue (kind 1) of a context (09 R312): beats follow from
timing, which the spec bounds and does not fix.  Arguments: kind, context, time in ns.
Log 13 (DESIGN CHOICE). -/
opaque perfBeats : Nat → Nat → Nat → Word64

/-- The bytes that the readout of a slot presents where there is no slot: beyond the newest, or erased (20 R702).
Log 112 (DEDUCED). -/
opaque noSlotByte : Nat → Byte

/-- Whether a value that LINEAR11 cannot hold exactly is rounded up (21 Table 21.9 does not say).  Arguments: command, value.
Log 117 (DESIGN CHOICE). -/
opaque linearUp : Nat → Nat → Bool

end Sys2Proof.Config
end

