-- ==== Sys2Proof/Machine/Bits.lean ====
section
/-! DEFINITION. Bits and bytes: little-endian bytes (00 R6), sign extension, field masks, and the CRCs the spec names. -/

namespace Sys2Proof.Machine

/-- The low `n` bytes of a number, least significant first (00 R6). -/
def leBytes : Nat → Nat → List Byte
  | 0, _ => []
  | n + 1, v => BitVec.ofNat 8 v :: leBytes n (v / 256)

/-- The number that bytes spell, least significant first (00 R6). -/
def leNat : List Byte → Nat
  | [] => 0
  | b :: t => b.toNat + 256 * leNat t

/-- `n` bytes of zero. -/
def zeros (n : Nat) : List Byte := List.replicate n 0

/-- Bytes made exactly `n` long: cut, or filled up with zero. -/
def padTo (n : Nat) (l : List Byte) : List Byte := l.take n ++ zeros (n - l.length)

/-- Bytes `lo` to `lo + n - 1` as a number. -/
def bytesAt (l : List Byte) (lo n : Nat) : Nat := leNat ((l.drop lo).take n)

/-- Bits `[hi:lo]` of a number. -/
def bitsOf (v hi lo : Nat) : Nat := (v >>> lo) % 2 ^ (hi + 1 - lo)

/-- The number with bit `b` as bit `n` and zero elsewhere. -/
def bitIf (b : Bool) (n : Nat) : Nat := if b then 2 ^ n else 0

/-- A Bool as 0 or 1. -/
def b2n (b : Bool) : Nat := if b then 1 else 0

/-- A count that stops at a maximum. -/
def satAdd (max a b : Nat) : Nat := Nat.min max (a + b)

/-- Eight steps of a reflected CRC with polynomial `poly`. -/
def crcByte {w : Nat} (poly : BitVec w) : Nat → BitVec w → BitVec w
  | 0, c => c
  | n + 1, c => crcByte poly n (if c.getLsbD 0 then (c >>> 1) ^^^ poly else c >>> 1)

/-- A reflected CRC over bytes. -/
def crcRun {w : Nat} (poly : BitVec w) : BitVec w → List Byte → BitVec w
  | c, [] => c
  | c, b :: t => crcRun poly (crcByte poly 8 (c ^^^ b.setWidth w)) t

/-- CRC-32C (Castagnoli) over bytes. -/
def crc32c (l : List Byte) : Word32 := crcRun 0x82F63B78#32 0xFFFFFFFF#32 l ^^^ 0xFFFFFFFF#32

/-- A 32-bit immediate sign-extended to 64 bits (07 R246). -/
def sext32 (v : Word32) : Word64 := v.signExtend 64

/-- A number as a 64-bit word. -/
def w64 (n : Nat) : Word64 := BitVec.ofNat 64 n

/-- Remove `k` from a list. -/
def dropNat (l : List Nat) (k : Nat) : List Nat := l.filter (fun x => x != k)

/-- Nothing in `l` but numbers below `n` satisfying `p`, in rising order. -/
def upTo (n : Nat) (p : Nat → Bool) : List Nat := (List.range n).filter p

end Sys2Proof.Machine
end

