-- ==== Sys2Proof/Machine/Tbl.lean ====
section
/-! DEFINITION. Sparse tables: numbered state (queues, slots, contexts, registers, memory bytes) as a list of numbered
entries in rising order of number.  An entry that is not listed reads as the table's default. -/

namespace Sys2Proof

/-- A sparse table. -/
abbrev Tbl (α : Type) := List (Nat × α)

/-- The entry of number `k`; `d` when none is listed. -/
def Tbl.get {α : Type} (d : α) : Tbl α → Nat → α
  | [], _ => d
  | (k', v) :: t, k => if k = k' then v else Tbl.get d t k

/-- Whether number `k` is listed. -/
def Tbl.has {α : Type} : Tbl α → Nat → Bool
  | [], _ => false
  | (k', _) :: t, k => k == k' || Tbl.has t k

/-- Write entry `k`, keeping the numbers in rising order. -/
def Tbl.put {α : Type} : Tbl α → Nat → α → Tbl α
  | [], k, v => [(k, v)]
  | (k', v') :: t, k, v =>
    if k < k' then (k, v) :: (k', v') :: t
    else if k = k' then (k, v) :: t
    else (k', v') :: Tbl.put t k v

/-- Remove entry `k`: it reads as the default from then on. -/
def Tbl.del {α : Type} (t : Tbl α) (k : Nat) : Tbl α := t.filter (fun e => e.1 != k)

/-- Change entry `k` by `f`. -/
def Tbl.upd {α : Type} (d : α) (t : Tbl α) (k : Nat) (f : α → α) : Tbl α := Tbl.put t k (f (Tbl.get d t k))

/-- The listed numbers are strictly rising. -/
def Tbl.rising {α : Type} : Tbl α → Bool
  | [] => true
  | [_] => true
  | (a, _) :: (b, w) :: t => decide (a < b) && Tbl.rising ((b, w) :: t)

/-- Insert a number into a rising list of numbers. -/
def insertNat : List Nat → Nat → List Nat
  | [], k => [k]
  | h :: t, k => if k < h then k :: h :: t else if k = h then h :: t else h :: insertNat t k

end Sys2Proof
end

