-- ==== Sys2Proof/Machine/Parts.lean ====
section
/-! DEFINITION. The parts of the state, chapter by chapter: records and the error pipeline (15, 20), resets (16),
power, thermal and start-up test (02 to 05), Treadles, queues, programs and settings (06 to 08).  Plain data only;
numbers the spec counts are Nat, words software sees whole are bit vectors. -/

namespace Sys2Proof.Machine

/-! ### Records and the recorder (15, 20) -/

/-- A record as formed (20 Table 20.2); the CRC and the valid mark are computed when the 64 bytes are written out. -/
structure Rec where
  code     : Nat
  sev      : Nat
  flags    : Nat
  srcClass : Nat
  srcIndex : Nat
  seq      : Nat
  pos      : Nat
  pcc      : Nat
  gtc      : Nat
  payload  : List Byte
deriving DecidableEq, Repr

/-- A record in the volatile ring; `svc` says that its copy for the service region has already been written (R688). -/
structure RingRec where
  body : Rec
  svc : Bool
deriving DecidableEq, Repr

/-- An open rate window (R693). -/
structure RateWin where
  code    : Nat
  opened  : Nat
  written : Nat
  supp    : Nat
  first   : Nat
  last    : Nat
deriving DecidableEq, Repr

/-- One 64-byte slot of the nonvolatile array, as it reads (R698, R699). -/
structure NvSlot where
  bytes : List Byte
deriving DecidableEq, Repr

/-- The wear data of one erase block (R701). -/
structure NvBlock where
  erases   : Nat
  fails    : Nat
  retries  : Nat
  ops      : Nat
  advised  : Bool
  retired  : Bool
deriving DecidableEq, Repr

/-- A block of a region in use: the log index of its first slot and the slots written so far, oldest first. -/
structure NvSeg where
  block : Nat
  start : Nat
  slots : List NvSlot
deriving DecidableEq, Repr

/-- A region of the nonvolatile array (R684): blocks in use from the oldest, erased blocks, the block being erased. -/
structure NvRegion where
  segs    : List NvSeg
  erased  : List Nat
  erasing : Option Nat
  next    : Nat
deriving DecidableEq, Repr

/-- A slot being programmed (R689): its region (1 durable log, 2 checkpoint, 3 service), the record, whether it comes
from the ring, and the operations done (0 to 4). -/
structure NvOp where
  region : Nat
  body   : Rec
  ring   : Bool
  op     : Nat
  retry  : Nat
deriving DecidableEq, Repr

/-- The recorder in the always-on domain (20). -/
structure Recorder where
  ring      : List RingRec
  seq       : Nat
  posBase   : Nat
  pcc       : Nat
  ctrStored : Nat
  ctrWrites : Nat
  pcMarked  : Bool
  missed    : List Nat
  missedGtc : Nat
  missedTot : Nat
  frozen    : Bool
  frzEnd    : Nat
  frzStart  : Nat
  frzCounts : List Nat
  rates     : List RateWin
  suppTot   : Nat
  heldTot   : Nat
  tornTot   : Nat
  damaged   : Nat
  logFull   : Bool
  wearAdv   : Bool
  wearCrit  : Bool
  log       : NvRegion
  ckpt      : NvRegion
  svc       : NvRegion
  blocks    : Tbl NvBlock
  op        : Option NvOp
  warnDrain : List Rec
  ckptWait  : Option Rec
  ckpts     : List Rec
  readPtr   : Word64
  freezeReg : Word64
deriving DecidableEq, Repr

/-! ### The error pipeline (15) -/

/-- The resource that the handling of an entry acts on (Table 15.6). -/
inductive Key where
  | chip
  | cluster (n : Nat)
  | ctx (n : Nat)
  | domain (n : Nat)
  | source (cls idx : Nat)
deriving DecidableEq, Repr

/-- An error held in the pipeline from acceptance until its handling completes (15).  `ctx` is 0xFFFF and `domain` is
0xFFFF where the entry has none. -/
structure Entry where
  id       : Nat
  code     : Nat
  sev      : Nat
  srcClass : Nat
  srcIndex : Nat
  ctx      : Nat
  domain   : Nat
  key      : Key
  arrivals : Nat
  payload  : List Byte
deriving DecidableEq, Repr

/-- An entry in a handler: the level of Table 15.7 it is handled at (6 where it is no reset), when it was taken,
and the reset that carries it out. -/
structure Handling where
  entry : Nat
  queue : Nat
  key   : Key
  sev   : Nat
  level : Nat
  taken : Nat
  reset : Option Nat
deriving DecidableEq, Repr

/-- The pipeline of chapter 15. -/
structure Pipeline where
  q0       : List Entry
  q1       : List Entry
  q2       : List Entry
  q3       : List Entry
  handlers : Tbl Handling
  accepted : Tbl Nat
  coalesced : Tbl Nat
  overflow : Tbl Nat
  safe     : Bool
  ringFault : Bool
  ringDue  : Bool
  ringTail : Word64
  reports  : List Rec
  direct   : List Rec
  folded   : Tbl Nat
  nextId   : Nat
deriving DecidableEq, Repr

/-! ### Resets (16) -/

/-- A reset from the raising of its fence to its completion (16): `origin` is the context whose watchdog fired (0xFFFF: none), `fn`
the function of a function reset (22 R759), and `snapshot` the dossier sections taken so far, by context at levels 0 and 1, else
under 0xFFFF: type, count of records, bytes. -/
structure ResetRun where
  level     : Nat
  target    : Nat
  cause     : Nat
  ctxs      : List Nat
  engines   : List Nat
  raised    : Nat
  budget    : Nat
  drainEnd  : Option Nat
  completed : Nat
  aborted   : Nat
  seqNo     : Nat
  escalated : Bool
  overrun   : Bool
  restarted : Bool
  merged    : Bool
  counts    : Bool
  waiters   : List (Nat × Nat)
  handlers  : List Nat
  origin    : Nat
  fn        : Option Nat
  snapshot  : Tbl (List (Nat × Nat × List Byte))
deriving DecidableEq, Repr

/-- Resets in progress and the service history (16). -/
structure Resets where
  runs    : Tbl ResetRun
  nextId  : Nat
  seq     : Word64
  oos     : Bool
  history : List Nat
  pcReq   : Bool
  watch   : Tbl Nat
deriving DecidableEq, Repr

/-! ### Power, thermal, start-up test (02 to 05) -/

/-- Where the device stands between unpowered and released (03, 04, 05, 16). -/
inductive Phase where
  | off
  | kaTest
  | keepAlive
  | thermWait
  | test
  | run
  | reset
  | stay
  | oosHold
  | pcHeld
  | latched
  | scan
  | strapBad
deriving DecidableEq, Repr

/-- Power delivery (03). -/
structure Power where
  vin12     : Bool
  vaux33    : Bool
  railsOk   : Bool
  pwrEn     : Bool
  warn      : Bool
  warnBlock : Bool
  pwrGood   : Bool
  fullPace  : Bool
  domains   : Tbl Nat
  domTarget : Tbl Nat
  onTimes   : List Nat
  capTarget : Nat
  gating    : Bool
  exceeded  : Bool
  meter     : List Nat
  iin       : Nat
  single    : Bool
  changing  : Option Nat
  hbmKept   : Bool
  overheadE : Word64
  calib     : Tbl Nat
  stale     : List Nat
  forcedAt  : Tbl Nat
  rotation  : Nat
  quiet     : Option (Nat × Nat)
deriving DecidableEq, Repr

/-- A digital sensor (04): the last valid reading, the broken flag, readings out of line in a row, earlier readings
newest first, and for how long (µs) its rate of rise has exceeded 10 °C/ms. -/
structure Sensor where
  temp    : BitVec 16
  broken  : Bool
  outline : Nat
  hist    : List (BitVec 16)
  rorFor  : Nat
deriving DecidableEq, Repr

/-- A zone (04): fast cadence, µs since a fast-cadence condition, pre-throttle, µs since a rise above 2 °C/ms. -/
structure Zone where
  fast    : Bool
  calm    : Nat
  fastN   : Nat
  pre     : Bool
  preCalm : Nat
deriving DecidableEq, Repr

/-- The thermal block (04). -/
structure Thermal where
  sensors : Tbl Sensor
  zones   : Tbl Zone
  votes   : BitVec 3
  brokenV : BitVec 3
  targets : Tbl Nat
  nvOpen  : Bool
  latchV  : BitVec 3
  latchR  : Bool
  latched : Bool
  latchS  : Nat
  tbCorr  : Int
  limitRec : List Nat
  lowRec  : Bool
deriving DecidableEq, Repr

/-- Start-up test, scan and fuses (05, 06). -/
structure Bist where
  depth      : Nat
  phase      : Nat
  failed     : List Nat
  firstFail  : Nat
  obsSig     : Word64
  expSig     : Word64
  stay       : Bool
  micros     : Word32
  essential  : BitVec 7
  kaFailed   : BitVec 7
  bootCop    : List Nat
  excluded   : List Nat
  repeatDue  : Bool
  scanLock   : Bool
  scanPend   : Bool
  scanOn     : Bool
  scanRef    : Bool
  scanWait   : Bool
  secret     : Bool
  senseOff   : Bool
deriving DecidableEq, Repr

/-- A fuse program in progress: an operator key (slot, next word, words) or the coppice mark of a cluster. -/
structure FuseProg where
  exec  : Nat
  rd    : Nat
  kind  : Nat
  key   : Nat
  word  : Nat
  done  : Nat
  words : List Word32
deriving DecidableEq, Repr

/-- What the fuses hold (01 R38, 05, 07 R266): grade ceiling in W, serial, operator key words, coppice marks, and the programs in
progress.  The vendor's key slot, which nothing can write, is `Config.vendorKey`. -/
structure Fuses where
  gradeW  : Nat
  serial  : Word64
  opKeys  : Tbl Word32
  coppice : List Nat
  prog    : List FuseProg
deriving DecidableEq, Repr

/-! ### Treadles, queues, programs, settings (06 to 08) -/

/-- A completion record waiting to be issued (06 Table 6.5), with what its issue brings about: the error stop of the
entry's flags and a reset that acted as END (R262). -/
structure CplRec where
  tag     : Word32
  status  : Nat
  gtcEnd  : Nat
  result  : Word64
  retired : Word32
  faultAt : Nat
  cold    : Bool
  commit  : Bool
  irq     : Bool
  stopOn  : Bool
  reset   : Option (Nat × Nat)
deriving DecidableEq, Repr

/-- A fetched command entry (06 Table 6.4); `bad` is the status with which it ends without running (0: it may run), and
`stops` says that it then stops its queue (R237). -/
structure CmdEntry where
  tag      : Word32
  irq      : Bool
  stopOn   : Bool
  progAddr : Word64
  progLen  : Nat
  args     : List Word64
  bad      : Nat
  stops    : Bool
deriving DecidableEq, Repr

/-- A queue: its descriptor (06 Table 6.3), its doorbell registers (R203) and the entries fetched ahead (R206). -/
structure Queue where
  valid    : Bool
  cmdBase  : Word64
  cmdLog2  : Nat
  devMem   : Bool
  enabled  : Bool
  stopped  : Bool
  priv     : Nat
  fn       : Nat
  ctx      : Nat
  cplBase  : Word64
  cplLog2  : Nat
  cplClass : Nat
  msix     : Nat
  jobTag   : Word32
  acct     : Word64
  dossier  : Word64
  fetch    : Nat
  done     : Nat
  cplHead  : Nat
  crc      : Word32
  tail     : Nat
  entries  : List CmdEntry
  running  : Option Nat
  pendRec  : Option CplRec
  held     : Bool
  ctlAfter : Option Nat
  acctCnt  : Nat
deriving DecidableEq, Repr

/-- A staged entry (R280): the setting's block and index, the context (0xFFFF for a setting that is not per-context),
the value and the generation recorded at the first STAGE. -/
structure Staged where
  blk : Nat
  idx : Nat
  ctx : Nat
  val : Word64
  gen : Nat
deriving DecidableEq, Repr

/-- Why a program in a slot waits (R249). -/
inductive WaitOn where
  | none
  | object (ctx obj : Nat) (value : Word64) (deadline : Nat) (rd : Nat) (soft : Bool)
  | commit (rd : Nat) (soft : Bool)
  | reset (id rd : Nat)
  | delete (id ctx rd : Nat)
  | domain (dom target rd : Nat)
  | fuse (rd : Nat)
  | verify (rd : Nat)
deriving DecidableEq, Repr

/-- A program in an execution slot (06 R214, 07 R243). -/
structure Prog where
  queue     : Nat
  priv      : Nat
  index     : Nat
  words     : Nat
  regs      : Tbl Word64
  sel       : Nat
  staged    : List Staged
  overfull  : Bool
  retired   : Nat
  committed : Bool
  wait      : WaitOn
  tag       : Word32
  irq       : Bool
  stopOn    : Bool
  base      : Word64
deriving DecidableEq, Repr

/-- The Treadles, the commit token and the journal (06, 08). -/
structure Trd where
  activeB    : Bool
  owner      : Bool
  takeover   : Nat
  aFailed    : Bool
  bFailed    : Bool
  standby    : Nat
  attempts   : Nat
  lastKind   : Nat
  failovers  : Nat
  takeovers  : List Nat
  commitSeq  : Word64
  lastCommit : Nat
  fixCount   : Nat
  corrCount  : Nat
  tokenQ     : List Nat
  grants     : List Nat
  journal    : Nat
  bkey       : Nat
deriving DecidableEq, Repr

/-- A setting register: live value, the active Treadle's image of it and the generation of its last commit. -/
structure SetCell where
  val   : Word64
  image : Word64
  gen   : Nat
deriving DecidableEq, Repr

/-- A hardened setting: three stored copies and the golden copy (R294). -/
structure HdCell where
  c0     : Word64
  c1     : Word64
  c2     : Word64
  golden : Word64
  gen    : Nat
deriving DecidableEq, Repr

/-- The setting registers (08), each under block * 2^20 + index * 2^8 + context; an unlisted setting is at its reset
value. -/
structure Settings where
  regs : Tbl SetCell
  hard : Tbl HdCell
deriving DecidableEq, Repr

end Sys2Proof.Machine
end

