-- ==== Sys2Proof/Machine/Parts2.lean ====
section
/-! DEFINITION. The parts of the state, continued: contexts, launches, slots, threads and memory (09 to 11, 13), and the
PCIe interface (22). -/

namespace Sys2Proof.Machine

/-- A launch of a context (07 Table 7.9, 09 R307): the descriptor's fields, its number, what it took at acceptance
(seed, order of atomics, saturation), its place in the acceptance order and whether it has started. -/
structure Launch where
  entry   : Word64
  arg     : Word64
  first   : Nat
  count   : Nat
  sheds   : BitVec 4
  twin    : Bool
  scratch : Nat
  doneObj : Nat
  number  : Nat
  seed    : BitVec 128
  ordered : Bool
  sat     : Bool
  order   : Nat
  started : Bool
deriving DecidableEq, Repr

/-- A place that an address translates to (09 Table 9.3): HBM by device physical address, the scratchpad of a slot,
or a bus address of the context's function. -/
inductive Place where
  | hbm (pa : Nat)
  | pad (part slot off : Nat)
  | host (fn bus : Nat)
deriving DecidableEq, Repr

/-- A write to memory that waits for an input range to be released (R328). -/
structure WaitWrite where
  place  : Place
  bytes  : List Byte
  poison : Bool
deriving DecidableEq, Repr

/-- A trigger descriptor as copied at arming (10 Table 10.10); `inStep` says that it was issued at once by a thread of
an open step, with the issuing slot and shed order. -/
structure Trig where
  kind   : Nat
  engine : Nat
  object : Nat
  done   : Nat
  thresh : Word64
  raw    : List Byte
  order  : Nat
  inStep : Option (Nat × Nat × Nat)
deriving DecidableEq, Repr

/-- The step of a context's running launch (09 R326 to R329): the counter as it stood at the opening, the input ranges
(base, pages), writes that wait for it, and fired triggers that wait for its commit point (10 R367). -/
structure Step where
  isOpen  : Bool
  ctr     : Word64
  ranges  : List (Nat × Nat)
  waiting : List WaitWrite
  firing  : List Trig
deriving DecidableEq, Repr

/-- An operation fired to an engine (10 R366), in firing order: its context, the trigger, the host read it waits for, and the
data of a link operation that is held for its step's commit point (17 R586). -/
structure Xfer where
  ctx  : Nat
  trig : Trig
  tag  : Option Nat
  data : Option (List Byte × List Nat)
deriving DecidableEq, Repr

/-- The energy account of a context (03 Table 3.10) since the start of its interval. -/
structure Energy where
  start : Nat
  stale : Bool
  gated : Bool
deriving DecidableEq, Repr

/-- Where a fault met a context (15 Table 15.16): address or instruction index, slot, shed, lane, host cluster, and whether it is an
index. -/
structure FaultPlace where
  addr    : Nat
  slot    : Nat
  shed    : Nat
  lane    : Nat
  host    : Nat
  isIndex : Bool
deriving DecidableEq, Repr

/-- A context (07, 09 to 11); `fault` is the status of the fault that is ending it (0: none). -/
structure Ctx where
  inUse    : Bool
  ended    : Bool
  status   : Nat
  fault    : Nat
  faultAt  : FaultPlace
  jobTag   : Word32
  fn       : Nat
  sync     : Tbl Word64
  stepCtr  : Word64
  seed     : BitVec 128
  launchNo : Nat
  launches : List Launch
  step     : Step
  trigs    : List Trig
  xlatDone : Word32
  perfOn   : Bool
  beats    : Word64
  tileOps  : Word64
  stall    : Word64
  energy   : Energy
deriving DecidableEq, Repr

/-- What a shed waits for. -/
inductive ShedWait where
  | none
  | bars
  | object (obj : List (Nat × Word64))
  | commit
deriving DecidableEq, Repr

/-- A shed (09 R309, 10 R338 to R349): masks and stacks, the instruction index as a byte address, general registers
by 64 × lane + register, predicates, poison marks. -/
structure Shed where
  started : Bool
  ended   : Half
  exec    : Half
  pc      : Word64
  masks   : List Half
  calls   : List Word64
  preds   : Tbl Half
  predP   : Tbl Half
  regs    : Tbl Word64
  regP    : List Nat
  begun   : Bool
  closed  : Bool
  wait    : ShedWait
deriving DecidableEq, Repr

/-- A tile register (10 R340): its format tag (Table 10.4; 7 float accumulator, 8 integer accumulator), its 4,096
elements by 64 × row + column, and its poison mark. -/
structure Tile where
  tag    : Nat
  elems  : Tbl Word64
  poison : Bool
deriving DecidableEq, Repr

/-- A held write (09 R329): one byte, its place and its order key (shed, lane, sequence). -/
structure HeldByte where
  place  : Place
  byte   : Byte
  poison : Bool
  shed   : Nat
  lane   : Nat
  seq    : Nat
deriving DecidableEq, Repr

/-- A held atomic (09 R331): operation code (0 to 9 integer, 16 to 19 float), width in bytes, operands, order key. -/
structure HeldAtomic where
  place : Place
  op    : Nat
  width : Nat
  val   : Word64
  cmp   : Word64
  pois  : Bool
  shed  : Nat
  lane  : Nat
  seq   : Nat
deriving DecidableEq, Repr

/-- A slot that a launch occupies (09 R305 to R308).  `echo` holds what SY.ADD and TRIG.ARM returned to each thread of a primary
slot, `heard` how far its twin has come in it (11 R399); `third` the earlier digest and host of a slot that runs again for
TWIN_MISMATCH (11 R398); `tdig` the tile half of its digest so far; `locs` the digests of its TMMAs in a pair's re-run; `snapE`, `snapH` are `echo` and `heard` at STEP.BEGIN;
`saved` that the slot's state stands in its save entry (R308). -/
structure Slot where
  ctx      : Nat
  launch   : Nat
  logical  : Nat
  twinOf   : Option Nat
  host     : Nat
  active   : Bool
  sheds    : Tbl Shed
  tiles    : Tbl Tile
  held     : List HeldByte
  atomics  : List HeldAtomic
  seq      : Nat
  descRead : Bool
  ended    : Bool
  checked  : Word64
  replayed : Word64
  arbs     : Word64
  reruns   : Word64
  mismatch : Nat
  snap     : Tbl Shed
  snapT    : Tbl Tile
  reRunAt  : Option Nat
  echo     : Tbl (List Word64)
  heard    : Tbl Nat
  third    : Option (Nat × Nat)
  tdig     : Word64
  locs     : List (Nat × Nat)
  snapE    : Tbl (List Word64)
  snapH    : Tbl Nat
  saved    : Bool
deriving DecidableEq, Repr

/-- Memory: HBM by device physical address and scratchpad by `padBase`; a byte that is not listed reads zero.  Poison
marks by granule of 32 bytes in the same numbering. -/
structure Mem where
  cells  : List Host.Cell
  poison : List Nat
deriving DecidableEq, Repr

/-- The history of a cluster (12 R432, R442, 14 R497): time (ns since VAUX33 rose) of its transients within 24 hours, of its returns to ACTIVE,
of its failed comparisons within 1 s. -/
structure ClHistory where
  transients : List Nat
  returns    : List Nat
  storms     : List Nat
deriving DecidableEq, Repr

/-- A torus axis (02 R67 to R85): commanded open, declared failed, failed to open, failed to close, in EXTEST. -/
structure Axis where
  cmd       : Bool
  failed    : Bool
  openFail  : Bool
  closeFail : Bool
  extest    : Bool
deriving DecidableEq, Repr

/-- A PCIe function (22 R747, R748, R753). -/
structure PciFn where
  bme      : Bool
  mse      : Bool
  d3       : Bool
  msixEn   : Bool
  msixMask : Bool
  unmasked : List Nat
  pending  : List Nat
  vectors  : Tbl Word32
  inReset  : Bool
deriving DecidableEq, Repr

/-- A host read in flight for the operation at the front of an engine (09, 22 R745). -/
structure HostRead where
  ctx    : Nat
  fn     : Nat
  bus    : Nat
  len    : Nat
  engine : Nat
deriving DecidableEq, Repr

/-- The PCIe interface (22). -/
structure Pcie where
  up       : Bool
  speed    : Nat
  width    : Nat
  flit     : Bool
  perst    : Bool
  vfEnable : Bool
  numVfs   : Nat
  cplTo    : Nat
  fns      : Tbl PciFn
  q0Image  : List Byte
  q0Result : Nat
  q0Wait   : Option Nat
  cntWidth : Nat
  cntFor   : Nat
  cntCorr  : Nat
  cntTo    : Nat
  aer      : List Nat
  beat     : Nat
  reads    : Tbl HostRead
  nextTag  : Nat
deriving DecidableEq, Repr

end Sys2Proof.Machine
end

