-- ==== Sys2Proof/Machine/Parts3.lean ====
section
/-! DEFINITION. The parts of the state, continued: checking (12), memory protection (13) and Burling (14). -/

namespace Sys2Proof.Machine

/-! ### Checking (12) -/

/-- An unchecked TMMA of a cluster (R422 to R424): the copies in the tile hold, where the product goes, and how far its
check has come: 0 awaiting its comparison, 1 in arbitration, 2 awaiting its repeat.  `perr` and `qerr` are the
deviations of P and Q, `inj` the injected kind (0 none); `stale` that its slot runs again and does not use the result
(10 R370), `sums` that the re-formed sums are right, `index` the logical tile index, `ctr` the step counter at its issue. -/
structure TmmaJob where
  slot  : Nat
  ctx   : Nat
  md    : Nat
  mod   : Nat
  tileA : Tile
  tileB : Tile
  stage : Nat
  perr  : List TileErr
  qerr  : List TileErr
  inj   : Nat
  inf   : Bool
  arb   : Nat
  other : Bool
  noArb : Bool
  sums  : Bool
  entry : Nat
  stale : Bool
  index : Nat
  ctr   : Nat
deriving DecidableEq, Repr

/-- The checker of one cluster (R433, R435): unchecked TMMAs oldest first, counts, the last class, and the context and
step in which it was last classed. -/
structure ChkCl where
  jobs    : List TmmaJob
  product : Nat
  checker : Nat
  residue : Nat
  last    : Nat
  classed : Option (Nat × Nat × Nat)
deriving DecidableEq, Repr

/-- The checking logic of the device (R428, R435). -/
structure Checking where
  cls     : Tbl ChkCl
  tiles   : Word64
  fails   : Word64
  arbs    : Word64
  unres   : Word64
  rotate  : Nat
deriving DecidableEq, Repr

/-! ### Memory protection (13) -/

/-- A granule in the table of corrections (R450): the time (ns since VAUX33 rose) of its corrections within 24 hours, newest first. -/
structure EccLoc where
  granule : Nat
  times   : List Nat
  hard    : Bool
deriving DecidableEq, Repr

/-- The controller of one stack (R449, R450, R462 to R465, R469). -/
structure StackEcc where
  ue     : Nat
  chk    : Nat
  cor    : Nat
  table  : List EccLoc
  window : List Nat
  esc    : Bool
  late   : Bool
  next   : Nat
  passes : Nat
  recent : List Nat
deriving DecidableEq, Repr

/-- Memory protection: the stacks, and the counts of every scratchpad array and hold buffer. -/
structure Ecc where
  hbm    : Tbl StackEcc
  spUe   : Nat
  spChk  : Nat
  spCor  : Nat
deriving DecidableEq, Repr

/-! ### Burling (14) -/

/-- A slice in progress on a cluster (R480 to R484): its start, whether it runs sweep items, the item it runs, whether
that is the cursor's shared item, whether its item window is still open, whether it was forced, the slot that it suspends, its tested region, and the
pack it runs (none: the resident pack). -/
structure BrlSlice where
  start  : Nat
  sweep  : Bool
  item   : Nat
  shared : Bool
  isOpen : Bool
  forced : Bool
  slot   : Option Nat
  region : Nat
  bytes  : Option (List Byte)
deriving DecidableEq, Repr

/-- The progress of one cluster (R482 to R488, R495).  `debt` is in units of 1e-4 ns as it stood at `at`. -/
structure BrlCl where
  rotations : Nat
  nextFast  : Nat
  nextSweep : Nat
  debt      : Nat
  since     : Nat
  defer     : Nat
  count     : Nat
  pack      : Nat
  slice     : Option BrlSlice
  again     : Option (Nat × Word64)
  passes    : Tbl Nat
  short     : Nat
  heldFrom  : Option Nat
  clean     : Nat
  noSlice   : Option Nat
deriving DecidableEq, Repr

/-- A cluster quarantined by the permanent failure of an item (R509). -/
structure ItemBlame where
  item    : Nat
  cluster : Nat
  time    : Nat
  prev    : Nat
deriving DecidableEq, Repr

/-- Burling (`began`: when the device was released, ns since VAUX33 rose): the installed pack (none: the resident pack), the count of installations (0: no pack is installed), the staging half, the cursor, progress, deep runs (R478, R484,
R498). -/
structure Burling where
  pack    : Option (List Byte)
  packNo  : Nat
  packAt  : Nat
  staging : List Byte
  stageUe : Bool
  verify  : Option Nat
  curCl   : Nat
  curItem : Nat
  cls     : Tbl BrlCl
  deep    : Tbl Nat
  blame   : List ItemBlame
  began   : Nat
deriving DecidableEq, Repr

/-! ### Chorno and SMBus (21) -/

/-- A program being assembled from PROGRAM_SEG (R725, R726): its number, segments, the next one, the data so far and the
frame in which it began. -/
structure ChnAsm where
  id    : Nat
  nseg  : Nat
  next  : Nat
  data  : List Byte
  begun : Nat
deriving DecidableEq, Repr

/-- Chorno (R713 to R731).  `frames` counts the frames that have passed (one device slot each), `clean` is that count at the last
clean beacon and `frameC` the frame number it carried; `hits` and `colls` are the last 64 valid beacons and bursts, newest
first; `run` counts clean frames in a row; `ans` is the answer due (message type and payload), `last` the last command's seq and
answer; `ids` the programs of queue 1023 that have not ended, `done` the PROGRAM_DONE payloads to send. -/
structure Chorno where
  sync    : Bool
  silent  : Bool
  clean   : Nat
  frameC  : Nat
  frame   : Nat
  frames  : Nat
  hits    : List Bool
  run     : Nat
  selfM   : Bool
  cmdM    : Bool
  clash   : Bool
  colls   : List Bool
  last    : Option (Nat × Nat × List Byte)
  ans     : Option (Nat × List Byte)
  asm     : Option ChnAsm
  ids     : List (Nat × List Byte)
  done    : List (List Byte)
  txq     : List (Nat × List Byte)
  holdDue : Bool
  bursts  : Nat
  crcFail : Nat
  guards  : Nat
  collN   : Nat
  dropped : Nat
  packDis : Nat
  pushId  : Option Nat
  chunks  : List Nat
deriving DecidableEq, Repr

/-- The SMBus target (R732 to R734): page, latched bits, the STATUS_WORD bits for which the alert has been released, the readout
pointer. -/
structure Smbus where
  page   : Nat
  vinUv  : Bool
  inUv   : Bool
  unsup  : Bool
  pec    : Bool
  acked  : Half
  region : Nat
  index  : Nat
deriving DecidableEq, Repr

end Sys2Proof.Machine
end

