-- ==== Sys2Proof/Machine/Parts4.lean ====
section
/-! DEFINITION. The parts of the state, continued: links and time (17), and pleached pairs (11). -/

namespace Sys2Proof.Machine

/-! ### Links and time (17) -/

/-- A DATA or CTRL flit-group of the replay buffer or waiting to be sent (R581 to R583). -/
structure LinkFlit where
  seq     : Nat
  vc      : Nat
  first   : Bool
  last    : Bool
  poison  : Nat
  payload : List Byte
deriving DecidableEq, Repr

/-- A link operation whose reply is awaited (R585). -/
structure LinkOpTx where
  id     : Nat
  ctx    : Nat
  remote : Nat
  done   : Nat
deriving DecidableEq, Repr

/-- A port (R577 to R592): whether up or training, the last down cause, the neighbour (serial, LNK.COORD) and the one kept from
before a loss; failed trainings in a row; the sender's next sequence number, replay buffer, waiting flit-groups, credits and
rounds of resending without ack progress; the receiver's last sequence number, whether its gap has been naked, credits to be
returned and partial messages; flit-groups since the last ALIGN; counts; link operations awaiting their reply; the delay and the
advertised time of the neighbour; when the link was lost (ns since VAUX33 rose). -/
structure LinkPort where
  up         : Bool
  training   : Bool
  cause      : Nat
  skip       : Nat
  serial     : Word64
  coord      : Word64
  kept       : Bool
  keptSerial : Word64
  keptCoord  : Word64
  fails      : Nat
  slow       : Bool
  seqTx      : Nat
  replay     : List LinkFlit
  wait0      : List LinkFlit
  wait1      : List LinkFlit
  cred0      : Nat
  cred1      : Nat
  rounds     : Nat
  seqRx      : Nat
  nak        : Bool
  owed0      : Nat
  owed1      : Nat
  msg0       : List (List Byte)
  msg1       : List (List Byte)
  sinceAlign : Nat
  trainings  : Nat
  crcFails   : Nat
  resends    : Nat
  crcTimes   : List Nat
  stormed    : Bool
  heldDown   : Bool
  ops        : List LinkOpTx
  nextOp     : Nat
  delay      : Int
  advSerial  : Nat
  advHops    : Nat
  lastT      : Int
  lastA      : Int
  away       : Nat
deriving DecidableEq, Repr

/-- Time synchronisation (R594 to R601): TIM.STATUS state, parent port, hops to the root, when the last exchange with the parent
took place (ns since VAUX33 rose), the rate correction in 1e-10, whether a conflict of roots has been recorded,
whether the timebase reference is lost (02 R83), and the correction not yet applied in 1e-10 ns. -/
structure TimeSync where
  state    : Nat
  parent   : Nat
  hops     : Nat
  last     : Nat
  rate     : Int
  conflict : Bool
  lost     : Bool
  slew     : Int
deriving DecidableEq, Repr

/-! ### Pleached pair (11 R401 to R408) -/

/-- The digests of one step: its counter, the step digest and the slot digests by slot. -/
structure StepDigest where
  ctr   : Nat
  step  : Nat
  slots : List (Nat × Nat)
deriving DecidableEq, Repr

/-- The pair state of a context: the PAIR messages sent and not yet matched (launch, DSIG, step counter), those received, the last
launch for which the pair has formed, the peer's and the own last 64 digests, when the last matching message came (ns since
VAUX33 rose), the first divergence (counter, slot, tile), whether the step is being run again and whether its
divergence still awaits its handling, the slots that differed, and the peer's LOCATE digests. -/
structure Pair where
  mine    : List (Nat × Nat × Nat)
  peers   : List (Nat × Nat)
  formed  : Nat
  digests : List StepDigest
  own     : List StepDigest
  heard   : Nat
  first   : Option (Nat × Nat × Nat)
  rerun   : Bool
  pend    : Bool
  slots   : List Nat
  loc     : List (Nat × List (Nat × Nat))
deriving DecidableEq, Repr

/-! ### Collectives (18) -/

/-- Values on their way along a line (R625, R626): the port they leave by, the axis, the offset they come from, the first element,
whether they are on the return of the ring path, and whether they wait for a grant. -/
structure ColPiece where
  port   : Nat
  axis   : Nat
  origin : Nat
  first  : Nat
  back   : Bool
  free   : Bool
  values : List Word64
deriving DecidableEq, Repr

/-- A collective that has been fetched (R611 to R615): the fields of its descriptor, its sequence number and path (0 barrier or
small reduce, 1 Reed, 2 ring), the axis phase (3: all done), the values held, the values received by offset, arrivals and
grants (port, axis, first, back), pieces to send, and how it ends (cause 0: OK). -/
structure Col where
  op       : Nat
  format   : Nat
  redop    : Nat
  count    : Nat
  src      : Nat
  dst      : Nat
  work     : Nat
  done     : Nat
  root     : Nat
  e2e      : Bool
  wideOut  : Bool
  va       : Nat
  seq      : Nat
  crc      : Nat
  alg      : Nat
  started  : Bool
  axis     : Nat
  wide     : Bool
  outDone  : Bool
  cur      : List Word64
  got      : Tbl (Tbl Word64)
  part     : Tbl Word64
  seen     : List (Nat × Nat × Nat × Bool × Nat)
  grants   : List (Nat × Nat × Nat)
  granted  : List (Nat × Nat × Bool)
  send     : List ColPiece
  unsync   : Bool
  overflow : Bool
  late     : Bool
  orig     : Bool
  fin      : Option Nat
  fetched  : Nat
  timer    : Nat
deriving DecidableEq, Repr

/-- A group of a context (R607 to R609): state, fail cause, next sequence number, ports whose neighbour has matched, ports by
which FORM has been sent, ports whose neighbour has changed, collectives in fetch order, messages that came before their
collective, and ABORTs received (sequence number, cause). -/
structure ColGroup where
  state   : Nat
  fail    : Nat
  seq     : Nat
  matched : List Nat
  sent    : List Nat
  moved   : List Nat
  ops     : List Col
  early   : List (ColHdr × ColData)
  aborts  : List (Nat × Nat)
deriving DecidableEq, Repr

/-- The collective logic: groups by 16 × context + group, descriptors fetched and ends counted by context (OK, aborted, late),
and the group last granted Reed buffers by port. -/
structure Collectives where
  groups : Tbl ColGroup
  heads  : Tbl Nat
  counts : Tbl (Nat × Nat × Nat)
  turns  : Tbl Nat
deriving DecidableEq, Repr

end Sys2Proof.Machine
end

