-- ==== Sys2Proof/Machine/Parts5.lean ====
section
/-! DEFINITION. The parts of the state, continued: Espalier (19). -/

namespace Sys2Proof.Machine

/-- A grid with its epoch (R650 to R653): number (0: no map), base GTC, origin in mm, pose block, the 16 MiB of voxel classes by
byte (a byte that is not listed is zero), and the fields of ESP.MODEL that took effect at its swap (R651). -/
structure EspMap where
  epoch   : Nat
  base    : Nat
  origin  : List Int
  pose    : List Byte
  grid    : Tbl Byte
  voxel   : Nat
  slice   : Nat
  unk     : Bool
  expired : Bool
deriving DecidableEq, Repr

/-- A candidate that is or may become the incumbent (R661): score, index in its batch, batch number, epoch, primitive indices,
starting pose block. -/
structure EspCand where
  score : Nat
  index : Nat
  batch : Nat
  epoch : Nat
  path  : List Nat
  pose  : List Byte
deriving DecidableEq, Repr

/-- The open cycle (R658): its number, deadline, mode, where the publication's copy goes, the object of CYCLE_OPEN, batches
started, and the incumbent. -/
structure EspCycle where
  number   : Nat
  deadline : Nat
  optimise : Bool
  copy     : List (Place × Nat)
  done     : Nat
  batches  : Nat
  inc      : Option EspCand
deriving DecidableEq, Repr

/-- A fetched command (Table 19.6) and the address of its descriptor. -/
structure EspCmd where
  va    : Nat
  kind  : Nat
  flags : Nat
  count : Nat
  arg   : Nat
  src   : Nat
  dst   : Nat
  mask  : Nat
  done  : Nat
deriving DecidableEq, Repr

/-- A candidate of a running batch: score, primitive indices, and the verdict decided before any test (0: to be tested). -/
structure EspTest where
  score : Nat
  path  : List Nat
  pre   : Nat
deriving DecidableEq, Repr

/-- A running batch (R660): the epoch it took, its number in the cycle, its starting pose block and its candidates. -/
structure EspBatch where
  epoch : Nat
  num   : Nat
  pose  : List Byte
  tests : List EspTest
deriving DecidableEq, Repr

/-- The outcome of a validation of the stop set (R664, R665). -/
structure EspVal where
  epoch : Nat
  alt   : Nat
  unsafeStop : Bool
  noAdm : Bool
  n2    : Nat
  n3    : Nat
  prims : List Nat
deriving DecidableEq, Repr

/-- A publication that waits for a validation (R664, R674): kind, flags, and the CYCLE_CLOSE it answers. -/
structure EspDue where
  kind  : Nat
  flags : Nat
  close : Bool
deriving DecidableEq, Repr

/-- Espalier.  `check` is the candidate in double check with the counts and the lane of its first test, `valid` the latest
validation, `fresh` that the held set is validated against the front epoch, `validating` that a validation runs, `ended` that a
cycle has ended and its CYCLE_CLOSE has not been met; charges and the times of engine hangs in ns since VAUX33 rose. -/
structure Esp where
  bound      : Option Nat
  model      : List Byte
  lib        : Tbl (List Byte)
  stops      : List (List Nat)
  front      : EspMap
  back       : Option (EspCmd × EspMap)
  cmd        : Option EspCmd
  batch      : Option EspBatch
  check      : Option (EspCand × (Nat × Nat × Nat) × Nat)
  cycle      : Option EspCycle
  ended      : Bool
  cycleNo    : Nat
  valid      : Option EspVal
  fresh      : Bool
  validating : Bool
  due        : Option EspDue
  pubSeq     : Nat
  pubPlace   : Option Place
  mailFn     : Nat
  mail       : List Byte
  late       : Bool
  ready      : Bool
  charges    : Tbl (List Nat)
  retired    : List Nat
  cycles     : Nat
  missed     : Nat
  mism       : Nat
  hangs      : List Nat
  heads      : Tbl Nat
deriving DecidableEq, Repr

end Sys2Proof.Machine
end

