-- ==== Sys2Proof/Machine/State.lean ====
section
/-! DEFINITION. The state of the Y512 as a block: everything the spec gives the machine, as plain data, the queue of
waiting commands, and the state at the release from reset. -/

namespace Sys2Proof.Machine

/-- The reasons for which a step stops.  No command raises one: where the spec gives an effect it is modelled.
Log 18 (DESIGN CHOICE). -/
inductive Fault where
  /-- Raised by nothing. Safe. -/
  | noneRaised
deriving DecidableEq, Repr

/-- The reasons for which a command has no meaning.
Log 18 (DESIGN CHOICE). -/
inductive Refusal where
  /-- Raised by an arm of exec whose command has no meaning yet. Safe: nothing can be proved of the command. -/
  | notModelled (mnemonic : String)
deriving DecidableEq, Repr

/-- What has left the device, newest first: the model's own field. -/
inductive Out where
  | hostWrite (fn addr : Nat) (bytes : List Byte) (cls : Nat) (ep : Bool)
  | msix (fn vec : Nat)
  | chn (kind dst : Nat) (bytes : List Byte)
  | smb (bytes : List Byte)
  | link (port kind : Nat) (bytes : List Byte)
deriving DecidableEq, Repr

/-- The state. -/
structure State where
  pending : List Instr
  out     : List Out
  freeCtr : Nat
  gtc     : Nat
  aon     : Nat
  phase   : Phase
  straps  : Straps
  pwr     : Power
  thm     : Thermal
  bist    : Bist
  fuses   : Fuses
  trd     : Trd
  queues  : Tbl Queue
  progs   : Tbl Prog
  sets    : Settings
  err     : Pipeline
  rcd     : Recorder
  rst     : Resets
  ctxs    : Tbl Ctx
  slots   : Tbl Slot
  mem     : Mem
  pci     : Pcie
  groupEff : Tbl Nat
  sliceEff : Tbl Nat
  shutEff  : Tbl Nat
  orderCtr : Nat
  axes     : Tbl Axis
  history  : Tbl ClHistory
  deepQ    : List Nat
  chk      : Checking
  ecc      : Ecc
  brl      : Burling
  chn      : Chorno
  smb      : Smbus
  shut     : Tbl (List Xfer)
  links    : Tbl LinkPort
  time     : TimeSync
  pairs    : Tbl Pair
  col      : Collectives
  esp      : Esp
deriving DecidableEq, Repr

/-- A queue that does not exist: its 64 descriptor bytes are zero (06 R198). -/
def Queue.absent : Queue :=
  { valid := false, cmdBase := 0, cmdLog2 := 0, devMem := false, enabled := false, stopped := false, priv := 0,
    fn := 0, ctx := 0, cplBase := 0, cplLog2 := 0, cplClass := 0, msix := 0, jobTag := 0, acct := 0, dossier := 0,
    fetch := 0, done := 0, cplHead := 0, crc := 0, tail := 0, entries := [], running := none, pendRec := none,
    held := false, ctlAfter := none, acctCnt := 0 }

/-- Queue 1023, the Chorno queue: enabled at release, operator privilege, bound to no context, its rings inside the device (06 R197,
Table 6.7, 21 R725). -/
def Queue.chorno : Queue := { Queue.absent with valid := true, devMem := true, enabled := true, priv := 2, ctx := 0xFFFF, msix := 0xFFFF }

/-- No step open. -/
def Step.closed : Step :=
  { isOpen := false, ctr := 0, ranges := [], waiting := [], firing := [] }

/-- A context number that is not allocated. -/
def Ctx.free : Ctx :=
  { inUse := false, ended := false, status := 0, fault := 0, faultAt := ⟨0, 0xFFFF, 0xFF, 0xFF, 0xFFFF, false⟩, jobTag := 0, fn := 0, sync := [], stepCtr := 0, seed := 0,
    launchNo := 0, launches := [], step := Step.closed, trigs := [], xlatDone := 0, perfOn := false, beats := 0,
    tileOps := 0, stall := 0, energy := ⟨0, false, false⟩ }

/-- A shed that no launch has started. -/
def Shed.idle : Shed :=
  { started := false, ended := 0, exec := 0, pc := 0, masks := [], calls := [], preds := [], predP := [], regs := [],
    regP := [], begun := false, closed := false, wait := .none }

/-- A tile register at the start of a launch: an integer accumulator tile of zeros (10 R340). -/
def Tile.start : Tile := { tag := 8, elems := [], poison := false }

/-- A slot that no launch occupies. -/
def Slot.idle : Slot :=
  { ctx := 0xFFFF, launch := 0, logical := 0, twinOf := none, host := 0xFFFF, active := false, sheds := [],
    tiles := [], held := [], atomics := [], seq := 0, descRead := false, ended := true, checked := 0, replayed := 0,
    arbs := 0, reruns := 0, mismatch := 0, snap := [], snapT := [], reRunAt := none,
    echo := [], heard := [], third := none, tdig := BitVec.allOnes 64, locs := [], snapE := [], snapH := [],
    saved := false }

/-- A PCIe function at its reset values: no bus mastering, no memory space, D0, MSI-X disabled (22 R747, R748).
Log 5 (PRESUMED). -/
def PciFn.init : PciFn :=
  { bme := false, mse := false, d3 := false, msixEn := false, msixMask := false, unmasked := [], pending := [],
    vectors := [], inReset := false }

/-- An erase block without wear. -/
def NvBlock.fresh : NvBlock := { erases := 0, fails := 0, retries := 0, ops := 0, advised := false, retired := false }

/-- A region of the nonvolatile array with nothing written, on the blocks `lo` to `lo + n - 1`.
Log 110 (DESIGN CHOICE). -/
def NvRegion.fresh (lo n : Nat) : NvRegion :=
  { segs := [], erased := (List.range n).map (· + lo), erasing := none, next := 0 }

/-- A sensor that has read 0 °C: THM.TEMP resets to 0 (04 Table 4.3).
Log 4 (DESIGN CHOICE). -/
def Sensor.init : Sensor := { temp := 0, broken := false, outline := 0, hist := [], rorFor := 0 }

/-- A zone at 1 ms cadence.
Log 4 (DESIGN CHOICE). -/
def Zone.slow : Zone := { fast := false, calm := 0, fastN := 0, pre := false, preCalm := 0 }

/-- An axis at release: closed, not yet commanded open (02 Table 2.9, 0x1). -/
def Axis.init : Axis := { cmd := false, failed := false, openFail := false, closeFail := false, extest := false }

/-- Power at release (03): every rail up, every domain ON but Espalier's in the GENERAL profile (Table 24.11).
Log 1, 4 (DESIGN CHOICE). -/
def Power.released : Power :=
  { vin12 := true, vaux33 := true, railsOk := true, pwrEn := true, warn := false, warnBlock := false,
    pwrGood := true, fullPace := true, domains := [(1102, 0)], domTarget := [], onTimes := [], capTarget := 900,
    gating := false, exceeded := false, meter := [], iin := 0, single := false, changing := none, hbmKept := true,
    overheadE := 0, calib := [], stale := [], forcedAt := [], rotation := 0, quiet := none }

/-- The thermal block at release.
Log 4 (DESIGN CHOICE). -/
def Thermal.released : Thermal :=
  { sensors := [], zones := [], votes := 0, brokenV := 0, targets := [], nvOpen := true, latchV := 0,
    latchR := false, latched := false, latchS := 0, tbCorr := 0, limitRec := [], lowRec := false }

/-- The outcome of a FULL test that every block passed.
Log 1 (DESIGN CHOICE). -/
def Bist.passed : Bist :=
  { depth := 1, phase := 0, failed := [], firstFail := 0xFFFF, obsSig := 0, expSig := 0, stay := false, micros := 0,
    essential := 0, kaFailed := 0, bootCop := [], excluded := [], repeatDue := false, scanLock := false,
    scanPend := false, scanOn := false, scanRef := false, scanWait := false, secret := true, senseOff := false }

/-- The fuses of a Y512-P10 part with blank operator keys and no fuse-coppiced cluster.
Log 1 (DESIGN CHOICE). -/
def Fuses.p10 : Fuses := { gradeW := 1000, serial := 0, opKeys := [], coppice := [], prog := [] }

/-- The Treadles at release (06 R193, Table 6.2): A active, B the standby, SYNCING. -/
def Trd.released : Trd :=
  { activeB := false, owner := true, takeover := 0, aFailed := false, bFailed := false, standby := 1, attempts := 0,
    lastKind := 0, failovers := 0, takeovers := [], commitSeq := 0, lastCommit := 0, fixCount := 0, corrCount := 0,
    tokenQ := [], grants := [], journal := 0, bkey := 0 }

/-- The error pipeline at release: its queues are empty (15 R537).
Log 4 (DESIGN CHOICE). -/
def Pipeline.empty : Pipeline :=
  { q0 := [], q1 := [], q2 := [], q3 := [], handlers := [], accepted := [], coalesced := [], overflow := [],
    safe := false, ringFault := false, ringDue := false, ringTail := 0, reports := [], direct := [], folded := [], nextId := 0 }

/-- The recorder with an empty ring and an array that has not been used.
Log 4, 110 (DESIGN CHOICE). -/
def Recorder.fresh : Recorder :=
  { ring := [], seq := 0, posBase := 0, pcc := 0, ctrStored := 0, ctrWrites := 0, pcMarked := false,
    missed := [0, 0, 0, 0, 0, 0], missedGtc := 0, missedTot := 0, frozen := false, frzEnd := 0, frzStart := 0,
    frzCounts := [0, 0, 0, 0, 0, 0], rates := [], suppTot := 0, heldTot := 0, tornTot := 0, damaged := 0,
    logFull := false, wearAdv := false, wearCrit := false, log := NvRegion.fresh 56 456, ckpt := NvRegion.fresh 16 32,
    svc := NvRegion.fresh 48 8, blocks := [], op := none, warnDrain := [], ckptWait := none, ckpts := [],
    readPtr := 0, freezeReg := 0 }

/-- No reset in progress and none in the service history.
Log 4 (DESIGN CHOICE). -/
def Resets.none : Resets :=
  { runs := [], nextId := 0, seq := 0, oos := false, history := [], pcReq := false, watch := [] }

/-- The PCIe interface at release: link training starts within 1 ms (22 R744).
Log 4 (DESIGN CHOICE). -/
def Pcie.released : Pcie :=
  { up := false, speed := 0, width := 0, flit := false, perst := false, vfEnable := false, numVfs := 0, cplTo := 0,
    fns := [], q0Image := List.replicate 48 0, q0Result := 0, q0Wait := Option.none, cntWidth := 0, cntFor := 0,
    cntCorr := 0, cntTo := 0, aer := [], beat := 0, reads := [], nextTag := 0 }

/-- The checking logic at release (12 R435).
Log 4 (DESIGN CHOICE). -/
def Checking.init : Checking := { cls := [], tiles := 0, fails := 0, arbs := 0, unres := 0, rotate := 511 }

/-- A checker without counts or unchecked TMMAs. -/
def ChkCl.init : ChkCl := { jobs := [], product := 0, checker := 0, residue := 0, last := 0, classed := none }

/-- A stack controller at release (13 R449, R462). -/
def StackEcc.init : StackEcc :=
  { ue := 0, chk := 0, cor := 0, table := [], window := [], esc := false, late := false, next := 0, passes := 0,
    recent := [] }

/-- Memory protection at release: every count zero.
Log 4 (DESIGN CHOICE). -/
def Ecc.init : Ecc := { hbm := [], spUe := 0, spChk := 0, spCor := 0 }

/-- A cluster's Burling progress at the installation of a pack (14 R486, R488). -/
def BrlCl.init : BrlCl :=
  { rotations := 0, nextFast := 0, nextSweep := 0, debt := 0, since := 0, defer := 0, count := 0, pack := 0,
    slice := none, again := none, passes := [], short := 0, heldFrom := none, clean := 0, noSlice := none }

/-- Burling at a release that found no installed pack: the resident pack is installed (14 R479).
Log 4 (DESIGN CHOICE). -/
def Burling.init : Burling :=
  { pack := none, packNo := 1, packAt := 0, staging := [], stageUe := false, verify := none, curCl := 0, curItem := 0,
    cls := [], deep := [], blame := [], began := 0 }

/-- Chorno at power-on of the always-on domain: UNSYNC (21 R717).
Log 4 (DESIGN CHOICE). -/
def Chorno.init : Chorno :=
  { sync := false, silent := false, clean := 0, frameC := 0, frame := 0, frames := 0, hits := [], run := 0,
    selfM := false, cmdM := false, clash := false, colls := [], last := none, ans := none, asm := none, ids := [],
    done := [], txq := [], holdDue := false, bursts := 0, crcFail := 0, guards := 0, collN := 0, dropped := 0,
    packDis := 0, pushId := none, chunks := [] }

/-- The SMBus target at power-on: page 0 (21 Table 21.9), nothing latched.
Log 4 (DESIGN CHOICE). -/
def Smbus.init : Smbus :=
  { page := 0, vinUv := false, inUv := false, unsup := false, pec := false, acked := 0, region := 0, index := 0 }

/-- A link port at release: down (17 R587).
Log 4, 95 (DESIGN CHOICE). -/
def LinkPort.init : LinkPort :=
  { up := false, training := false, cause := 0, skip := 15, serial := 0, coord := 0, kept := false, keptSerial := 0, keptCoord := 0,
    fails := 0, slow := false, seqTx := 1, replay := [], wait0 := [], wait1 := [], cred0 := 0, cred1 := 0, rounds := 0,
    seqRx := 0, nak := false, owed0 := 0, owed1 := 0, msg0 := [], msg1 := [], sinceAlign := 0, trainings := 0, crcFails := 0,
    resends := 0, crcTimes := [], stormed := false, heldDown := false, ops := [], nextOp := 0, delay := 0, advSerial := 0,
    advHops := 255, lastT := 0, lastA := 0, away := 0 }

/-- Time synchronisation at release: without a parent (17 R597, R601). -/
def TimeSync.init : TimeSync :=
  { state := 0, parent := 7, hops := 255, last := 0, rate := 0, conflict := false, lost := false, slew := 0 }

/-- A context that has exchanged nothing with a peer (11 R403). -/
def Pair.init : Pair :=
  { mine := [], peers := [], formed := 0, digests := [], own := [], heard := 0, first := none, rerun := false, pend := false,
    slots := [], loc := [] }

/-- A group that is not in use (18 R607). -/
def ColGroup.init : ColGroup :=
  { state := 0, fail := 0, seq := 0, matched := [], sent := [], moved := [], ops := [], early := [], aborts := [] }

/-- No group, no collective. -/
def Collectives.init : Collectives := { groups := [], heads := [], counts := [], turns := [] }

/-- No map: epoch 0 (19 R653), with the reset values of ESP.MODEL.
Log 107 (DEDUCED). -/
def EspMap.none : EspMap :=
  { epoch := 0, base := 0, origin := [0, 0, 0], pose := List.replicate 29 0, grid := [], voxel := 10, slice := 100, unk := true,
    expired := false }

/-- Espalier at release in the GENERAL profile: not bound, one stop alternative of zero primitives, PLAN_LATE_L high, STOP_READY
low (02 Table 2.10, 19 Table 19.2). -/
def Esp.init : Esp :=
  { bound := Option.none, model := [], lib := [], stops := [[]], front := EspMap.none, back := Option.none, cmd := Option.none,
    batch := Option.none, check := Option.none, cycle := Option.none, ended := false, cycleNo := 0, valid := Option.none,
    fresh := false, validating := false, due := Option.none, pubSeq := 0, pubPlace := Option.none, mailFn := 0,
    mail := List.replicate 256 0, late := false, ready := false, charges := [], retired := [], cycles := 0, missed := 0,
    mism := 0, hangs := [], heads := [] }

/-- The machine right after reset: the release of a Y512-P10 in the GENERAL profile after a FULL test that every block
passed.  Every setting is at the Reset column of its field map (08 R279, 24 R789).
Log 1, 2, 4 (DESIGN CHOICE). -/
def State.reset : State :=
  { pending := [], out := [], freeCtr := 0, gtc := 0, aon := 0, phase := .run,
    straps := { profile := 0, chnSlot := 0, smbAddr := 0 }, pwr := Power.released, thm := Thermal.released,
    bist := Bist.passed, fuses := Fuses.p10, trd := Trd.released, queues := [(1023, Queue.chorno)], progs := [],
    sets := { regs := [], hard := [] }, err := Pipeline.empty, rcd := Recorder.fresh, rst := Resets.none, ctxs := [],
    slots := [], mem := { cells := [], poison := [] }, pci := Pcie.released, groupEff := [], sliceEff := [],
    shutEff := [], orderCtr := 0, axes := [], history := [], deepQ := [],
    chk := Checking.init, ecc := Ecc.init, brl := Burling.init, chn := Chorno.init, smb := Smbus.init, shut := [], links := [],
    time := TimeSync.init, pairs := [], col := Collectives.init, esp := Esp.init }

end Sys2Proof.Machine
end

