-- ==== Sys2Proof/Machine/SetIndex.lean ====
section
/-! DEFINITION. The settings index (24 Tables 24.3 to 24.11, R787 to R793): every setting's identifier, class, write
privilege, per-context mark, the bits of it that are not reserved (00 R14), and its reset value. -/

namespace Sys2Proof.Machine

/-- The access classes of 00 Table 0.6. -/
inductive SetCls where
  | ro
  | st
  | hd
  | im
  | w1c
  | lat
deriving DecidableEq, Repr

/-- A row of the index.  `priv`: 0 tenant, 1 administrator, 2 operator, 3 queue 1023 only, 4 no program writes it
(R788).  `mask`: the bits that a write sets. -/
structure SetRow where
  blk    : Nat
  lo     : Nat
  hi     : Nat
  cls    : SetCls
  priv   : Nat
  perCtx : Bool
  mask   : Nat
  reset  : Nat
deriving DecidableEq, Repr

/-- The index, part 0. -/
def setRows0 : List SetRow := [
  ⟨0, 0x0, 0x0, .ro, 4, false, 0x0, 0x0⟩,
  ⟨0, 0x1, 0x1, .ro, 4, false, 0x0, 0x0⟩,
  ⟨0, 0x4, 0x4, .ro, 4, false, 0x0, 0x0⟩,
  ⟨0, 0x10, 0x13, .ro, 4, false, 0x0, 0x0⟩,
  ⟨0, 0x20, 0x20, .im, 0, true, 0xFFFFFFFFFFFFFFFF, 0x0⟩,
  ⟨0, 0x30, 0x30, .ro, 4, true, 0x0, 0x0⟩,
  ⟨0, 0x40, 0x40, .st, 1, true, 0xFFFF00FFFFE7, 0x0⟩,
  ⟨0, 0x41, 0x42, .ro, 4, true, 0x0, 0x0⟩,
  ⟨16, 0x40, 0x4F, .ro, 4, false, 0x0, 0x0⟩,
  ⟨16, 0x50, 0x50, .ro, 4, false, 0x0, 0x0⟩,
  ⟨1, 0x0, 0x0, .ro, 4, false, 0x0, 0x0⟩,
  ⟨1, 0x1, 0x1, .st, 1, false, 0xFFFF, 0x2⟩,
  ⟨1, 0x20, 0x20, .hd, 1, false, 0xFFFF, 0x0⟩,
  ⟨1, 0x21, 0x21, .ro, 4, false, 0x0, 0x0⟩,
  ⟨1, 0x22, 0x22, .ro, 4, false, 0x0, 0x0⟩,
  ⟨1, 0x31, 0x31, .ro, 4, false, 0x0, 0x0⟩,
  ⟨1, 0x100, 0x560, .ro, 4, false, 0x0, 0x0⟩,
  ⟨2, 0x10, 0x10, .hd, 1, false, 0xFFFF, 0x695F⟩,
  ⟨2, 0x11, 0x11, .st, 1, false, 0xFFFF, 0x320⟩,
  ⟨2, 0x20, 0x20, .ro, 4, false, 0x0, 0x0⟩,
  ⟨2, 0x30, 0x30, .lat, 4, false, 0x0, 0x0⟩,
  ⟨2, 0x100, 0x140, .ro, 4, false, 0x0, 0x0⟩,
  ⟨2, 0x400, 0x657, .ro, 4, false, 0x0, 0x0⟩,
  ⟨3, 0x0, 0x0, .ro, 4, false, 0x0, 0x0⟩,
  ⟨3, 0x1, 0x1, .ro, 4, false, 0x0, 0x0⟩,
  ⟨3, 0x3, 0x3, .ro, 4, false, 0x0, 0x0⟩,
  ⟨3, 0x4, 0x4, .ro, 4, false, 0x0, 0x0⟩,
  ⟨3, 0x10, 0x10, .st, 1, false, 0x3FFFFFFF, 0x19002710⟩,
  ⟨3, 0x12, 0x12, .st, 1, false, 0xFFFF, 0x3E8⟩,
  ⟨3, 0x13, 0x13, .st, 1, false, 0xFFFF, 0x64⟩]

/-- The index, part 1. -/
def setRows1 : List SetRow := [
  ⟨3, 0x20, 0x20, .st, 1, false, 0xFFFFFFFFFF000, 0x0⟩,
  ⟨3, 0x21, 0x21, .st, 1, false, 0xFFFF0F0F, 0xFFFF0004⟩,
  ⟨3, 0x22, 0x22, .ro, 4, false, 0x0, 0x0⟩,
  ⟨3, 0x30, 0x30, .ro, 4, false, 0x0, 0x0⟩,
  ⟨3, 0x31, 0x34, .ro, 4, false, 0x0, 0x0⟩,
  ⟨3, 0x100, 0x13F, .ro, 4, false, 0x0, 0x0⟩,
  ⟨4, 0x20, 0x2F, .ro, 4, false, 0x0, 0x0⟩,
  ⟨4, 0x30, 0x3F, .lat, 4, false, 0x0, 0x0⟩,
  ⟨4, 0x40, 0x40, .im, 0, true, 0x3, 0x0⟩,
  ⟨4, 0x41, 0x43, .ro, 4, true, 0x0, 0x0⟩,
  ⟨4, 0x50, 0x53, .st, 1, false, 0xFFFFFFFFFFFFFFFF, 0x0⟩,
  ⟨4, 0x54, 0x57, .ro, 4, false, 0x0, 0x0⟩,
  ⟨4, 0x60, 0x60, .st, 0, true, 0x1, 0x0⟩,
  ⟨4, 0x61, 0x61, .ro, 4, true, 0x0, 0x0⟩,
  ⟨4, 0x62, 0x62, .st, 0, true, 0x1, 0x0⟩,
  ⟨4, 0x400, 0x7FF, .ro, 4, false, 0x0, 0x0⟩,
  ⟨5, 0x10, 0x16, .ro, 4, false, 0x0, 0x0⟩,
  ⟨5, 0x17, 0x1C, .ro, 4, false, 0x0, 0x0⟩,
  ⟨5, 0x21, 0x26, .ro, 4, false, 0x0, 0x0⟩,
  ⟨5, 0x50, 0x58, .st, 1, false, 0xFFFFFFFFFFFFFFFF, 0x0⟩,
  ⟨5, 0x60, 0x60, .st, 1, false, 0xFFFFFFFFFFFF, 0x0⟩,
  ⟨5, 0x70, 0x79, .ro, 4, false, 0x0, 0x0⟩,
  ⟨5, 0x200, 0x200, .st, 1, true, 0xFFFFFFFFFF001, 0x0⟩,
  ⟨5, 0x201, 0x201, .st, 1, true, 0xFFFFFFFF, 0x0⟩,
  ⟨5, 0x202, 0x202, .ro, 4, true, 0x0, 0x0⟩,
  ⟨6, 0x10, 0x13, .ro, 4, false, 0x0, 0x0⟩,
  ⟨6, 0xF0, 0xF0, .im, 2, false, 0xFFFFFFFF01, 0x0⟩,
  ⟨6, 0x400, 0x5FF, .ro, 4, false, 0x0, 0x0⟩,
  ⟨7, 0x0, 0x0, .ro, 4, false, 0x0, 0x0⟩,
  ⟨7, 0x1, 0x3, .ro, 4, false, 0x0, 0x0⟩]

/-- The index, part 2. -/
def setRows2 : List SetRow := [
  ⟨7, 0x10, 0x10, .st, 1, false, 0xFFFF, 0x32⟩,
  ⟨7, 0x11, 0x11, .hd, 2, false, 0xFFFFFFFF, 0x0⟩,
  ⟨7, 0x20, 0x20, .st, 0, true, 0x1, 0x0⟩,
  ⟨7, 0x400, 0x5FF, .hd, 4, false, 0xFFFFFFFFFFFFFFFF, 0x0⟩,
  ⟨7, 0x600, 0x7FF, .ro, 4, false, 0x0, 0x0⟩,
  ⟨8, 0x10, 0x10, .st, 1, true, 0xFFFFFFFF, 0x2710⟩,
  ⟨8, 0x11, 0x11, .st, 1, false, 0xFFFF, 0xC8⟩,
  ⟨8, 0x20, 0x20, .st, 1, false, 0xFFFFFFFFFF001, 0x0⟩,
  ⟨8, 0x30, 0x30, .w1c, 3, false, 0x1, 0x0⟩,
  ⟨8, 0x31, 0x31, .ro, 4, false, 0x0, 0x0⟩,
  ⟨9, 0x10, 0x10, .ro, 4, false, 0x0, 0x0⟩,
  ⟨9, 0x11, 0x11, .st, 1, false, 0x3F, 0x0⟩,
  ⟨9, 0x20, 0x20, .st, 1, false, 0x80FFFFFF, 0x0⟩,
  ⟨9, 0x100, 0x105, .ro, 4, false, 0x0, 0x0⟩,
  ⟨9, 0x110, 0x115, .ro, 4, false, 0x0, 0x0⟩,
  ⟨9, 0x120, 0x125, .ro, 4, false, 0x0, 0x0⟩,
  ⟨15, 0x0, 0x0, .ro, 4, false, 0x0, 0x0⟩,
  ⟨15, 0x10, 0x10, .st, 1, false, 0x3, 0x2⟩,
  ⟨15, 0x100, 0x105, .ro, 4, false, 0x0, 0x0⟩,
  ⟨10, 0x10, 0x10, .st, 0, true, 0xFFFFFFFF, 0xC350⟩,
  ⟨10, 0x11, 0x11, .st, 0, true, 0xFFFFFFFF, 0x8000⟩,
  ⟨10, 0x20, 0x20, .st, 0, true, 0xFF0FFFFFFFFFFFC1, 0x0⟩,
  ⟨10, 0x21, 0x21, .ro, 4, true, 0x0, 0x0⟩,
  ⟨10, 0x30, 0x30, .ro, 4, true, 0x0, 0x0⟩,
  ⟨10, 0x100, 0x10F, .st, 1, true, 0xFFFFFFF0FFF0007F, 0x0⟩,
  ⟨10, 0x110, 0x11F, .ro, 4, true, 0x0, 0x0⟩,
  ⟨11, 0x0, 0x0, .ro, 4, false, 0x0, 0x0⟩,
  ⟨11, 0x1, 0x1, .st, 1, false, 0xFF01, 0x0⟩,
  ⟨11, 0x10, 0x10, .st, 0, true, 0xFFFFF0FFFF01FF, 0xC35000064010A⟩,
  ⟨11, 0x20, 0x20, .st, 0, true, 0xFF0FFFFFFFFFFFC1, 0x0⟩]

/-- The index, part 3. -/
def setRows3 : List SetRow := [
  ⟨11, 0x21, 0x21, .ro, 4, true, 0x0, 0x0⟩,
  ⟨11, 0x22, 0x22, .st, 0, true, 0xFFFFFFFFFFFFF01, 0x0⟩,
  ⟨11, 0x30, 0x30, .im, 0, true, 0x1, 0x0⟩,
  ⟨11, 0x50, 0x50, .ro, 4, false, 0x0, 0x0⟩,
  ⟨12, 0x0, 0x0, .st, 1, false, 0x1, 0x0⟩,
  ⟨12, 0x1, 0x1, .st, 1, false, 0xFF, 0x8⟩,
  ⟨12, 0x2, 0x7, .ro, 4, false, 0x0, 0x0⟩,
  ⟨12, 0x8, 0x8, .im, 1, false, 0xFFFF01, 0x0⟩,
  ⟨12, 0x9, 0x9, .im, 1, false, 0xE000FFFFFFFFFFFF, 0x0⟩,
  ⟨12, 0xA, 0xA, .ro, 4, false, 0x0, 0x0⟩,
  ⟨12, 0x10, 0x17, .ro, 4, false, 0x0, 0x0⟩,
  ⟨13, 0x0, 0x0, .ro, 4, false, 0x0, 0x0⟩,
  ⟨13, 0x1, 0x1, .ro, 4, false, 0x0, 0x0⟩,
  ⟨13, 0x10, 0x10, .ro, 4, false, 0x0, 0x0⟩,
  ⟨13, 0x20, 0x20, .st, 1, false, 0x3, 0x0⟩,
  ⟨14, 0x0, 0x0, .ro, 4, false, 0x0, 0x0⟩,
  ⟨14, 0x1, 0x1, .ro, 4, false, 0x0, 0x0⟩,
  ⟨14, 0x100, 0x13F, .ro, 4, false, 0x0, 0x0⟩]

/-- The whole index (R787). -/
def setRows : List SetRow := setRows0 ++ setRows1 ++ setRows2 ++ setRows3

/-- The row of a setting; none for an unassigned index (R787, R21). -/
def setRow (blk idx : Nat) : Option SetRow :=
  setRows.find? (fun r => r.blk == blk && decide (r.lo ≤ idx) && decide (idx ≤ r.hi))

/-- The place of a setting in the tables of registers; `ctx` is 0 for a setting that is not per-context. -/
def setPlace (blk idx ctx : Nat) : Nat := blk * 0x100000 + idx * 0x100 + ctx

/-- The reset value of a setting (R789, Table 24.11): PWR.CAP at the grade ceiling, ESP.PUBLISH[irq] by profile. -/
def setReset (s : State) (blk idx : Nat) : Word64 :=
  if blk = 1 ∧ idx = 0x20 then w64 s.fuses.gradeW
  else if blk = 11 ∧ idx = 0x22 then (if s.straps.profile = 1#2 then w64 0x0001000000000000 else 0)
  else match setRow blk idx with
    | some r => w64 r.reset
    | none => 0

/-- The bitwise two-of-three vote of the stored copies of a hardened setting (R294). -/
def hdVote (c : HdCell) : Word64 := (c.c0 &&& c.c1) ||| (c.c0 &&& c.c2) ||| (c.c1 &&& c.c2)

/-- The register of an ST, IM or W1C setting. -/
def setCell (s : State) (blk idx ctx : Nat) : SetCell :=
  Tbl.get ⟨setReset s blk idx, setReset s blk idx, 0⟩ s.sets.regs (setPlace blk idx ctx)

/-- The stored copies of an HD setting. -/
def hdCell (s : State) (blk idx : Nat) : HdCell :=
  let v := setReset s blk idx
  Tbl.get ⟨v, v, v, v, 0⟩ s.sets.hard (setPlace blk idx 0)

/-- Whether a setting is held in three stored copies. -/
def isHd (blk idx : Nat) : Bool :=
  match setRow blk idx with
  | some r => decide (r.cls = .hd)
  | none => false

/-- The live value of a setting that is held in a setting register (R278, R294). -/
def liveVal (s : State) (blk idx ctx : Nat) : Word64 :=
  if isHd blk idx then hdVote (hdCell s blk idx) else (setCell s blk idx ctx).val

/-- The generation of a setting: TRD.COMMIT_SEQ of the last commit that wrote it (08).
Log 48 (DEDUCED). -/
def setGen (s : State) (blk idx ctx : Nat) : Nat :=
  if isHd blk idx then (hdCell s blk idx).gen else (setCell s blk idx ctx).gen

/-- Write the live value of a setting register, its image and its generation; reserved bits stay zero (R14). -/
def putLive (s : State) (blk idx ctx : Nat) (v : Word64) (gen : Nat) : State :=
  let m : Word64 := match setRow blk idx with
    | some r => w64 r.mask
    | none => 0
  let v := v &&& m
  if isHd blk idx then
    { s with sets := { s.sets with hard := Tbl.put s.sets.hard (setPlace blk idx 0) ⟨v, v, v, v, gen⟩ } }
  else
    { s with sets := { s.sets with regs := Tbl.put s.sets.regs (setPlace blk idx ctx) ⟨v, v, gen⟩ } }

end Sys2Proof.Machine
end

