-- ==== Sys2Proof/Machine/Ops.lean ====
section
/-! DEFINITION. The named operations that every family uses: tables of the state, memory bytes and poison, free values,
requests to the host, MSI-X, and the forming of records (20 R681 to R687). -/

namespace Sys2Proof.Machine

/-! ### Free values -/

/-- The next free value (Config.freeValue) and the state that has used it.
Log 16 (DESIGN CHOICE). -/
def takeFree (s : State) : Word64 × State :=
  (Config.freeValue s.freeCtr, { s with freeCtr := s.freeCtr + 1 })

/-! ### Tables of the state -/

/-- Queue `q`. -/
def getQ (s : State) (q : Nat) : Queue := Tbl.get Queue.absent s.queues q
/-- Write queue `q`. -/
def putQ (s : State) (q : Nat) (v : Queue) : State := { s with queues := Tbl.put s.queues q v }
/-- Change queue `q`. -/
def updQ (s : State) (q : Nat) (f : Queue → Queue) : State := putQ s q (f (getQ s q))

/-- An execution slot without a program reads as none. -/
def getP (s : State) (n : Nat) : Option Prog := (s.progs.find? (fun e => e.1 == n)).map (·.2)
/-- Write the program of slot `n`. -/
def putP (s : State) (n : Nat) (v : Prog) : State := { s with progs := Tbl.put s.progs n v }
/-- Free slot `n`. -/
def delP (s : State) (n : Nat) : State := { s with progs := Tbl.del s.progs n }

/-- Context `c`. -/
def getC (s : State) (c : Nat) : Ctx := Tbl.get Ctx.free s.ctxs c
/-- Write context `c`. -/
def putC (s : State) (c : Nat) (v : Ctx) : State := { s with ctxs := Tbl.put s.ctxs c v }
/-- Change context `c`. -/
def updC (s : State) (c : Nat) (f : Ctx → Ctx) : State := putC s c (f (getC s c))

/-- The number of slot `slot` of partition `part` in the table of slots. -/
def slotKey (part slot : Nat) : Nat := part * 512 + slot
/-- A slot of a partition. -/
def getS (s : State) (k : Nat) : Slot := Tbl.get Slot.idle s.slots k
/-- Write a slot. -/
def putS (s : State) (k : Nat) (v : Slot) : State := { s with slots := Tbl.put s.slots k v }
/-- Change a slot. -/
def updS (s : State) (k : Nat) (f : Slot → Slot) : State := putS s k (f (getS s k))

/-- The partition that owns a context (00 R11). -/
def partOf (ctx : Nat) : Nat := ctx / 32

/-- The state of a domain: 0 OFF, 1 ON, 2 RETENTION, 3 FAILED (03 R93). -/
def domState (s : State) (d : Nat) : Nat := Tbl.get 1 s.pwr.domains d
/-- Set the state of a domain. -/
def putDom (s : State) (d v : Nat) : State := { s with pwr := { s.pwr with domains := Tbl.put s.pwr.domains d v } }

/-- The state of a cluster: 0 ACTIVE, 1 SUSPECT, 2 QUARANTINED, 3 COPPICED (BRL.CL_STATE[state], 14 R502). -/
def clState (s : State) (n : Nat) : Nat := (liveVal s 7 (0x400 + n) 0).toNat % 4
/-- Whether a cluster is in service: not excluded from this boot, its domain not failed, ACTIVE or SUSPECT. -/
def clInService (s : State) (n : Nat) : Bool :=
  decide (n < 512) && !(s.bist.excluded.contains n) && !(s.fuses.coppice.contains n) && !(s.bist.bootCop.contains n)
    && decide (clState s n < 2) && decide (domState s n = 1)

/-- The power-on seconds now (20 R682). -/
def powerOnSec (s : State) : Nat := s.rcd.posBase + s.aon / 1000000000

/-- Whether the FLEET profile was sampled (00 R3). -/
def isFleet (s : State) : Bool := decide (s.straps.profile = 1#2)

/-! ### Memory -/

/-- The size of the HBM in bytes: 144 slices of 1 GiB. -/
def hbmSize : Nat := 144 * 0x40000000

/-- Where the scratchpad of a slot starts in the numbering of memory cells. -/
def padBase (part slot : Nat) : Nat := 0x10000000000 + slotKey part slot * 0x100000

/-- The number that an unlisted cell reads as: zero, as the FULL test leaves every HBM cell (05 R160).
Log 2 (DESIGN CHOICE). -/
def Mem.empty : Byte := 0

/-- Read one byte of a memory list. -/
def cellGet (m : List Host.Cell) (a : Nat) : Byte := Tbl.get Mem.empty m a

/-- Write one byte of a memory list, in canonical form: rising addresses, no entry equal to what an unlisted byte reads. -/
def cellPut (m : List Host.Cell) (a : Nat) (b : Byte) : List Host.Cell :=
  if b = Mem.empty then Tbl.del m a else Tbl.put m a b

/-- The canonical form of a memory list. -/
def Mem.wf (m : List Host.Cell) : Bool := Tbl.rising m && m.all (fun e => e.2 != Mem.empty)

/-- Read one byte of device memory.
Log 2 (DESIGN CHOICE). -/
def memGet (s : State) (a : Nat) : Byte := cellGet s.mem.cells a
/-- Write one byte of device memory. -/
def memPut (s : State) (a : Nat) (b : Byte) : State := { s with mem := { s.mem with cells := cellPut s.mem.cells a b } }
/-- Read `n` bytes from address `a` upward. -/
def memGets (s : State) (a : Nat) : Nat → List Byte
  | 0 => []
  | n + 1 => memGet s a :: memGets s (a + 1) n
/-- Write bytes from address `a` upward. -/
def memPuts (s : State) (a : Nat) : List Byte → State
  | [] => s
  | b :: t => memPuts (memPut s a b) (a + 1) t

/-- Whether the granule that holds byte `a` is poisoned (13 R445). -/
def isPoison (s : State) (a : Nat) : Bool := s.mem.poison.contains (a / 32)
/-- Poison the granule that holds byte `a`. -/
def setPoison (s : State) (a : Nat) : State := { s with mem := { s.mem with poison := insertNat s.mem.poison (a / 32) } }
/-- Clear the poison of the granule that holds byte `a`. -/
def clearPoison (s : State) (a : Nat) : State := { s with mem := { s.mem with poison := dropNat s.mem.poison (a / 32) } }
/-- The granules that `n` bytes from `a` meet. -/
def granules (a n : Nat) : List Nat :=
  if n = 0 then [] else (List.range ((a + n - 1) / 32 - a / 32 + 1)).map (· + a / 32)

/-- Remove every cell and poison mark from `lo` to `hi - 1`: the bytes read zero. -/
def memWipe (s : State) (lo hi : Nat) : State :=
  { s with mem := { cells := s.mem.cells.filter (fun e => !(decide (lo ≤ e.1) && decide (e.1 < hi))),
                    poison := s.mem.poison.filter (fun g => !(decide (lo ≤ g * 32) && decide (g * 32 < hi))) } }

/-! ### Requests to the host -/

/-- Function `f`. -/
def getF (s : State) (f : Nat) : PciFn := Tbl.get PciFn.init s.pci.fns f
/-- Write function `f`. -/
def putF (s : State) (f : Nat) (v : PciFn) : State := { s with pci := { s.pci with fns := Tbl.put s.pci.fns f v } }

/-- Whether function `f` is enabled (22 R747). -/
def fnEnabled (s : State) (f : Nat) : Bool := f == 0 || (s.pci.vfEnable && decide (f ≤ s.pci.numVfs) && decide (f ≤ 63))

/-- Whether the device issues requests for function `f`: the link up, bus mastering on, not in D3hot (22 R748, R762). -/
def hostOk (s : State) (f : Nat) : Bool := s.pci.up && fnEnabled s f && (getF s f).bme && !(getF s f).d3

/-- A write that leaves for the host.
Log 10 (DESIGN CHOICE); 120 (DEDUCED). -/
def sendHost (s : State) (f addr : Nat) (bytes : List Byte) (cls : Nat) (ep : Bool) : State :=
  { s with out := .hostWrite f addr bytes cls ep :: s.out }

/-- The number of vectors of function `f` (22 R753). -/
def vectorCount (f : Nat) : Nat := if f = 0 then 2048 else 32

/-- Raise a vector (22 R748, R753): a message, or the pending bit while it may not be sent; nothing while the link is
down, when writes are dropped (R762), and for a vector beyond the table.
Log 10 (DESIGN CHOICE); 118 (DEDUCED). -/
def raiseVec (s : State) (f v : Nat) : State :=
  let g := getF s f
  if v ≥ vectorCount f ∨ !s.pci.up then s
  else if g.bme && !g.d3 && g.msixEn && !g.msixMask && g.unmasked.contains v then { s with out := .msix f v :: s.out }
  else putF s f { g with pending := insertNat g.pending v }

/-! ### Records -/

/-- Payload bytes 24 to 58 from fields of a size in bytes and a value, in order; the rest reserved, 0 (15 R535). -/
def pay (l : List (Nat × Nat)) : List Byte := padTo 35 (l.flatMap (fun e => leBytes e.1 e.2))

/-- The 64 bytes of a record (20 Table 20.2). -/
def Rec.bytes (r : Rec) : List Byte :=
  let b := leBytes 2 r.code ++ leBytes 1 (r.sev + r.flags) ++ leBytes 1 r.srcClass ++ leBytes 2 r.srcIndex
    ++ leBytes 2 r.seq ++ leBytes 4 r.pos ++ leBytes 3 r.pcc ++ leBytes 1 0 ++ leBytes 8 r.gtc ++ padTo 35 r.payload
  b ++ leBytes 4 (crc32c b).toNat ++ [0xA5#8]

/-- The flag that the safe state puts on a record (15 Table 15.3). -/
def safeFlag (s : State) : Nat := if s.err.safe then 64 else 0

/-- Form a record: it takes the next sequence number whether or not it is kept (20 R681). -/
def formRec (s : State) (code sev flags cls idx : Nat) (payload : List Byte) : Rec × State :=
  ({ code := code, sev := sev, flags := flags + safeFlag s, srcClass := cls, srcIndex := idx, seq := s.rcd.seq,
     pos := powerOnSec s % 4294967296, pcc := s.rcd.pcc, gtc := s.gtc, payload := padTo 35 payload },
   { s with rcd := { s.rcd with seq := (s.rcd.seq + 1) % 65536 } })

/-- One more in the count of severity `sev`, up to 16 bits. -/
def bumpSev (l : List Nat) (sev : Nat) : List Nat :=
  (List.range 6).map (fun i => if i = sev then satAdd 65535 (l.getD i 0) 1 else l.getD i 0)

/-- Put a record into the volatile ring, or count it: during a freeze (20 R696), and when the ring has no slot that it
may take (R687). -/
def ringAdd (s : State) (r : Rec) : State :=
  let c := s.rcd
  if c.frozen then { s with rcd := { c with frzCounts := bumpSev c.frzCounts r.sev } }
  else if c.ring.length ≥ 16384 ∨ (c.ring.length ≥ 16320 ∧ r.sev < 4) then
    { s with rcd := { c with missed := bumpSev c.missed r.sev, missedTot := satAdd 65535 c.missedTot 1,
                             missedGtc := if c.missed.all (· == 0) then s.gtc else c.missedGtc } }
  else { s with rcd := { c with ring := c.ring ++ [⟨r, false⟩] } }

/-- Copy a record into the host error ring (15 R533); a write that fails ends the ring's use (R534), and `ringDue` says
that ERR_RING_FAIL is still to be accepted. -/
def hostRing (s : State) (r : Rec) : State :=
  let ctl := (liveVal s 3 0x21 0).toNat
  let minSev := if bitsOf ctl 3 1 > 5 then 5 else bitsOf ctl 3 1
  let l2 := let v := bitsOf ctl 11 8; if v < 6 then 6 else if v = 15 then 14 else v
  if ctl % 2 = 0 ∨ s.err.ringFault ∨ r.sev < minSev then s
  else if hostOk s 0 then
    let base := (liveVal s 3 0x20 0).toNat
    let t := s.err.ringTail.toNat
    let s := sendHost s 0 (base + 64 + 64 * (t % 2 ^ l2)) r.bytes 1 false
    let s := { s with err := { s.err with ringTail := s.err.ringTail + 1 } }
    let s := sendHost s 0 base (leBytes 8 s.err.ringTail.toNat ++ zeros 56) 1 false
    raiseVec s 0 (bitsOf ctl 31 16)
  else { s with err := { s.err with ringFault := true, ringDue := true } }

/-- Offer a direct record to Chorno: none of a severity below CHN.DIRECT[min_sev]; a full queue of 32 drops its oldest record
(21 R723).
Log 114 (DEDUCED). -/
def offerDirect (s : State) (r : Rec) : State :=
  if r.sev < (liveVal s 13 0x20 0).toNat then s
  else if s.err.direct.length < 32 then { s with err := { s.err with direct := s.err.direct ++ [r] } }
  else { s with err := { s.err with direct := s.err.direct.drop 1 ++ [r] }, chn := { s.chn with dropped := satAdd 255 s.chn.dropped 1 } }

/-- A direct record (15 R510, R530): ring, host error ring, Chorno behind the reports. -/
def recordRaw (s : State) (code sev cls idx : Nat) (payload : List Byte) : State :=
  let (r, s) := formRec s code sev 0 cls idx payload
  offerDirect (hostRing (ringAdd s r) r) r

/-- End a freeze: FREEZE_SUMMARY with the counts (20 R696, R697, Table 20.8). -/
def endFreeze (s : State) : State :=
  if s.rcd.frozen then
    let c := s.rcd.frzCounts
    let p := pay ([(2, 0), (2, 0), (4, c.foldl (· + ·) 0), (8, s.rcd.frzStart)] ++ c.map (fun n => (2, n)))
    recordRaw { s with rcd := { s.rcd with frozen := false, frzCounts := [0, 0, 0, 0, 0, 0], freezeReg := 0 } }
      0xA003 0 0x0D 0 p
  else s

/-- A class 0x1 or 0x2 payload (15 Table 15.12): index, its kind, board rail, temperature, voltage, rate of rise. -/
def powerPay (s : State) (index kind rail : Nat) (temp volt rate : Nat) : List Byte :=
  pay [(2, index), (1, kind), (1, rail), (2, temp), (2, volt),
       (2, (s.pwr.meter.foldl (· + ·) 0) / (if s.pwr.meter.isEmpty then 1 else s.pwr.meter.length) / 1000), (2, rate),
       (2, (liveVal s 1 0x20 0).toNat), (2, (liveVal s 2 0x10 0).toNat),
       (1, ((List.range 64).filter (fun g => Tbl.get 800 s.thm.targets g ≤ 550)).length)]

/-- A class 0xE payload other than the summary (15 Table 15.12). -/
def bistPay (s : State) (domain depth phase cluster : Nat) (obs exp : Word64) : List Byte :=
  pay [(2, domain), (1, depth), (1, phase),
       (1, s.straps.profile.toNat * 64 + s.straps.chnSlot.toNat * 4 + s.straps.smbAddr.toNat), (1, 0), (2, cluster),
       (8, 0), (8, obs.toNat), (8, exp.toNat)]

/-- A class 0xD payload (15 Table 15.13): queue, slot, status or rule, block, index, domain, escalation byte. -/
def trdPay (s : State) (queue slot rule blk idx domain esc : Nat) (tail : List (Nat × Nat)) : List Byte :=
  pay ([(2, queue), (1, b2n s.trd.activeB), (1, s.trd.standby), (2, slot), (2, rule), (8, s.trd.commitSeq.toNat),
        (1, blk), (1, 0), (2, idx), (2, domain), (1, s.trd.failovers), (1, esc)] ++ tail)

/-- The payload of a memory record (13 Table 13.6); the raw syndrome is what the code saw, a free value. -/
def memPay (loc cls unit addr syn ctx agent flags rate : Nat) : List Byte :=
  pay [(1, loc), (1, cls), (2, unit), (8, addr), (4, syn), (2, ctx), (1, agent), (1, flags), (4, rate)]

/-- The source index of the active Treadle (15 Table 15.4). -/
def trdIdx (s : State) : Nat := b2n s.trd.activeB

end Sys2Proof.Machine
end

