-- ==== Sys2Proof/Machine/EspPub.lean ====
section
/-! DEFINITION. Espalier's held stop and its publications (19 R663 to R672), and leaving the bound state (R644), as the parts of the
device that force them see them. -/

namespace Sys2Proof.Machine

/-- A primitive of the library; none where nothing is loaded. -/
def espPrim (s : State) (i : Nat) : Option (List Byte) := (s.esp.lib.find? (fun e => e.1 == i)).map (·.2)

/-- Whether a sequence chains by class from class `cls` on, every index naming a loaded entry (R649). -/
def espChain (s : State) : Nat → List Nat → Bool
  | _, [] => true
  | cls, i :: t => match espPrim s i with
    | some e => bytesAt e 2 1 == cls && espChain s (bytesAt e 3 1) t
    | none => false

/-- Whether a stop alternative is admissible at the front epoch's pose (R649, R663); without a map there is no pose. -/
def stopAdmissible (s : State) (a : List Nat) : Bool :=
  let cls := bytesAt s.esp.front.pose 28 1
  s.esp.front.epoch != 0 && (if a.isEmpty then cls == 0 else espChain s cls a)

/-- Whether counts of pairs hold a blocking pair (R660). -/
def espBlocked (s : State) (n : Nat × Nat × Nat) : Bool :=
  decide (n.2.2 > 0) || decide (n.2.1 > 0) || (s.esp.front.unk && decide (n.1 > 0))

/-- Whether counts `a` are worse than `b`: n3, then n2, then n1 (R665). -/
def espWorse (a b : Nat × Nat × Nat) : Bool :=
  if a.2.2 ≠ b.2.2 then decide (a.2.2 > b.2.2) else if a.2.1 ≠ b.2.1 then decide (a.2.1 > b.2.1) else decide (a.1 > b.1)

/-- The stop to publish, from the counts of every alternative (R665). -/
def selectStop (s : State) (counts : List (Nat × Nat × Nat)) : EspVal :=
  let as := (s.esp.stops.zipIdx).filter (fun e => stopAdmissible s e.1)
  let cnt := fun (i : Nat) => counts.getD i (0, 0, 0)
  let mk := fun (i : Nat) (u n : Bool) => (⟨s.esp.front.epoch, i, u, n, (cnt i).2.1, (cnt i).2.2, s.esp.stops.getD i []⟩ : EspVal)
  match as.find? (fun e => !espBlocked s (cnt e.2)) with
  | some e => mk e.2 false false
  | none => match as with
    | [] => mk 0 true true
    | e :: t => mk (t.foldl (fun b f => if espWorse (cnt b) (cnt f.2) then f.2 else b) e.2) true false

/-- The payload of an Espalier record (Table 19.10). -/
def espPay (s : State) (lane epoch cand status deadline n3 n2 kind flags cmd : Nat) : List Byte :=
  pay [(2, lane), (2, s.esp.bound.getD 0xFFFF), (2, s.esp.front.epoch), (2, epoch), (4, s.esp.cycleNo), (2, cand), (2, status),
       (8, deadline), (4, n3), (4, n2), (1, kind), (1, flags), (1, cmd)]

/-- The publication record (Table 19.7): kind 1 PLAN, 2 STOP, 3 STOP_AND_BEST, with the stop `v`. -/
def pubBytes (s : State) (kind flags : Nat) (v : EspVal) : List Byte :=
  let cy := s.esp.cycle
  let inc := if kind = 2 then none else cy.bind (·.inc)
  let two := fun (n : Nat) (l : List Nat) => padTo (2 * n) (l.flatMap (leBytes 2))
  let b := leBytes 1 kind ++ leBytes 1 flags ++ leBytes 2 (inc.elim v.epoch (·.epoch)) ++ leBytes 2 s.esp.front.epoch
    ++ leBytes 1 (if kind = 1 then 0xFF else v.alt) ++ leBytes 1 (if kind = 1 then 0 else v.prims.length)
    ++ leBytes 1 (inc.elim 0 (fun i => i.path.length)) ++ leBytes 1 (s.esp.bound.getD 0) ++ zeros 2 ++ leBytes 4 s.esp.cycleNo
    ++ leBytes 2 (inc.elim 0xFFFF (·.index)) ++ leBytes 2 (inc.elim 0 (·.batch)) ++ leBytes 4 (inc.elim 0 (·.score))
    ++ leBytes 8 s.gtc ++ leBytes 8 (cy.elim 0 (·.deadline)) ++ leBytes 4 (if kind = 1 then 0 else v.n2)
    ++ leBytes 4 (if kind = 1 then 0 else v.n3) ++ two 8 (if kind = 1 then [] else v.prims) ++ two 64 (inc.elim [] (·.path))
    ++ padTo 29 (inc.elim [] (·.pose)) ++ zeros 23
  leBytes 8 s.esp.pubSeq ++ b ++ leBytes 4 (crc32c b).toNat

/-- Write a publication to a place (R669): bytes 8 to 255 before bytes 0 to 7; to the host in class 0, dropped while the function
may not send (R680). -/
def pubWrite (s : State) (p : Place) (b : List Byte) : State :=
  match p with
  | .hbm pa => (granules pa 256).foldl (fun s g => clearPoison s (32 * g)) (memPuts (memPuts s (pa + 8) (b.drop 8)) pa (b.take 8))
  | .pad a sl off =>
    let k := padBase a sl + off
    (granules k 256).foldl (fun s g => clearPoison s (32 * g)) (memPuts (memPuts s (k + 8) (b.drop 8)) k (b.take 8))
  | .host f bus =>
    if hostOk s f then sendHost (sendHost s f (bus + 8) (b.drop 8) 0 false) f bus (b.take 8) 0 false else s

/-- Write a publication to translated pieces, from the last byte's piece to the first. -/
def pubPieces (s : State) (l : List (Place × Nat)) (b : List Byte) : State :=
  match l with
  | [] => s
  | [(p, _)] => pubWrite s p b
  | (p, n) :: (q, _) :: _ =>
    let put := fun (s : State) (p : Place) (l : List Byte) => match p with
      | .hbm pa => memPuts s pa l
      | .pad a sl off => memPuts s (padBase a sl + off) l
      | .host f bus => if hostOk s f then sendHost s f bus l 0 false else s
    let s := put s q (b.drop n)
    let s := match p with
      | .hbm pa => put s (.hbm (pa + 8)) ((b.take n).drop 8)
      | .pad a sl off => put s (.pad a sl (off + 8)) ((b.take n).drop 8)
      | .host f bus => put s (.host f (bus + 8)) ((b.take n).drop 8)
    put s p (b.take 8)

/-- The function of the bound context. -/
def espFn (s : State) : Nat := s.esp.bound.elim 0 (fun c => (getC s c).fn)

/-- The STOP_READY level that now holds (R666). -/
def readyNow (s : State) : Bool :=
  s.esp.bound.isSome && s.esp.front.epoch != 0 && !s.esp.front.expired &&
    s.esp.valid.elim false (fun v => !v.unsafeStop && !v.prims.isEmpty)

/-- Publish (R668, R669, R672): the record goes to ESP.PUBLISH, to the copy of the ending cycle and to the mailbox, then the
vector; PLAN_LATE_L follows, the cycle ends.  The object of CYCLE_OPEN (0xFFFF: none) is left for the caller.
Log 108 (DEDUCED). -/
def publishRaw (s : State) (kind flags : Nat) (v : EspVal) : Nat × State :=
  let e := s.esp
  let flags := flags + 64 * b2n e.front.expired + (if kind = 1 then 0 else 2 * b2n v.unsafeStop + 8 * b2n v.noAdm)
    + b2n (kind != 2 && (e.cycle.bind (·.inc)).elim false (fun i => i.epoch != e.front.epoch))
  let s := { s with esp := { e with pubSeq := e.pubSeq + 1 } }
  let b := pubBytes s kind flags v
  let dl := e.cycle.elim 0 (·.deadline)
  let s := match e.pubPlace with
    | some p => pubWrite s p b
    | none => s
  let s := pubPieces s (e.cycle.elim [] (·.copy)) b
  let p := (liveVal s 11 0x22 (e.bound.getD 0)).toNat
  let s := { s with esp := { s.esp with mail := b, mailFn := espFn s } }
  let s := if p.testBit 48 && e.bound.isSome then raiseVec s (espFn s) (bitsOf p 59 49) else s
  let late := if flags.testBit 2 || flags.testBit 5 then true
    else if kind = 1 ∧ s.gtc ≤ dl then false else e.late
  let s := recordRaw s (if kind = 1 then 0x9010 else 0x9011) 0 0x09 0xFFFF
    (espPay s 0xFFFF (if kind = 1 then (e.cycle.bind (·.inc)).elim 0 (·.epoch) else v.epoch) (if kind = 1 then 0xFFFF else v.alt) 0 dl
      (if kind = 1 then 0 else v.n3) (if kind = 1 then 0 else v.n2) kind flags 0)
  (e.cycle.elim 0xFFFF (·.done),
   { s with esp := { s.esp with late := late, cycle := none, check := none, due := none,
                                ended := e.ended || e.cycle.isSome, cycles := satAdd 0xFFFFFFFF e.cycles (b2n e.cycle.isSome) } })

/-- The counts of a validation that a forced publication runs (R664, R671): what the lanes count is not given, free values.
Log 16 (DESIGN CHOICE). -/
def freeCounts : Nat → State → List (Nat × Nat × Nat) × State
  | 0, s => ([], s)
  | n + 1, s =>
    let (a, s) := takeFree s
    let (b, s) := takeFree s
    let (c, s) := takeFree s
    let (l, s) := freeCounts n s
    ((a.toNat % 2 ^ 32, b.toNat % 2 ^ 32, c.toNat % 2 ^ 32) :: l, s)

/-- The stop as validated against the front epoch, at once.
Log 108 (DEDUCED). -/
def stopNow (s : State) : EspVal × State :=
  match s.esp.valid, s.esp.fresh with
  | some v, true => (v, s)
  | _, _ =>
    let (l, s) := freeCounts s.esp.stops.length s
    let v := selectStop s l
    (v, { s with esp := { s.esp with valid := some v, fresh := true, validating := false } })

/-- Espalier publishes its held stop with flag forced (R671), while it is bound and its domain is ON; the object of CYCLE_OPEN. -/
def forcedRaw (s : State) : Nat × State :=
  if s.esp.bound.isSome && domState s 1102 == 1 then
    let (v, s) := stopNow s
    let (o, s) := publishRaw s 2 32 v
    (o, { s with esp := { s.esp with late := true } })
  else (0xFFFF, s)

/-- As `forcedRaw`, where the bound context ends or is reset: its object rises without firing anything.
Log 108 (DEDUCED). -/
def forcedStop (s : State) : State :=
  let c := s.esp.bound.getD 0
  match forcedRaw s with
  | (o, s) => if o < 256 then updC s c (fun x => { x with sync := Tbl.put x.sync o (Tbl.get 0 x.sync o + 1) }) else s

/-- What leaving the bound state zeroes (R644, R641). -/
def espZero (e : Esp) : Esp :=
  { e with model := [], lib := [], stops := [[]], front := EspMap.none, back := none, cmd := none, batch := none, check := none,
           cycle := none, ended := false, cycleNo := 0, valid := none, fresh := false, validating := false, due := none, ready := false }

/-- Espalier leaves the bound state (R644): forced stop, PLAN_LATE_L asserted, STOP_READY low, its stores zeroed, ESP_UNBOUND. -/
def unbindEsp (s : State) : State :=
  if s.esp.bound.isNone then s
  else
    let s := forcedStop s
    let s := { s with esp := { espZero s.esp with late := true } }
    let s := recordRaw s 0x9002 0 0x09 0xFFFF (espPay s 0xFFFF 0 0xFFFF 0 0 0 0 0 0 0)
    { s with esp := { s.esp with bound := none, pubPlace := none } }

end Sys2Proof.Machine
end

