-- ==== Sys2Proof/Machine/Fence.lean ====
section
/-! DEFINITION. Starting a reset (16 R547 to R556, R570, R571): the domains of each level, the fence, the dossier's
snapshot, the merging of a reset into one that encloses it; and the escalation ladder of 15 Table 15.7. -/

namespace Sys2Proof.Machine

/-- Whether a context lies inside a raised fence (16 R553). -/
def isFenced (s : State) (c : Nat) : Bool := s.rst.runs.any (fun e => e.2.ctxs.contains c)

/-- Whether an engine's domain lies inside a raised fence. -/
def isFencedEngine (s : State) (d : Nat) : Bool :=
  s.rst.runs.any (fun e => decide (e.2.level ≥ 4) || e.2.engines.contains d)

/-- The contexts that exist and have not ended. -/
def liveCtxs (s : State) : List Nat := (s.ctxs.filter (fun e => e.2.inUse && !e.2.ended)).map (·.1)

/-- The owner in effect of a cluster group (09 R303). -/
def groupOwner (s : State) (g : Nat) : Nat := Tbl.get 0 s.groupEff g
/-- The owner in effect of a memory Shuttle (09 R303). -/
def shutOwner (s : State) (i : Nat) : Nat := Tbl.get 0 s.shutEff i
/-- The owner in effect of a slice (09 R303). -/
def sliceOwner (s : State) (k : Nat) : Nat := Tbl.get 0 s.sliceEff k

/-- The contexts with a slot hosted on one of the clusters that `p` admits. -/
def ctxsOn (s : State) (p : Nat → Bool) : List Nat :=
  (liveCtxs s).filter (fun c => s.slots.any (fun e => e.2.ctx == c && !e.2.ended && p e.2.host))

/-- The clusters that hold work of a context. -/
def hostsOf (s : State) (c : Nat) : List Nat :=
  (s.slots.filter (fun e => e.2.ctx == c && !e.2.ended && decide (e.2.host < 512))).foldl
    (fun l e => insertNat l e.2.host) []

/-- Every engine that holds work of a context, as domain numbers: clusters, and the memory and link Shuttles with an operation of
it (15 Table 15.7). -/
def enginesOf (s : State) (c : Nat) : List Nat :=
  hostsOf s c ++ (s.shut.filter (fun e => e.2.any (fun o => o.ctx == c))).map (fun e => if e.1 < 12 then 1103 + e.1 else 1082 + e.1)

/-- The contexts that a level encloses (16 Table 16.4).
Log 92 (DEDUCED). -/
def enclosedCtxs (s : State) (level target : Nat) : List Nat :=
  match level with
  | 0 => (liveCtxs s).filter (· == target)
  | 1 => (liveCtxs s).filter (fun c => (getC s c).jobTag.toNat == target)
  | 2 =>
    if target < 512 then ctxsOn s (· == target)
    else if 1024 ≤ target ∧ target < 1088 then ctxsOn s (fun h => decide (h < 512) && h / 8 == target - 1024)
    else if target = 1102 then (liveCtxs s).filter (fun c => s.esp.bound == some c && s.esp.batch.isSome)
    else if target = 1115 then
      (liveCtxs s).filter (fun c => s.col.groups.any (fun e => e.1 / 16 == c && e.2.ops.any (fun x => x.fin.isNone && x.alg != 2)))
    else if 1094 ≤ target ∧ target ≤ 1114 then
      (liveCtxs s).filter (fun c => (s.shut.find? (fun e => (if e.1 < 12 then 1103 + e.1 else 1082 + e.1) == target)).elim false
        (fun e => e.2.any (fun o => o.ctx == c)))
    else []
  | 3 => (liveCtxs s).filter (fun c => partOf c == target)
  | _ => liveCtxs s

/-- The engines that a level encloses, as domain numbers; levels 4 and 5 enclose every engine (16 Table 16.4). -/
def enclosedEngines (s : State) (level target : Nat) : List Nat :=
  match level with
  | 2 => if target = 0xFFFF then [] else [target]
  | 3 =>
    let gs := upTo 64 (fun g => groupOwner s g == target)
    gs.flatMap (fun g => (List.range 8).map (fun i => 8 * g + i))
      ++ gs.flatMap (fun g => (List.range 8).map (fun i => 512 + 8 * g + i))
      ++ gs.map (· + 1024) ++ (upTo 12 (fun i => shutOwner s i == target)).map (· + 1103)
  | _ => []

/-- One record of a dossier section: its contents are given, their places are not (16 Table 16.7).
Log 14 (DESIGN CHOICE). -/
def dossierRec (t size : Nat) (fields : List Nat) : List Byte := (List.range size).map (Config.dossierByte t fields)

/-- The status with which a reset ends a context (16 Table 16.12). -/
def endStatus (s : State) (level cause origin : Nat) (fn : Option Nat) (c : Nat) : Nat :=
  if fn.isSome then 0x011D
  else match level with
    | 0 => if (getC s c).fault ≠ 0 then (getC s c).fault else 0x0114
    | 1 => if cause = 0x6001 ∧ origin = c then 0x0116 else 0x0115
    | 2 => 0x0117
    | 3 => 0x0118
    | _ => 0x011A

/-- Every engine of the chip, as domain numbers (03 Table 3.3). -/
def allEngines : List Nat := (List.range 1116).filter (fun d => d != 1100 && d != 1101)

/-- The sections of a dossier that the snapshot holds: type, count of records, bytes (16 Table 16.7). -/
def dossierSnap (s : State) (status : Nat → Nat) (cs es : List Nat) : List (Nat × Nat × List Byte) :=
  let slots := s.slots.filter (fun e => cs.contains e.2.ctx && !e.2.ended)
  let qs := s.queues.filter (fun e => e.2.valid && cs.contains e.2.ctx)
  let objs := cs.flatMap (fun c => ((getC s c).sync.filter (fun e => e.2 != 0)).map (fun e => (c, e.1, e.2)))
  let cols := s.col.groups.flatMap (fun e => if cs.contains (e.1 / 16) then e.2.ops.map (fun x => (e.1, x)) else [])
  [(1, cs.length, cs.flatMap (fun c =>
      let x := getC s c
      dossierRec 1 32 [c, x.jobTag.toNat, partOf c, status c, x.stepCtr.toNat, x.launchNo, b2n x.step.isOpen,
        ((liveVal s 8 0x10 c).toNat * 1000000 - (s.aon - Tbl.get 0 s.rst.watch c)) / 1000000])),
   (2, es.length, es.flatMap (fun d => dossierRec 2 32 [d, domState s d])),
   (3, qs.length, qs.flatMap (fun e =>
      dossierRec 3 16 [e.1, e.2.fetch, e.2.done, e.2.tail, b2n e.2.enabled * 2 + b2n e.2.stopped * 4])),
   (4, slots.length, slots.flatMap (fun e =>
      dossierRec 4 24 ([e.1 / 512, e.1 % 512, e.2.host] ++ (List.range 4).flatMap (fun i =>
        let h := Tbl.get Shed.idle e.2.sheds i
        [h.pc.toNat, h.exec.toNat]) ++ [e.2.held.length + e.2.atomics.length]))),
   (6, cols.length, cols.flatMap (fun e =>
      dossierRec 6 16 ([e.1 / 16, e.1 % 16, e.2.op, e.2.axis] ++ e.2.seen.flatMap (fun x => [x.1, x.2.1, x.2.2.1])))),
   (7, objs.length, objs.flatMap (fun o => dossierRec 7 12 [o.1, o.2.1, o.2.2.toNat]))]

/-- The snapshots of a reset: one for each context at levels 0 and 1, else one of the whole domain (16 R555).  A level-0 reset of a
context that has ended already has that context's.
Log 93 (DEDUCED). -/
def snapshots (s : State) (r : ResetRun) : Tbl (List (Nat × Nat × List Byte)) :=
  let st := fun c => if (getC s c).ended then (getC s c).status else endStatus s r.level r.cause r.origin r.fn c
  let one := if r.level = 0 ∧ r.ctxs.isEmpty ∧ (getC s r.target).inUse then [r.target] else r.ctxs
  if r.fn.isSome then []
  else if r.level ≤ 1 then one.map (fun c => (c, dossierSnap s st [c] []))
  else [(0xFFFF, dossierSnap s st r.ctxs (if r.level ≥ 4 then allEngines else r.engines))]

/-- What the start of a reset of chip level or higher brings about at once: freezes end (20 R697), tile and vector issue
stop, and the device holds chip reset from here on (16 Table 16.10); with the rails off it stays in KEEP-ALIVE. -/
def chipRaise (s : State) : State :=
  let s := endFreeze s
  let s := if s.pci.up then forcedStop s else s
  { s with phase := if s.phase = .keepAlive ∨ s.phase = .thermWait then s.phase else .reset, axes := s.axes.map (fun e => (e.1, { e.2 with cmd := false })) }

/-- The installed pack (14 R478, R479). -/
def packBytes (s : State) : List Byte := s.brl.pack.getD Config.residentPack
/-- The identity of the installed pack (14 Table 14.3). -/
def packIdOf (s : State) : Nat := bytesAt (packBytes s) 8 4

/-- The payload of a Burling record (14 Table 14.9). -/
def brlPay (s : State) (cl item : Nat) (exp obs : Nat) (lastPass cls flags : Nat) : List Byte :=
  pay [(2, cl), (2, item), (4, packIdOf s), (8, exp), (8, obs), (8, lastPass), (1, cls),
       (1, if cl < 512 then clState s cl else 0), (1, flags)]

/-- The progress of Burling on a cluster. -/
def getB (s : State) (n : Nat) : BrlCl := Tbl.get BrlCl.init s.brl.cls n
/-- Change the progress of Burling on a cluster. -/
def updB (s : State) (n : Nat) (f : BrlCl → BrlCl) : State :=
  { s with brl := { s.brl with cls := Tbl.put s.brl.cls n (f (getB s n)) } }

/-- A slice ends at once under a fence (14 R504): SLICE_ABORTED; its position stays, its debt keeps the unused time. -/
def abortSlice (s : State) (n : Nat) : State :=
  match (getB s n).slice with
  | none => s
  | some x =>
    let used := 10000 * (s.aon - x.start)
    let s := updB s n (fun b => { b with slice := none, debt := b.debt - used })
    recordRaw s 0x5021 0 0x02 n (brlPay s n x.item 0 0 0 0 (b2n x.forced + 8 * b2n x.shared))

/-- The slices that a fence reaches end (14 R504): those of the enclosed clusters and of the slots of enclosed contexts. -/
def abortSlices (s : State) (level : Nat) (cs es : List Nat) : State :=
  (s.brl.cls.filter (fun e => e.2.slice.elim false (fun x => decide (level ≥ 4) || es.contains e.1 ||
    x.slot.elim false (fun k => cs.contains (getS s k).ctx)))).foldl (fun s e => abortSlice s e.1) s

/-- A reset in progress whose domain encloses the given one (16 R570). -/
def enclosing (s : State) (level : Nat) (cs es : List Nat) : Option Nat :=
  (s.rst.runs.find? (fun e => decide (e.2.level ≥ level) && e.2.fn.isNone &&
    (decide (e.2.level ≥ 4) || (cs.all (fun c => e.2.ctxs.contains c) && es.all (fun d => e.2.engines.contains d)
      && !(cs.isEmpty && es.isEmpty))))).map (·.1)

/-- Raise the fence of a reset (16 R553) and take its snapshot; the resets `inner` are taken over by it (R570), with what waits for
them and their flags. -/
def raiseRun (s : State) (r : ResetRun) (inner : Tbl ResetRun) : Nat × State :=
  let s := abortSlices (if r.level ≥ 4 then chipRaise s else s) r.level r.ctxs r.engines
  let id := s.rst.nextId
  let r := { r with escalated := r.escalated || inner.any (fun e => e.2.escalated),
                    overrun := r.overrun || inner.any (fun e => e.2.overrun),
                    restarted := r.restarted || inner.any (fun e => e.2.restarted), merged := !inner.isEmpty,
                    waiters := inner.flatMap (fun e => e.2.waiters) ++ r.waiters,
                    handlers := inner.flatMap (fun e => e.2.handlers) ++ r.handlers, snapshot := snapshots s r }
  (id, { s with rst := { s.rst with
           runs := Tbl.put (s.rst.runs.filter (fun e => !(inner.any (fun i => i.1 == e.1)))) id r, nextId := id + 1 } })

/-- Start a reset (16 R547): it raises its fence with the drain budget in effect (R552), takes the snapshot, and takes
over every reset that it encloses; inside the domain of one in progress it adds nothing and waits for that one (R570).
`more` are contexts that an escalated reset goes on enclosing.  Answers the number of the reset that will complete it. -/
def startReset (s : State) (level target cause : Nat) (engines more : List Nat) (origin : Nat) (esc ovr counts : Bool)
    (waiters : List (Nat × Nat)) (handlers : List Nat) : Nat × State :=
  let cs := (engines.flatMap (fun d => enclosedCtxs s 2 d) ++ more).foldl insertNat (enclosedCtxs s level target)
  let es := if engines.isEmpty then enclosedEngines s level target else engines
  match enclosing s level cs es with
  | some id =>
    let add := fun (r : ResetRun) => { r with waiters := r.waiters ++ waiters, handlers := r.handlers ++ handlers }
    (id, { s with rst := { s.rst with runs := s.rst.runs.map (fun e => if e.1 = id then (id, add e.2) else e) } })
  | none =>
    let inner := s.rst.runs.filter (fun e => decide (level ≥ 4) || (e.2.fn.isNone &&
      e.2.ctxs.all (fun c => cs.contains c) && e.2.engines.all (fun d => es.contains d) && decide (e.2.level ≤ level)))
    let run : ResetRun :=
      { level := level, target := target, cause := cause, ctxs := cs, engines := es, raised := s.gtc,
        budget := (liveVal s 8 0x11 0).toNat, drainEnd := none, completed := 0, aborted := 0,
        seqNo := s.rst.seq.toNat + 1, escalated := esc, overrun := ovr, restarted := false, merged := false, counts := counts,
        waiters := waiters, handlers := handlers, origin := origin, fn := none, snapshot := [] }
    raiseRun { s with rst := { s.rst with seq := s.rst.seq + 1 } } run inner

/-- Whether a level counts towards the service limit (16 R563). -/
def countsLevel (level : Nat) : Bool := decide (level ≥ 3)

/-- A chip reset (16 R547). -/
def chipReset (s : State) (cause : Nat) : State := (startReset s 4 0 cause [] [] 0xFFFF false false true [] []).2

/-- The partition that owns an engine's domain in effect; none for an engine owned by no partition (15 Table 15.7).
Log 87 (DEDUCED). -/
def engineOwner (s : State) (d : Nat) : Option Nat :=
  let p := if d < 1024 then groupOwner s (d % 512 / 8)
    else if d < 1088 then groupOwner s (d - 1024)
    else if 1103 ≤ d ∧ d ≤ 1114 then shutOwner s (d - 1103) else 8
  if p < 8 then some p else none

/-- The next level of the escalation ladder and its target (15 Table 15.7), from a level, its key and its engines.
Log 87 (DEDUCED). -/
def nextLevel (s : State) (level : Nat) (key : Key) : Nat × Nat × List Nat :=
  match level, key with
  | 0, .ctx c => (2, (enginesOf s c).headD 0xFFFF, enginesOf s c)
  | 1, .ctx c => (2, (enginesOf s c).headD 0xFFFF, enginesOf s c)
  | 2, .domain d => match engineOwner s d with
    | some p => (3, p, [])
    | none => (4, 0, [])
  | 2, .ctx c => (3, partOf c, [])
  | 3, _ => (4, 0, [])
  | 4, _ => (5, 0, [])
  | _, _ => (4, 0, [])

end Sys2Proof.Machine
end

