-- ==== Sys2Proof/Machine/Errors.lean ====
section
/-! DEFINITION. The error pipeline (15): the events' severities and kinds, queues and keys, acceptance with coalescing,
escalation, overflow and the safe state (R510 to R531), and the records of errors. -/

namespace Sys2Proof.Machine

/-- Events: code, severity, kind; part 0. -/
def evRows0 : List (Nat × Nat × Nat) := [
  (0x1001, 0, 0), (0x1002, 0, 0), (0x1010, 2, 2), (0x1011, 0, 0), (0x1020, 4, 1),
  (0x1021, 2, 2), (0x1030, 0, 0), (0x1031, 2, 1), (0x1040, 0, 0), (0x1041, 0, 0),
  (0x1042, 0, 0), (0x1050, 4, 1), (0x1060, 0, 0), (0x2001, 0, 0), (0x2002, 0, 0),
  (0x2003, 0, 0), (0x2010, 0, 0), (0x2011, 0, 0), (0x2020, 2, 1), (0x2021, 2, 1),
  (0x2030, 2, 1), (0x2031, 5, 5), (0x2032, 5, 5), (0x2040, 0, 0), (0x2041, 0, 0),
  (0x2050, 2, 1), (0x2051, 2, 1), (0x2052, 5, 1), (0x3001, 2, 1), (0x3002, 2, 2)]

/-- Events: code, severity, kind; part 1. -/
def evRows1 : List (Nat × Nat × Nat) := [
  (0x3003, 2, 2), (0x3004, 2, 2), (0x3005, 2, 2), (0x3010, 1, 0), (0x3011, 2, 2),
  (0x3012, 2, 2), (0x3020, 1, 0), (0x3021, 2, 2), (0x3022, 2, 2), (0x3023, 4, 2),
  (0x3024, 2, 2), (0x3030, 0, 0), (0x3031, 2, 1), (0x3040, 2, 1), (0x3050, 2, 1),
  (0x3051, 3, 2), (0x3060, 0, 0), (0x3061, 2, 1), (0x3062, 2, 2), (0x3063, 3, 2),
  (0x3064, 3, 2), (0x4001, 1, 0), (0x4002, 1, 0), (0x4003, 2, 1), (0x4004, 2, 1),
  (0x4010, 3, 1), (0x4011, 2, 1), (0x4020, 3, 1), (0x4030, 0, 0), (0x4031, 0, 0)]

/-- Events: code, severity, kind; part 2. -/
def evRows2 : List (Nat × Nat × Nat) := [
  (0x4032, 2, 1), (0x4033, 1, 0), (0x4040, 4, 1), (0x4041, 2, 1), (0x5001, 2, 1),
  (0x5002, 1, 0), (0x5003, 2, 2), (0x5004, 2, 2), (0x5010, 0, 0), (0x5011, 2, 2),
  (0x5012, 0, 0), (0x5020, 0, 0), (0x5021, 0, 0), (0x5022, 0, 0), (0x5023, 2, 1),
  (0x5030, 0, 0), (0x5031, 0, 0), (0x5032, 2, 1), (0x5033, 2, 2), (0x5034, 2, 2),
  (0x5040, 2, 1), (0x6001, 3, 1), (0x6002, 3, 2), (0x6010, 4, 1), (0x6020, 0, 2),
  (0x6021, 4, 2), (0x6022, 2, 1), (0x6030, 5, 2), (0x6031, 0, 2), (0x6032, 5, 2)]

/-- Events: code, severity, kind; part 3. -/
def evRows3 : List (Nat × Nat × Nat) := [
  (0x7001, 0, 0), (0x7002, 2, 1), (0x7003, 2, 1), (0x7004, 2, 1), (0x7005, 2, 1),
  (0x7011, 2, 1), (0x7020, 2, 1), (0x7021, 2, 2), (0x7030, 2, 1), (0x7031, 2, 1),
  (0x7041, 4, 1), (0x7042, 4, 1), (0x7050, 2, 1), (0x7051, 0, 0), (0x7052, 0, 0),
  (0x7053, 2, 1), (0x7054, 0, 0), (0x7055, 2, 1), (0x8001, 0, 0), (0x8010, 0, 0),
  (0x8011, 0, 0), (0x8020, 0, 0), (0x9001, 0, 0), (0x9002, 0, 0), (0x9003, 2, 1),
  (0x9010, 0, 0), (0x9011, 0, 0), (0x9012, 2, 1), (0x9013, 2, 1), (0x9014, 2, 1)]

/-- Events: code, severity, kind; part 4. -/
def evRows4 : List (Nat × Nat × Nat) := [
  (0x9015, 0, 0), (0x9020, 1, 0), (0x9021, 4, 1), (0x9022, 2, 1), (0x9030, 2, 1),
  (0x9040, 4, 1), (0xA001, 0, 0), (0xA002, 1, 0), (0xA003, 0, 0), (0xA010, 1, 0),
  (0xA011, 2, 1), (0xA012, 2, 1), (0xA020, 2, 1), (0xA030, 2, 1), (0xB001, 0, 0),
  (0xB002, 0, 0), (0xB003, 2, 1), (0xB004, 0, 0), (0xB005, 2, 1), (0xB010, 0, 0),
  (0xB020, 0, 0), (0xB030, 1, 0), (0xC001, 0, 0), (0xC002, 2, 1), (0xC003, 0, 0),
  (0xC004, 4, 1), (0xC005, 4, 1), (0xC010, 1, 0), (0xC011, 2, 1), (0xC012, 2, 1)]

/-- Events: code, severity, kind; part 5. -/
def evRows5 : List (Nat × Nat × Nat) := [
  (0xC013, 2, 1), (0xC014, 2, 1), (0xC015, 1, 0), (0xC016, 2, 1), (0xC017, 0, 0),
  (0xD001, 5, 5), (0xD002, 5, 5), (0xD003, 2, 1), (0xD004, 0, 0), (0xD005, 4, 2),
  (0xD006, 4, 2), (0xD007, 2, 2), (0xD008, 5, 1), (0xD010, 0, 0), (0xD020, 2, 1),
  (0xD021, 2, 2), (0xD022, 2, 1), (0xD023, 2, 1), (0xD030, 5, 1), (0xD040, 1, 0),
  (0xD041, 1, 0), (0xD042, 1, 0), (0xD043, 5, 1), (0xD044, 4, 1), (0xD045, 1, 0),
  (0xD046, 5, 1), (0xD050, 5, 4), (0xD052, 0, 2), (0xD053, 2, 1), (0xD054, 2, 2)]

/-- Events: code, severity, kind; part 6. -/
def evRows6 : List (Nat × Nat × Nat) := [
  (0xD055, 5, 4), (0xE001, 0, 3), (0xE002, 4, 3), (0xE004, 5, 3), (0xE005, 1, 3),
  (0xE006, 2, 3), (0xE007, 5, 3), (0xE008, 4, 3), (0xE010, 0, 2), (0xE021, 5, 3),
  (0xE030, 2, 3), (0xE031, 5, 3), (0xE032, 2, 3)]

/-- Every event of the tables: code, severity, and kind: 0 direct record, 1 entry, 2 H, 3 B, 4 S, 5 entry complete at
acceptance (15 Table 15.17, 19, 20 Table 20.7, 21 Table 21.11, 22 Table 22.7). -/
def evRows : List (Nat × Nat × Nat) := evRows0 ++ evRows1 ++ evRows2 ++ evRows3 ++ evRows4 ++ evRows5 ++ evRows6

/-- The severity and the kind of an event code; none for a code that no table lists.
Log 85 (DEDUCED). -/
def evInfo (code : Nat) : Option (Nat × Nat) := (evRows.find? (fun r => r.1 == code)).map (·.2)

/-- The priority queue of an entry: 0 to 3 for P0 to P3 (15 Table 15.6). -/
def queueOf (code sev : Nat) : Nat :=
  if sev = 5 then 0
  else if [0x3001, 0x3031, 0x3040, 0x3050, 0x3061].contains code then 1
  else if sev ≥ 3 then 2 else 3

/-- The key of an entry (15 Table 15.6).
Log 85 (DEDUCED). -/
def keyOf (code sev cls idx ctx domain : Nat) : Key :=
  if sev = 5 then .chip
  else if code = 0x3061 then .ctx ctx
  else if [0x3001, 0x3031, 0x3040, 0x3050].contains code then .cluster idx
  else if sev = 3 then .ctx ctx
  else if sev = 4 then .domain domain
  else .source cls idx

/-- The entries of queue Pn. -/
def entriesOf (p : Pipeline) (n : Nat) : List Entry :=
  match n with
  | 0 => p.q0
  | 1 => p.q1
  | 2 => p.q2
  | _ => p.q3

/-- Write the entries of queue Pn. -/
def setEntries (p : Pipeline) (n : Nat) (l : List Entry) : Pipeline :=
  match n with
  | 0 => { p with q0 := l }
  | 1 => { p with q1 := l }
  | 2 => { p with q2 := l }
  | _ => { p with q3 := l }

/-- Whether an entry is in a handler. -/
def inHandling (p : Pipeline) (id : Nat) : Bool := p.handlers.any (fun h => h.2.entry == id)

/-- An entry's handling is complete: it leaves its queue and frees its handler. -/
def finishEntry (s : State) (id : Nat) : State :=
  let drop := fun (l : List Entry) => l.filter (fun e => e.id != id)
  { s with err := { s.err with q0 := drop s.err.q0, q1 := drop s.err.q1, q2 := drop s.err.q2, q3 := drop s.err.q3,
                               handlers := s.err.handlers.filter (fun h => h.2.entry != id) } }

/-- Count one more in a table of counts of width `max`. -/
def bumpTbl (max : Nat) (t : Tbl Nat) (k : Nat) : Tbl Nat := Tbl.put t k (satAdd max (Tbl.get 0 t k) 1)

/-- The place of a report in the report queue's order: lower goes first (15 Table 15.9). -/
def reportRank (s : State) (r : Rec) : Nat :=
  if isFleet s then (if r.sev = 5 then 0 else if r.code / 4096 = 9 then 1 else 2 + (5 - r.sev)) else 5 - r.sev

/-- Put a report behind the reports of its rank. -/
def insertReport (s : State) (r : Rec) : List Rec → List Rec
  | [] => [r]
  | h :: t => if reportRank s r < reportRank s h then r :: h :: t else h :: insertReport s r t

/-- Place an entry in the report queue of 64 reports; the last of a full queue is folded into the count of its event
class (15 R531). -/
def addReport (s : State) (r : Rec) : State :=
  let l := insertReport s r s.err.reports
  match l.drop 64 with
  | [] => { s with err := { s.err with reports := l } }
  | x :: _ => { s with err := { s.err with reports := l.take 64, folded := bumpTbl 0xFFFFFFFF s.err.folded (x.code / 4096) } }

/-- The record and the report of an entry (15 R516, R530, R531) with the given flags. -/
def entryRecord (s : State) (code sev flags cls idx : Nat) (payload : List Byte) : State :=
  let (r, s) := formRec s code sev (8 + flags) cls idx payload
  addReport (hostRing (ringAdd s r) r) r

/-- Entry to the safe state (15 R527, Table 15.8): FAULT_L goes low, issue stops, entries of P1 to P3 complete without
action; the chip reset begins at once when no P0 entry is left, or when P0 itself is full (R529).
Log 86 (DEDUCED). -/
def enterSafe (s : State) (p0Full : Bool) (cause : Nat) : State :=
  if s.err.safe then s
  else
    let s := forcedStop s
    let hs := s.err.handlers.filter (fun h => h.2.queue == 0)
    let s := { s with err := { s.err with safe := true, q1 := [], q2 := [], q3 := [], handlers := hs } }
    if p0Full || s.err.q0.isEmpty then chipReset s cause else s

/-- An entry in handling goes on at a level of the ladder, under a fence of its own (15 R522, R526, R538): the reset it has so far, if
any, is taken over by the new one. -/
def raiseLevel (s : State) (h : Nat) (x : Handling) (lv tg : Nat) (es : List Nat) (ovr : Bool) : State :=
  let more := (s.rst.runs.filter (fun r => x.reset == some r.1)).flatMap (fun r => r.2.ctxs)
  let code := ((s.err.q0 ++ s.err.q1 ++ s.err.q2 ++ s.err.q3).find? (fun e => e.id == x.entry)).elim 0 (fun e => e.code)
  let (id, s) := startReset s lv tg code es more 0xFFFF true ovr (countsLevel lv) [] [h]
  { s with err := { s.err with handlers := Tbl.put s.err.handlers h { x with level := lv, taken := s.aon, reset := some id } } }

/-- Escalate an entry in handling (15 R522): ERR_ESCALATED, and its reset goes on at the next level. -/
def escalate (s : State) (h : Nat) (x : Handling) (ovr : Bool) : State :=
  let (lv, tg, es) := nextLevel s x.level x.key
  let s := recordRaw s 0xD052 0 0x0B (trdIdx s)
    (trdPay s 0xFFFF 0xFFFF 0 0xFF 0xFFFF 0xFFFF (x.level * 16 + lv) [])
  raiseLevel s h x lv tg es ovr

/-- Acceptance of an error of severity 2 to 5 (15 R516 to R528). `done` marks one that is complete at acceptance
(R519).
Log 86 (DEDUCED). -/
def acceptCore (s : State) (code sev cls idx ctx domain : Nat) (payload : List Byte) (done : Bool) : State :=
  let q := queueOf code sev
  let k := keyOf code sev cls idx ctx domain
  let es := entriesOf s.err q
  if s.err.safe ∧ sev < 5 then
    let s := entryRecord s code sev 0 cls idx payload
    { s with err := { s.err with overflow := bumpTbl 65535 s.err.overflow q } }
  else if done then
    let s := entryRecord s code sev 0 cls idx payload
    { s with err := { s.err with accepted := bumpTbl 0xFFFFFFFF s.err.accepted q } }
  else match es.find? (fun e => e.code == code && e.srcClass == cls && e.srcIndex == idx && e.ctx == ctx
        && !inHandling s.err e.id) with
    | some e =>
      let s := entryRecord s code sev 16 cls idx payload
      let es := (entriesOf s.err q).map (fun x => if x.id = e.id then { x with arrivals := x.arrivals + 1 } else x)
      let p := setEntries s.err q es
      { s with err := { p with coalesced := bumpTbl 65535 p.coalesced q } }
    | none =>
      match (if sev ≥ 3 then s.err.handlers.find? (fun h => h.2.key == k && decide (h.2.sev ≥ 3) && decide (h.2.level < 6)) else none) with
      | some (h, x) => escalate (entryRecord s code sev 32 cls idx payload) h x false
      | none =>
        if es.length ≥ 64 then
          let s := { s with err := { s.err with overflow := bumpTbl 65535 s.err.overflow q } }
          let ov := fun i => Nat.min 255 (Tbl.get 0 s.err.overflow i)
          let s := recordRaw s 0xD050 5 0x0B (trdIdx s)
            (trdPay s 0xFFFF 0xFFFF 0 0xFF 0xFFFF 0xFFFF 0xFF
              [(1, ov 0), (1, ov 1), (1, ov 2), (1, ov 3), (2, code), (1, q)])
          enterSafe s (q == 0) 0xD050
        else
          let s := entryRecord s code sev 0 cls idx payload
          let e : Entry := { id := s.err.nextId, code := code, sev := sev, srcClass := cls, srcIndex := idx, ctx := ctx,
                             domain := domain, key := k, arrivals := 1, payload := payload }
          let p := setEntries s.err q (entriesOf s.err q ++ [e])
          { s with err := { p with nextId := p.nextId + 1, accepted := bumpTbl 0xFFFFFFFF p.accepted q } }

/-- ERR_RING_FAIL for a write to the host error ring that has failed (15 R534). -/
def settleRing (s : State) : State :=
  if s.err.ringDue then
    acceptCore { s with err := { s.err with ringDue := false } } 0xD053 2 0x0B (trdIdx s) 0xFFFF 0xFFFF
      (trdPay s 0xFFFF 0xFFFF 0 0xFF 0xFFFF 0xFFFF 0xFF []) false
  else s

/-- A direct record (15 R510).
Log 85 (DEDUCED). -/
def record (s : State) (code sev cls idx : Nat) (payload : List Byte) : State :=
  settleRing (recordRaw s code sev cls idx payload)

/-- An entry of the pipeline (15 R516).
Log 85 (DEDUCED). -/
def accept (s : State) (code sev cls idx ctx domain : Nat) (payload : List Byte) : State :=
  settleRing (acceptCore s code sev cls idx ctx domain payload false)

/-- An entry whose action has already been taken (15 R519). -/
def acceptDone (s : State) (code sev cls idx : Nat) (payload : List Byte) : State :=
  settleRing (acceptCore s code sev cls idx 0xFFFF 0xFFFF payload true)

/-- Start a reset at the request of a command; a record of its start that the host ring refused is settled. -/
def beginReset (s : State) (level target cause : Nat) (waiters : List (Nat × Nat)) (handlers : List Nat) : Nat × State :=
  let (id, s) := startReset s level target cause [] [] 0xFFFF false false (countsLevel level) waiters handlers
  (id, settleRing s)

/-- A write to the host by function `f` (22 R748, R762): dropped while the link is down; without bus mastering or in
D3hot discarded and recorded.
Log 81, 120 (DEDUCED). -/
def hostWrite (s : State) (f addr : Nat) (bytes : List Byte) (cls : Nat) (ep : Bool) : State :=
  if !s.pci.up then s
  else if hostOk s f then sendHost s f addr bytes cls ep
  else accept s 0xC012 2 0x0A f 0xFFFF 0xFFFF
    (pay [(2, f), (1, s.pci.speed), (1, s.pci.width), (1, b2n s.pci.flit), (1, 0xFF), (2, 0xFFFF), (8, addr)])

/-- The payload of a host record (22 Table 22.8). -/
def pciPay (s : State) (f aer queue addr ended value : Nat) : List Byte :=
  pay [(2, f), (1, s.pci.speed), (1, s.pci.width), (1, b2n s.pci.flit), (1, aer), (2, queue), (8, addr), (4, 0), (2, 0),
       (2, ended), (4, value)]

end Sys2Proof.Machine
end

