-- ==== Sys2Proof/Machine/Programs.lean ====
section
/-! DEFINITION. Hexah programs (06 R207 to R214, 07 R242 to R252): the program in an execution slot, its registers, how an
instruction retires, and how a program ends. -/

namespace Sys2Proof.Machine

/-- The statuses of 06 Table 6.6. -/
def stOk : Nat := 0x0000
def stPrivilege : Nat := 0x0001
def stMalformed : Nat := 0x0002
def stSettingAccess : Nat := 0x0003
def stSettingUndef : Nat := 0x0004
def stCommitRefused : Nat := 0x0005
def stPowerDep : Nat := 0x0006
def stFuseTemp : Nat := 0x0007
def stCoppiceLimit : Nat := 0x0008
def stBudget : Nat := 0x0009
def stFailover : Nat := 0x000A
def stRefusedFenced : Nat := 0x000B
def stAbortedFenced : Nat := 0x000C
def stMemoryFault : Nat := 0x000D
def stPoison : Nat := 0x000E
def stFlushed : Nat := 0x000F
def stWaitTimeout : Nat := 0x0010

/-- Register h`r`; h0 reads zero (07 R242). -/
def Prog.reg (p : Prog) (r : BitVec 5) : Word64 := if r = 0 then 0 else Tbl.get 0 p.regs r.toNat
/-- Write h`r`; a write to h0 is discarded (07 R242). -/
def Prog.setReg (p : Prog) (r : BitVec 5) (v : Word64) : Prog :=
  if r = 0 then p else { p with regs := Tbl.put p.regs r.toNat v }

/-- Journal one event to a HOT standby (06 R217). -/
def jot (s : State) : State :=
  if s.trd.standby = 2 then { s with trd := { s.trd with journal := s.trd.journal + 1 } } else s

/-- Whether the active Treadle serves programs of queue `q`: a Treadle owns the device and the device is released; queue
1023 is also served in keep-alive and in the out-of-service hold (06 R197, R227, 16 R565).
Log 55 (DEDUCED). -/
def serves (s : State) (q : Nat) : Bool :=
  s.trd.owner && (decide (s.phase = .run) || (q == 1023 && (decide (s.phase = .keepAlive) || decide (s.phase = .oosHold))))

/-- The program in a slot that may issue an instruction now: it waits for nothing.
Log 12 (DEDUCED). -/
def running (s : State) (slot : BitVec 6) : Option Prog :=
  match getP s slot.toNat with
  | some p => if decide (p.wait = .none) && serves s p.queue then some p else none
  | none => none

/-- A record for an entry that never ran (06 Table 6.5): nothing retired, at index 0, result 0.
Log 38 (DEDUCED). -/
def CplRec.unrun (s : State) (e : CmdEntry) (status : Nat) : CplRec :=
  { tag := e.tag, status := status, gtcEnd := s.gtc, result := 0, retired := 0, faultAt := 0, cold := false,
    commit := false, irq := e.irq, stopOn := e.stopOn && status != stFlushed, reset := none }

/-- A queue is stopped (06 R204, R237, R238): it fetches and starts nothing until it is enabled again. -/
def stopQueue (s : State) (q : Nat) : State :=
  if (getQ s q).enabled then jot (updQ s q (fun d => { d with stopped := true })) else s

/-- Whether the context of a queue has ended or is gone (16 R567). -/
def ctxGone (s : State) (d : Queue) : Bool :=
  decide (d.ctx < 256) && (!(getC s d.ctx).inUse || (getC s d.ctx).ended)

/-- The entry at `done` ends without running: flushed, because its queue was disabled or its context has ended (06 R233,
Table 6.6, 16 R567), or with the status its fetch gave it, which for a failed CRC, an undefined kind or a length out of
range stops the queue (06 R237).
Log 38 (DEDUCED). -/
def settleQueue (s : State) (q : Nat) : State :=
  let d := getQ s q
  if !d.valid || d.running.isSome || d.pendRec.isSome then s
  else match d.entries with
    | [] => s
    | e :: t =>
      let put := fun (s : State) (st : Nat) =>
        jot (updQ s q (fun d => { d with entries := t, pendRec := some (CplRec.unrun s e st) }))
      if ctxGone s d ∨ e.bad = stFlushed then put s stFlushed
      else if e.bad ≠ 0 ∧ d.enabled ∧ !d.stopped then
        let s := put s e.bad
        if e.stops then record (stopQueue s q) 0xD021 2 0x11 q (trdPay s q 0xFFFF e.bad 0xFF 0xFFFF 0xFFFF 0xFF []) else s
      else s

/-- A program ends (06 R207 to R210, 07 R252): its staged set is dropped, its slot is free, and its completion record
waits to be issued. `faultAt` is 0xFFFF for OK. -/
def endWith (s : State) (slot : Nat) (p : Prog) (status faultAt : Nat) (rst : Option (Nat × Nat)) : State :=
  let r : CplRec :=
    { tag := p.tag, status := status, gtcEnd := s.gtc, result := p.reg 1, retired := BitVec.ofNat 32 p.retired,
      faultAt := if status = stOk then 0xFFFF else faultAt, cold := false, commit := p.committed, irq := p.irq,
      stopOn := p.stopOn, reset := rst }
  let s := jot (delP s slot)
  let s := updQ s p.queue (fun q => { q with running := none, pendRec := some r })
  let run := fun (r : ResetRun) => { r with waiters := r.waiters.filter (fun w => w.1 != slot) }
  { s with trd := { s.trd with tokenQ := dropNat s.trd.tokenQ slot },
           rst := { s.rst with runs := s.rst.runs.map (fun e => (e.1, run e.2)) },
           fuses := { s.fuses with prog := s.fuses.prog.filter (fun f => f.exec != slot) } }

/-- A program ends at the instruction it is at, with a status other than OK. -/
def endAt (s : State) (slot : BitVec 6) (p : Prog) (status : Nat) : State := endWith s slot.toNat p status p.index none

/-- The instruction at the program's index retires and the program goes to index `target`: one outside prog_len ends it
with MALFORMED, fault_at the instruction just executed (06 R241, 07 R251). -/
def retireTo (s : State) (slot : BitVec 6) (p : Prog) (target : Int) : State :=
  let p' := { p with retired := p.retired + 1 }
  if 0 ≤ target ∧ target < p.words then putP s slot.toNat { p' with index := target.toNat }
  else endWith s slot.toNat p' stMalformed p.index none

/-- The instruction retires and the program goes on with the next word. -/
def retire (s : State) (slot : BitVec 6) (p : Prog) : State := retireTo s slot p (p.index + 1)

/-- The instruction writes `v` to h`rd` and retires. -/
def retireRd (s : State) (slot : BitVec 6) (p : Prog) (rd : BitVec 5) (v : Word64) : State :=
  retire s slot (p.setReg rd v)

/-- Run an instruction of the program in a slot; a slot whose program issues nothing now is left as it is.
Log 11 (DESIGN CHOICE); 12 (DEDUCED). -/
def onProg (s : State) (slot : BitVec 6) (f : Prog → State) : State :=
  match running s slot with
  | some p => f p
  | none => s

/-- As `onProg`, for an instruction of lowest privilege `priv`: below it the program ends with PRIVILEGE (06 R212).
Log 42 (DEDUCED). -/
def onPriv (s : State) (slot : BitVec 6) (priv : Nat) (f : Prog → State) : State :=
  onProg s slot (fun p => if p.priv < priv then endAt s slot p stPrivilege else f p)

/-- The program keeps its slot and waits (07 R249); `p` has its index at the waiting instruction. -/
def parkOn (s : State) (slot : BitVec 6) (p : Prog) (w : WaitOn) : State := putP s slot.toNat { p with wait := w }

/-- A waiting program's instruction completes: it writes rd and retires. -/
def wakeRd (s : State) (n : Nat) (p : Prog) (rd : Nat) (v : Word64) : State :=
  retireRd s (BitVec.ofNat 6 n) { p with wait := .none } (BitVec.ofNat 5 rd) v

/-- Whether a context has work: a launch, or a program of one of its queues in a slot (16 R543).
Log 90 (DEDUCED). -/
def hasWork (s : State) (c : Nat) : Bool :=
  !(getC s c).launches.isEmpty || s.progs.any (fun e => (getQ s e.2.queue).ctx == c)

/-- The context's watchdog starts counting, or starts again at a progress event (16 R543, Table 16.2).
Log 90 (DEDUCED). -/
def watchRestart (s : State) (c : Nat) : State :=
  if c < 256 then { s with rst := { s.rst with watch := Tbl.put s.rst.watch c s.aon } } else s

end Sys2Proof.Machine
end

