-- ==== Sys2Proof/Machine/Hexah.lean ====
section
/-! DEFINITION. Hexah arithmetic, logic, constants and control flow (07 Tables 7.4 and 7.5, R250 to R252). -/

namespace Sys2Proof.Machine

/-- A three-register instruction: h`rd` = `op` h`ra` h`rb`. -/
def aluR (op : Word64 → Word64 → Word64) (slot : BitVec 6) (rd ra rb : BitVec 5) (s : State) :
    Host.Outcome State Fault Refusal :=
  .next (onProg s slot (fun p => retireRd s slot p rd (op (p.reg ra) (p.reg rb))))

/-- An instruction with an immediate, sign-extended (R246). -/
def aluI (op : Word64 → Word64 → Word64) (slot : BitVec 6) (rd ra : BitVec 5) (imm : Word32) (s : State) :
    Host.Outcome State Fault Refusal :=
  .next (onProg s slot (fun p => retireRd s slot p rd (op (p.reg ra) (sext32 imm))))

/-- A shift by an immediate from 0 to 63; another value is undefined and ends the program with MALFORMED (R245). -/
def shiftI (op : Word64 → Nat → Word64) (slot : BitVec 6) (rd ra : BitVec 5) (imm : Word32) (s : State) :
    Host.Outcome State Fault Refusal :=
  .next (onProg s slot (fun p =>
    if imm.toNat < 64 then retireRd s slot p rd (op (p.reg ra) imm.toNat) else endAt s slot p stMalformed))

/-- A conditional branch: the offset is signed and counts words from the branch itself (R246, R251). -/
def branchIf (cond : Word64 → Word64 → Bool) (slot : BitVec 6) (ra rb : BitVec 5) (off : Word32) (s : State) :
    Host.Outcome State Fault Refusal :=
  .next (onProg s slot (fun p =>
    retireTo s slot p (if cond (p.reg ra) (p.reg rb) then (p.index : Int) + off.toInt else (p.index : Int) + 1)))

/-- The high 64 bits of the unsigned 128-bit product. -/
def mulHigh (a b : Word64) : Word64 := BitVec.ofNat 64 (a.toNat * b.toNat / 2 ^ 64)
/-- Unsigned quotient; all ones for a divisor of zero (Table 7.4). -/
def divUnsigned (a b : Word64) : Word64 := if b = 0 then BitVec.allOnes 64 else a / b
/-- Unsigned remainder; the dividend for a divisor of zero (Table 7.4). -/
def remUnsigned (a b : Word64) : Word64 := if b = 0 then a else a % b
/-- The shift amount of a register: bits [5:0]. -/
def shAmt (b : Word64) : Nat := b.toNat % 64
/-- One or zero. -/
def boolWord (c : Bool) : Word64 := if c then 1 else 0

/-- ADD (Table 7.4). -/
def execAdd := aluR (fun a b => a + b)
/-- SUB (Table 7.4). -/
def execSub := aluR (fun a b => a - b)
/-- MUL: low 64 bits of the product (Table 7.4). -/
def execMul := aluR (fun a b => a * b)
/-- MULHU (Table 7.4). -/
def execMulhu := aluR mulHigh
/-- DIVU (Table 7.4). -/
def execDivu := aluR divUnsigned
/-- REMU (Table 7.4). -/
def execRemu := aluR remUnsigned
/-- AND (Table 7.4). -/
def execAnd := aluR (fun a b => a &&& b)
/-- OR (Table 7.4). -/
def execOr := aluR (fun a b => a ||| b)
/-- XOR (Table 7.4). -/
def execXor := aluR (fun a b => a ^^^ b)
/-- SHL by rb[5:0] (Table 7.4). -/
def execShl := aluR (fun a b => a <<< shAmt b)
/-- SHR by rb[5:0] (Table 7.4). -/
def execShr := aluR (fun a b => a >>> shAmt b)
/-- SAR by rb[5:0] (Table 7.4). -/
def execSar := aluR (fun a b => a.sshiftRight (shAmt b))
/-- SLT, signed (Table 7.4). -/
def execSlt := aluR (fun a b => boolWord (a.slt b))
/-- SLTU, unsigned (Table 7.4). -/
def execSltu := aluR (fun a b => boolWord (a.ult b))
/-- SEQ (Table 7.4). -/
def execSeq := aluR (fun a b => boolWord (a == b))
/-- ADDI (Table 7.4). -/
def execAddi := aluI (fun a b => a + b)
/-- ANDI (Table 7.4). -/
def execAndi := aluI (fun a b => a &&& b)
/-- ORI (Table 7.4). -/
def execOri := aluI (fun a b => a ||| b)
/-- XORI (Table 7.4). -/
def execXori := aluI (fun a b => a ^^^ b)
/-- SHLI (Table 7.4). -/
def execShli := shiftI (fun a n => a <<< n)
/-- SHRI (Table 7.4). -/
def execShri := shiftI (fun a n => a >>> n)
/-- SARI (Table 7.4). -/
def execSari := shiftI (fun a n => a.sshiftRight n)

/-- MOVI (Table 7.4). -/
def execMovi (slot : BitVec 6) (rd : BitVec 5) (imm : Word32) (s : State) : Host.Outcome State Fault Refusal :=
  .next (onProg s slot (fun p => retireRd s slot p rd (sext32 imm)))

/-- LDIH: the immediate, unsigned, above ra[31:0] (Table 7.4). -/
def execLdih := fun (slot : BitVec 6) (rd ra : BitVec 5) (imm : Word32) (s : State) =>
  (.next (onProg s slot (fun p =>
    retireRd s slot p rd ((imm.setWidth 64 <<< 32) ||| ((p.reg ra).setWidth 32).setWidth 64))) :
      Host.Outcome State Fault Refusal)

/-- GTC: the current GTC in ns (Table 7.4). -/
def execGtc (slot : BitVec 6) (rd : BitVec 5) (s : State) : Host.Outcome State Fault Refusal :=
  .next (onProg s slot (fun p => retireRd s slot p rd (w64 s.gtc)))

/-- BEQ (Table 7.5). -/
def execBeq := branchIf (fun a b => a == b)
/-- BNE (Table 7.5). -/
def execBne := branchIf (fun a b => a != b)
/-- BLT, signed (Table 7.5). -/
def execBlt := branchIf (fun a b => a.slt b)
/-- BGE, signed (Table 7.5). -/
def execBge := branchIf (fun a b => !(a.slt b))
/-- BLTU, unsigned (Table 7.5). -/
def execBltu := branchIf (fun a b => a.ult b)
/-- BGEU, unsigned (Table 7.5). -/
def execBgeu := branchIf (fun a b => !(a.ult b))

/-- JAL: rd = index + 1, jump by the offset (Table 7.5). -/
def execJal (slot : BitVec 6) (rd : BitVec 5) (off : Word32) (s : State) : Host.Outcome State Fault Refusal :=
  .next (onProg s slot (fun p => retireTo s slot (p.setReg rd (w64 (p.index + 1))) ((p.index : Int) + off.toInt)))

/-- JR: rd = index + 1, jump to index ra; ra is read before rd is written (Table 7.5). -/
def execJr (slot : BitVec 6) (rd ra : BitVec 5) (s : State) : Host.Outcome State Fault Refusal :=
  .next (onProg s slot (fun p => retireTo s slot (p.setReg rd (w64 (p.index + 1))) ((p.reg ra).toNat : Int)))

/-- END: the staged set is abandoned and the program ends with OK, h1 as its result (R252). -/
def execEndProg (slot : BitVec 6) (s : State) : Host.Outcome State Fault Refusal :=
  .next (onProg s slot (fun p => endWith s slot.toNat { p with retired := p.retired + 1 } stOk 0xFFFF none))

end Sys2Proof.Machine
end

