-- ==== Sys2Proof/Machine/Port.lean ====
section
/-! DEFINITION. Sending on a torus port (17 R579 to R585): flit-groups, messages, credits and the replay buffer. -/

namespace Sys2Proof.Machine

/-- Port `p`: 0 to 5 for X+, X−, Y+, Y−, Z+, Z−. -/
def getL (s : State) (p : Nat) : LinkPort := Tbl.get LinkPort.init s.links p
/-- Change port `p`. -/
def updL (s : State) (p : Nat) (f : LinkPort → LinkPort) : State := { s with links := Tbl.put s.links p (f (getL s p)) }

/-- The 272 bytes of a flit-group (Table 17.2). -/
def flitBytes (kind flags seq ack c0 c1 poison : Nat) (payload : List Byte) : List Byte :=
  let b := leBytes 1 kind ++ leBytes 1 flags ++ leBytes 2 seq ++ leBytes 2 ack ++ leBytes 1 c0 ++ leBytes 1 c1
    ++ leBytes 1 poison ++ zeros 3 ++ padTo 256 payload
  b ++ leBytes 4 (crc32c b).toNat

/-- Send one flit-group; it carries the last good sequence number and the credits to be returned (Table 17.2).
Log 10, 95 (DESIGN CHOICE). -/
def emit (s : State) (p kind flags seq poison : Nat) (payload : List Byte) : State :=
  let l := getL s p
  let c0 := Nat.min 255 l.owed0
  let c1 := Nat.min 255 l.owed1
  let s := updL s p (fun l => { l with owed0 := l.owed0 - c0, owed1 := l.owed1 - c1, sinceAlign := l.sinceAlign + 1 })
  { s with out := .link p kind (flitBytes kind flags seq l.seqRx c0 c1 poison payload) :: s.out }

/-- Send a sequenced flit-group: VC0 as DATA, VC1 as CTRL. -/
def emitFlit (s : State) (p : Nat) (f : LinkFlit) : State :=
  emit s p (if f.vc = 0 then 1 else 3) (f.vc + 2 * b2n f.first + 4 * b2n f.last) f.seq f.poison f.payload

/-- Send waiting flit-groups while credit and the replay buffer allow (R582, R583); VC1 goes before VC0.  `fuel` bounds the
number sent.
Log 96 (DEDUCED). -/
def pump (p : Nat) : Nat → State → State
  | 0, s => s
  | fuel + 1, s =>
    let l := getL s p
    if !l.up ∨ l.replay.length ≥ 512 then s
    else match (if l.cred1 = 0 then [] else l.wait1), (if l.cred0 = 0 then [] else l.wait0) with
      | f :: t, _ =>
        let f := { f with seq := l.seqTx }
        let s := updL s p (fun l => { l with wait1 := t, cred1 := l.cred1 - 1, seqTx := (l.seqTx + 1) % 65536,
                                             replay := l.replay ++ [f] })
        pump p fuel (emitFlit s p f)
      | [], f :: t =>
        let f := { f with seq := l.seqTx }
        let s := updL s p (fun l => { l with wait0 := t, cred0 := l.cred0 - 1, seqTx := (l.seqTx + 1) % 65536,
                                             replay := l.replay ++ [f] })
        pump p fuel (emitFlit s p f)
      | [], [] => s

/-- Send what can be sent on a port.
Log 96 (DEDUCED). -/
def pumpPort (s : State) (p : Nat) : State := pump p ((getL s p).wait0.length + (getL s p).wait1.length) s

/-- Data cut into payloads of 256 bytes. -/
def cut256 : Nat → List Byte → List (List Byte)
  | 0, _ => []
  | fuel + 1, l => if l.isEmpty then [] else padTo 256 (l.take 256) :: cut256 fuel (l.drop 256)

/-- The poison byte of the `i`-th payload, from the poisoned granules of the data. -/
def poisonByte (pois : List Nat) (i : Nat) : Nat :=
  (List.range 8).foldl (fun a g => a + bitIf (pois.contains (8 * i + g)) g) 0

/-- The flit-groups of a message: its first carries the fields (layout not given), the rest its data (R579, R585).
Log 14 (DESIGN CHOICE). -/
def messageFlits (vc kind : Nat) (fields : List Nat) (data : List Byte) (pois : List Nat) : List LinkFlit :=
  let h := (List.range 256).map (Config.linkByte kind fields)
  let ds := cut256 (data.length / 256 + 1) data
  ⟨0, vc, true, ds.isEmpty, 0, h⟩ ::
    (ds.zipIdx).map (fun e => ⟨0, vc, false, decide (e.2 + 1 = ds.length), poisonByte pois e.2, e.1⟩)

/-- Send a message on a port; it waits while the link is down, the replay buffer full or credit missing. -/
def linkSend (s : State) (p vc kind : Nat) (fields : List Nat) (data : List Byte) (pois : List Nat) : State :=
  let fs := messageFlits vc kind fields data pois
  pumpPort (updL s p (fun l => if vc = 0 then { l with wait0 := l.wait0 ++ fs } else { l with wait1 := l.wait1 ++ fs })) p

/-- The kinds of message, as the first argument of Config.linkByte. -/
def msgLinkOp : Nat := 1
def msgDone : Nat := 2
def msgReject : Nat := 3
def msgTime : Nat := 4
def msgTrain : Nat := 6
def msgPair : Nat := 0x10
def msgDigest : Nat := 0x11
def msgLocate : Nat := 0x12
def msgPairEnd : Nat := 0x13
def msgForm : Nat := 0x20
def msgGrant : Nat := 0x21
def msgPiece : Nat := 0x22
def msgChunk : Nat := 0x23
def msgAbort : Nat := 0x24
def msgBarrier : Nat := 0x25

/-- Resend every unacknowledged flit-group in order (R582).
Log 96 (DEDUCED). -/
def resend (s : State) (p : Nat) : State :=
  let l := getL s p
  let s := updL s p (fun l => { l with rounds := l.rounds + 1, resends := satAdd 0xFFFFFFFF l.resends l.replay.length })
  l.replay.foldl (fun s f => emitFlit s p f) s

end Sys2Proof.Machine
end

