-- ==== Sys2Proof/Machine/ColCore.lean ====
section
/-! DEFINITION. Collective groups and the abort of a collective (18 R607 to R609, R631, R634), and the payload of link records (17
Table 17.6). -/

namespace Sys2Proof.Machine

/-- Group `g` of context `c`. -/
def getG (s : State) (c g : Nat) : ColGroup := Tbl.get ColGroup.init s.col.groups (16 * c + g)
/-- Change a group. -/
def updG (s : State) (c g : Nat) (f : ColGroup → ColGroup) : State :=
  { s with col := { s.col with groups := Tbl.put s.col.groups (16 * c + g) (f (getG s c g)) } }

/-- COL.GROUP of a group (Table 18.2). -/
def groupWord (s : State) (c g : Nat) : Nat := (liveVal s 10 (0x100 + g) c).toNat
/-- The extent, offset and wrap of a group on an axis, and its key. -/
def gExt (v a : Nat) : Nat := bitsOf v (39 + 4 * a) (36 + 4 * a) + 1
def gOff (v a : Nat) : Nat := bitsOf v (23 + 4 * a) (20 + 4 * a)
def gWrap (v a : Nat) : Bool := v.testBit (4 + a)
def gKey (v : Nat) : Nat := bitsOf v 63 48
/-- The member count (R608). -/
def gSize (v : Nat) : Nat := gExt v 0 * gExt v 1 * gExt v 2
/-- The rank of a member (R608). -/
def gRank (v : Nat) : Nat := gOff v 0 + gExt v 0 * (gOff v 1 + gExt v 1 * gOff v 2)
/-- An offset at or above its extent (R609). -/
def gBad (v : Nat) : Bool := (List.range 3).any (fun a => decide (gExt v a ≤ gOff v a))

/-- The ports that lead to a group neighbour (R608, Table 18.2). -/
def gPorts (v : Nat) : List Nat :=
  (List.range 3).flatMap (fun a =>
    if gExt v a = 1 then []
    else (if gOff v a + 1 < gExt v a ∨ gWrap v a then [2 * a] else []) ++ (if 0 < gOff v a ∨ gWrap v a then [2 * a + 1] else []))

/-- The bytes of a collective's contribution and result elements (Table 18.5): input, wide, and dst. -/
def colBytes (f : Nat) : Nat := match f with | 2 | 3 | 4 => 1 | 5 | 6 => 2 | 7 | 8 => 4 | 9 | 10 => 8 | _ => 1
def colWide (f : Nat) : Nat := match f with | 2 | 5 | 6 => 4 | _ => 8
def colOut (f : Nat) (wide : Bool) : Nat := if !wide then colBytes f else if f = 3 ∨ f = 4 then 4 else colWide f

/-- The payload of a collective record (Table 18.9). -/
def colPay (s : State) (c g cause op fmt seq port alg bytes since : Nat) : List Byte :=
  let v := groupWord s c g
  pay [(2, c), (1, g), (1, cause), (2, gKey v), (1, op), (1, fmt), (8, seq), (1, port), (1, alg), (4, bytes),
       (4, Nat.min 0xFFFFFFFF (since / 1000)), (2, gSize v)]

/-- A record about a collective. -/
def colRec (s : State) (code c g : Nat) (x : Col) (cause port : Nat) : State :=
  record s code 0 0x08 (if port < 6 then port else 0xFFFF)
    (colPay s c g cause x.op x.format x.seq port x.alg (x.count * colBytes x.format) (s.aon - x.fetched))

/-- Send ABORT through every port that leads to a group neighbour (R631). -/
def sendAbort (s : State) (c g seq cause : Nat) : State :=
  let v := groupWord s c g
  (gPorts v).foldl (fun s p => linkSend s p 1 msgAbort [gKey v, seq, cause] [] []) s

/-- A member originates the abort of a collective (R631, R634): ABORT to its neighbours and COL_ABORT, unless `quiet` says that no
message is sent (R633). -/
def originate (s : State) (c g : Nat) (x : Col) (cause port : Nat) (quiet : Bool) : State :=
  let s := if quiet then s else updG (sendAbort s c g x.seq cause) c g (fun y => { y with aborts := y.aborts ++ [(x.seq, cause)] })
  colRec s 0x8001 c g x cause port

/-- Abort every collective of a group that has not ended (R631). -/
def abortGroup (s : State) (c g cause port : Nat) (quiet : Bool) : State :=
  let live := (getG s c g).ops.filter (fun x => x.fin.isNone)
  let s := updG s c g (fun y => { y with ops := y.ops.map (fun x =>
    if x.fin.isNone then { x with fin := some cause, orig := true } else x) })
  live.foldl (fun s x => originate s c g x cause port quiet) s

/-- A context that ends aborts its collectives in flight (16 R551): it writes no status word; its groups are gone. -/
def endCollectives (s : State) (c : Nat) : State :=
  let s := (List.range 16).foldl (fun s g => if (getG s c g).ops.isEmpty then s else abortGroup s c g 4 0xFF false) s
  { s with col := { s.col with groups := s.col.groups.filter (fun e => e.1 / 16 != c) } }

/-- The error bound in units of 1e-8 ns (17 R600): 0.4 ns + 0.15 ns a hop, and 0.05 ns a ms since the last exchange once
exchanges with a parent have stopped. -/
def rawBound (s : State) : Nat :=
  let t := s.time
  let base := 40000000 + 15000000 * t.hops
  if t.hops = 0 then 40000000
  else if t.parent < 6 ∧ s.aon ≤ t.last + 200000 then base else base + 5 * (s.aon - t.last)

/-- The error bound in units of 0.0625 ns, rounded up. -/
def timeBound (s : State) : Nat := Nat.min 0xFFFF ((rawBound s + 6249999) / 6250000)

end Sys2Proof.Machine
end

