-- ==== Sys2Proof/Machine/Xlat.lean ====
section
/-! DEFINITION. Partitions and addresses (09 R302 to R318): owners in effect, save areas, the four-level walk, the scratchpad
window, and reading and writing the places that addresses translate to, with poison (13 R453, R454). -/

namespace Sys2Proof.Machine

/-- The groups that a partition owns in effect. -/
def ownedGroups (s : State) (p : Nat) : List Nat := upTo 64 (fun g => groupOwner s g == p)
/-- The slices that a partition owns in effect. -/
def ownedSlices (s : State) (p : Nat) : List Nat := upTo 144 (fun k => sliceOwner s k == p)
/-- Whether a partition is defined (R304). -/
def partDefined (s : State) (p : Nat) : Bool :=
  (List.range 64).any (fun g => groupOwner s g == p) && (List.range 144).any (fun k => sliceOwner s k == p)
/-- The slot count of a partition (R304). -/
def slotCount (s : State) (p : Nat) : Nat := 8 * (ownedGroups s p).length
/-- The first byte of a partition's save area (R304): the top of its highest-numbered slice. -/
def saveArea (s : State) (p : Nat) : Nat :=
  ((ownedSlices s p).getLastD 0 + 1) * 0x40000000 - slotCount s p * 0x180000
/-- Whether device physical byte `pa` lies in a slice the partition owns in effect and outside its save area (R318). -/
def reachable (s : State) (p pa : Nat) : Bool :=
  decide (pa < hbmSize) && sliceOwner s (pa / 0x40000000) == p
    && !(decide (saveArea s p ≤ pa) && decide (pa / 0x40000000 = (ownedSlices s p).getLastD 0))

/-- The stack that holds device physical byte `pa`: 24 slices of 1 GiB each (01 Table 1.3).
Log 56 (DEDUCED). -/
def stackOf (pa : Nat) : Nat := pa / 0x40000000 / 24
/-- Whether the stack of byte `pa` can be accessed: its domain ON and not the SINGLE-CLUSTER state (03 R111). -/
def hbmUp (s : State) (pa : Nat) : Bool := domState s (1088 + stackOf pa) == 1 && !s.pwr.single

/-- How a translation ends. -/
inductive XRes where
  | ok (p : Place)
  | fault
  | poison
  | unavail
deriving DecidableEq, Repr

/-- The kinds of access that translation distinguishes. -/
inductive Access where
  | read
  | write
  | atomic
  | exec
deriving DecidableEq, Repr

/-- The walk from level `4 - n` with the table at `table` (R316 to R318, R335).
Log 59 (DEDUCED). -/
def walk (s : State) (c : Nat) (va : Nat) (k : Access) : Nat → Nat → XRes
  | 0, _ => .fault
  | n + 1, table =>
    let p := partOf c
    let sh := 12 + 9 * n
    let a := table + 8 * (va / 2 ^ sh % 512)
    if !reachable s p a then .fault
    else if !hbmUp s a then .unavail
    else if isPoison s a then .poison
    else
      let e := leNat (memGets s a 8)
      let leaf := e.testBit 4
      let base := bitsOf e 51 12 * 4096
      if !e.testBit 0 ∨ bitsOf e 63 52 ≠ 0 ∨ bitsOf e 11 5 ≠ 0 then .fault
      else if leaf then
        if n = 3 ∨ base % 2 ^ sh ≠ 0 then .fault
        else if (k = .write ∨ k = .atomic) ∧ !e.testBit 1 then .fault
        else if k = .exec ∧ !e.testBit 2 then .fault
        else
          let pa := base + va % 2 ^ sh
          if e.testBit 3 then .ok (.host (getC s c).fn pa)
          else if !reachable s p pa then .fault
          else if !hbmUp s pa then .unavail
          else .ok (.hbm pa)
      else if n = 0 ∨ e.testBit 3 then .fault
      else walk s c va k n base

/-- The launch of a context by number. -/
def launchOf (x : Ctx) (n : Nat) : Option Launch := x.launches.find? (fun l => l.number == n)

/-- Translate an address of context `c` (R313 to R318); `own` is the slot of the accessing thread, for the own-scratchpad
alias.
Log 59 (DEDUCED). -/
def xlat (s : State) (c : Nat) (va : Nat) (k : Access) (own : Option Nat) : XRes :=
  let p := partOf c
  let pad := fun (slot off : Nat) =>
    let x := getS s (slotKey p slot)
    match launchOf (getC s c) x.launch with
    | some l => if x.ctx = c ∧ !x.ended ∧ l.started ∧ off < l.scratch * 1024 then XRes.ok (.pad p slot off) else .fault
    | none => .fault
  if va < 0x800000000000 then
    let root := (liveVal s 5 0x200 c).toNat
    if root % 2 = 0 then .fault else walk s c va k 4 (bitsOf root 51 12 * 4096)
  else if va < 0x800020000000 then pad ((va - 0x800000000000) / 0x100000) (va % 0x100000)
  else if 0xFFFFFFF00000 ≤ va ∧ va < 0xFFFFFFFC0000 then
    match own with
    | some slot => pad slot (va - 0xFFFFFFF00000)
    | none => .fault
  else .fault

/-- The cell number of a place in device memory; host places have none. -/
def cellOf : Place → Option Nat
  | .hbm pa => some pa
  | .pad p s off => some (padBase p s + off)
  | .host _ _ => none

/-- A place `n` bytes further. -/
def Place.plus (p : Place) (n : Nat) : Place :=
  match p with
  | .hbm pa => .hbm (pa + n)
  | .pad a b off => .pad a b (off + n)
  | .host f b => .host f (b + n)

/-- Write bytes to device memory at cell `a` (13 R453): poisoned data poisons every granule touched, clean data clears
the granules it covers whole. -/
def storeCells (s : State) (a : Nat) (bytes : List Byte) (poisoned : Bool) : State :=
  let s := memPuts s a bytes
  (granules a bytes.length).foldl (fun s g =>
    if poisoned then setPoison s (g * 32)
    else if a ≤ g * 32 ∧ g * 32 + 32 ≤ a + bytes.length then clearPoison s (g * 32) else s) s

/-- Whether any granule of `n` bytes at cell `a` is poisoned. -/
def anyPoison (s : State) (a n : Nat) : Bool := (granules a n).any (fun g => s.mem.poison.contains g)

end Sys2Proof.Machine
end

