-- ==== Sys2Proof/Machine/CtxEnd.lean ====
section
/-! DEFINITION. The end of a context: its energy record (03 R112, R113), the removal of its work (16 Table 16.8), owner changes
that waited for it (09 R303), and the fault that ends one (09 R334, 10 R372, 15 Table 15.16). -/

namespace Sys2Proof.Machine

/-- The page of a place. -/
def pageOf : Place → Place
  | .hbm pa => .hbm (pa / 4096)
  | .pad p s off => .pad p s (off / 4096)
  | .host f b => .host f (b / 4096)

/-- Whether a place lies in an input range of the open step of context `c` (09 R327, R328). -/
def inStepRange (s : State) (c : Nat) (p : Place) : Bool :=
  let x := (getC s c).step
  x.isOpen && x.ranges.any (fun r => (List.range r.2).any (fun i =>
    match xlat s c (r.1 + 4096 * i) .read none with
    | .ok q => pageOf q == pageOf p
    | _ => false))

/-- The context other than `me` whose open step has the place in an input range: a write to it waits (09 R328).
Log 62 (DEDUCED). -/
def stepHolder (s : State) (me : Nat) (p : Place) : Option Nat := (liveCtxs s).find? (fun c => c != me && inStepRange s c p)

/-- Write bytes to a translated place at once; a host page takes a posted write in class `cls`, which records POISON_OUT when
it is poisoned (13 R457). -/
def placeWriteNow (s : State) (p : Place) (bytes : List Byte) (poisoned : Bool) (cls : Nat) : State :=
  match p with
  | .hbm pa => storeCells s pa bytes poisoned
  | .pad a b off => storeCells s (padBase a b + off) bytes poisoned
  | .host f bus =>
    let s' := hostWrite s f bus bytes cls poisoned
    if poisoned && hostOk s f then accept s' 0x4011 2 0x0A f 0xFFFF 0xFFFF (memPay 3 0xFF 0xFFFF bus 0 0xFFFF 6 0 0) else s'

/-- Write bytes to a translated place; a write to an input range of an open step waits for its commit point (09 R328).
Log 62 (DEDUCED). -/
def placeWrite (s : State) (p : Place) (bytes : List Byte) (poisoned : Bool) (cls : Nat) : State :=
  match stepHolder s 0xFFFF p with
  | some c => updC s c (fun x => { x with step := { x.step with waiting := x.step.waiting ++ [⟨p, bytes, poisoned⟩] } })
  | none => placeWriteNow s p bytes poisoned cls

/-- The fields of SYS.PLEACH of a context (11 Table 11.8): paired with a port that exists. -/
def pleach (s : State) (c : Nat) : Nat := (liveVal s 0 0x40 c).toNat
/-- Whether a context is paired. -/
def isPaired (s : State) (c : Nat) : Bool := decide (c < 256) && (pleach s c).testBit 0
/-- The port of a pair; 6 and 7 name none. -/
def pairPort (s : State) (c : Nat) : Nat := bitsOf (pleach s c) 7 5

/-- A paired context that ends sends PAIR_END (11 R408). -/
def sendPairEnd (s : State) (c : Nat) : State :=
  if isPaired s c && decide (pairPort s c < 6) then
    linkSend s (pairPort s c) 1 msgPairEnd [(getC s c).jobTag.toNat, c] [] []
  else s

/-- The owner that a map setting requests for resource `i`: 4 bits each from word `blk:idx` on (09 Table 9.2). -/
def ownerField (s : State) (blk idx i : Nat) : Nat :=
  ((liveVal s blk (idx + i / 16) 0).toNat >>> (4 * (i % 16))) % 16

/-- Whether a partition has a context that has not ended. -/
def hasCtx (s : State) (p : Nat) : Bool := decide (p < 8) && (liveCtxs s).any (fun c => partOf c == p)

/-- One owner map after the changes that wait for no context (09 R303). -/
def ownersNow (s : State) (t : Tbl Nat) (n blk idx : Nat) : Tbl Nat :=
  (List.range n).foldl (fun t i =>
    let cur := Tbl.get 0 t i
    let want := ownerField s blk idx i
    if cur = want ∨ hasCtx s cur then t else Tbl.put t i want) t

/-- Owner changes take effect for every resource whose owner in effect has no context (09 R303). -/
def settleOwners (s : State) : State :=
  let g := ownersNow s s.groupEff 64 4 0x50
  let k := ownersNow s s.sliceEff 144 5 0x50
  let h := ownersNow s s.shutEff 12 5 0x60
  { s with groupEff := g, sliceEff := k, shutEff := h }

/-- The queue that names a context's accounting ring (03 R113). -/
def acctQueue (s : State) (c : Nat) : Option (Nat × Queue) :=
  s.queues.find? (fun e => e.2.valid && e.2.ctx == c && e.2.acct != 0)

/-- Form an energy record of a context for the interval since the last one and write it to its accounting ring (03 R112,
R113, Table 3.10).  The energies are what the estimator measures: free values.
Log 13 (DESIGN CHOICE); 51 (DEDUCED). -/
def energyRecord (s : State) (c : Nat) (part killed : Bool) : State :=
  let x := getC s c
  let (ed, s) := takeFree s
  let (el, s) := takeFree s
  let (es, s) := takeFree s
  let (eb, s) := takeFree s
  let (cm, s) := takeFree s
  let flags := b2n (x.energy.stale || !s.pwr.stale.isEmpty) + 2 * b2n part + 4 * b2n (x.energy.gated || s.pwr.gating) + 8 * b2n killed
  let b := leBytes 4 x.jobTag.toNat ++ leBytes 2 c ++ leBytes 1 (partOf c) ++ leBytes 1 flags ++ leBytes 8 x.energy.start
    ++ leBytes 8 s.gtc ++ leBytes 8 ed.toNat ++ leBytes 8 el.toNat ++ leBytes 8 es.toNat ++ leBytes 8 eb.toNat
    ++ leBytes 4 cm.toNat
  let rec64 := b ++ leBytes 4 (crc32c b).toNat
  let s := updC s c (fun x => { x with energy := ⟨s.gtc, false, false⟩ })
  match acctQueue s c with
  | none => s
  | some (q, d) =>
    let n := let v := d.acct.toNat % 32; if v < 4 then 4 else if v > 16 then 16 else v
    let base := d.acct.toNat / 64 * 64
    let slot := base + 64 + 64 * (d.acctCnt % 2 ^ n)
    match xlat s c slot .write none, xlat s c base .write none with
    | .ok p1, .ok p0 =>
      let s := placeWrite s p1 rec64 false 2
      let s := placeWrite s p0 (leBytes 8 (d.acctCnt + 1) ++ zeros 56) false 2
      updQ s q (fun d => { d with acctCnt := d.acctCnt + 1 })
    | _, _ => s

/-- Programs that wait on an object of a context that has ended, end with ABORTED_FENCED (06 R233). -/
def abortWaiters (s : State) (c : Nat) : State :=
  s.progs.foldl (fun s e => match e.2.wait with
    | .object c' _ _ _ _ _ => if c' = c then endWith s e.1 e.2 stAbortedFenced e.2.index none else s
    | _ => s) s

/-- The checks of an ended context's tiles are abandoned; one whose outcome is decided keeps its repeat (12 R440). -/
def dropJobs (s : State) (c : Nat) : State :=
  let gone := s.chk.cls.flatMap (fun e => (e.2.jobs.filter (fun j => j.ctx == c && j.stage < 2)).map (·.entry))
  let s := { s with chk := { s.chk with cls := s.chk.cls.map (fun e =>
    (e.1, { e.2 with jobs := e.2.jobs.filter (fun j => !(j.ctx == c && j.stage < 2)) })) } }
  gone.foldl (fun s id => if inHandling s.err id then finishEntry s id else s) s

/-- The pair state of a context goes with it, but for the first divergence, which stays until it is created again (11 R406). -/
def keepFirst (t : Tbl Pair) (c : Nat) : Tbl Pair :=
  match (Tbl.get Pair.init t c).first with
  | some f => Tbl.put t c { Pair.init with first := some f }
  | none => Tbl.del t c

/-- The payload of CTX_FAULT_END (15 Table 15.16). -/
def faultPay (s : State) (c status addr slot shed lane host : Nat) (isIndex : Bool) : List Byte :=
  pay [(2, status), (2, c), (4, (getC s c).jobTag.toNat), (8, addr), (2, slot), (1, shed), (1, lane), (2, host),
       (1, partOf c), (1, b2n isIndex)]

/-- A context ends with a status (16 Table 16.8): held writes and atomics are discarded (01 R40), writes that waited for
its input ranges proceed (09 R328), triggers are disarmed (10 R371), its launches and slots are gone, its energy record is
written, CLU.CTX_STATUS holds the status.  It stays allocated until CTXDEL (16 R567).
CTX_FAULT_END is recorded at the end of a context whose entry is POISON_CONSUMED (15 Table 15.17).
Log 129 (DEDUCED). -/
def endCtx (s : State) (c status : Nat) (killed : Bool) : State :=
  let x := getC s c
  if !x.inUse || x.ended then s
  else
    let s := if s.esp.bound = some c then unbindEsp s else s
    let s := dropJobs (endCollectives (sendPairEnd s c) c) c
    let s := { s with slots := s.slots.filter (fun e => e.2.ctx != c), pairs := keepFirst s.pairs c }
    let s := energyRecord s c false killed
    let s := updC s c (fun x => { x with ended := true, status := status, launches := [], step := Step.closed, trigs := [] })
    let s := x.step.waiting.foldl (fun s w => placeWrite s w.place w.bytes w.poison 3) s
    let s := { s with rst := { s.rst with watch := Tbl.del s.rst.watch c },
                      shut := s.shut.map (fun e => (e.1, e.2.filter (fun o => o.ctx != c))),
                      pci := { s.pci with reads := s.pci.reads.filter (fun r => r.2.ctx != c) } }
    let s := settleOwners (abortWaiters s c)
    let a := x.faultAt
    let s := if status = 0x0113 then
        record s 0x4020 3 0x02 a.host (faultPay s c status a.addr a.slot a.shed a.lane a.host a.isIndex)
      else s
    s.queues.foldl (fun s e => if e.2.valid && e.2.ctx == c then settleQueue s e.1 else s) s

/-- The number of an ended context is free again (07 Table 7.8, CTXDEL): its queues flush what they hold (16 R567). -/
def freeCtx (s : State) (c : Nat) : State :=
  let s := jot { s with ctxs := Tbl.del s.ctxs c, pairs := Tbl.del s.pairs c, rst := { s.rst with watch := Tbl.del s.rst.watch c } }
  s.queues.foldl (fun s e => if e.2.valid && e.2.ctx == c then settleQueue s e.1 else s) s

/-- Every context ends with one status (03 Table 3.7, 05 Table 5.11, 16 Table 16.10). -/
def endAll (s : State) (status : Nat) : State := (liveCtxs s).foldl (fun s c => endCtx s c status true) s

/-- The payload of POISON_CONSUMED (13 Table 13.6): a register, or the memory that the address reaches. -/
def poisonPay (s : State) (c addr slot host : Nat) (isIndex : Bool) : List Byte :=
  let agent := if slot = 0xFFFF then 2 else 1
  if isIndex then memPay 5 0xFF host 0 0 c agent 0 0
  else match xlat s c addr .read (if slot = 0xFFFF then none else some slot) with
    | .ok (.hbm pa) => memPay 0 4 (stackOf pa) pa 0 c agent 0 0
    | .ok (.pad _ _ off) => memPay 1 4 host off 0 c agent 0 0
    | .ok (.host _ b) => memPay 3 0xFF 0xFFFF b 0 c agent 0 0
    | _ => memPay 0 4 0xFFFF 0 0 c 7 0 0

/-- A fault that ends context `c` with a status (09 R334, 10 R372, 13 R458): CTX_FAULT_END, or POISON_CONSUMED, enters the
pipeline, the context issues nothing more, and its handling ends it with the status.
Log 64 (DEDUCED). -/
def faultCtx (s : State) (c status addr slot shed lane host : Nat) (isIndex : Bool) : State :=
  let x := getC s c
  if !x.inUse || x.ended then s
  else
    let s := if x.fault = 0 then updC s c (fun x => { x with fault := status, faultAt := ⟨addr, slot, shed, lane, host, isIndex⟩ }) else s
    if status = 0x0113 then accept s 0x4010 3 0x02 host c 0xFFFF (poisonPay s c addr slot host isIndex)
    else accept s 0x4020 3 0x02 host c 0xFFFF (faultPay s c status addr slot shed lane host isIndex)

end Sys2Proof.Machine
end

