-- ==== Sys2Proof/Machine/EspBind.lean ====
section
/-! DEFINITION. The binding of Espalier (19 R643, R644, R651, R667). -/

namespace Sys2Proof.Machine

/-- Change Espalier. -/
def updX (s : State) (f : Esp → Esp) : State := { s with esp := f s.esp }

/-- Espalier holds the translation of ESP.PUBLISH[addr] of the bound context (R667). -/
def holdPublish (s : State) : State :=
  match s.esp.bound with
  | none => s
  | some c =>
    let v := (liveVal s 11 0x22 c).toNat
    let p := if v.testBit 0 then
        (match xlat s c (bitsOf v 47 8 * 256) .write none with
        | .ok p => some p
        | _ => none)
      else none
    updX s (fun e => { e with pubPlace := p })

/-- The fields of ESP.MODEL of a context, as a swap takes them (R651). -/
def modelFields (s : State) (c : Nat) (m : EspMap) : EspMap :=
  let v := (liveVal s 11 0x10 c).toNat
  { m with voxel := bitsOf v 7 0, slice := bitsOf v 31 16, unk := v.testBit 8 }

/-- Espalier is bound while enable is set, the context exists and domain 1102 is ON (R643); `commit` says that ESP.CTL has just been
committed.
Log 105 (DEDUCED). -/
def settleEsp (s : State) (commit : Bool) : State :=
  let v := (liveVal s 11 1 0).toNat
  let c := bitsOf v 15 8
  let exist := (getC s c).inUse && !(getC s c).ended
  let want := if v.testBit 0 ∧ exist ∧ domState s 1102 = 1 then some c else none
  let fail := commit && v.testBit 0 && !exist
  let s := if s.esp.bound = want then s else unbindEsp s
  let s := if fail then accept s 0x9003 2 0x09 0xFFFF 0xFFFF 0xFFFF (espPay s 0xFFFF 0 0xFFFF 0 0 0 0 0 0 0) else s
  match want, s.esp.bound with
  | some c, none =>
    let fn := (getC s c).fn
    let s := updX s (fun e => { e with bound := some c, pubSeq := 0, cycleNo := 0, late := true, front := modelFields s c EspMap.none,
                                       mail := if e.mailFn = fn then e.mail else List.replicate 256 0, mailFn := fn })
    record (holdPublish s) 0x9001 0 0x09 0xFFFF (espPay s 0xFFFF 0 0xFFFF 0 0 0 0 0 0 0)
  | _, _ => s

end Sys2Proof.Machine
end

