-- ==== Sys2Proof/Machine/Cluster.lean ====
section
/-! DEFINITION. Cluster states (14 Table 14.7, R502), placement of slots (09 R306), and the pins that follow from the state
(02 Table 2.4). -/

namespace Sys2Proof.Machine

/-- The home cluster of slot `k` of a partition (09 R306). -/
def homeOf (s : State) (p k : Nat) : Nat := 8 * (ownedGroups s p).getD (k / 8) 64 + k % 8

/-- The in-service clusters of a partition, ascending. -/
def serviceClusters (s : State) (p : Nat) : List Nat :=
  ((ownedGroups s p).flatMap (fun g => (List.range 8).map (fun i => 8 * g + i))).filter (clInService s)

/-- How many slots of the list `m` a cluster hosts. -/
def hosted (m : List Nat) (c : Nat) : Nat := (m.filter (· == c)).length

/-- The in-service cluster with the fewest slots, the lowest number breaking ties; none where none is in service.
Log 56 (DEDUCED). -/
def leastLoaded (m : List Nat) : List Nat → Option Nat
  | [] => none
  | c :: t => match leastLoaded m t with
    | none => some c
    | some d => if hosted m c ≤ hosted m d then some c else some d

/-- The host cluster of every slot of a partition (09 R306): its home where that is in service, else the in-service
cluster of the partition that hosts the fewest slots; 0xFFFF for a slot without a host.
Log 56 (DEDUCED). -/
def placement (s : State) (p : Nat) : List Nat :=
  let cs := serviceClusters s p
  let home := (List.range (slotCount s p)).map (fun k => (k, homeOf s p k))
  let m0 := (home.filter (fun e => cs.contains e.2)).map (·.2)
  (home.foldl (fun (acc : List Nat × List Nat) e =>
    if cs.contains e.2 then (acc.1 ++ [e.2], acc.2)
    else match leastLoaded acc.2 cs with
      | some c => (acc.1 ++ [c], acc.2 ++ [c])
      | none => (acc.1 ++ [0xFFFF], acc.2)) ([], m0)).1

/-- The host cluster of a slot now. -/
def hostOf (s : State) (p k : Nat) : Nat :=
  let x := getS s (slotKey p k)
  if !x.ended && decide (x.ctx < 256) then x.host
  else if k < slotCount s p then (placement s p).getD k 0xFFFF else 0xFFFF

/-- A slot's part of an open step starts again from STEP.BEGIN on the given host (09 R333, 10 R361): held writes and
atomics are discarded; every shed that has begun the step, and the tiles, are as they were at STEP.BEGIN. -/
def rewindSlot (x : Slot) (host : Nat) : Slot :=
  if x.snap.isEmpty then { x with host := host }
  else { x with host := host, held := [], atomics := [], sheds := x.snap.foldl (fun t e => Tbl.put t e.1 e.2) x.sheds,
                tiles := x.snapT, descRead := false, snap := [], snapT := [], tdig := BitVec.allOnes 64, locs := [],
                echo := x.snapE.foldl (fun t e => Tbl.put t e.1 e.2) x.echo,
                heard := x.snapH.foldl (fun t e => Tbl.put t e.1 e.2) x.heard }

/-- Whether a cluster runs a slot other than `k` now. -/
def runsOther (s : State) (n k : Nat) : Bool :=
  s.slots.any (fun e => e.1 != k && !e.2.ended && e.2.active && e.2.host == n)

/-- Slot `k` runs its part of the step again on a host: its operations of the step are dropped, and its tiles under check are no
longer used (10 R370). -/
def rerunOn (s : State) (k host : Nat) : State :=
  let s := updS s k (fun x => { rewindSlot x host with active := !runsOther s host k, saved := false })
  { s with shut := s.shut.map (fun e => (e.1, e.2.filter (fun o => o.trig.inStep.elim true (fun m => m.1 != k)))),
           chk := { s.chk with cls := s.chk.cls.map (fun e =>
             (e.1, { e.2 with jobs := e.2.jobs.map (fun j => if j.slot = k then { j with stale := true } else j) })) } }

/-- The slots hosted on a cluster that has left service move (09 R306, R333); their part of an open step runs again. -/
def remapFrom (s : State) (n : Nat) : State :=
  s.slots.foldl (fun s e =>
    let x := getS s e.1
    if x.host = n ∧ !x.ended then
      let p := e.1 / 512
      let m := (s.slots.filter (fun f => f.1 / 512 == p && !f.2.ended)).map (fun f => f.2.host)
      let h := (leastLoaded m (serviceClusters s p)).getD 0xFFFF
      if (getC s x.ctx).step.isOpen then rerunOn s e.1 h
      else putS s e.1 { x with host := h, active := !runsOther s h e.1, saved := x.saved && runsOther s h e.1 }
    else s) s

/-- The share at which the debt of a cluster grows, in units of 0.01% (14 R485, R486). -/
def shareOf (s : State) (n : Nat) : Nat :=
  let v := bitsOf (liveVal s 7 0x10 0).toNat 15 0
  if clState s n = 0 then v else if clState s n = 1 then Nat.min 500 (2 * v) else 0

/-- The debt limit of 5,760 µs and the 180 µs of a due slice, in units of 1e-4 ns (14 R486). -/
def debtMax : Nat := 57600000000
def debtDue : Nat := 1800000000

/-- The debt of a cluster as of now (14 R486).
Log 82 (DEDUCED). -/
def debtNow (s : State) (n : Nat) : Nat :=
  let b := getB s n
  if clState s n ≥ 2 then 0
  else Nat.min debtMax (b.debt + shareOf s n * (s.aon - Nat.max b.since s.brl.began))

/-- The debt of a cluster is brought up to now. -/
def settleDebt (s : State) (n : Nat) : State :=
  let d := debtNow s n
  updB s n (fun b => { b with debt := d, since := s.aon, defer := if d < debtDue then 0 else b.defer })

/-- Write BRL.CL_STATE of a cluster: state in bits [1:0], and the rest of the word as given; its debt up to now stands. -/
def writeClState (s : State) (n : Nat) (v : Word64) : State :=
  let s := settleDebt s n
  jot (putLive s 7 (0x400 + n) 0 v (setGen s 7 (0x400 + n) 0))

/-- The switch state of an axis (02 Table 2.9).
Log 23 (DEDUCED). -/
def axisState (s : State) (a : Nat) : Nat :=
  let x := Tbl.get Axis.init s.axes a
  if x.closeFail then 4 else if x.failed then 2 else if x.openFail then 3 else if x.cmd then 0 else 1

/-- Whether the switch of an axis is open. -/
def axisOpen (s : State) (a : Nat) : Bool := axisState s a == 0 || axisState s a == 4 || (Tbl.get Axis.init s.axes a).extest

/-- Change an axis. -/
def updAxis (s : State) (a : Nat) (f : Axis → Axis) : State := { s with axes := Tbl.upd Axis.init s.axes a f }

/-- The payload of a link record (17 Table 17.6). -/
def linkPay (s : State) (port cause skip old new ctx remote coord : Nat) : List Byte :=
  pay [(1, port), (1, cause), (1, skip), (1, s.time.state), (8, old), (8, new), (2, ctx), (2, remote), (4, coord),
       (2, timeBound s), (1, s.time.hops), (1, if port < 6 then axisState s (port / 2) else 0)]

/-- A record about a port or an axis alone. -/
def portPay (s : State) (port : Nat) : List Byte :=
  linkPay s port (if port < 6 then (getL s port).cause else 0) (if port < 6 then (getL s port).skip else 15)
    (if port < 6 then (getL s port).serial.toNat else 0) 0 0xFFFF 0xFFFF (if port < 6 then (getL s port).coord.toNat % 2 ^ 32 else 0)

/-- Withdraw every open command (03 Table 3.8): the switches close.
Log 123 (DEDUCED). -/
def closeAxes (s : State) : State := { s with axes := s.axes.map (fun e => (e.1, { e.2 with cmd := false })) }

/-- Command open the switch of an axis whose ports and the Reed passed start-up test, if no close cause holds (02 R67,
05 R175).
Log 123 (DEDUCED). -/
def openAxis (s : State) (a : Nat) : State :=
  let x := Tbl.get Axis.init s.axes a
  let bad := s.bist.failed.contains (1094 + 2 * a) || s.bist.failed.contains (1095 + 2 * a) || s.bist.failed.contains 1115
  if bad then
    if x.failed then s
    else
      let s := updAxis s a (fun x => { x with failed := true })
      record s 0x7021 2 0x07 (2 * a) (portPay s (2 * a))
  else if x.failed || x.openFail || x.closeFail || s.pwr.warn || s.phase != .run then s
  else updAxis s a (fun x => { x with cmd := true })

/-- FAULT_L is driven low: the device stays or is held in reset, scan is open, the chip is in its safe state, or a switch
failed to close (02 R51, R79, R85, 05 R172, R184, 15 Table 15.8, 16 R560, R565). -/
def faultLow (s : State) : Bool :=
  s.phase == .stay || s.phase == .oosHold || s.phase == .pcHeld || s.phase == .scan || s.phase == .strapBad
    || s.err.safe || (List.range 3).any (fun a => (Tbl.get Axis.init s.axes a).closeFail)

/-- PWR_CYCLE_REQ_L is driven low (04 R143, 16 R560). -/
def pcReqLow (s : State) : Bool := s.rst.pcReq || s.phase == .latched

/-- BYPASS_ST is driven low: all three switches are open (02 R72). -/
def bypassLow (s : State) : Bool := (List.range 3).all (fun a => axisOpen s a)

/-- PWR.STATE (03 Table 3.9). -/
def powerState (s : State) : Nat :=
  match s.phase with
  | .off => 0
  | .kaTest | .keepAlive | .thermWait | .latched | .strapBad => 1
  | .stay | .oosHold | .pcHeld | .scan => 4
  | .run | .reset | .test => if s.pwr.single then 3 else 2

/-- Whether tile and vector issue is stopped on every cluster (03 Table 3.8, 04 Table 4.5, 15 Table 15.8). -/
def issueStopped (s : State) : Bool := s.pwr.warn || s.err.safe || s.phase != .run

/-- Install the resident pack (14 R479, R508): PACK_RESIDENT. -/
def residentPack (s : State) : State :=
  let s := { s with brl := { s.brl with pack := none, packNo := s.brl.packNo + 1, packAt := s.gtc, curItem := 0 } }
  record s 0x5012 0 0x0B (trdIdx s) (brlPay s 0xFFFF 0xFFFF (bytesAt (packBytes s) 12 4) 0 0 0 0)

/-- The history of a cluster. -/
def getHist (s : State) (n : Nat) : ClHistory := Tbl.get ⟨[], [], []⟩ s.history n
/-- Change the history of a cluster. -/
def updHist (s : State) (n : Nat) (f : ClHistory → ClHistory) : State :=
  { s with history := Tbl.put s.history n (f (getHist s n)) }

/-- A day in ns. -/
def dayNs : Nat := 86400000000000

/-- Switch a cluster domain and its array OFF (14 R499, R500). -/
def clusterOff (s : State) (n : Nat) : State :=
  let s := if domState s n = 3 then s else putDom s n 0
  if domState s (512 + n) = 3 then s else putDom s (512 + n) 0

/-- A cluster becomes COPPICED (14 R500): domains OFF, CLU.COPPICE_BOOT, and COPPICE_HEADROOM_ZERO when 16 are excluded. -/
def coppice (s : State) (n cause : Nat) : State :=
  let s := writeClState s n (w64 (cause * 0x1000000 + bitsOf (liveVal s 7 (0x400 + n) 0).toNat 23 16 * 0x10000 + 3))
  let s := clusterOff s n
  let bist := { s.bist with bootCop := insertNat s.bist.bootCop n, excluded := insertNat s.bist.excluded n }
  let s := { s with bist := bist, deepQ := dropNat s.deepQ n }
  let s := record (remapFrom s n) 0x5030 0 0x02 n (brlPay s n 0xFFFF 0 0 0 0 0)
  if s.bist.excluded.length = 16 then recordRaw s 0x5034 2 0x02 n (brlPay s n 0xFFFF 0 0 0 0 0) else s

/-- A cluster is taken to QUARANTINED with a cause (14 Table 14.7), or, within 24 hours of a return to ACTIVE, to COPPICED
without a deep run; a rail or domain fault (cause 7) and a permanent one stay held (R499) until a deep run decides. -/
def quarantine (s : State) (n cause : Nat) : State :=
  if clState s n ≥ 2 then s
  else if (getHist s n).returns.any (fun t => decide (s.aon < t + dayNs)) then coppice s n cause
  else
    let held := if cause = 7 then 8 else 0
    let s := writeClState s n (w64 (cause * 0x1000000 + bitsOf (liveVal s 7 (0x400 + n) 0).toNat 23 16 * 0x10000 + held + 2))
    let s := if cause = 7 then s else { s with deepQ := dropNat s.deepQ n ++ [n] }
    let s := record (remapFrom s n) 0x5030 0 0x02 n (brlPay s n 0xFFFF 0 0 0 0 0)
    if cause = 7 then record (clusterOff s n) 0x5033 2 0x02 n (brlPay s n 0xFFFF 0 0 0 0 0) else s

/-- An ACTIVE cluster becomes SUSPECT (14 Table 14.7). -/
def suspect (s : State) (n : Nat) : State :=
  if clState s n = 0 then
    let s := writeClState s n (w64 (0x1000000 + bitsOf (liveVal s 7 (0x400 + n) 0).toNat 23 16 * 0x10000 + 1))
    record s 0x5030 0 0x02 n (brlPay s n 0xFFFF 0 0 0 0 0)
  else s

/-- Charge a cluster with a transient (12 R432, 14 Table 14.7): the third within 24 hours quarantines it, another makes an
ACTIVE cluster SUSPECT, and a charge spoils the fast rotation that would clear a SUSPECT one. -/
def charge (s : State) (n : Nat) : State :=
  let s := updHist s n (fun h => { h with
    transients := s.aon :: h.transients.filter (fun t => decide (s.aon < t + dayNs)) })
  let s := updB s n (fun b => { b with clean := 0 })
  if (getHist s n).transients.length ≥ 3 then quarantine s n 5 else suspect s n

end Sys2Proof.Machine
end

