-- ==== Sys2Proof/Machine/Access.lean ====
section
/-! DEFINITION. Reading memory (13): the syndrome classes of Table 13.2 with their counts and records, the table of corrected
granules (R450), host reads (22 R748, Table 22.6), and the memory operands of Hexah programs (06 R200, 07 R253). -/

namespace Sys2Proof.Machine

/-- An hour in ns. -/
def hourNs : Nat := 3600000000000

/-- The controller of a stack. -/
def getE (s : State) (k : Nat) : StackEcc := Tbl.get StackEcc.init s.ecc.hbm k
/-- Change the controller of a stack. -/
def updE (s : State) (k : Nat) (f : StackEcc → StackEcc) : State :=
  { s with ecc := { s.ecc with hbm := Tbl.put s.ecc.hbm k (f (getE s k)) } }

/-- MEM.ECC_RATE of a stack (13 Table 13.3): distinct corrected locations of the last hour. -/
def eccRate (s : State) (k : Nat) : Nat := ((getE s k).window.filter (fun t => decide (s.aon < t + hourNs))).length

/-- Enter or leave escalated scrub as the rate says (13 R464).
Log 80 (DEDUCED). -/
def settleScrub (s : State) (k : Nat) : State :=
  let e := getE s k
  let r := eccRate s k
  if !e.esc ∧ r > 240 then
    record (updE s k (fun e => { e with esc := true })) 0x4030 0 0x04 k (memPay 0 0xFF k 0 0 0xFFFF 0 8 r)
  else if e.esc ∧ r ≤ 120 then
    record (updE s k (fun e => { e with esc := false })) 0x4031 0 0x04 k (memPay 0 0xFF k 0 0 0xFFFF 0 0 r)
  else s

/-- A granule that its controller corrected enters the table of 256 (13 R450, R471): distinct within the hour it counts in
the rate; the third correction within 24 hours makes it a hard location.
Log 80 (DEDUCED). -/
def corrected (s : State) (g : Nat) : State :=
  let k := stackOf (g * 32)
  let e := getE s k
  let old := e.table.find? (fun l => l.granule == g)
  let times := (old.elim [] (·.times)).filter (fun t => decide (s.aon < t + dayNs))
  let fresh := !(times.any (fun t => decide (s.aon < t + hourNs)))
  let hard := old.elim false (·.hard)
  let now := s.aon :: times
  let entry : EccLoc := ⟨g, now.take 3, hard || decide (now.length ≥ 3)⟩
  let table := (entry :: e.table.filter (fun l => l.granule != g)).take 256
  let window := if fresh then s.aon :: e.window.filter (fun t => decide (s.aon < t + hourNs)) else e.window
  updE s k (fun e => { e with table := table, window := window })

/-- One granule of HBM decodes to a class (13 R447 to R450, R469): the state after the controller has acted.
Log 137 (DEDUCED). -/
def hbmDecode (s : State) (g : Nat) (c : SynClass) (ctx agent : Nat) : State :=
  let k := stackOf (g * 32)
  let a := g * 32
  let (syn, s) := takeFree s
  let scrub := b2n (agent == 0)
  let fix := fun (s : State) (code cls : Nat) =>
    let e := getE s k
    let known := e.table.find? (fun l => l.granule == g)
    let rep := known.elim false (fun l => l.times.any (fun t => decide (s.aon < t + hourNs)))
    let wasHard := known.elim false (·.hard)
    let s := corrected s g
    let isHard := ((getE s k).table.find? (fun l => l.granule == g)).elim false (·.hard)
    let fl := scrub + 2 * b2n rep + 4 * b2n isHard + 8 * b2n e.esc
    let p := fun fl => memPay 0 cls k a (syn.toNat % 2 ^ 24) ctx agent fl (eccRate s k)
    let s := record s code 1 0x04 k (p fl)
    let s := if isHard && !wasHard then record s 0x4033 1 0x04 k (p fl) else s
    settleScrub s k
  match c with
  | .clean | .poison => s
  | .data =>
    if isPoison s a then s
    else fix (updE s k (fun e => { e with cor := satAdd 0xFFFFFFFF e.cor 1 })) 0x4001 1
  | .check => fix (updE s k (fun e => { e with chk := satAdd 65535 e.chk 1 })) 0x4002 2
  | .uncorrectable =>
    let s := updE (setPoison s a) k (fun e => { e with
      ue := satAdd 65535 e.ue 1, recent := s.aon :: e.recent.filter (fun t => decide (s.aon < t + 1000000000)) })
    let p := memPay 0 3 k a (syn.toNat % 2 ^ 24) ctx agent (scrub + 8 * b2n (getE s k).esc) (eccRate s k)
    let s := accept s 0x4003 2 0x04 k ctx (1088 + k) p
    if (getE s k).recent.length > 64 ∧ domState s (1088 + k) ≠ 3 then
      accept (putDom s (1088 + k) 3) 0x4040 4 0x04 k 0xFFFF (1088 + k) p
    else s

/-- One granule of a scratchpad array decodes to a class (13 R447 to R451): `cell` is its place in memory, where a slot's
scratchpad holds it. -/
def padDecode (s : State) (cluster g : Nat) (cell : Option Nat) (c : SynClass) (ctx agent : Nat) : State :=
  let (syn, s) := takeFree s
  let p := fun cls => memPay 1 cls cluster (g * 32) (syn.toNat % 256) ctx agent (b2n (agent == 0)) 0
  let pois := cell.elim false (fun a => isPoison s a)
  match c with
  | .clean | .poison => s
  | .data =>
    if pois then s
    else record { s with ecc := { s.ecc with spCor := satAdd 0xFFFFFFFF s.ecc.spCor 1 } } 0x4001 1 0x03 cluster (p 1)
  | .check => record { s with ecc := { s.ecc with spChk := satAdd 65535 s.ecc.spChk 1 } } 0x4002 1 0x03 cluster (p 2)
  | .uncorrectable =>
    let s := cell.elim s (fun a => setPoison s a)
    let s := { s with ecc := { s.ecc with spUe := satAdd 65535 s.ecc.spUe 1 } }
    charge (accept s 0x4003 2 0x03 cluster ctx (512 + cluster) (p 3)) cluster

/-- The class that a read of an HBM granule meets: what the command lists, else what the memory holds.
Log 80 (DEDUCED). -/
def classOf (env : Env) (g : Nat) : SynClass := (env.ecc.find? (fun e => e.1 == g)).elim .clean (·.2)
/-- The class that a read of a scratchpad granule meets. -/
def padClass (env : Env) (cl g : Nat) : SynClass :=
  (env.spEcc.find? (fun e => e.1 == cl && e.2.1 == g)).elim .clean (fun e => e.2.2)

/-- Read `n` bytes of HBM from device physical address `a`: the bytes as delivered, and whether any granule of them is
poisoned.
Log 16 (DESIGN CHOICE). -/
def readHbm (s : State) (a n : Nat) (env : Env) (ctx agent : Nat) : (List Byte × Bool) × State :=
  let s := (granules a n).foldl (fun s g => match classOf env g with
    | .clean => s
    | c => hbmDecode s g c ctx agent) s
  ((memGets s a n, anyPoison s a n), s)

/-- Read `n` bytes of the scratchpad of a slot.
Log 16 (DESIGN CHOICE). -/
def readPad (s : State) (part slot off n : Nat) (env : Env) (ctx agent : Nat) : (List Byte × Bool) × State :=
  let cl := (getS s (slotKey part slot)).host
  let base := padBase part slot
  let s := (granules off n).foldl (fun s g => match padClass env cl g with
    | .clean => s
    | c => padDecode s cl g (some (base + 32 * g)) c ctx agent) s
  ((memGets s (base + off) n, anyPoison s (base + off) n), s)

/-- A status bit of AER is set (22 Table 22.6).
Log 5 (PRESUMED). -/
def setAer (s : State) (b : Nat) : State := { s with pci := { s.pci with aer := insertNat s.pci.aer b } }

/-- How a host read of function `f` ends (22 R748, Table 22.6, 13 R455): whether its data is poisoned, and the records.
Log 118 (DEDUCED). -/
def hostEnd (s : State) (f bus : Nat) (st : HostStatus) (ctx agent : Nat) : Bool × State :=
  let inp := fun (s : State) => accept s 0x4004 2 0x0A f ctx 0xFFFF (memPay 3 0xFF 0xFFFF bus 0 ctx agent 0 0)
  if !hostOk s f then (true, inp s)
  else match st with
    | .ok => (false, s)
    | .ep => (true, inp (setAer s 12))
    | .unsupported | .abort => (true, inp (accept s 0xC012 2 0x0A f ctx 0xFFFF (pciPay s f 0xFF 0xFFFF bus 0 0)))
    | .timeout =>
      let s := setAer { s with pci := { s.pci with cntTo := satAdd 65535 s.pci.cntTo 1 } } 14
      (true, inp (accept s 0xC011 2 0x0A f ctx 0xFFFF (pciPay s f 14 0xFFFF bus 0 0)))

/-- Read `n` bytes at a place; a host place takes its bytes from the command. -/
def readPlace (s : State) (p : Place) (n : Nat) (env : Env) (ctx agent : Nat) : (List Byte × Bool) × State :=
  match p with
  | .hbm pa => readHbm s pa n env ctx agent
  | .pad a b off => readPad s a b off n env ctx agent
  | .host f bus =>
    let (po, s) := hostEnd s f bus env.host.status ctx agent
    ((padTo n env.host.bytes, po), s)

/-- Bytes with their poison marks. -/
abbrev Marked := List (Byte × Bool)

/-- Read `n` bytes at a place, each marked with the poison of its granule (13 R452, R454). -/
def readMarked (s : State) (p : Place) (n : Nat) (env : Env) (ctx agent : Nat) : Marked × State :=
  let ((b, po), s) := readPlace s p n env ctx agent
  match cellOf p with
  | some a => ((b.zipIdx).map (fun e => (e.1, po && isPoison s (a + e.2))), s)
  | none => (b.map (fun x => (x, po)), s)

/-- Write marked bytes to device cells from `a` on: a granule that takes a poisoned byte is poisoned, one that is covered whole
by clean bytes is cleared (13 R453). -/
def storeMarked (s : State) (a : Nat) (l : Marked) : State :=
  let n := l.length
  let s := memPuts s a (l.map (·.1))
  (granules a n).foldl (fun s g =>
    let lo := if g * 32 < a then 0 else g * 32 - a
    let part := (l.drop lo).take (g * 32 + 32 - a - lo)
    if part.any (·.2) then setPoison s (g * 32)
    else if a ≤ g * 32 ∧ g * 32 + 32 ≤ a + n then clearPoison s (g * 32) else s) s

/-- Write marked bytes at a place; a write to the host carries EP when any of them is poisoned (13 Table 13.4). -/
def writeMarked (s : State) (p : Place) (l : Marked) (cls : Nat) : State :=
  match cellOf p with
  | some a => storeMarked s a l
  | none => placeWriteNow s p (l.map (·.1)) (l.any (·.2)) cls

/-- The page-table entries that a walk of `va` reads, from level `4 - n` on (09 R316).
Log 59 (DEDUCED). -/
def walkReads (s : State) (c va : Nat) : Nat → Nat → List Nat
  | 0, _ => []
  | n + 1, table =>
    let a := table + 8 * (va / 2 ^ (12 + 9 * n) % 512)
    if !reachable s (partOf c) a ∨ !hbmUp s a then []
    else
      let e := leNat (memGets s a 8)
      if !e.testBit 0 ∨ e.testBit 4 ∨ e.testBit 3 then [a] else a :: walkReads s c va n (bitsOf e 51 12 * 4096)

/-- Translate an address; the entries that the walk reads decode as the command lists them, as reads by the page walk (13
Table 13.6). -/
def xlatE (s : State) (c va : Nat) (k : Access) (own : Option Nat) (env : Env) : XRes × State :=
  let root := (liveVal s 5 0x200 c).toNat
  let s := if env.ecc.isEmpty ∨ va ≥ 0x800000000000 ∨ root % 2 = 0 then s
    else (walkReads s c va 4 (bitsOf root 51 12 * 4096)).foldl (fun s a => match classOf env (a / 32) with
      | .clean => s
      | x => hbmDecode s (a / 32) x c 7) s
  (xlat s c va k own, s)

/-- The translation of a queue's ring and program addresses (06 R200). -/
def queuePlace (s : State) (d : Queue) (addr : Nat) (k : Access) (env : Env) : XRes × State :=
  if d.priv = 0 then xlatE s d.ctx addr k none env
  else if d.devMem then
    if addr < hbmSize then (if hbmUp s addr then .ok (.hbm addr) else .unavail, s) else (.fault, s)
  else (.ok (.host d.fn addr), s)

/-- How a program's memory operand ends: its bytes, or the status that ends the program (07 R253). -/
inductive Oper where
  | ok (bytes : List Byte)
  | bad (status : Nat)
deriving DecidableEq, Repr

/-- Read `n` bytes for a queue from address `addr`, page by page (`fuel` pages). -/
def queueRead (d : Queue) (agent : Nat) : Nat → Nat → Nat → Env → List Byte → State → Oper × State
  | 0, _, _, _, acc, s => (.ok acc, s)
  | fuel + 1, addr, n, env, acc, s =>
    if n = 0 then (.ok acc, s)
    else if addr ≥ 2 ^ 64 then (.bad stMemoryFault, s)
    else
      let m := Nat.min n (4096 - addr % 4096)
      match queuePlace s d addr .read env with
      | (.ok p, s) =>
        let isHost := match p with
          | .host _ _ => true
          | _ => false
        if isHost && !s.pci.up then (.bad stMemoryFault, s)
        else
          let ((b, po), s) := readPlace s p m env d.ctx agent
          if po then (.bad stPoison, s)
          else
            let env := if isHost then { env with host := { env.host with bytes := env.host.bytes.drop m } } else env
            queueRead d agent fuel (addr + m) (n - m) env (acc ++ b) s
      | (.poison, s) => (.bad stPoison, faultCtx s d.ctx 0x0113 addr 0xFFFF 0xFF 0xFF 0xFFFF false)
      | (_, s) => (.bad stMemoryFault, s)

/-- Read a memory operand of the program of slot-program `p`: `n` bytes, aligned to `align` (07 R253). -/
def progRead (s : State) (p : Prog) (addr : Word64) (n align : Nat) (env : Env) : Oper × State :=
  if addr.toNat % align ≠ 0 then (.bad stMemoryFault, s)
  else queueRead (getQ s p.queue) 4 (n / 4096 + 2) addr.toNat n env [] s

/-- The places that `n` bytes of a queue's memory stand in, page by page; none where one cannot be translated for writing.
Log 35 (DEDUCED). -/
def queuePlaces (s : State) (d : Queue) (env : Env) : Nat → Nat → Nat → Option (List (Place × Nat))
  | 0, _, _ => some []
  | fuel + 1, addr, n =>
    if n = 0 then some []
    else if addr ≥ 2 ^ 64 then none
    else
      let m := Nat.min n (4096 - addr % 4096)
      match (queuePlace s d addr .write env).1 with
      | .ok (.host f b) =>
        if s.pci.up then (queuePlaces s d env fuel (addr + m) (n - m)).map (fun l => (.host f b, m) :: l) else none
      | .ok p => (queuePlaces s d env fuel (addr + m) (n - m)).map (fun l => (p, m) :: l)
      | _ => none

/-- Write bytes piece by piece to places. -/
def writePieces (s : State) (cls : Nat) : List (Place × Nat) → List Byte → State
  | [], _ => s
  | (p, m) :: t, b => writePieces (placeWrite s p (b.take m) false cls) cls t (b.drop m)

/-- No host data and no observed error.
Log 8 (DESIGN CHOICE). -/
def Env.quiet : Env := { host := { status := .ok, bytes := [] }, ecc := [], spEcc := [] }

/-- Write a memory operand of a program, or the status that ends it (07 R253). -/
def progWrite (s : State) (p : Prog) (addr : Word64) (bytes : List Byte) (align : Nat) : Except Nat State :=
  if addr.toNat % align ≠ 0 then .error stMemoryFault
  else match queuePlaces s (getQ s p.queue) Env.quiet (bytes.length / 4096 + 2) addr.toNat bytes.length with
    | some l => .ok (writePieces s 2 l bytes)
    | none => .error stMemoryFault

end Sys2Proof.Machine
end

