-- ==== Sys2Proof/Machine/Numerics.lean ====
section
/-! DEFINITION. Arithmetic (11): the formats of Table 11.2 as exact dyadic numbers, rounding once to nearest even, conversions
(Table 11.4), vector operations (R385, R386), the tile product (R379 to R382), the generator (R394) and CRC-64 (R400). -/

namespace Sys2Proof.Machine

/-- A floating-point datum: NaN, an infinity, or the finite number ±m·2^e (a zero keeps its sign). -/
inductive Fl where
  | nan
  | inf (neg : Bool)
  | fin (neg : Bool) (m : Nat) (e : Int)
deriving DecidableEq, Repr

/-- A floating-point format (Table 11.2): exponent and mantissa bits, bias, whether the top exponent is ordinary (0, FP4),
ordinary but for the NaN of E4M3 (1), or IEEE (2), and the canonical NaN. -/
structure Fmt where
  eb   : Nat
  mb   : Nat
  bias : Nat
  kind : Nat
  nan  : Nat
deriving DecidableEq, Repr

def fmtFp4 : Fmt := ⟨2, 1, 1, 0, 0⟩
def fmtE4M3 : Fmt := ⟨4, 3, 7, 1, 0x7F⟩
def fmtE5M2 : Fmt := ⟨5, 2, 15, 2, 0x7E⟩
def fmtBf16 : Fmt := ⟨8, 7, 127, 2, 0x7FC0⟩
def fmtFp16 : Fmt := ⟨5, 10, 15, 2, 0x7E00⟩
def fmtFp32 : Fmt := ⟨8, 23, 127, 2, 0x7FC00000⟩
def fmtFp64 : Fmt := ⟨11, 52, 1023, 2, 0x7FF8000000000000⟩

/-- The bits of a datum of a format. -/
def Fmt.bits (f : Fmt) : Nat := 1 + f.eb + f.mb

/-- The value that bits stand for. -/
def decodeF (f : Fmt) (v : Nat) : Fl :=
  let neg := v.testBit (f.eb + f.mb)
  let ex := v / 2 ^ f.mb % 2 ^ f.eb
  let man := v % 2 ^ f.mb
  let top := 2 ^ f.eb - 1
  if ex = top ∧ f.kind = 2 then (if man = 0 then .inf neg else .nan)
  else if ex = top ∧ f.kind = 1 ∧ man = 2 ^ f.mb - 1 then .nan
  else if ex = 0 then .fin neg man (1 - (f.bias : Int) - f.mb)
  else .fin neg (man + 2 ^ f.mb) ((ex : Int) - f.bias - f.mb)

/-- `m / 2^k` rounded to nearest, ties to even. -/
def rne (m k : Nat) : Nat :=
  let q := m / 2 ^ k
  let r := m % 2 ^ k
  if k = 0 then m
  else if 2 * r > 2 ^ k ∨ (2 * r = 2 ^ k ∧ q % 2 = 1) then q + 1 else q

/-- `m · 2^e` counted in units of `2^q`, rounded to nearest even. -/
def toGrid (m : Nat) (e q : Int) : Nat := if q ≤ e then m * 2 ^ (e - q).toNat else rne m (q - e).toNat

/-- The exponent field and mantissa of a finite nonzero magnitude rounded to a format; the exponent is unbounded above. -/
def roundMag (f : Fmt) (m : Nat) (e : Int) : Nat × Nat :=
  let top : Int := e + Nat.log2 m
  let emin : Int := 1 - f.bias
  let q : Int := (if top < emin then emin else top) - f.mb
  let n := toGrid m e q
  let (n, q) := if n ≥ 2 ^ (f.mb + 1) then (n / 2, q + 1) else (n, q)
  if n < 2 ^ f.mb then (0, n) else ((q + f.mb + f.bias).toNat, n - 2 ^ f.mb)

/-- The largest finite magnitude of a format as exponent field and mantissa. -/
def Fmt.maxMag (f : Fmt) : Nat × Nat :=
  match f.kind with
  | 0 => (2 ^ f.eb - 1, 2 ^ f.mb - 1)
  | 1 => (2 ^ f.eb - 1, 2 ^ f.mb - 2)
  | _ => (2 ^ f.eb - 2, 2 ^ f.mb - 1)

/-- Encode a value in a format, rounded once (R377, R378).  `sat`: none for arithmetic, whose overflow is an infinity;
else the conversion of Table 11.4 with CLU.NUMERICS[sat]. -/
def encodeF (f : Fmt) (sat : Option Bool) (x : Fl) : Nat :=
  let put := fun (neg : Bool) (ex man : Nat) => b2n neg * 2 ^ (f.eb + f.mb) + ex * 2 ^ f.mb + man
  let big := fun (neg : Bool) =>
    if sat = some true then put neg f.maxMag.1 f.maxMag.2
    else if f.kind = 2 then put neg (2 ^ f.eb - 1) 0 else f.nan
  match x with
  | .nan => f.nan
  | .inf neg => if f.kind = 2 then put neg (2 ^ f.eb - 1) 0 else big neg
  | .fin neg m e =>
    if m = 0 then put neg 0 0
    else
      let (ex, man) := roundMag f m e
      if ex > f.maxMag.1 ∨ (ex = f.maxMag.1 ∧ man > f.maxMag.2) then big neg else put neg ex man

/-- A signed finite number. -/
def Fl.ofInt (v : Int) (e : Int) : Fl := .fin (decide (v < 0)) v.natAbs e

/-- The exact sum; a zero sum of unlike signs is +0. -/
def flAdd (a b : Fl) : Fl :=
  match a, b with
  | .nan, _ => .nan
  | _, .nan => .nan
  | .inf x, .inf y => if x = y then .inf x else .nan
  | .inf x, _ => .inf x
  | _, .inf y => .inf y
  | .fin n1 m1 e1, .fin n2 m2 e2 =>
    let e := if e1 ≤ e2 then e1 else e2
    let v1 : Int := (m1 * 2 ^ (e1 - e).toNat : Nat)
    let v2 : Int := (m2 * 2 ^ (e2 - e).toNat : Nat)
    let v := (if n1 then -v1 else v1) + (if n2 then -v2 else v2)
    if v = 0 then .fin (n1 && n2) 0 0 else Fl.ofInt v e

/-- The exact product. -/
def flMul (a b : Fl) : Fl :=
  match a, b with
  | .nan, _ => .nan
  | _, .nan => .nan
  | .inf x, .inf y => .inf (x != y)
  | .inf x, .fin n m _ => if m = 0 then .nan else .inf (x != n)
  | .fin n m _, .inf y => if m = 0 then .nan else .inf (n != y)
  | .fin n1 m1 e1, .fin n2 m2 e2 => .fin (n1 != n2) (m1 * m2) (e1 + e2)

/-- The sign bit inverted. -/
def flNeg : Fl → Fl
  | .nan => .nan
  | .inf x => .inf (!x)
  | .fin n m e => .fin (!n) m e

/-- Whether `a` orders below `b`, neither a NaN; −0 orders below +0 (R386). -/
def flLt (a b : Fl) : Bool :=
  match a, b with
  | .inf x, .inf y => x && !y
  | .inf x, _ => x
  | _, .inf y => !y
  | .fin n1 m1 e1, .fin n2 m2 e2 =>
    match flAdd (.fin n1 m1 e1) (.fin (!n2) m2 e2) with
    | .fin n m _ => if m = 0 then n1 && !n2 else n
    | _ => false
  | _, _ => false

/-- minimumNumber of IEEE 754-2019 (R386). -/
def flMin (a b : Fl) : Fl :=
  match a, b with
  | .nan, y => y
  | x, .nan => x
  | x, y => if flLt y x then y else x

/-- maximumNumber of IEEE 754-2019 (R386). -/
def flMax (a b : Fl) : Fl :=
  match a, b with
  | .nan, y => y
  | x, .nan => x
  | x, y => if flLt x y then y else x

/-- A finite value rounded to the nearest integer, ties to even. -/
def flToInt (neg : Bool) (m : Nat) (e : Int) : Int :=
  let n : Int := (toGrid m e 0 : Nat)
  if neg then -n else n

/-- An integer kept within bounds. -/
def clampInt (lo hi v : Int) : Int := if v < lo then lo else if v > hi then hi else v

/-- The signed value of an `n`-bit pattern. -/
def sgn (n v : Nat) : Int := if v % 2 ^ n ≥ 2 ^ (n - 1) then (v % 2 ^ n : Nat) - (2 ^ n : Nat) else ((v % 2 ^ n : Nat) : Int)

/-- The `n`-bit pattern of an integer. -/
def unsgn (n : Nat) (v : Int) : Nat := (v % ((2 ^ n : Nat) : Int)).toNat

/-! ### Vector formats (10 Table 10.11) -/

/-- The float format of a vector format code: 0 FP32, 1 FP64, 2 BF16, 3 FP16; none for 4, INT32. -/
def vecFmt (k : Nat) : Option Fmt :=
  match k with
  | 0 => some fmtFp32
  | 1 => some fmtFp64
  | 2 => some fmtBf16
  | 3 => some fmtFp16
  | _ => none

/-- The bits of an element of a vector format. -/
def vecBits (k : Nat) : Nat :=
  match k with
  | 1 => 64
  | 2 => 16
  | 3 => 16
  | _ => 32

/-- The elements of a 128-bit operand, lane 0 in the low bits (R368). -/
def vecElems (k v : Nat) : List Nat := (List.range (128 / vecBits k)).map (fun i => v / 2 ^ (vecBits k * i) % 2 ^ vecBits k)

/-- The 128-bit operand of elements. -/
def vecPack (k : Nat) : List Nat → Nat
  | [] => 0
  | x :: t => x % 2 ^ vecBits k + 2 ^ vecBits k * vecPack k t

/-- One element converted from a vector format to another (VCVT, Table 11.4); none where the spec states no result: an
infinity to an integer.
Log 74 (DEDUCED). -/
def vecConvert (k d : Nat) (sat : Bool) (v : Nat) : Option Nat :=
  match vecFmt k, vecFmt d with
  | some f, some g => some (encodeF g (if d = 2 ∨ d = 3 then some sat else none) (decodeF f v))
  | some f, none => match decodeF f v with
    | .nan => some 0
    | .inf _ => none
    | .fin n m e => some (unsgn 32 (clampInt (-2147483648) 2147483647 (flToInt n m e)))
  | none, some g => some (encodeF g (if d = 2 ∨ d = 3 then some sat else none) (Fl.ofInt (sgn 32 v) 0))
  | none, none => some v

/-! ### Tile arithmetic (11 R379 to R384) -/

/-- The float format of an operand or accumulator tile format code (10 Table 10.4); none for the integer formats. -/
def tileFmt (t : Nat) : Option Fmt :=
  match t with
  | 1 => some fmtFp4
  | 3 => some fmtE4M3
  | 4 => some fmtE5M2
  | 5 => some fmtBf16
  | 6 => some fmtFp16
  | 7 => some fmtFp32
  | _ => none

/-- The bits of an element of a tile format (10 Table 10.4). -/
def tileBits (t : Nat) : Nat :=
  match t with
  | 0 | 1 => 4
  | 2 | 3 | 4 => 8
  | 5 | 6 => 16
  | _ => 32

/-- Whether a tile format is 16 bits wide and takes the window sum of R380. -/
def tileWide (t : Nat) : Bool := t == 5 || t == 6

/-- The value of a tile element as a datum. -/
def tileVal (t v : Nat) : Fl :=
  match tileFmt t with
  | some f => decodeF f v
  | none => Fl.ofInt (sgn (tileBits t) v) 0

/-- The dot product of one element: whether NaN, positive and negative infinities occur among its products, and the sum S as
a number of units of `2^e`. -/
structure Dot where
  nan  : Bool
  pinf : Bool
  ninf : Bool
  s    : Int
  e    : Int
deriving DecidableEq, Repr

/-- The largest exponent among nonzero finite products (Emax, R380). -/
def prodEmax (l : List Fl) : Option Int :=
  l.foldl (fun a x => match x with
    | .fin _ m e => if m = 0 then a else
      let t : Int := e + Nat.log2 m
      some (match a with
        | some v => if v < t then t else v
        | none => t)
    | _ => a) none

/-- The sum S of products (R379, R380, R382). -/
def dotOf (wide : Bool) (unit : Int) (l : List Fl) : Dot :=
  let q : Int := if wide then (match prodEmax l with
    | some e => e - 40
    | none => 0) else unit
  l.foldl (fun (d : Dot) x => match x with
    | .nan => { d with nan := true }
    | .inf n => if n then { d with ninf := true } else { d with pinf := true }
    | .fin n m e =>
      let v : Int := (toGrid m e q : Nat)
      { d with s := d.s + (if n then -v else v) }) ⟨false, false, false, 0, q⟩

/-- The unit of the exact form of a tile product of formats of 8 bits or fewer: 2^−32 (R379). -/
def tileUnit : Int := -32

/-- A new float accumulator element: md + S rounded once (R381, R382), S with `dev` units of error. -/
def accFloat (md : Nat) (d : Dot) (dev : Int) : Nat :=
  let a := decodeF fmtFp32 md
  let q := fun (x : Fl) => encodeF fmtFp32 none x
  match a with
  | .nan => fmtFp32.nan
  | _ =>
    if d.nan ∨ (d.pinf ∧ d.ninf) then fmtFp32.nan
    else match a with
      | .inf n =>
        if (n ∧ d.pinf) ∨ (!n ∧ d.ninf) then fmtFp32.nan else q (.inf n)
      | .fin n m e =>
        if d.pinf then q (.inf false)
        else if d.ninf then q (.inf true)
        else match flAdd (.fin n m e) (Fl.ofInt (d.s + dev) d.e) with
          | .fin n m e => if m = 0 then 0 else q (.fin n m e)
          | x => q x
      | .nan => fmtFp32.nan

/-- A new integer accumulator element (R381); S counts units of 2^−32 and a correct S has no fraction. -/
def accInt (md : Nat) (d : Dot) (dev : Int) : Nat := unsgn 32 (sgn 32 md + (d.s + dev) / 2 ^ 32)

/-- An accumulator element converted to the output format of a TST (R384).
Log 66 (DEDUCED). -/
def tileOut (acc out : Nat) (sat : Bool) (v : Nat) : Nat :=
  if acc = out then v
  else match tileFmt out with
    | some f => encodeF f (some sat) (decodeF fmtFp32 v)
    | none => unsgn 8 (clampInt (-128) 127 (sgn 32 v))

/-! ### CRC-64 (R400) -/

/-- CRC-64 with the polynomial of ECMA-182, reflected; `c` is the register between contributions. -/
def crc64 (c : Word64) (l : List Byte) : Word64 := crcRun 0xC96C5795D7870F42#64 c l

/-! ### AES-128 (FIPS 197, R394) -/

/-- The S-box, rows 0 to 7. -/
def sboxLo : List Nat := [
  0x63, 0x7c, 0x77, 0x7b, 0xf2, 0x6b, 0x6f, 0xc5, 0x30, 0x01, 0x67, 0x2b, 0xfe, 0xd7, 0xab, 0x76,
  0xca, 0x82, 0xc9, 0x7d, 0xfa, 0x59, 0x47, 0xf0, 0xad, 0xd4, 0xa2, 0xaf, 0x9c, 0xa4, 0x72, 0xc0,
  0xb7, 0xfd, 0x93, 0x26, 0x36, 0x3f, 0xf7, 0xcc, 0x34, 0xa5, 0xe5, 0xf1, 0x71, 0xd8, 0x31, 0x15,
  0x04, 0xc7, 0x23, 0xc3, 0x18, 0x96, 0x05, 0x9a, 0x07, 0x12, 0x80, 0xe2, 0xeb, 0x27, 0xb2, 0x75,
  0x09, 0x83, 0x2c, 0x1a, 0x1b, 0x6e, 0x5a, 0xa0, 0x52, 0x3b, 0xd6, 0xb3, 0x29, 0xe3, 0x2f, 0x84,
  0x53, 0xd1, 0x00, 0xed, 0x20, 0xfc, 0xb1, 0x5b, 0x6a, 0xcb, 0xbe, 0x39, 0x4a, 0x4c, 0x58, 0xcf,
  0xd0, 0xef, 0xaa, 0xfb, 0x43, 0x4d, 0x33, 0x85, 0x45, 0xf9, 0x02, 0x7f, 0x50, 0x3c, 0x9f, 0xa8,
  0x51, 0xa3, 0x40, 0x8f, 0x92, 0x9d, 0x38, 0xf5, 0xbc, 0xb6, 0xda, 0x21, 0x10, 0xff, 0xf3, 0xd2]

/-- The S-box, rows 8 to 15. -/
def sboxHi : List Nat := [
  0xcd, 0x0c, 0x13, 0xec, 0x5f, 0x97, 0x44, 0x17, 0xc4, 0xa7, 0x7e, 0x3d, 0x64, 0x5d, 0x19, 0x73,
  0x60, 0x81, 0x4f, 0xdc, 0x22, 0x2a, 0x90, 0x88, 0x46, 0xee, 0xb8, 0x14, 0xde, 0x5e, 0x0b, 0xdb,
  0xe0, 0x32, 0x3a, 0x0a, 0x49, 0x06, 0x24, 0x5c, 0xc2, 0xd3, 0xac, 0x62, 0x91, 0x95, 0xe4, 0x79,
  0xe7, 0xc8, 0x37, 0x6d, 0x8d, 0xd5, 0x4e, 0xa9, 0x6c, 0x56, 0xf4, 0xea, 0x65, 0x7a, 0xae, 0x08,
  0xba, 0x78, 0x25, 0x2e, 0x1c, 0xa6, 0xb4, 0xc6, 0xe8, 0xdd, 0x74, 0x1f, 0x4b, 0xbd, 0x8b, 0x8a,
  0x70, 0x3e, 0xb5, 0x66, 0x48, 0x03, 0xf6, 0x0e, 0x61, 0x35, 0x57, 0xb9, 0x86, 0xc1, 0x1d, 0x9e,
  0xe1, 0xf8, 0x98, 0x11, 0x69, 0xd9, 0x8e, 0x94, 0x9b, 0x1e, 0x87, 0xe9, 0xce, 0x55, 0x28, 0xdf,
  0x8c, 0xa1, 0x89, 0x0d, 0xbf, 0xe6, 0x42, 0x68, 0x41, 0x99, 0x2d, 0x0f, 0xb0, 0x54, 0xbb, 0x16]

/-- SubBytes of one byte. -/
def aesSub (v : Nat) : Nat := if v < 128 then sboxLo.getD v 0 else sboxHi.getD (v - 128) 0

/-- Multiplication by x in GF(2^8). -/
def aesXtime (v : Nat) : Nat := (2 * v % 256) ^^^ (if v ≥ 128 then 0x1b else 0)

/-- The next round key: 16 bytes and the round constant. -/
def aesNextKey (k : List Nat) (rc : Nat) : List Nat :=
  let g := fun i => k.getD i 0
  let t := [aesSub (g 13) ^^^ rc, aesSub (g 14), aesSub (g 15), aesSub (g 12)]
  let w0 := (List.range 4).map (fun i => g i ^^^ t.getD i 0)
  let w1 := (List.range 4).map (fun i => g (4 + i) ^^^ w0.getD i 0)
  let w2 := (List.range 4).map (fun i => g (8 + i) ^^^ w1.getD i 0)
  let w3 := (List.range 4).map (fun i => g (12 + i) ^^^ w2.getD i 0)
  w0 ++ w1 ++ w2 ++ w3

/-- SubBytes and ShiftRows of a block, column by column. -/
def aesSubShift (b : List Nat) : List Nat :=
  (List.range 16).map (fun i => aesSub (b.getD ((i + 4 * (i % 4)) % 16) 0))

/-- MixColumns of a block. -/
def aesMix (b : List Nat) : List Nat :=
  (List.range 16).map (fun i =>
    let g := fun j => b.getD (i / 4 * 4 + (i + j) % 4) 0
    aesXtime (g 0) ^^^ (aesXtime (g 1) ^^^ g 1) ^^^ g 2 ^^^ g 3)

/-- Rounds 11 - n to 10. -/
def aesRounds : Nat → List Nat → List Nat → Nat → List Nat
  | 0, b, _, _ => b
  | n + 1, b, k, rc =>
    let k := aesNextKey k rc
    let b := aesSubShift b
    let b := if n = 0 then b else aesMix b
    aesRounds n (List.zipWith (· ^^^ ·) b k) k (aesXtime rc)

/-- AES-128 encryption of a 16-byte block under a 16-byte key. -/
def aes128 (key block : List Nat) : List Nat := aesRounds 10 (List.zipWith (· ^^^ ·) block key) key 1

/-- The generator output for a counter under a seed (R394). -/
def generator (seed ctr : BitVec 128) : BitVec 128 :=
  let bytes := fun (v : BitVec 128) => (List.range 16).map (fun i => v.toNat / 256 ^ i % 256)
  BitVec.ofNat 128 ((aes128 (bytes seed) (bytes ctr)).foldr (fun b a => b + 256 * a) 0)

end Sys2Proof.Machine
end

