-- ==== Sys2Proof/Machine/SlotMem.lean ====
section
/-! DEFINITION. The memory that a slot sees (09 R329 to R332, 11 R397): held writes over memory, holding a write, held
atomics, and the entries of the replay hold buffer. -/

namespace Sys2Proof.Machine

/-- The number of a place's byte, by which held bytes are ordered: device cells, then host pages. -/
def placeKey : Place → Nat
  | .hbm pa => pa
  | .pad p s off => padBase p s + off
  | .host f b => 0x1000000000000 + f * 2 ^ 65 + b

/-- The latest held byte of a slot at a byte (the list is newest first). -/
def heldAt (x : Slot) (k : Nat) : Option HeldByte := x.held.find? (fun h => placeKey h.place == k)

/-- Whether the granule with first byte number `k` reads poisoned to the slot: a held poisoned byte poisons it, held clean bytes
that cover it clear it (13 R453). -/
def heldPoison (x : Slot) (base : Bool) (k : Nat) : Bool :=
  let hs := (List.range 32).map (fun i => heldAt x (k + i))
  if hs.any (fun h => h.elim false (·.poison)) then true
  else if hs.all (fun h => h.isSome) then false else base

/-- Lay a slot's held bytes over bytes read at a place (R329).
Log 61 (DEDUCED). -/
def overlay (x : Slot) (p : Place) (l : Marked) : Marked :=
  if x.held.isEmpty then l
  else
    let k := placeKey p
    (l.zipIdx).map (fun e =>
      let b := (heldAt x (k + e.2)).elim e.1.1 (·.byte)
      (b, heldPoison x e.1.2 ((k + e.2) / 32 * 32)))

/-- The place that a slot's thread reaches (11 R397): in a twin copy, the scratchpad of a primary slot stands for that of its
twin. -/
def twinPlace (s : State) (k : Nat) (x : Slot) (p : Place) : Place :=
  match x.twinOf, p with
  | some prim, .pad a sl off =>
    let y := getS s (slotKey a sl)
    if y.ctx = x.ctx ∧ !y.ended ∧ y.twinOf.isNone ∧ y.launch = x.launch then
      let n := slotCount s a
      .pad a ((sl + (k % 512 + n - prim % 512)) % (if n = 0 then 1 else n)) off
    else p
  | _, p => p

/-- Translate an address for a thread of slot `k` (09 R313 to R318, 11 R397). -/
def slotXlat (s : State) (k : Nat) (x : Slot) (va : Nat) (a : Access) (env : Env) : XRes × State :=
  match xlatE s x.ctx va a (some (k % 512)) env with
  | (.ok p, s) => (.ok (twinPlace s k x p), s)
  | r => r

/-- Whether the link that a place needs is down (09 Table 9.7). -/
def placeDown (s : State) (p : Place) : Bool :=
  match p with
  | .host _ _ => !s.pci.up
  | _ => false

/-- The entries of the replay hold buffer that a slot uses (R332): one for each line of its held writes and each held atomic,
and the lines of link operations held for the commit point (17 R586).
Log 61 (DEDUCED). -/
def holdEntries (s : State) (k : Nat) (x : Slot) : Nat :=
  let lines := x.held.foldl (fun l h => insertNat l (placeKey h.place / 64)) []
  let link := (s.shut.flatMap (·.2)).foldl (fun n o =>
    match o.trig.inStep, o.data with
    | some (k', _, _), some (d, _) => if k' = k then n + (d.length + 63) / 64 else n
    | _, _ => n) 0
  lines.length + x.atomics.length + link

/-- Hold marked bytes written at a place by a thread (R329, R330); an earlier byte of the same thread there is replaced.
Log 61 (DEDUCED). -/
def holdBytes (x : Slot) (p : Place) (l : Marked) (shed lane seq : Nat) : Slot :=
  (l.zipIdx).foldl (fun x e =>
    let q := p.plus e.2
    let k := placeKey q
    { x with held := ⟨q, e.1.1, e.1.2, shed, lane, seq⟩ ::
                       x.held.filter (fun h => !(placeKey h.place == k && h.shed == shed && h.lane == lane)) }) x

/-- Whether order key (slot, shed, lane, sequence) `a` comes before `b` (R330). -/
def keyLt (a b : Nat × Nat × Nat × Nat) : Bool :=
  if a.1 ≠ b.1 then decide (a.1 < b.1)
  else if a.2.1 ≠ b.2.1 then decide (a.2.1 < b.2.1)
  else if a.2.2.1 ≠ b.2.2.1 then decide (a.2.2.1 < b.2.2.1)
  else decide (a.2.2.2 < b.2.2.2)

/-- The bytes that become visible of the held writes of slots, by byte number: of several the one of the highest slot, shed and
lane, and of one thread the last (R330). -/
def finalBytes (l : List (Nat × Slot)) : Tbl (HeldByte × Nat) :=
  l.foldl (fun t e => e.2.held.foldl (fun t h =>
    let k := placeKey h.place
    match t.find? (fun f => f.1 == k) with
    | some (_, (o, so)) =>
      if keyLt (so, o.shed, o.lane, o.seq) (e.2.logical, h.shed, h.lane, h.seq) then Tbl.put t k (h, e.2.logical) else t
    | none => Tbl.put t k (h, e.2.logical)) t) []

/-- Consecutive bytes of a table of final bytes as runs within a page: the first place and the bytes. -/
def runsOf : Tbl (HeldByte × Nat) → List (Nat × Place × Marked)
  | [] => []
  | (k, (h, _)) :: t =>
    match runsOf t with
    | (k', p', l) :: r =>
      if k' = k + 1 ∧ k' % 4096 ≠ 0 then (k, h.place, (h.byte, h.poison) :: l) :: r
      else (k, h.place, [(h.byte, h.poison)]) :: (k', p', l) :: r
    | [] => [(k, h.place, [(h.byte, h.poison)])]

/-- Apply the held writes of slots of context `c` (R329, R330): poisoned bytes are committed poisoned (13 R460); what reaches an
input range of another context's open step waits for that step (R328). -/
def applyHeld (s : State) (c : Nat) (l : List (Nat × Slot)) : State :=
  (runsOf (finalBytes l)).foldl (fun s r => match stepHolder s c r.2.1 with
    | some o => updC s o (fun x =>
        { x with step := { x.step with waiting := x.step.waiting ++ [⟨r.2.1, r.2.2.map (·.1), r.2.2.any (·.2)⟩] } })
    | none => writeMarked s r.2.1 r.2.2 3) s

/-- The value that an atomic leaves (10 R351): operations 0 to 9 integer, 16 to 18 FP32 add, min, max, 19 BF16-pair add. -/
def atomicValue (op width : Nat) (old val cmp : Word64) : Word64 :=
  let n := 8 * width
  let m := 2 ^ n
  let a := old.toNat % m
  let b := val.toNat % m
  let w := fun (v : Nat) => BitVec.ofNat 64 (v % m)
  match op with
  | 0 => w (a + b)
  | 1 => w (if sgn n a ≤ sgn n b then a else b)
  | 2 => w (if sgn n a ≤ sgn n b then b else a)
  | 3 => w (if a ≤ b then a else b)
  | 4 => w (if a ≤ b then b else a)
  | 5 => w (a &&& b)
  | 6 => w (a ||| b)
  | 7 => w (a ^^^ b)
  | 8 => w b
  | 9 => w (if a = cmp.toNat % m then b else a)
  | 16 => w (encodeF fmtFp32 none (flAdd (decodeF fmtFp32 a) (decodeF fmtFp32 b)))
  | 17 => w (encodeF fmtFp32 none (flMin (decodeF fmtFp32 a) (decodeF fmtFp32 b)))
  | 18 => w (encodeF fmtFp32 none (flMax (decodeF fmtFp32 a) (decodeF fmtFp32 b)))
  | _ =>
    let h := fun (i : Nat) => encodeF fmtBf16 none
      (flAdd (decodeF fmtBf16 (a / 2 ^ (16 * i) % 65536)) (decodeF fmtBf16 (b / 2 ^ (16 * i) % 65536)))
    w (h 0 + 65536 * h 1)

/-- Perform an atomic on device memory: the old value, whether it was poisoned, and the state (10 R351, 13 R453).
Log 69 (DEDUCED). -/
def atomicNow (s : State) (p : Place) (op width : Nat) (val cmp : Word64) (pois : Bool) (env : Env) (ctx : Nat) :
    (Word64 × Bool) × State :=
  let (l, s) := readMarked s p width env ctx 1
  let old := w64 (leNat (l.map (·.1)))
  let po := l.any (·.2)
  let new := atomicValue op width old val cmp
  ((old, po), writeMarked s p ((leBytes width new.toNat).map (fun b => (b, pois || po))) 3)

/-- Insert an atomic into a list ordered by `lt`. -/
def insertAtomic (lt : HeldAtomic × Nat → HeldAtomic × Nat → Bool) (a : HeldAtomic × Nat) :
    List (HeldAtomic × Nat) → List (HeldAtomic × Nat)
  | [] => [a]
  | h :: t => if lt a h then a :: h :: t else h :: insertAtomic lt a t

/-- Apply the held atomics of slots after the held writes (R331): with ordered in ascending slot, shed, lane and program order,
else in the order in which they were issued.
Log 61 (DEDUCED). -/
def applyAtomics (s : State) (l : List (Nat × Slot)) (ordered : Bool) (ctx : Nat) : State :=
  let all := l.flatMap (fun e => e.2.atomics.map (fun a => (a, e.2.logical)))
  let lt := fun (a b : HeldAtomic × Nat) =>
    if ordered then keyLt (a.2, a.1.shed, a.1.lane, a.1.seq) (b.2, b.1.shed, b.1.lane, b.1.seq)
    else decide (a.1.seq < b.1.seq)
  (all.foldl (fun t a => insertAtomic lt a t) []).foldl (fun s a =>
    (atomicNow s a.1.place a.1.op a.1.width a.1.val a.1.cmp a.1.pois Env.quiet ctx).2) s

/-- The write half of a slot digest (11 R400): held lines in ascending address with their final bytes, then the held atomics in
the order of R331; a poisoned line contributes all ones (13 R460).  Addresses are those of the primary copy.
Log 14 (DESIGN CHOICE). -/
def writeDigest (k : Nat) (x : Slot) : Word64 :=
  let norm := fun (n : Nat) => match x.twinOf with
    | some prim => if padBase (k / 512) (k % 512) ≤ n ∧ n < padBase (k / 512) (k % 512) + 0x100000
      then n - padBase (k / 512) (k % 512) + padBase (k / 512) (prim % 512) else n
    | none => n
  let fin := finalBytes [(k, x)]
  let lines := fin.foldl (fun l e => insertNat l (e.1 / 64)) []
  let c := lines.foldl (fun c ln =>
    let bs := fin.filter (fun e => e.1 / 64 == ln)
    let body : List Int := if bs.any (fun e => e.2.1.poison) then [-1]
      else bs.flatMap (fun e => [((e.1 % 64 : Nat) : Int), ((e.2.1.byte.toNat : Nat) : Int)])
    crc64 c (Config.digestBytes 1 (((norm (ln * 64) : Nat) : Int) :: body))) (BitVec.allOnes 64)
  let lt := fun (a b : HeldAtomic × Nat) => keyLt (0, a.1.shed, a.1.lane, a.1.seq) (0, b.1.shed, b.1.lane, b.1.seq)
  let ats := (x.atomics.map (fun a => (a, 0))).foldl (fun t a => insertAtomic lt a t) []
  ats.foldl (fun c a => crc64 c (Config.digestBytes 2
    [((norm (placeKey a.1.place) : Nat) : Int), ((a.1.op : Nat) : Int), ((a.1.width : Nat) : Int),
     ((a.1.val.toNat : Nat) : Int), ((a.1.cmp.toNat : Nat) : Int)])) c ^^^ BitVec.allOnes 64

/-- The 128-bit digest of a slot (11 R400): the tile half above the write half.
Log 14 (DESIGN CHOICE); 72 (DEDUCED). -/
def slotDigest (k : Nat) (x : Slot) : Nat :=
  (x.tdig ^^^ BitVec.allOnes 64).toNat * 2 ^ 64 + (writeDigest k x).toNat

end Sys2Proof.Machine
end

