-- ==== Sys2Proof/Machine/Sync.lean ====
section
/-! DEFINITION. Sync objects, triggers and the operations of the memory and link Shuttles (10 R364 to R367, R371, R374, 09 R328,
17 R584 to R586). -/

namespace Sys2Proof.Machine

/-- A sync object of a context. -/
def syncGet (s : State) (c o : Nat) : Word64 := Tbl.get 0 (getC s c).sync o

/-- The engine of a trigger: memory Shuttles 0 to 11, link Shuttles 12 to 17 in port order. -/
def Trig.eng (t : Trig) : Nat := if t.kind = 0x10 then 12 + t.engine else t.engine
/-- The domain of an engine (03 Table 3.3). -/
def engineDom (e : Nat) : Nat := if e < 12 then 1103 + e else 1094 + (e - 12)
/-- Source, destination and length of an operation (10 Table 10.10, 17 Table 17.3). -/
def Trig.src (t : Trig) : Nat := bytesAt t.raw 16 8
def Trig.dst (t : Trig) : Nat := bytesAt t.raw 24 8
def Trig.len (t : Trig) : Nat := bytesAt t.raw 32 8

/-- The operations fired to an engine, in firing order. -/
def engineQ (s : State) (e : Nat) : List Xfer := Tbl.get [] s.shut e
/-- Write the operations of an engine. -/
def putEngine (s : State) (e : Nat) (l : List Xfer) : State := { s with shut := Tbl.put s.shut e l }

/-- The first host page that `n` bytes from `va` meet: its function and bus address.
Log 120 (DEDUCED). -/
def hostSource (s : State) (c va n : Nat) : Option (Nat × Nat) :=
  (List.range ((va % 4096 + n + 4095) / 4096)).findSome? (fun i =>
    match xlat s c (if i = 0 then va else va / 4096 * 4096 + 4096 * i) .read none with
    | .ok (.host f b) => some (f, b)
    | _ => none)

/-- The operation at the front of an engine begins: one whose source lies in host memory sends its read (22 R745). -/
def startOp (s : State) (e : Nat) : State :=
  match engineQ s e with
  | x :: t =>
    if x.tag.isSome || x.data.isSome || x.trig.kind == 2 then s
    else match hostSource s x.ctx x.trig.src x.trig.len with
      | some (f, b) =>
        if hostOk s f then
          let n := s.pci.nextTag
          let r : HostRead := { ctx := x.ctx, fn := f, bus := b, len := x.trig.len, engine := e }
          let s := { s with pci := { s.pci with reads := Tbl.put s.pci.reads n r, nextTag := n + 1 } }
          putEngine s e ({ x with tag := some n } :: t)
        else s
      | none => s
  | [] => s

/-- An operation is fired to its engine behind those fired before it (10 R366); of a fenced context it is refused (16 Table 16.5). -/
def enqueue (s : State) (c : Nat) (t : Trig) : State :=
  if isFenced s c then s
  else
  let q := engineQ s t.eng
  startOp (putEngine s t.eng (q ++ [⟨c, t, none, none⟩])) t.eng

/-- A sync object takes a value; triggers whose condition becomes true fire in arming order, at once or, while a step of the
context is open, at its commit point (10 R366, R367).  A fired trigger is disarmed. -/
def syncPut (s : State) (c o : Nat) (v : Word64) : State :=
  let x := getC s c
  let hit := fun (t : Trig) => t.object == o && decide (t.thresh.toNat ≤ v.toNat)
  let fired := x.trigs.filter hit
  let s := putC s c { x with sync := Tbl.put x.sync o v, trigs := x.trigs.filter (fun t => !hit t),
                             step := if x.step.isOpen then { x.step with firing := x.step.firing ++ fired } else x.step }
  if x.step.isOpen then s else fired.foldl (fun s t => enqueue s c t) s

/-- Increment an object by 1; none named, or a context that has ended, increments nothing (10 R371). -/
def syncBump (s : State) (c o : Nat) : State :=
  if o < 256 ∧ (getC s c).inUse ∧ !(getC s c).ended then syncPut s c o (syncGet s c o + 1) else s

/-- How a Shuttle access ends before its last byte: the status and the address. -/
abbrev ShutFail := Option (Nat × Nat)

/-- The status of a failed translation (09 Table 9.7, R335). -/
def xlatStatus : XRes → Nat
  | .poison => 0x0113
  | .unavail => 0x0108
  | _ => 0x0101

/-- Bytes that a Shuttle reads for context `c` from `va` on, in pieces of one page (`fuel` pages).
Log 81 (DEDUCED). -/
def shutRead (c agent : Nat) : Nat → Nat → Nat → Env → Marked → State → (Marked × ShutFail) × State
  | 0, _, _, _, acc, s => ((acc, none), s)
  | fuel + 1, va, n, env, acc, s =>
    if n = 0 then ((acc, none), s)
    else
      let m := Nat.min n (4096 - va % 4096)
      match xlatE s c va .read none env with
      | (.ok p, s) =>
        if placeDown s p then ((acc, some (0x0108, va)), s)
        else
          let (l, s) := readMarked s p m env c agent
          let env := match p with
            | .host _ _ => { env with host := { env.host with bytes := env.host.bytes.drop m } }
            | _ => env
          shutRead c agent fuel (va + m) (n - m) env (acc ++ l) s
      | (r, s) => ((acc, some (xlatStatus r, va)), s)

/-- Write marked bytes for a Shuttle to `va` on; of an operation that is part of a step they are held writes of its slot (10
R367). -/
def shutWrite (c : Nat) (own : Option (Nat × Nat × Nat)) : Nat → Nat → Marked → Env → State → ShutFail × State
  | 0, _, _, _, s => (none, s)
  | fuel + 1, va, l, env, s =>
    if l.isEmpty then (none, s)
    else
      let m := Nat.min l.length (4096 - va % 4096)
      match xlatE s c va .write none env with
      | (.ok p, s) =>
        if placeDown s p then (some (0x0108, va), s)
        else match own with
          | none => shutWrite c own fuel (va + m) (l.drop m) env (writeMarked s p (l.take m) 3)
          | some (k, shed, lane) =>
            if inStepRange s c p then (some (0x0104, va), s)
            else
              let x := getS s k
              let x := { holdBytes x p (l.take m) shed lane x.seq with seq := x.seq + 1 }
              let s := putS s k x
              if holdEntries s k x > 8192 then (some (0x0106, va), s)
              else shutWrite c own fuel (va + m) (l.drop m) env s
      | (r, s) => (some (xlatStatus r, va), s)

/-- Whether an operation's writes wait for an open step (09 R328): its destination meets an input range.
Log 62 (DEDUCED). -/
def destHeld (s : State) (x : Xfer) : Bool :=
  x.trig.inStep.isNone && x.trig.kind != 0x10 &&
    (List.range ((x.trig.dst % 4096 + x.trig.len + 4095) / 4096)).any (fun i =>
      match xlat s x.ctx (x.trig.dst / 4096 * 4096 + 4096 * i) .write none with
      | .ok p => (stepHolder s 0xFFFF p).isSome
      | _ => false)

/-- Send a link operation on its port (17 R584, R585): the data and its poison by payload granule.
Log 100 (DEDUCED). -/
def sendLinkOp (s : State) (c : Nat) (t : Trig) (data : List Byte) (pois : List Nat) : State :=
  let p := t.engine
  let id := (getL s p).nextOp
  let f := fun lo n => bytesAt t.raw lo n
  let s := updL s p (fun l => { l with nextOp := (id + 1) % 2 ^ 32, ops := l.ops ++ [⟨id, c, f 40 2, t.done⟩] })
  linkSend s p 0 msgLinkOp [id, c, (getC s c).jobTag.toNat, f 40 2, t.dst, t.len, f 42 2, f 44 1] data pois

/-- The granules of marked data that are poisoned. -/
def poisonGranules (l : Marked) : List Nat :=
  (List.range ((l.length + 31) / 32)).filter (fun g => ((l.drop (32 * g)).take 32).any (·.2))

/-- Carry out the operation at the front of engine `e` with the host data of `env` (10 R366, R374, 13 R455): a fault ends its
context, poison goes on to the destination; at its end the done object rises, which is progress of the context.
Log 81 (DEDUCED). -/
def performOp (s : State) (e : Nat) (x : Xfer) (rest : List Xfer) (env : Env) : State :=
  let t := x.trig
  let pages := t.len / 4096 + 2
  let ((l, bad), s) :=
    if t.kind = 2 then
      (((List.range t.len).map (fun i => ((leBytes 8 (bytesAt t.raw 40 8)).getD (i % 8) 0, false)), none), s)
    else shutRead x.ctx (if e < 12 then 2 else 3) pages t.src t.len env [] s
  if e ≥ 12 then
    match bad with
    | some (st, a) =>
      faultCtx (startOp (putEngine s e rest) e) x.ctx st a 0xFFFF 0xFF 0xFF 0xFFFF false
    | none =>
      match t.inStep with
      | some (k, _, _) =>
        let s := putEngine s e ({ x with tag := none, data := some (l.map (·.1), poisonGranules l) } :: rest)
        if holdEntries s k (getS s k) > 8192 then faultCtx s x.ctx 0x0106 t.src 0xFFFF 0xFF 0xFF 0xFFFF false else s
      | none => startOp (sendLinkOp (putEngine s e rest) x.ctx t (l.map (·.1)) (poisonGranules l)) e
  else
    let (bad, s) := match bad with
      | some b => (some b, (shutWrite x.ctx t.inStep pages t.dst l env s).2)
      | none => shutWrite x.ctx t.inStep pages t.dst l env s
    let s := startOp (putEngine s e rest) e
    match bad with
    | some (st, a) => faultCtx s x.ctx st a 0xFFFF 0xFF 0xFF 0xFFFF false
    | none => syncBump (watchRestart s x.ctx) x.ctx t.done

/-- Whether an engine carries out operations now: the device is released, the engine's domain ON and not inside a fence.
Log 91 (DEDUCED). -/
def engineRuns (s : State) (e : Nat) : Bool :=
  decide (s.phase = .run) && domState s (engineDom e) == 1 && !isFencedEngine s (engineDom e) && !s.err.safe

/-- Whether requests of a context that were outstanding when its fence was raised may still complete (16 Table 16.5).
Log 91 (DEDUCED). -/
def draining (s : State) (c : Nat) : Bool :=
  isFenced s c && s.rst.runs.all (fun e => !e.2.ctxs.contains c || e.2.drainEnd.isNone)

/-- A request of a fenced context completes in the drain.
Log 91 (DEDUCED). -/
def countDrain (s : State) (c : Nat) : State :=
  let bump := fun (r : ResetRun) => if r.ctxs.contains c then { r with completed := r.completed + 1 } else r
  { s with rst := { s.rst with runs := s.rst.runs.map (fun e => (e.1, bump e.2)) } }

/-- The host's answer to the read of tag `n` arrives: its operation goes on with it, in a drain as an outstanding request.
Log 81, 129 (DEDUCED). -/
def hostAnswer (s : State) (n : Nat) (d : HostData) : State :=
  match s.pci.reads.find? (fun r => r.1 == n) with
  | none => s
  | some (_, r) =>
    let s := { s with pci := { s.pci with reads := Tbl.del s.pci.reads n } }
    match engineQ s r.engine with
    | x :: rest =>
      if x.tag = some n then
        if destHeld s x then { s with pci := { s.pci with reads := Tbl.put s.pci.reads n r } }
        else performOp (countDrain s x.ctx) r.engine { x with tag := none } rest { Env.quiet with host := d }
      else s
    | [] => s

/-- TRIGGERED_OP_COMPLETE (10 R366): the engine carries out the operation at its front, unless it waits for host data, for a
commit point, or for the end of a step whose input range it writes (09 R328).  In a drain the operations of fenced contexts, which
were outstanding when the fence was raised, still complete (16 R553). -/
def execTriggeredOpComplete (engine : Nat) (env : Env) (s : State) : Host.Outcome State Fault Refusal :=
  .next (match engineQ s engine with
  | [] => s
  | x :: rest =>
    let may := if isFenced s x.ctx then draining s x.ctx && domState s (engineDom engine) == 1 else engineRuns s engine
    if !may ∨ x.tag.isSome ∨ x.data.isSome ∨ (getC s x.ctx).fault ≠ 0 ∨ destHeld s x then s
    else performOp (countDrain s x.ctx) engine x rest env)

/-- A trigger descriptor (10 Table 10.10, 17 Table 17.3): whether its CRC and rules hold for context `c`.
Log 70 (DEDUCED). -/
def trigValid (s : State) (c : Nat) (b : List Byte) : Bool :=
  let f := fun lo n => bytesAt b lo n
  let k := f 0 2
  let okLen := decide (4 ≤ f 32 8) && decide (f 32 8 ≤ 0x100000000) && f 32 8 % 4 == 0
  let okObj := fun (v : Nat) => decide (v < 256) || v == 0xFFFF
  f 60 4 == (crc32c (b.take 60)).toNat && f 3 1 == 0 && okObj (f 4 2) && okObj (f 6 2) && okLen &&
    (if k = 1 then decide (f 2 1 < 12) && shutOwner s (f 2 1) == partOf c && f 40 8 == 0 && f 48 8 == 0 && f 56 4 == 0
     else if k = 2 then decide (f 2 1 < 12) && shutOwner s (f 2 1) == partOf c && f 16 8 == 0 && f 48 8 == 0 && f 56 4 == 0
     else if k = 0x10 then decide (f 2 1 < 6) && decide (f 40 2 < 256) && okObj (f 42 2) && decide (f 44 1 < 2) &&
       f 45 8 == 0 && f 53 7 == 0
     else false)

/-- The trigger that a descriptor describes. -/
def trigOf (b : List Byte) (order : Nat) (inStep : Option (Nat × Nat × Nat)) : Trig :=
  { kind := bytesAt b 0 2, engine := bytesAt b 2 1, object := bytesAt b 4 2, done := bytesAt b 6 2,
    thresh := w64 (bytesAt b 8 8), raw := b, order := order, inStep := inStep }

/-- Arm a trigger (10 R366, R367): it fires at once when no object is named or its condition holds already; result 1, and nothing
armed, when 256 are armed.
Log 70 (DEDUCED). -/
def armTrig (s : State) (c : Nat) (b : List Byte) (me : Option (Nat × Nat × Nat)) : Nat × State :=
  let x := getC s c
  let n := s.orderCtr
  let s := { s with orderCtr := n + 1 }
  let t := trigOf b n none
  if x.trigs.length ≥ 256 then (1, s)
  else if t.object = 0xFFFF then (0, enqueue s c { t with inStep := if x.step.isOpen then me else none })
  else if t.thresh.toNat ≤ (syncGet s c t.object).toNat then (0, enqueue s c t)
  else (0, updC s c (fun x => { x with trigs := x.trigs ++ [t] }))

end Sys2Proof.Machine
end

