-- ==== Sys2Proof/Machine/Threads.lean ====
section
/-! DEFINITION. Threads (09 R309 to R311, 10 R338 to R349, R361 to R364): the shed that issues an instruction, registers with
their poison marks (13 R454, R458), guards and masks, and the scalar, predicate, mask and branch instructions. -/

namespace Sys2Proof.Machine

/-- A shed about to issue: its slot's number in the table, the slot, the shed's number and the shed. -/
structure Run where
  key  : Nat
  slot : Slot
  shed : Nat
  h    : Shed
deriving DecidableEq, Repr

/-- General register `r` of a lane; g0 reads zero (R338). -/
def Shed.g (h : Shed) (lane : Nat) (r : BitVec 6) : Word64 := if r = 0 then 0 else Tbl.get 0 h.regs (64 * lane + r.toNat)
/-- The poison mark of a general register (R341). -/
def Shed.gp (h : Shed) (lane : Nat) (r : BitVec 6) : Bool := r != 0 && h.regP.contains (64 * lane + r.toNat)
/-- Write a general register with its poison mark; a write to g0 is discarded (R338). -/
def Shed.setG (h : Shed) (lane : Nat) (r : BitVec 6) (v : Word64) (pois : Bool) : Shed :=
  if r = 0 then h
  else { h with regs := Tbl.put h.regs (64 * lane + r.toNat) v,
                regP := if pois then insertNat h.regP (64 * lane + r.toNat) else dropNat h.regP (64 * lane + r.toNat) }

/-- Predicate `p` as a mask of lanes; p0 reads all ones (R339). -/
def Shed.p (h : Shed) (p : Nat) : Half := if p = 0 then BitVec.allOnes 16 else Tbl.get 0 h.preds p
/-- The lanes in which a predicate is poisoned. -/
def Shed.pp (h : Shed) (p : Nat) : Half := if p = 0 then 0 else Tbl.get 0 h.predP p
/-- One lane's bit of a mask set to a value. -/
def setBit (m : Half) (lane : Nat) (b : Bool) : Half :=
  if b then m ||| (1#16 <<< lane) else m &&& ~~~(1#16 <<< lane)
/-- Write one lane of a predicate with its poison mark; a write to p0 is discarded (R339). -/
def Shed.setP (h : Shed) (p lane : Nat) (b pois : Bool) : Shed :=
  if p = 0 then h
  else { h with preds := Tbl.put h.preds p (setBit (h.p p) lane b),
                predP := Tbl.put h.predP p (setBit (h.pp p) lane pois) }

/-- The lanes of a mask, in rising order. -/
def lanesOf (m : Half) : List Nat := (List.range 16).filter (fun l => m.getLsbD l)

/-- The partition, slot and context of a run. -/
def Run.ctx (r : Run) : Nat := r.slot.ctx
def Run.no (r : Run) : Nat := r.key % 512

/-- Whether the cluster that hosts a slot issues now: in service and without a Burling slice (14 R481) or a quiet window on its
group (03 R115).
Log 12 (DEDUCED). -/
def clusterIssues (s : State) (n : Nat) : Bool :=
  clInService s n && (getB s n).slice.isNone && (s.pwr.quiet.elim true (fun q => q.1 != n / 8))

/-- The shed that an instruction names, when it issues now: its slot is occupied and running on its host, the context is alive
and outside every fence, the shed has started, not ended, and waits for nothing; tile and vector instructions also need
their issue not to be stopped (03 Table 3.8).
Log 12 (DEDUCED); 133 (DESIGN CHOICE). -/
def runnable (s : State) (w : ShedRef) (tileVec : Bool) : Option Run :=
  let k := slotKey w.part.toNat w.slot.toNat
  let x := getS s k
  let h := Tbl.get Shed.idle x.sheds w.shed.toNat
  let c := getC s x.ctx
  if x.ended || !x.active || x.reRunAt.isSome || !c.inUse || c.ended || c.fault != 0 || isFenced s x.ctx || s.phase != .run
      || !clusterIssues s x.host || (tileVec && issueStopped s) || !h.started || h.ended == BitVec.allOnes 16
      || h.wait != .none then none
  else some ⟨k, x, w.shed.toNat, h⟩

/-- Write the shed of a run. -/
def putShed (s : State) (r : Run) (h : Shed) : State :=
  updS s r.key (fun x => { x with sheds := Tbl.put x.sheds r.shed h })

/-- The shed goes on with the next word. -/
def advance (s : State) (r : Run) (h : Shed) : State := putShed s r { h with pc := h.pc + 8 }

/-- The launch of a run. -/
def Run.launch (s : State) (r : Run) : Option Launch := launchOf (getC s r.ctx) r.slot.launch

/-- The instruction index of a shed: words from the entry address of its launch (R372).
Log 64 (DEDUCED). -/
def instrIndex (s : State) (r : Run) : Nat := ((r.h.pc - (r.launch s).elim 0 (·.entry)).toNat) / 8

/-- A fault of a thread with an address (09 R334).
Log 64 (DEDUCED). -/
def threadFault (s : State) (r : Run) (status addr lane : Nat) : State :=
  faultCtx s r.ctx status addr r.no r.shed lane r.slot.host false
/-- A fault of a thread without an address: the instruction index stands for it (R372).
Log 64 (DEDUCED). -/
def indexFault (s : State) (r : Run) (status lane : Nat) : State :=
  faultCtx s r.ctx status (instrIndex s r) r.no r.shed lane r.slot.host true
/-- An undefined word ends the context with ILLEGAL_INSTR (R344). -/
def illegal (s : State) (r : Run) : State := indexFault s r 0x0109 0xFF
/-- Consumption of poison by a thread (13 R458).
Log 67 (DEDUCED). -/
def consume (s : State) (r : Run) (lane : Nat) : State := indexFault s r 0x0113 lane

/-- A shed whose execution mask is zero issues nothing until a mask instruction restores a bit (R311): it passes over the word.
Log 65 (DEDUCED). -/
def passOver (s : State) (r : Run) : State := advance s r r.h

/-- Run an instruction of a shed that issues now; otherwise nothing happens.
Log 11, 133 (DESIGN CHOICE); 65 (DEDUCED). -/
def onShed (s : State) (w : ShedRef) (tileVec : Bool) (f : Run → State) : State :=
  match runnable s w tileVec with
  | some r => f r
  | none => s

/-- The lanes that a guard admits among those of the execution mask (R343, R346). -/
def guardMask (h : Shed) (g : BitVec 4) : Half :=
  let p := h.p (g.toNat % 8)
  h.exec &&& (if g.getLsbD 3 then ~~~p else p)

/-- A per-thread instruction (R346): `ok` says that its word is defined; the guard 0b1000 is not (R343); a poisoned guard is
consumed (13 Table 13.5). -/
def perThread (s : State) (w : ShedRef) (g : BitVec 4) (ok tileVec : Bool) (f : Run → Half → State) : State :=
  onShed s w tileVec (fun r =>
    if r.h.exec = 0 then passOver s r
    else if !ok || g == 8 then illegal s r
    else match lanesOf (r.h.exec &&& r.h.pp (g.toNat % 8)) with
      | l :: _ => consume s r l
      | [] => f r (guardMask r.h g))

/-- A shed instruction (R343, R346): it carries guard 0 and acts once. -/
def perShed (s : State) (w : ShedRef) (g : BitVec 4) (ok tileVec : Bool) (f : Run → State) : State :=
  onShed s w tileVec (fun r => if r.h.exec = 0 then passOver s r else if !ok || g != 0 then illegal s r else f r)

/-- Write a register in every lane of a mask and go on: `v` gives the value and the poison mark of a lane. -/
def writeLanes (s : State) (r : Run) (m : Half) (rd : BitVec 6) (v : Nat → Word64 × Bool) : State :=
  advance s r ((lanesOf m).foldl (fun h l => h.setG l rd (v l).1 (v l).2) r.h)

/-- A scalar instruction of three registers (Table 10.11): a poisoned operand poisons the result (R341). -/
def scalarR (op : Word64 → Word64 → Word64) (w : ShedRef) (f : T3) (s : State) : Host.Outcome State Fault Refusal :=
  .next (perThread s w f.guard (f.rc == 0 && f.mod == 0) false (fun r m =>
    writeLanes s r m f.rd (fun l => (op (r.h.g l f.ra) (r.h.g l f.rb), r.h.gp l f.ra || r.h.gp l f.rb))))

/-- A scalar instruction with an immediate. -/
def scalarI (op : Word64 → Word32 → Word64) (ok : TI → Bool) (w : ShedRef) (f : TI) (s : State) :
    Host.Outcome State Fault Refusal :=
  .next (perThread s w f.guard (f.mod == 0 && ok f) false (fun r m =>
    writeLanes s r m f.rd (fun l => (op (r.h.g l f.ra) f.imm, r.h.gp l f.ra))))

/-- Every immediate is defined. -/
def anyImm (_ : TI) : Bool := true
/-- A shift by an immediate from 0 to 63 (07 Table 7.4). -/
def shiftImm (f : TI) : Bool := decide (f.imm.toNat < 64)

/-- NOP (Table 10.11). -/
def execNop (w : ShedRef) (f : T3) (s : State) : Host.Outcome State Fault Refusal :=
  .next (perThread s w f.guard (f.rd == 0 && f.ra == 0 && f.rb == 0 && f.rc == 0 && f.mod == 0) false
    (fun r _ => advance s r r.h))

/-- ADD (Table 10.11). -/
def execThreadAdd := scalarR (fun a b => a + b)
/-- SUB (Table 10.11). -/
def execThreadSub := scalarR (fun a b => a - b)
/-- MUL (Table 10.11). -/
def execThreadMul := scalarR (fun a b => a * b)
/-- MULHU (Table 10.11). -/
def execThreadMulhu := scalarR mulHigh
/-- DIVU; division by zero as 07 Table 7.4. -/
def execThreadDivu := scalarR divUnsigned
/-- REMU; division by zero as 07 Table 7.4. -/
def execThreadRemu := scalarR remUnsigned
/-- AND (Table 10.11). -/
def execThreadAnd := scalarR (fun a b => a &&& b)
/-- OR (Table 10.11). -/
def execThreadOr := scalarR (fun a b => a ||| b)
/-- XOR (Table 10.11). -/
def execThreadXor := scalarR (fun a b => a ^^^ b)
/-- SHL by rb[5:0] (Table 10.11). -/
def execThreadShl := scalarR (fun a b => a <<< shAmt b)
/-- SHR by rb[5:0] (Table 10.11). -/
def execThreadShr := scalarR (fun a b => a >>> shAmt b)
/-- SAR by rb[5:0] (Table 10.11). -/
def execThreadSar := scalarR (fun a b => a.sshiftRight (shAmt b))
/-- MIN, signed (Table 10.11). -/
def execMin := scalarR (fun a b => if a.slt b then a else b)
/-- MAX, signed (Table 10.11). -/
def execMax := scalarR (fun a b => if a.slt b then b else a)
/-- MINU (Table 10.11). -/
def execMinu := scalarR (fun a b => if a.ult b then a else b)
/-- MAXU (Table 10.11). -/
def execMaxu := scalarR (fun a b => if a.ult b then b else a)

/-- ADDI (Table 10.11). -/
def execThreadAddi := scalarI (fun a i => a + sext32 i) anyImm
/-- ANDI (Table 10.11). -/
def execThreadAndi := scalarI (fun a i => a &&& sext32 i) anyImm
/-- ORI (Table 10.11). -/
def execThreadOri := scalarI (fun a i => a ||| sext32 i) anyImm
/-- XORI (Table 10.11). -/
def execThreadXori := scalarI (fun a i => a ^^^ sext32 i) anyImm
/-- SHLI (Table 10.11). -/
def execThreadShli := scalarI (fun a i => a <<< i.toNat) shiftImm
/-- SHRI (Table 10.11). -/
def execThreadShri := scalarI (fun a i => a >>> i.toNat) shiftImm
/-- SARI (Table 10.11). -/
def execThreadSari := scalarI (fun a i => a.sshiftRight i.toNat) shiftImm
/-- MOVI (Table 10.11); ra is not used (R344). -/
def execThreadMovi := scalarI (fun _ i => sext32 i) (fun f => f.ra == 0)
/-- LDIH: the immediate, unsigned, above ra[31:0] (07 Table 7.4). -/
def execThreadLdih := scalarI (fun a i => (i.setWidth 64 <<< 32) ||| (a.setWidth 32).setWidth 64) anyImm

/-- The first lane of a mask for which a condition holds.
Log 68 (DEDUCED). -/
def firstLane (m : Half) (p : Nat → Bool) : Option Nat := (lanesOf m).find? p

/-- SEL (Table 10.11): rd = ra where predicate rc[2:0] is set, else rb; a poisoned operand is consumed (13 Table 13.5).
Log 67 (DEDUCED). -/
def execSel (w : ShedRef) (f : T3) (s : State) : Host.Outcome State Fault Refusal :=
  .next (perThread s w f.guard (f.mod == 0 && decide (f.rc.toNat < 8)) false (fun r m =>
    match firstLane m (fun l => r.h.gp l f.ra || r.h.gp l f.rb || (r.h.pp f.rc.toNat).getLsbD l) with
    | some l => consume s r l
    | none => writeLanes s r m f.rd (fun l =>
        (if (r.h.p f.rc.toNat).getLsbD l then r.h.g l f.ra else r.h.g l f.rb, false))))

/-- The condition codes of SETP (R347). -/
def setpCond (k : Nat) (a b : Word64) : Bool :=
  match k with
  | 0 => a == b
  | 1 => a != b
  | 2 => a.slt b
  | 3 => !(a.slt b)
  | 4 => a.ult b
  | _ => !(a.ult b)

/-- Write a predicate in every lane of a mask and go on. -/
def writePred (s : State) (r : Run) (m : Half) (p : Nat) (v : Nat → Bool × Bool) : State :=
  advance s r ((lanesOf m).foldl (fun h l => h.setP p l (v l).1 (v l).2) r.h)

/-- SETP (R347): the predicate in rd[2:0] takes the comparison of ra with rb; a poisoned operand is consumed.
Log 67 (DEDUCED). -/
def execSetp (w : ShedRef) (f : T3) (s : State) : Host.Outcome State Fault Refusal :=
  .next (perThread s w f.guard (decide (f.rd.toNat < 8) && f.rc == 0 && decide (f.mod.toNat < 6)) false (fun r m =>
    match firstLane m (fun l => r.h.gp l f.ra || r.h.gp l f.rb) with
    | some l => consume s r l
    | none => writePred s r m f.rd.toNat (fun l => (setpCond f.mod.toNat (r.h.g l f.ra) (r.h.g l f.rb), false))))

/-- A predicate instruction of two predicates (R347); a poisoned operand poisons the result (R341).
Log 66 (DEDUCED). -/
def predR (op : Bool → Bool → Bool) (w : ShedRef) (f : T3) (s : State) : Host.Outcome State Fault Refusal :=
  .next (perThread s w f.guard (decide (f.rd.toNat < 8) && decide (f.ra.toNat < 8) && decide (f.rb.toNat < 8) && f.rc == 0
      && f.mod == 0) false (fun r m =>
    writePred s r m f.rd.toNat (fun l =>
      (op ((r.h.p f.ra.toNat).getLsbD l) ((r.h.p f.rb.toNat).getLsbD l),
       (r.h.pp f.ra.toNat).getLsbD l || (r.h.pp f.rb.toNat).getLsbD l))))

/-- PAND (Table 10.11). -/
def execPand := predR (fun a b => a && b)
/-- POR (Table 10.11). -/
def execPor := predR (fun a b => a || b)
/-- PXOR (Table 10.11). -/
def execPxor := predR (fun a b => a != b)

/-- PNOT (Table 10.11). -/
def execPnot (w : ShedRef) (f : T3) (s : State) : Host.Outcome State Fault Refusal :=
  .next (perThread s w f.guard (decide (f.rd.toNat < 8) && decide (f.ra.toNat < 8) && f.rb == 0 && f.rc == 0 && f.mod == 0) false
    (fun r m => writePred s r m f.rd.toNat (fun l => (!(r.h.p f.ra.toNat).getLsbD l, (r.h.pp f.ra.toNat).getLsbD l))))

/-- PMOV: the predicate from ra bit 0 (Table 10.11). -/
def execPmov (w : ShedRef) (f : T3) (s : State) : Host.Outcome State Fault Refusal :=
  .next (perThread s w f.guard (decide (f.rd.toNat < 8) && f.rb == 0 && f.rc == 0 && f.mod == 0) false
    (fun r m => writePred s r m f.rd.toNat (fun l => ((r.h.g l f.ra).getLsbD 0, r.h.gp l f.ra))))

/-! ### Masks and branches (Table 10.3) -/

/-- A mask instruction: it acts at an execution mask of zero as well (R311, R349).
Log 65 (DEDUCED). -/
def maskInstr (s : State) (w : ShedRef) (g : BitVec 4) (ok : Bool) (f : Run → State) : State :=
  onShed s w false (fun r => if !ok || g != 0 then illegal s r else f r)

/-- The first lane of the execution mask in which a predicate is poisoned.
Log 67 (DEDUCED). -/
def poisonedPred (r : Run) (p : Nat) : Option Nat := (lanesOf (r.h.exec &&& r.h.pp p)).head?

/-- MIF pk (Table 10.3): push the mask and narrow it; a poisoned predicate is consumed. -/
def execMif (w : ShedRef) (f : T3) (s : State) : Host.Outcome State Fault Refusal :=
  .next (maskInstr s w f.guard (f.rd == 0 && decide (f.ra.toNat < 8) && f.rb == 0 && f.rc == 0 && decide (f.mod.toNat < 2)) (fun r =>
    match poisonedPred r f.ra.toNat with
    | some l => consume s r l
    | none =>
      if r.h.masks.length ≥ 32 then indexFault s r 0x010A 0xFF
      else
        let p := r.h.p f.ra.toNat
        advance s r { r.h with masks := r.h.exec :: r.h.masks,
                               exec := r.h.exec &&& (if f.mod = 1 then ~~~p else p) }))

/-- MELSE (Table 10.3): the mask becomes the top of the stack without the present mask; an ended thread stays out (R349). -/
def execMelse (w : ShedRef) (f : T3) (s : State) : Host.Outcome State Fault Refusal :=
  .next (maskInstr s w f.guard (f.rd == 0 && f.ra == 0 && f.rb == 0 && f.rc == 0 && f.mod == 0) (fun r =>
    match r.h.masks with
    | [] => indexFault s r 0x010A 0xFF
    | t :: _ => advance s r { r.h with exec := t &&& ~~~r.h.exec &&& ~~~r.h.ended }))

/-- MEND (Table 10.3): the mask is popped; an ended thread stays out (R349). -/
def execMend (w : ShedRef) (f : T3) (s : State) : Host.Outcome State Fault Refusal :=
  .next (maskInstr s w f.guard (f.rd == 0 && f.ra == 0 && f.rb == 0 && f.rc == 0 && f.mod == 0) (fun r =>
    match r.h.masks with
    | [] => indexFault s r 0x010A 0xFF
    | t :: rest => advance s r { r.h with exec := t &&& ~~~r.h.ended, masks := rest }))

/-- MBRK pk (Table 10.3): the lanes with the predicate leave the mask; the stack is unchanged. -/
def execMbrk (w : ShedRef) (f : T3) (s : State) : Host.Outcome State Fault Refusal :=
  .next (maskInstr s w f.guard (f.rd == 0 && decide (f.ra.toNat < 8) && f.rb == 0 && f.rc == 0 && f.mod == 0) (fun r =>
    match poisonedPred r f.ra.toNat with
    | some l => consume s r l
    | none => advance s r { r.h with exec := r.h.exec &&& ~~~(r.h.p f.ra.toNat) }))

/-- MGET pd (Table 10.3): the predicate takes the execution mask. -/
def execMget (w : ShedRef) (f : T3) (s : State) : Host.Outcome State Fault Refusal :=
  .next (perShed s w f.guard (decide (f.rd.toNat < 8) && f.ra == 0 && f.rb == 0 && f.rc == 0 && f.mod == 0) false (fun r =>
    let p := f.rd.toNat
    advance s r (if p = 0 then r.h
      else { r.h with preds := Tbl.put r.h.preds p r.h.exec, predP := Tbl.put r.h.predP p 0 })))

/-- The byte address `off` words from the branch (R345). -/
def branchTo (h : Shed) (off : Word32) : Word64 := h.pc + sext32 off * 8

/-- A branch of the whole shed on the active lanes and a predicate's lanes among them (Table 10.3). -/
def branchMask (cond : Half → Half → Bool) (w : ShedRef) (f : TB) (s : State) : Host.Outcome State Fault Refusal :=
  .next (perShed s w 0 true false (fun r =>
    match poisonedPred r f.pk.toNat with
    | some l => consume s r l
    | none =>
      if cond r.h.exec (r.h.exec &&& r.h.p f.pk.toNat) then putShed s r { r.h with pc := branchTo r.h f.off }
      else advance s r r.h))

/-- BR (Table 10.3). -/
def execBr (w : ShedRef) (f : TB) (s : State) : Host.Outcome State Fault Refusal :=
  .next (perShed s w 0 (f.pk == 0) false (fun r => putShed s r { r.h with pc := branchTo r.h f.off }))
/-- BANY (Table 10.3). -/
def execBany := branchMask (fun _ p => p != 0)
/-- BALL (Table 10.3). -/
def execBall := branchMask (fun e p => p == e)
/-- BNONE (Table 10.3). -/
def execBnone := branchMask (fun _ p => p == 0)

/-- CALL (Table 10.3): the next index goes onto the call stack of 16 (R348). -/
def execCall (w : ShedRef) (f : TB) (s : State) : Host.Outcome State Fault Refusal :=
  .next (perShed s w 0 (f.pk == 0) false (fun r =>
    if r.h.calls.length ≥ 16 then indexFault s r 0x010A 0xFF
    else putShed s r { r.h with pc := branchTo r.h f.off, calls := (r.h.pc + 8) :: r.h.calls }))

/-- RET (Table 10.3): branch to the index popped. -/
def execRet (w : ShedRef) (f : TB) (s : State) : Host.Outcome State Fault Refusal :=
  .next (perShed s w 0 (f.pk == 0 && f.off == 0) false (fun r =>
    match r.h.calls with
    | [] => indexFault s r 0x010A 0xFF
    | t :: rest => putShed s r { r.h with pc := t, calls := rest }))

/-! ### Steps, generator and sync objects without memory -/

/-- The step counter as STEP.CTR returns it (R360). -/
def stepCtrOf (s : State) (c : Nat) : Word64 :=
  let x := getC s c
  if x.step.isOpen then x.step.ctr else x.stepCtr

/-- STEP.CTR rd (Table 10.6): in every active thread. -/
def execStepCtr (w : ShedRef) (f : T3) (s : State) : Host.Outcome State Fault Refusal :=
  .next (perShed s w f.guard (f.ra == 0 && f.rb == 0 && f.rc == 0 && f.mod == 0) false (fun r =>
    writeLanes s r r.h.exec f.rd (fun _ => (stepCtrOf s r.ctx, false))))

/-- CKSTAT rd, imm (Table 10.7): a counter of the slot since the launch started; for another imm the spec states no value: a
free value.
Log 16 (DESIGN CHOICE). -/
def execCkstat (w : ShedRef) (f : TI) (s : State) : Host.Outcome State Fault Refusal :=
  .next (perThread s w f.guard (f.ra == 0 && f.mod == 0) false (fun r m =>
    let (v, s) := match f.imm.toNat with
      | 0 => (r.slot.checked, s)
      | 1 => (r.slot.replayed, s)
      | 2 => (r.slot.arbs, s)
      | 3 => (r.slot.reruns, s)
      | _ => takeFree s
    writeLanes s r m f.rd (fun _ => (v, false))))

/-- The generator counter of a thread (Table 10.8). -/
def rngCounter (ctr a b : Word64) (thread : Nat) : BitVec 128 :=
  BitVec.ofNat 128 (ctr.toNat % 2 ^ 48 * 2 ^ 80 + a.toNat % 2 ^ 48 * 2 ^ 32 + thread * 2 ^ 26 + b.toNat % 2 ^ 26)

/-- RNG rd, ra, rb (R362, R363): the generator output under the seed of the launch; a poisoned counter operand is consumed. -/
def execRng (w : ShedRef) (f : T3) (s : State) : Host.Outcome State Fault Refusal :=
  .next (perThread s w f.guard (f.rc == 0 && f.mod == 0 && f.rd.toNat % 2 == 0) true (fun r m =>
    match firstLane m (fun l => r.h.gp l f.ra || r.h.gp l f.rb) with
    | some l => consume s r l
    | none =>
      let seed := (r.launch s).elim 0 (·.seed)
      advance s r ((lanesOf m).foldl (fun h l =>
        let v := generator seed (rngCounter (stepCtrOf s r.ctx) (r.h.g l f.ra) (r.h.g l f.rb) (16 * r.shed + l))
        (h.setG l f.rd (v.setWidth 64) false).setG l (f.rd + 1) ((v >>> 64).setWidth 64) false) r.h)))

/-- The twin slot of a primary slot, and whether it has one. -/
def hasTwin (s : State) (k : Nat) : Bool := s.slots.any (fun e => !e.2.ended && e.2.twinOf == some k)

/-- Note in a primary slot what a thread was given, for its twin (11 R399).
Log 71 (DEDUCED). -/
def noteEcho (s : State) (r : Run) (lane : Nat) (v : Word64) : State :=
  if hasTwin s r.key then
    updS s r.key (fun x => { x with echo := Tbl.upd [] x.echo (16 * r.shed + lane) (fun l => l ++ [v]) })
  else s

/-- What the primary's thread was given at the point that the twin's has reached; none while the primary is behind. -/
def echoOf (s : State) (r : Run) (lane ahead : Nat) : Option Word64 :=
  match r.slot.twinOf with
  | some k => (Tbl.get [] (getS s k).echo (16 * r.shed + lane))[Tbl.get 0 r.slot.heard (16 * r.shed + lane) + ahead]?
  | none => none

/-- The twin's threads have taken one more value.
Log 71 (DEDUCED). -/
def hearEcho (s : State) (r : Run) (m : Half) : State :=
  updS s r.key (fun x => { x with heard := (lanesOf m).foldl (fun t l => Tbl.upd 0 t (16 * r.shed + l) (· + 1)) x.heard })

/-- SY.ADD rd, ra, rb (Table 10.9, R364): at once, lane by lane; a twin copy updates nothing and takes what the primary was
given, waiting for it (11 R399).  A poisoned index or increment is consumed. -/
def execSyAdd (w : ShedRef) (f : T3) (s : State) : Host.Outcome State Fault Refusal :=
  .next (perThread s w f.guard (f.rc == 0 && f.mod == 0) false (fun r m =>
    match firstLane m (fun l => r.h.gp l f.ra || r.h.gp l f.rb) with
    | some l => consume s r l
    | none =>
      if r.slot.twinOf.isSome then
        if (lanesOf m).all (fun l => (echoOf s r l 0).isSome) then
          writeLanes (hearEcho s r m) r m f.rd (fun l => ((echoOf s r l 0).getD 0, false))
        else s
      else
        let (h, s) := (lanesOf m).foldl (fun (a : Shed × State) l =>
          let o := (r.h.g l f.ra).toNat % 256
          let old := syncGet a.2 r.ctx o
          (a.1.setG l f.rd old false, noteEcho (syncPut a.2 r.ctx o (old + r.h.g l f.rb)) r l old)) (r.h, s)
        advance s r h))

/-- SY.RD rd, ra (Table 10.9); it acts in both copies (11 R399). -/
def execSyRd (w : ShedRef) (f : T3) (s : State) : Host.Outcome State Fault Refusal :=
  .next (perThread s w f.guard (f.rb == 0 && f.rc == 0 && f.mod == 0) false (fun r m =>
    match firstLane m (fun l => r.h.gp l f.ra) with
    | some l => consume s r l
    | none => writeLanes s r m f.rd (fun l => (syncGet s r.ctx ((r.h.g l f.ra).toNat % 256), false))))

/-- Whether every object waited for has reached its value. -/
def objectsReached (s : State) (c : Nat) (l : List (Nat × Word64)) : Bool :=
  l.all (fun e => decide (e.2.toNat ≤ (syncGet s c e.1).toNat))

/-- SY.WAIT ra, rb (Table 10.9, R375): the shed waits until every active thread's object has reached its value. -/
def execSyWait (w : ShedRef) (f : T3) (s : State) : Host.Outcome State Fault Refusal :=
  .next (perThread s w f.guard (f.rd == 0 && f.rc == 0 && f.mod == 0) false (fun r m =>
    match firstLane m (fun l => r.h.gp l f.ra || r.h.gp l f.rb) with
    | some l => consume s r l
    | none =>
      let l := (lanesOf m).map (fun l => ((r.h.g l f.ra).toNat % 256, r.h.g l f.rb))
      if objectsReached s r.ctx l then advance s r r.h else putShed s r { r.h with wait := .object l }))

/-- SY_WAIT_RELEASE (R364, R375): the condition of a waiting shed has come true. -/
def execSyWaitRelease (w : ShedRef) (s : State) : Host.Outcome State Fault Refusal :=
  .next (
  let k := slotKey w.part.toNat w.slot.toNat
  let x := getS s k
  let h := Tbl.get Shed.idle x.sheds w.shed.toNat
  match h.wait with
  | .object l =>
    if !x.ended && objectsReached s x.ctx l && (getC s x.ctx).fault == 0 && !isFenced s x.ctx then
      updS s k (fun x => { x with sheds := Tbl.put x.sheds w.shed.toNat { h with wait := .none, pc := h.pc + 8 } })
    else s
  | _ => s)

/-- FENCE (R352): its accesses are already ordered, since every access of a thread takes effect as it issues.
Log 60 (DEDUCED). -/
def execThreadFence (w : ShedRef) (f : T3) (s : State) : Host.Outcome State Fault Refusal :=
  .next (perThread s w f.guard (f.rd == 0 && f.ra == 0 && f.rb == 0 && f.rc == 0 && decide (f.mod.toNat < 3)) false
    (fun r _ => advance s r r.h))

/-- Release the sheds of a slot when every started shed that has not ended has reached a BARS (R352). -/
def settleBars (s : State) (k : Nat) : State :=
  let x := getS s k
  let live := x.sheds.filter (fun e => e.2.started && e.2.ended != BitVec.allOnes 16)
  if !live.isEmpty && live.all (fun e => e.2.wait == .bars) then
    putS s k { x with sheds := x.sheds.map (fun e =>
      if e.2.wait = .bars then (e.1, { e.2 with wait := .none, pc := e.2.pc + 8 }) else e) }
  else s

/-- BARS (R352). -/
def execBars (w : ShedRef) (f : T3) (s : State) : Host.Outcome State Fault Refusal :=
  .next (perShed s w f.guard (f.rd == 0 && f.ra == 0 && f.rb == 0 && f.rc == 0 && f.mod == 0) false (fun r =>
    settleBars (putShed s r { r.h with wait := .bars }) r.key))

/-- ILLEGAL_INSTR (R344, R372): the word at a shed's index is undefined. -/
def illegalWord (w : ShedRef) (s : State) : State := onShed s w false (fun r => illegal s r)

end Sys2Proof.Machine
end

