-- ==== Sys2Proof/Machine/ThreadMem.lean ====
section
/-! DEFINITION. Loads, stores, atomics and triggers of threads (10 R350, R351, R361, R366; 09 R324 to R332, R334). -/

namespace Sys2Proof.Machine

/-- Go through lanes in rising order; a lane that faults ends the instruction. -/
def eachLane (f : Nat → Shed × Env → State → Option (Shed × Env) × State) :
    List Nat → Shed × Env → State → Option (Shed × Env) × State
  | [], a, s => (some a, s)
  | l :: t, a, s => match f l a s with
    | (some a', s') => eachLane f t a' s'
    | (none, s') => (none, s')

/-- Read `n` bytes as slot `k` sees them, page by page; a translation that fails gives its status and address. -/
def slotRead (k : Nat) : Nat → Nat → Nat → Env → Marked → State → (Except (Nat × Nat) (Marked × Env)) × State
  | 0, _, _, env, acc, s => (.ok (acc, env), s)
  | fuel + 1, va, n, env, acc, s =>
    if n = 0 then (.ok (acc, env), s)
    else
      let x := getS s k
      let m := Nat.min n (4096 - va % 4096)
      match slotXlat s k x va .read env with
      | (.ok p, s) =>
        if placeDown s p then (.error (0x0108, va), s)
        else
          let (l, s) := readMarked s p m env x.ctx 1
          let env := match p with
            | .host _ _ => { env with host := { env.host with bytes := env.host.bytes.drop m } }
            | _ => env
          slotRead k fuel (va + m) (n - m) env (acc ++ overlay x p l) s
      | (r, s) => (.error (xlatStatus r, va), s)

/-- Whether a shed may write now: outside a step any may; inside one only after its STEP.BEGIN (R359). -/
def mayWrite (s : State) (r : Run) : Bool := !(getC s r.ctx).step.isOpen || r.h.begun

/-- Whether a write of a thread to `va` waits for the step of another context (09 R328). -/
def writeHeld (s : State) (r : Run) (va : Nat) : Bool :=
  match xlat s r.ctx va .write (some r.no) with
  | .ok p => (stepHolder s r.ctx (twinPlace s r.key r.slot p)).isSome
  | _ => false

/-- Write marked bytes for a thread (09 R328 to R332, 11 R399): held while a step is open, at once otherwise, and by the primary
copy only.  A failure gives its status. -/
def threadWrite (s : State) (r : Run) (lane : Nat) (p : Place) (l : Marked) : Except Nat State :=
  if (getC s r.ctx).step.isOpen then
    if inStepRange s r.ctx p then .error 0x0104
    else
      let x := getS s r.key
      let x := { holdBytes x p l r.shed lane x.seq with seq := x.seq + 1 }
      if holdEntries s r.key x > 8192 then .error 0x0106 else .ok (putS s r.key x)
  else if r.slot.twinOf.isSome then .ok s
  else .ok (writeMarked s p l 3)

/-- The address of a load or store: ra + imm (R350). -/
def memAddr (h : Shed) (lane : Nat) (f : TI) : Nat := (h.g lane f.ra + sext32 f.imm).toNat

/-- Whether the mod field of a load or store is defined (R350): bit 0 only of a load, scope 0 to 2, bits [7:5] clear. -/
def memMod (load : Bool) (m : BitVec 8) : Bool :=
  (load || !m.getLsbD 0) && decide (m.toNat / 8 % 4 < 3) && decide (m.toNat < 32)

/-- A loaded value widened to 64 bits. -/
def widen (bytes : Nat) (signed : Bool) (v : Nat) : Word64 :=
  if signed then BitVec.ofInt 64 (sgn (8 * bytes) v) else w64 v

/-- LD of `n` bytes (R350): lane by lane; poisoned data poisons the destination (13 R454), a poisoned address is consumed. -/
def loadN (n : Nat) (w : ShedRef) (f : TI) (env : Env) (s : State) : Host.Outcome State Fault Refusal :=
  .next (perThread s w f.guard (memMod true f.mod && (n != 16 || f.rd.toNat % 2 == 0)) false (fun r m =>
    let one := fun (l : Nat) (a : Shed × Env) (s : State) =>
      if r.h.gp l f.ra then (none, consume s r l)
      else
        let va := memAddr r.h l f
        if va % n ≠ 0 then (none, threadFault s r 0x0102 va l)
        else match slotRead r.key 2 va n a.2 [] s with
          | (.ok (b, env), s) =>
            let po := b.any (·.2)
            let v := leNat (b.map (·.1))
            let h := if n = 16 then
                (a.1.setG l f.rd (w64 v) po).setG l (f.rd + 1) (w64 (v / 2 ^ 64)) po
              else a.1.setG l f.rd (widen n (f.mod.getLsbD 0) v) po
            (some (h, env), s)
          | (.error (st, ad), s) => (none, threadFault s r st ad l)
    match eachLane one (lanesOf m) (r.h, env) s with
    | (some (h, _), s) => advance s r h
    | (none, s) => s))

/-- LD.B (R350). -/
def execLdB := loadN 1
/-- LD.H (R350). -/
def execLdH := loadN 2
/-- LD.W (R350). -/
def execLdW := loadN 4
/-- LD.D (R350). -/
def execLdD := loadN 8
/-- LD.Q: an even register pair (R350). -/
def execLdQ := loadN 16

/-- ST of `n` bytes of rd (R350, 09 R326 to R332): a write that meets the input range of another context's step waits. -/
def storeN (n : Nat) (w : ShedRef) (f : TI) (env : Env) (s : State) : Host.Outcome State Fault Refusal :=
  .next (perThread s w f.guard (memMod false f.mod && (n != 16 || f.rd.toNat % 2 == 0)) false (fun r m =>
    if m ≠ 0 ∧ !mayWrite s r then indexFault s r 0x010B 0xFF
    else if (lanesOf m).any (fun l => writeHeld s r (memAddr r.h l f)) then s
    else
      let one := fun (l : Nat) (a : Shed × Env) (s : State) =>
        if r.h.gp l f.ra then (none, consume s r l)
        else
          let va := memAddr r.h l f
          let po := r.h.gp l f.rd || (n == 16 && r.h.gp l (f.rd + 1))
          let v := (r.h.g l f.rd).toNat + (if n = 16 then (r.h.g l (f.rd + 1)).toNat * 2 ^ 64 else 0)
          if va % n ≠ 0 then (none, threadFault s r 0x0102 va l)
          else match slotXlat s r.key r.slot va .write env with
            | (.ok p, s) =>
              if placeDown s p then (none, threadFault s r 0x0108 va l)
              else match threadWrite s r l p ((leBytes n v).map (fun b => (b, po))) with
                | .ok s => (some a, s)
                | .error st => (none, threadFault s r st va l)
            | (x, s) => (none, threadFault s r (xlatStatus x) va l)
      match eachLane one (lanesOf m) (r.h, env) s with
      | (some (h, _), s) => advance s r h
      | (none, s) => s))

/-- ST.B (R350). -/
def execStB := storeN 1
/-- ST.H (R350). -/
def execStH := storeN 2
/-- ST.W (R350). -/
def execStW := storeN 4
/-- ST.D (R350). -/
def execStD := storeN 8
/-- ST.Q: an even register pair (R350). -/
def execStQ := storeN 16

/-- An atomic (R351, 09 R324, R325, R331): at once outside a step, by the primary copy only (11 R399: what a returning one gives
the twin copy is not stated, a free value); held inside one, where it may return no value.
Log 16 (DESIGN CHOICE); 61, 69 (DEDUCED). -/
def atomic (op width : Nat) (ok : Bool) (w : ShedRef) (f : T3) (env : Env) (s : State) : Host.Outcome State Fault Refusal :=
  .next (perThread s w f.guard ok false (fun r m =>
    let isOpen := (getC s r.ctx).step.isOpen
    if m = 0 then advance s r r.h
    else if !mayWrite s r then indexFault s r 0x010B 0xFF
    else if isOpen ∧ f.rd ≠ 0 then indexFault s r 0x0105 0xFF
    else if (lanesOf m).any (fun l => writeHeld s r (r.h.g l f.ra).toNat) then s
    else
      let one := fun (l : Nat) (a : Shed × Env) (s : State) =>
        if r.h.gp l f.ra then (none, consume s r l)
        else
          let va := (r.h.g l f.ra).toNat
          let po := r.h.gp l f.rb || (op == 9 && r.h.gp l f.rc)
          if va % width ≠ 0 then (none, threadFault s r 0x0102 va l)
          else match slotXlat s r.key r.slot va .atomic a.2 with
            | (.ok (.host _ _), s) => (none, threadFault s r 0x0103 va l)
            | (.ok p, s) =>
              if isOpen then
                if inStepRange s r.ctx p then (none, threadFault s r 0x0104 va l)
                else
                  let x := getS s r.key
                  let n := s.orderCtr
                  let at' : HeldAtomic := ⟨p, op, width, r.h.g l f.rb, r.h.g l f.rc, po, r.shed, l, n⟩
                  let x := { x with atomics := x.atomics ++ [at'] }
                  if holdEntries s r.key x > 8192 then (none, threadFault s r 0x0106 va l)
                  else (some a, putS { s with orderCtr := n + 1 } r.key x)
              else if r.slot.twinOf.isSome then
                let (v, s) := takeFree s
                (some (if f.rd = 0 then a.1 else a.1.setG l f.rd v false, a.2), s)
              else
                let ((old, op'), s) := atomicNow s p op width (r.h.g l f.rb) (r.h.g l f.rc) po a.2 r.ctx
                (some (a.1.setG l f.rd old op', a.2), s)
            | (x, s) => (none, threadFault s r (xlatStatus x) va l)
      match eachLane one (lanesOf m) (r.h, env) s with
      | (some (h, _), s) => advance s r h
      | (none, s) => s))

/-- ATOM (R351): operation in mod[3:0], width in mod bit 4. -/
def execAtom (w : ShedRef) (f : T3) (env : Env) (s : State) : Host.Outcome State Fault Refusal :=
  let op := f.mod.toNat % 16
  atomic op (if f.mod.getLsbD 4 then 8 else 4) (decide (op < 10) && decide (f.mod.toNat < 32) && (op == 9 || f.rc == 0)) w f env s

/-- ATOMF (R351, 11 R387). -/
def execAtomf (w : ShedRef) (f : T3) (env : Env) (s : State) : Host.Outcome State Fault Refusal :=
  atomic (16 + f.mod.toNat) 4 (decide (f.mod.toNat < 4) && f.rc == 0) w f env s

/-- TRIG.ARM rd, ra (Table 10.9, R365 to R367): lane by lane; in a twin copy it arms nothing and gives the primary's result
(11 R399).  Poison in the descriptor is consumed (13 Table 13.5).
Log 70 (DEDUCED). -/
def execTrigArm (w : ShedRef) (f : T3) (env : Env) (s : State) : Host.Outcome State Fault Refusal :=
  .next (perThread s w f.guard (f.rb == 0 && f.rc == 0 && f.mod == 0) false (fun r m =>
    if r.slot.twinOf.isSome then
      if (lanesOf m).all (fun l => (echoOf s r l 0).isSome) then
        writeLanes (hearEcho s r m) r m f.rd (fun l => ((echoOf s r l 0).getD 0, false))
      else s
    else
      let one := fun (l : Nat) (a : Shed × Env) (s : State) =>
        if r.h.gp l f.ra then (none, consume s r l)
        else
          let va := (r.h.g l f.ra).toNat
          match slotRead r.key 3 va 64 a.2 [] s with
          | (.ok (b, env), s) =>
            if b.any (·.2) then (none, threadFault s r 0x0113 va l)
            else if !trigValid s r.ctx (b.map (·.1)) then (none, threadFault s r 0x010E va l)
            else
              let (res, s) := armTrig s r.ctx (b.map (·.1)) (some (r.key, r.shed, l))
              (some (a.1.setG l f.rd (w64 res) false, env), noteEcho s r l (w64 res))
          | (.error (st, ad), s) => (none, threadFault s r st ad l)
      match eachLane one (lanesOf m) (r.h, env) s with
      | (some (h, _), s) => advance s r h
      | (none, s) => s))

end Sys2Proof.Machine
end

