-- ==== Sys2Proof/Machine/Pairs.lean ====
section
/-! DEFINITION. Pleached pairs (11 R401 to R408): matching messages, forming the pair, comparing step digests, and locating a
divergence. -/

namespace Sys2Proof.Machine

/-- The pair state of a context. -/
def getPair (s : State) (c : Nat) : Pair := Tbl.get Pair.init s.pairs c
/-- Change the pair state of a context. -/
def updPair (s : State) (c : Nat) (f : Pair → Pair) : State := { s with pairs := Tbl.put s.pairs c (f (getPair s c)) }

/-- The peer's context, the mode (trailing), the action (continue), the lag and the timeout in force (Table 11.8). -/
def pairPeer (s : State) (c : Nat) : Nat := bitsOf (pleach s c) 23 16
def pairTrails (s : State) (c : Nat) : Bool := (pleach s c).testBit 1
def pairGoesOn (s : State) (c : Nat) : Bool := (pleach s c).testBit 2
def pairLag (s : State) (c : Nat) : Nat := let n := bitsOf (pleach s c) 15 8; if n = 0 then 1 else if n > 64 then 64 else n

/-- The DSIG of a launch (11 Table 11.7). -/
def dsigOf (ordered sat : Bool) : Nat := 0xB100040100000000 + 2 * b2n ordered + b2n sat

/-- The payload of a pair record (15 Table 15.15); no slot known is 0xFFFF, no tile 0xFFFF_FFFF_FFFF (R406). -/
def pairPay (s : State) (c ctr slot tile : Nat) : List Byte :=
  pay [(8, ctr), (6, tile), (2, slot), (2, c), (1, pairPeer s c), (1, pairPort s c), (1, b2n (pairTrails s c))]

/-- No tile known (R406). -/
def noTile : Nat := 0xFFFFFFFFFFFF

/-- The context that a pair message is for: paired on the port it came by, with the sender's job tag, its peer the sender's
context (R402). -/
def pairFor (s : State) (h : PairHdr) : Option Nat :=
  if !(getL s h.port.toNat).up then none
  else (liveCtxs s).find? (fun c => isPaired s c && pairPort s c == h.port.toNat && (getC s c).jobTag == h.jobTag
    && pairPeer s c == h.ctx.toNat)

/-- Send a pair message of a context (R402) on VC1. -/
def pairSend (s : State) (c kind : Nat) (fields : List Nat) : State :=
  if isPaired s c && decide (pairPort s c < 6) then
    linkSend s (pairPort s c) 1 kind ([(getC s c).jobTag.toNat, c] ++ fields) [] []
  else s

/-- A context of a pair ends with a status (Table 11.9). -/
def pairFault (s : State) (c status : Nat) : State := faultCtx s c status 0 0xFFFF 0xFF 0xFF 0xFFFF true

/-- Compare the PAIR messages at the head of both sides (R403): equal DSIG and counter form the pair; unequal DSIGs end the
context. -/
def settlePair (s : State) (c : Nat) : State :=
  let p := getPair s c
  match p.mine, p.peers with
  | (n, d, k) :: ms, (d', k') :: ps =>
    if d ≠ d' then
      let s := record s 0x3064 3 0x07 (pairPort s c) (pairPay s c k 0xFFFF noTile)
      pairFault (updPair s c (fun p => { p with mine := ms, peers := ps })) c 0x0111
    else if k = k' then
      let s := updPair s c (fun p => { p with mine := ms, peers := ps, formed := n })
      record s 0x3060 0 0x07 (pairPort s c) (pairPay s c k 0xFFFF noTile)
    else s
  | _, _ => s

/-- A launch of a paired context has been accepted: PAIR goes out (R403). -/
def pairLaunch (s : State) (c n : Nat) (ordered sat : Bool) : State :=
  if isPaired s c then
    let d := dsigOf ordered sat
    let k := (getC s c).stepCtr.toNat
    let s := updPair s c (fun p => { p with mine := p.mine ++ [(n, d, k)] })
    settlePair (pairSend s c msgPair [d, k]) c
  else s

/-- PAIR (R403).
Log 131 (DESIGN CHOICE). -/
def execPair (h : PairHdr) (dsig stepCtr : Word64) (s : State) : Host.Outcome State Fault Refusal :=
  .next (match pairFor s h with
  | none => s
  | some c =>
    settlePair (updPair s c (fun p => { p with peers := p.peers ++ [(dsig.toNat, stepCtr.toNat)], heard := s.aon })) c)

/-- The digest of a step counter in a list. -/
def digestAt (l : List StepDigest) (ctr : Nat) : Option StepDigest := l.find? (fun d => d.ctr == ctr)

/-- Keep the last 64 digests (R405). -/
def keepDigest (l : List StepDigest) (d : StepDigest) : List StepDigest :=
  let l := l.filter (fun e => e.ctr != d.ctr) ++ [d]
  l.drop (l.length - 64)

/-- The slots whose digests differ. -/
def diffSlots (a b : StepDigest) : List Nat :=
  (a.slots.filter (fun e => match b.slots.find? (fun f => f.1 == e.1) with
    | some f => f.2 != e.2
    | none => true)).map (·.1)

/-- PLEACH_DIVERGED (R404 to R406), with the first slot that differs; the first divergence of the context is kept. -/
def diverged (s : State) (c ctr slot : Nat) : State :=
  let s := updPair s c (fun p => { p with first := if p.first.isNone then some (ctr, slot, noTile) else p.first })
  accept s 0x3061 2 0x07 (pairPort s c) c 0xFFFF (pairPay s c ctr slot noTile)

/-- The first TMMA whose LOCATE digests differ, over the slots that differed (R404). -/
def firstTile (s : State) (p : Pair) (part : Nat) : Option (Nat × Nat) :=
  p.slots.findSome? (fun sl =>
    let own := (getS s (slotKey part sl)).locs
    let peer := (p.loc.filter (fun e => e.1 == sl)).flatMap (·.2)
    ((List.range own.length).find? (fun i => own[i]? != peer[i]?)).map (fun i => (sl, ((own[i]?).getD (noTile, 0)).1)))

/-- Compare the two digests of one step once both are there.  Gated (R404): a first difference has the step run again, a second
ends the context with the tile located.  Trailing (R405): a difference is recorded and, with action 0, ends the context. -/
def compareStep (s : State) (c ctr : Nat) : State :=
  let p := getPair s c
  match digestAt p.own ctr, digestAt p.digests ctr with
  | some a, some b =>
    if a.step = b.step then s
    else
      let ds := diffSlots a b
      let slot := ds.headD 0xFFFF
      if pairTrails s c then
        let s := diverged (updPair s c (fun p => { p with own := p.own.filter (fun d => d.ctr != ctr) })) c ctr slot
        if pairGoesOn s c then s else pairFault s c 0x0110
      else if !p.rerun then
        let s := updPair s c (fun p => { p with
          rerun := true, pend := true, slots := ds, loc := [], own := p.own.filter (fun d => d.ctr != ctr),
          digests := p.digests.filter (fun d => d.ctr != ctr) })
        diverged s c ctr slot
      else
        let (sl, tile) := (firstTile s p (partOf c)).getD (slot, noTile)
        let s := updPair s c (fun p => { p with
          first := p.first.map (fun f => if f.1 = ctr then (ctr, sl, tile) else f), own := p.own.filter (fun d => d.ctr != ctr) })
        let s := record s 0x3062 2 0x07 (pairPort s c) (pairPay s c ctr sl tile)
        pairFault s c 0x0110
  | _, _ => s

/-- The handling of PLEACH_DIVERGED in gated mode: the step is discarded and every slot runs it again (R404). -/
def pairRerun (s : State) (c : Nat) : State :=
  if (getPair s c).pend then
    let s := updPair s c (fun p => { p with pend := false })
    (s.slots.filter (fun e => e.2.ctx == c && !e.2.ended)).foldl (fun s e => rerunOn s e.1 e.2.host) s
  else s

/-- DIGEST (R404, R405): the peer's digests of a step.
Log 73 (DEDUCED). -/
def execDigest (h : PairHdr) (stepCtr : Word64) (step : BitVec 128) (slots : List (BitVec 128)) (s : State) :
    Host.Outcome State Fault Refusal :=
  .next (match pairFor s h with
  | none => s
  | some c =>
    let d : StepDigest := ⟨stepCtr.toNat, step.toNat, (slots.zipIdx).map (fun e => (e.2, e.1.toNat))⟩
    compareStep (updPair s c (fun p => { p with digests := keepDigest p.digests d, heard := s.aon })) c stepCtr.toNat)

/-- LOCATE (R404): digests of the peer's TMMAs of one slot, in issue order.
Log 73 (DEDUCED). -/
def execLocate (h : PairHdr) (slot : BitVec 9) (digests : List (BitVec 48 × BitVec 128)) (s : State) :
    Host.Outcome State Fault Refusal :=
  .next (match pairFor s h with
  | none => s
  | some c => updPair s c (fun p => { p with
      loc := p.loc ++ [(slot.toNat, digests.map (fun d => (d.1.toNat, d.2.toNat)))], heard := s.aon }))

/-- PAIR_END (R408): the context ends with PLEACH_PEER_LOST.
Log 73 (DEDUCED). -/
def execPairEnd (h : PairHdr) (s : State) : Host.Outcome State Fault Refusal :=
  .next (match pairFor s h with
  | none => s
  | some c => pairFault s c 0x0112)

/-- The step digest over slot digests in ascending slot order (R400, R402): tile halves above write halves.
Log 72 (DEDUCED). -/
def stepDigest (slots : List (Nat × Nat)) : Nat :=
  let f := fun (half : Nat → Nat) =>
    (slots.foldl (fun c e => crc64 c (leBytes 8 (half e.2))) (BitVec.allOnes 64) ^^^ BitVec.allOnes 64).toNat
  f (fun d => d / 2 ^ 64) * 2 ^ 64 + f (fun d => d % 2 ^ 64)

/-- The slots of the running launch of a context, primaries only or twins too, in ascending order. -/
def launchSlots (s : State) (c n : Nat) : List (Nat × Slot) :=
  s.slots.filter (fun e => e.2.ctx == c && e.2.launch == n && !e.2.ended)

/-- The own digest of the open step goes out, once (R404, R405).
Log 73 (DEDUCED). -/
def sendDigest (s : State) (c n : Nat) : State :=
  let ctr := (getC s c).stepCtr.toNat
  if (digestAt (getPair s c).own ctr).isSome then s
  else
    let ds := ((launchSlots s c n).filter (fun e => e.2.twinOf.isNone)).map (fun e => (e.1 % 512, slotDigest e.1 e.2))
    let d : StepDigest := ⟨ctr, stepDigest ds, ds⟩
    let s := updPair s c (fun p => { p with own := keepDigest p.own d })
    compareStep (pairSend s c msgDigest ([ctr, d.step] ++ ds.flatMap (fun e => [e.1, e.2]))) c ctr

/-- Whether a chip waits on its peer (R408): a shed of the context waits for a commit point that the pair withholds.
Log 73 (DEDUCED). -/
def pairWaits (s : State) (c : Nat) : Bool :=
  isPaired s c && (getC s c).step.isOpen && s.slots.any (fun e => e.2.ctx == c && !e.2.ended &&
    e.2.sheds.any (fun h => h.2.wait == .commit)) &&
  (decide ((getPair s c).formed < ((getC s c).launches.headD ⟨0, 0, 0, 0, 0, false, 0, 0, 0, 0, false, false, 0, false⟩).number) ||
    (digestAt (getPair s c).digests (getC s c).stepCtr.toNat).isNone)

/-- PLEACH_PEER_LOST (R408): timeout_ms has passed without a matching message. -/
def execPleachPeerLost (ctx : BitVec 8) (s : State) : Host.Outcome State Fault Refusal :=
  .next (
  let c := ctx.toNat
  if pairWaits s c && (getC s c).inUse && !(getC s c).ended then
    pairFault (record s 0x3063 3 0x07 (pairPort s c) (pairPay s c (getC s c).stepCtr.toNat 0xFFFF noTile)) c 0x0112
  else s)

end Sys2Proof.Machine
end

