-- ==== Sys2Proof/Machine/Launches.lean ====
section
/-! DEFINITION. Launches, slots and steps (09 R305 to R309, R315, R319, R326 to R333, R337; 10 R349, R358 to R361; 11 R396 to
R400): the start and end of launches, slot switches, step instructions, software checks and commit points. -/

namespace Sys2Proof.Machine

/-- STEP.COMMIT and CKASSERT outside their place (R359, R361). -/
def stepSequence (s : State) (r : Run) (lane : Nat) : State := indexFault s r 0x010B lane

/-- Whether a slot has a TMMA whose check has not come to an end. -/
def unchecked (s : State) (k : Nat) : Bool := s.chk.cls.any (fun e => e.2.jobs.any (fun j => j.slot == k && !j.stale))

/-- The input ranges of a step descriptor (Table 9.6); none where it fails its CRC or a rule.
Log 62 (DEDUCED). -/
def stepRanges (b : List Byte) : Option (List (Nat × Nat)) :=
  let r := (List.range 4).map (fun i => (bytesAt b (12 * i) 8, bytesAt b (12 * i + 8) 4))
  let used := r.filter (fun e => e.2 != 0)
  let okR := fun (e : Nat × Nat) =>
    e.1 % 4096 == 0 && (decide (e.1 + 4096 * e.2 ≤ 0x800000000000) ||
      (decide (0x800000000000 ≤ e.1) && decide (e.1 + 4096 * e.2 ≤ 0x800020000000)))
  if bytesAt b 60 4 = (crc32c (b.take 60)).toNat ∧ (b.drop 48).take 12 = zeros 12 ∧ used.all okR then some used else none

/-- What a slot keeps of a shed at its STEP.BEGIN, so that its part of the step can run again (R333, 10 R361). -/
def snapShed (x : Slot) (shed : Nat) (h : Shed) : Slot :=
  let mine := fun (k : Nat) => decide (k / 16 = shed)
  { x with snap := Tbl.put x.snap shed h, snapT := if x.snap.isEmpty then x.tiles else x.snapT,
           tdig := if x.snap.isEmpty then BitVec.allOnes 64 else x.tdig, locs := if x.snap.isEmpty then [] else x.locs,
           snapE := x.snapE ++ x.echo.filter (fun e => mine e.1), snapH := x.snapH ++ x.heard.filter (fun e => mine e.1) }

/-- STEP.BEGIN ra (10 R358, R359, 09 R326, R327): the first of a slot reads the descriptor, once the slot's earlier TMMAs have
been checked.
Log 68 (DEDUCED). -/
def execStepBegin (w : ShedRef) (f : T3) (env : Env) (s : State) : Host.Outcome State Fault Refusal :=
  .next (perShed s w f.guard (f.rd == 0 && f.rb == 0 && f.rc == 0 && f.mod == 0) false (fun r =>
    let lane := (lanesOf r.h.exec).headD 0
    if r.h.gp lane f.ra then consume s r lane
    else if r.h.begun then stepSequence s r 0xFF
    else if r.slot.snap.isEmpty && unchecked s r.key then s
    else
      let x := getC s r.ctx
      let opened := if x.step.isOpen then s
        else putC s r.ctx { x with step := { Step.closed with isOpen := true, ctr := x.stepCtr } }
      let enter := fun (s : State) =>
        let s := updS s r.key (fun y => snapShed { y with descRead := true } r.shed r.h)
        advance s r { r.h with begun := true, closed := false }
      if r.slot.descRead then enter opened
      else
        let va := (r.h.g lane f.ra).toNat
        match slotRead r.key 2 va 64 env [] s with
        | (.error (st, a), s) => threadFault s r st a lane
        | (.ok (b, _), s') =>
          if b.any (·.2) then threadFault s' r 0x0113 va lane
          else match stepRanges (b.map (·.1)) with
            | none => threadFault s' r 0x0107 va lane
            | some l =>
              let x := getC s' r.ctx
              let st := if x.step.isOpen then x.step else { Step.closed with isOpen := true, ctr := x.stepCtr }
              enter (putC s' r.ctx { x with step := { st with ranges := st.ranges ++ l } })))

/-- STEP.COMMIT (10 R359, 09 R326): the shed waits for the commit point; a paired context whose port field names no port ends
(11 Table 11.9). -/
def execStepCommit (w : ShedRef) (f : T3) (s : State) : Host.Outcome State Fault Refusal :=
  .next (perShed s w f.guard (f.rd == 0 && f.ra == 0 && f.rb == 0 && f.rc == 0 && f.mod == 0) false (fun r =>
    if !r.h.begun then stepSequence s r 0xFF
    else if isPaired s r.ctx && decide (pairPort s r.ctx ≥ 6) then indexFault s r 0x0112 0xFF
    else putShed s r { r.h with closed := true, wait := .commit }))

/-- The payload of SW_CHECK_MISMATCH, TWIN_MISMATCH and TWIN_UNRESOLVED (15 Table 15.14). -/
def softPay (s : State) (c host slot shed lane tag other rerun : Nat) : List Byte :=
  pay [(2, host), (2, slot), (2, c), (1, shed), (1, lane), (2, tag), (2, other),
       (4, (getC s c).stepCtr.toNat % 2 ^ 32), (1, rerun)]

/-- CKASSERT ra, rb, rc (10 R361): the first active thread in which the operands differ records SW_CHECK_MISMATCH, whose handling
runs the slot's part of the step again. -/
def execCkassert (w : ShedRef) (f : T3) (s : State) : Host.Outcome State Fault Refusal :=
  .next (perThread s w f.guard (f.rd == 0 && f.mod == 0) false (fun r m =>
    if !(getC s r.ctx).step.isOpen then stepSequence s r 0xFF
    else match firstLane m (fun l => r.h.gp l f.ra || r.h.gp l f.rb || r.h.gp l f.rc) with
      | some l => consume s r l
      | none => match firstLane m (fun l => r.h.g l f.ra != r.h.g l f.rb) with
        | none => advance s r r.h
        | some l =>
          let n := r.slot.mismatch + 1
          let s := updS s r.key (fun x => { x with mismatch := n, reRunAt := some n })
          accept s 0x3040 2 0x02 r.slot.host r.ctx 0xFFFF
            (softPay s r.ctx r.slot.host r.no r.shed l ((r.h.g l f.rc).toNat % 65536) 0xFFFF n)))

/-- A context of a launch ends for a reason that is found outside a thread's instruction. -/
def slotFault (s : State) (k c status : Nat) : State :=
  faultCtx s c status 0 (k % 512) 0xFF 0xFF (getS s k).host true

/-- The handling of SW_CHECK_MISMATCH (10 R361): the slot runs its part of the step again, on the same host, or at the second
mismatch on another in-service cluster of the partition while the first host is charged; at the third the context ends.
Log 71 (DEDUCED). -/
def softRerun (s : State) (k : Nat) : State :=
  let x := getS s k
  match x.reRunAt with
  | none => s
  | some n =>
    if x.ended ∨ n > 3 then s
    else
      let s := updS s k (fun x => { x with reRunAt := none, reruns := x.reruns + 1 })
      if n = 1 then rerunOn s k x.host
      else if n = 2 then
        let p := k / 512
        let m := (s.slots.filter (fun f => f.1 / 512 == p && !f.2.ended)).map (fun f => f.2.host)
        let h := (leastLoaded m ((serviceClusters s p).filter (· != x.host))).getD x.host
        charge (rerunOn s k h) x.host
      else slotFault s k x.ctx 0x010D

/-- The twin slot of a primary slot. -/
def twinSlot (s : State) (k : Nat) : Option (Nat × Slot) := s.slots.find? (fun e => !e.2.ended && e.2.twinOf == some k)

/-- The handling of TWIN_MISMATCH (11 R398): the slot's part runs again on a third in-service cluster; while there is none it
waits.
Log 71 (DEDUCED). -/
def twinRerun (s : State) (k : Nat) : State :=
  let x := getS s k
  match x.reRunAt, twinSlot s k with
  | some 9, some (_, y) =>
    let p := k / 512
    let m := (s.slots.filter (fun f => f.1 / 512 == p && !f.2.ended)).map (fun f => f.2.host)
    match leastLoaded m ((serviceClusters s p).filter (fun h => h != x.host && h != y.host)) with
    | some h => rerunOn (updS s k (fun x => { x with reRunAt := none, reruns := x.reruns + 1 })) k h
    | none => s
  | _, _ => s

/-! ### The end of a launch -/

/-- The sheds of a slot have all ended. -/
def slotDone (x : Slot) : Bool := x.sheds.all (fun e => !e.2.started || e.2.ended == BitVec.allOnes 16)

/-- A launch whose started threads have all ended is over (R309): its slots are free, its done object rises. -/
def endLaunch (s : State) (c n : Nat) : State :=
  let sl := launchSlots s c n
  if sl.isEmpty || !sl.all (fun e => slotDone e.2) then s
  else
    let ks := sl.map (·.1)
    let o := (launchOf (getC s c) n).elim 0xFFFF (·.doneObj)
    let s := { s with
      slots := s.slots.map (fun e => if ks.contains e.1 then (e.1, { e.2 with ended := true, active := false, saved := false }) else e)
      chk := { s.chk with cls := s.chk.cls.map (fun e =>
        (e.1, { e.2 with jobs := e.2.jobs.map (fun j => if ks.contains j.slot then { j with stale := true } else j) })) } }
    let s := updC s c (fun x => { x with launches := x.launches.filter (fun l => l.number != n) })
    syncBump (watchRestart s c) c o

/-- END (10 R349): the executing threads end; a shed that ends between its STEP.BEGIN and STEP.COMMIT ends the context (R359). -/
def execThreadEnd (w : ShedRef) (f : T3) (s : State) : Host.Outcome State Fault Refusal :=
  .next (perThread s w f.guard (f.rd == 0 && f.ra == 0 && f.rb == 0 && f.rc == 0 && f.mod == 0) false (fun r m =>
    let h := { r.h with ended := r.h.ended ||| m, exec := r.h.exec &&& ~~~m }
    if h.ended ≠ BitVec.allOnes 16 then advance s r h
    else if h.begun && !h.closed then stepSequence s r 0xFF
    else endLaunch (settleBars (advance s r h) r.key) r.ctx r.slot.launch))

/-! ### The start of a launch (R306, R307, R309, R315) -/

/-- The first launch of a context, while it has not started.
Log 57 (DEDUCED). -/
def waitingLaunch (s : State) (c : Nat) : Option Launch :=
  if !(getC s c).inUse || (getC s c).ended || (getC s c).fault != 0 || isFenced s c then none
  else match (getC s c).launches with
    | l :: _ => if l.started then none else some l
    | [] => none

/-- The slots of a launch: the slot, and for a twin copy its primary (R307, 11 R396). -/
def slotsOf (s : State) (p : Nat) (l : Launch) : List (Nat × Option Nat) :=
  (List.range l.count).map (fun i => (l.first + i, none)) ++
    (if l.twin then (List.range l.count).map (fun i => ((l.first + l.count + i) % slotCount s p, some (l.first + i))) else [])

/-- Whether a slot is free. -/
def slotFree (s : State) (p k : Nat) : Bool := (getS s (slotKey p k)).ended

/-- Whether a launch can start: it is its context's turn, its slots are free, its partition has clusters for it, and no launch of
the partition accepted before it waits (R307, R336, 11 R396).
Log 57 (DEDUCED). -/
def mayStart (s : State) (c : Nat) (l : Launch) : Bool :=
  let p := partOf c
  let n := slotCount s p
  let need := if l.twin then 2 * l.count else l.count
  s.phase == .run && decide (l.first + need ≤ n ∨ (l.twin ∧ l.first + l.count ≤ n ∧ need ≤ n))
    && (slotsOf s p l).all (fun e => slotFree s p e.1)
    && decide ((serviceClusters s p).length ≥ (if l.twin then 2 else 1))
    && !((liveCtxs s).any (fun d => d != c && partOf d == p && (waitingLaunch s d).elim false (fun m => decide (m.order < l.order))))

/-- A shed at the start of a launch (R309). -/
def startShed (l : Launch) (slot shed : Nat) : Shed :=
  { Shed.idle with
    started := true, exec := BitVec.allOnes 16, pc := l.entry
    regs := (List.range 16).foldl (fun t ln =>
      Tbl.put (Tbl.put (Tbl.put (Tbl.put t (64 * ln + 1) l.arg) (64 * ln + 2) (w64 slot)) (64 * ln + 3) (w64 (16 * shed + ln)))
        (64 * ln + 4) (w64 l.number)) [] }

/-- A slot starts its part of a launch on its host (R306, R309, R315, 11 R396). -/
def startSlot (c : Nat) (l : Launch) (s : State) (e : Nat × Option Nat) : State :=
  let p := partOf c
  let k := slotKey p e.1
  let prev := getS s k
  let place := (placement s p).getD e.1 0xFFFF
  let primHost := e.2.elim 0xFFFF (fun q => (getS s (slotKey p q)).host)
  let m := (s.slots.filter (fun f => f.1 / 512 == p && !f.2.ended)).map (fun f => f.2.host)
  let host := if place = primHost then (leastLoaded m ((serviceClusters s p).filter (· != primHost))).getD place else place
  let s := if prev.ctx = c ∧ prev.host = host then s else memWipe s (padBase p e.1) (padBase p e.1 + 0xC0000)
  let primSlot := e.2.getD e.1
  putS s k { Slot.idle with
    ctx := c, launch := l.number, logical := primSlot, twinOf := e.2.map (slotKey p), host := host, active := !runsOther s host k,
    sheds := ((List.range 4).filter (fun i => l.sheds.getLsbD i)).map (fun i => (i, startShed l primSlot i)), ended := false }

/-- LAUNCH_START (R307, R309): the next launch of a context starts.
Log 9 (DESIGN CHOICE); 57 (DEDUCED). -/
def execLaunchStart (ctx : BitVec 8) (s : State) : Host.Outcome State Fault Refusal :=
  .next (
  let c := ctx.toNat
  match waitingLaunch s c with
  | none => s
  | some l =>
    if mayStart s c l then
      let s := (slotsOf s (partOf c) l).foldl (startSlot c l) s
      endLaunch (updC s c (fun x => { x with launches := x.launches.map (fun m => if m.number = l.number then { m with started := true } else m) }))
        c l.number
    else s)

/-! ### Slot switches (R305, R308, R337) -/

/-- The first byte of the save entry of a slot (R305). -/
def saveEntry (s : State) (p k : Nat) : Nat := saveArea s p + k * 0x180000

/-- Copy `n` bytes of device memory with their poison from cell `src` to cell `dst`. -/
def copyCells (s : State) (src dst n : Nat) : State :=
  let w := memWipe s dst (dst + n)
  let cs := s.mem.cells.filter (fun e => decide (src ≤ e.1) && decide (e.1 < src + n))
  let ps := s.mem.poison.filter (fun g => decide (src ≤ g * 32) && decide (g * 32 < src + n))
  let w := cs.foldl (fun w e => memPut w (e.1 - src + dst) e.2) w
  ps.foldl (fun w g => setPoison w (g * 32 - src + dst)) w

/-- The general registers of the 64 threads of a slot as they stand in a save entry: 512 bytes a thread.
Log 58 (DESIGN CHOICE). -/
def regImage (x : Slot) : List (Nat × Word64) :=
  x.sheds.flatMap (fun e => e.2.regs.map (fun r => (512 * (16 * e.1 + r.1 / 64) + 8 * (r.1 % 64), r.2)))

/-- Save a slot into its save entry (R305, R308): scratchpad with its poison, and general registers; the rest of the entry has no
stated layout and stays with the slot.
Log 58 (DESIGN CHOICE). -/
def saveSlot (s : State) (k : Nat) : State :=
  let x := getS s k
  let e := saveEntry s (k / 512) (k % 512)
  let s := copyCells s (padBase (k / 512) (k % 512)) e 0xC0000
  let s := memWipe s (e + 0x160000) (e + 0x168000)
  let s := (regImage x).foldl (fun s r => memPuts s (e + 0x160000 + r.1) (leBytes 8 r.2.toNat)) s
  updS s k (fun x => { x with saved := true, active := false })

/-- The general registers of the 16 threads of a shed from an image at cell `a`.
Log 58 (DESIGN CHOICE). -/
def readRegs (s : State) (a : Nat) : Tbl Word64 :=
  (List.range 1024).foldl (fun t r =>
    let v := w64 (leNat (memGets s (a + 8 * r) 8))
    if v = 0 then t else Tbl.put t r v) []

/-- Restore a slot from its save entry; whether a register image is poisoned (13 Table 13.5).
Log 58 (DESIGN CHOICE). -/
def restoreSlot (s : State) (k : Nat) : Bool × State :=
  let x := getS s k
  if !x.saved then (false, s)
  else
    let e := saveEntry s (k / 512) (k % 512)
    let s := copyCells s e (padBase (k / 512) (k % 512)) 0xC0000
    let sheds := x.sheds.map (fun h => (h.1, { h.2 with regs := readRegs s (e + 0x160000 + 8192 * h.1) }))
    (anyPoison s (e + 0x160000) 0x8000, putS s k { x with saved := false, sheds := sheds })

/-- A slot whose home cluster is in service moves back to it at a step boundary or thread quantum (R306).
Log 56 (DEDUCED). -/
def goHome (s : State) (k : Nat) : State :=
  let x := getS s k
  let h := homeOf s (k / 512) (k % 512)
  let clash := s.slots.any (fun e => !e.2.ended && (e.2.twinOf == some k || x.twinOf == some e.1) && e.2.host == h)
  if !x.ended && x.host != h && clInService s h && !clash && !(getC s x.ctx).step.isOpen then
    putS s k { x with host := h, active := !runsOther s h k, saved := x.saved && runsOther s h k }
  else s

/-- SLOT_SWITCH (R308, R337): a host cluster saves the slot it runs and restores another that it hosts. -/
def execSlotSwitch (cluster : BitVec 9) (toPart : BitVec 3) (toSlot : BitVec 9) (s : State) : Host.Outcome State Fault Refusal :=
  .next (
  let n := cluster.toNat
  let k := slotKey toPart.toNat toSlot.toNat
  let x := getS s k
  if x.ended ∨ x.host ≠ n ∨ x.active ∨ !clInService s n ∨ s.phase ≠ .run then s
  else
    let cur := s.slots.filter (fun e => !e.2.ended && e.2.active && e.2.host == n)
    if (x.saved && !hbmUp s (saveEntry s (k / 512) (k % 512))) || cur.any (fun e => !hbmUp s (saveEntry s (e.1 / 512) (e.1 % 512))) then
      (s.slots.filter (fun e => !e.2.ended && e.2.host == n)).foldl (fun s e => slotFault s e.1 e.2.ctx 0x0108) s
    else
      let s := cur.foldl (fun s e => goHome (saveSlot s e.1) e.1) s
      let (bad, s) := restoreSlot s k
      let s := updS s k (fun x => { x with active := true })
      if bad then slotFault s k x.ctx 0x0113 else s)

/-! ### Commit points (R326 to R332) -/

/-- R326: every started shed has executed STEP.COMMIT, every tile operation has come to its end, every transfer of the step is
complete; and no re-run and no unhandled tile error waits.
Log 63 (DEDUCED). -/
def commitReady (s : State) (c n : Nat) : Bool :=
  let sl := launchSlots s c n
  let q1 := s.err.q1.any (fun e => e.ctx == c)
  (getC s c).step.isOpen && (getC s c).fault == 0 && !isFenced s c && !sl.isEmpty && s.phase == .run && !q1
    && sl.all (fun e => e.2.reRunAt.isNone && e.2.sheds.all (fun h => !h.2.started || h.2.closed) && !unchecked s e.1)
    && !((s.shut.flatMap (·.2)).any (fun o => o.ctx == c && o.trig.inStep.isSome && o.data.isNone))

/-- What the comparison of a primary slot with its twin finds (11 R398). -/
inductive TwinRes where
  | agree
  | charge (host : Nat)
  | differ
  | never
deriving DecidableEq, Repr

/-- Compare a primary slot with its twin; after a re-run the third digest decides.
Log 71 (DEDUCED). -/
def twinCompare (k : Nat) (x : Slot) (k' : Nat) (y : Slot) : TwinRes :=
  let d := slotDigest k x
  let t := slotDigest k' y
  match x.third with
  | none => if d = t then .agree else .differ
  | some (d0, h0) => if d = d0 then .charge y.host else if d = t then .charge h0 else .never

/-- Settle the comparisons of a step (11 R398): whether every pair agrees. -/
def settleTwins (s : State) (c n : Nat) : Bool × State :=
  (launchSlots s c n).foldl (fun a e =>
    match twinSlot a.2 e.1 with
    | none => a
    | some (k', y) => match twinCompare e.1 (getS a.2 e.1) k' y with
      | .agree => a
      | .charge h => (a.1, updS (charge a.2 h) e.1 (fun x => { x with third := none }))
      | .differ =>
        let s := updS a.2 e.1 (fun x => { x with third := some (slotDigest e.1 x, x.host), reRunAt := some 9 })
        (false, accept s 0x3050 2 0x02 e.2.host c 0xFFFF (softPay s c e.2.host (e.1 % 512) 0xFF 0xFF 0 y.host 1))
      | .never =>
        let h0 := e.2.third.elim 0xFFFF (·.2)
        let s := record a.2 0x3051 3 0x02 h0 (softPay a.2 c h0 (e.1 % 512) 0xFF 0xFF 0 e.2.host 1)
        (false, slotFault s e.1 c 0x010F)) (true, s)

/-- The digests of the TMMAs of the slots that differed go out in a re-run (11 R404).
Log 14 (DESIGN CHOICE). -/
def sendLocates (s : State) (c : Nat) : State :=
  let p := getPair s c
  if p.rerun ∧ (digestAt p.own (getC s c).stepCtr.toNat).isNone then
    p.slots.foldl (fun s sl => pairSend s c msgLocate (sl :: (getS s (slotKey (partOf c) sl)).locs.flatMap (fun e => [e.1, e.2]))) s
  else s

/-- Whether the pair of a context lets the step commit (11 R403 to R405), once its digest has gone out.
Log 63 (DEDUCED). -/
def pairAllows (s : State) (c n : Nat) : Bool × State :=
  if !isPaired s c then (true, s)
  else
    let ctr := (getC s c).stepCtr.toNat
    let p := getPair s c
    if p.formed < n then (false, s)
    else if pairTrails s c then
      let ahead := match p.digests.getLast? with
        | some d => decide (ctr > d.ctr + pairLag s c)
        | none => decide (p.own.length ≥ pairLag s c)
      if ahead then (false, s)
      else
        let s := sendDigest s c n
        ((getC s c).fault == 0, s)
    else
      let s := sendDigest (sendLocates s c) c n
      match digestAt (getPair s c).own ctr, digestAt (getPair s c).digests ctr with
      | some a, some b => (a.step == b.step, s)
      | _, _ => (false, s)

/-- The link operations of the step go out in the order of their engines (17 R586). -/
def sendHeldOps (s : State) (c : Nat) : State :=
  (List.range 6).foldl (fun s i =>
    let e := 12 + i
    (engineQ s e).foldl (fun s o => match o.data, engineQ s e with
      | some (d, po), h :: t => if o.ctx = c ∧ h = o then startOp (sendLinkOp (putEngine s e t) c o.trig d po) e else s
      | _, _ => s) s) s

/-- A slot after the commit point: nothing held, its sheds go on behind STEP.COMMIT. -/
def freshSlot (x : Slot) : Slot :=
  let freed := fun (h : Shed) =>
    if h.closed then { h with begun := false, closed := false, wait := .none, pc := h.pc + 8 } else h
  { x with held := [], atomics := [], seq := 0, descRead := false, mismatch := 0, snap := [], snapT := [], snapE := [], snapH := [],
           third := none, tdig := BitVec.allOnes 64, locs := [], sheds := x.sheds.map (fun e => (e.1, freed e.2)) }

/-- The commit point (R326, R329 to R331, 10 R367, R360): held writes, held atomics, writes that waited for the input ranges,
triggers whose condition became true, and link operations, in this order; the step counter rises by one. -/
def commitStep (s : State) (c : Nat) (l : Launch) : State :=
  let sl := launchSlots s c l.number
  let prim := sl.filter (fun e => e.2.twinOf.isNone)
  let st := (getC s c).step
  let s := updC s c (fun x => { x with step := Step.closed, stepCtr := x.stepCtr + 1 })
  let s := applyAtomics (applyHeld s c prim) prim l.ordered c
  let s := { s with slots := s.slots.map (fun e => if sl.any (fun f => f.1 == e.1) then (e.1, freshSlot e.2) else e),
                    pairs := s.pairs.map (fun e => if e.1 = c then (e.1, { e.2 with rerun := false, slots := [], loc := [] }) else e) }
  let s := st.waiting.foldl (fun s w => placeWrite s w.place w.bytes w.poison 3) s
  let s := st.firing.foldl (fun s t => enqueue s c t) s
  let s := watchRestart (sendHeldOps s c) c
  sl.foldl (fun s e => goHome s e.1) s

/-- STEP_COMMIT_POINT (R326): the step of a context's running launch commits.
Log 6 (DESIGN CHOICE); 63 (DEDUCED). -/
def execStepCommitPoint (ctx : BitVec 8) (s : State) : Host.Outcome State Fault Refusal :=
  .next (
  let c := ctx.toNat
  match (getC s c).launches with
  | l :: _ =>
    if l.started && commitReady s c l.number then
      match settleTwins s c l.number with
      | (false, s) => s
      | (true, s) => match pairAllows s c l.number with
        | (false, s) => s
        | (true, s) => commitStep s c l
    else s
  | [] => s)

/-- XLAT_DONE (R319): every access translated before the change of MEM.XLAT_EPOCH has completed.
Log 59 (DEDUCED). -/
def execXlatDone (ctx : BitVec 8) (s : State) : Host.Outcome State Fault Refusal :=
  .next (
  let c := ctx.toNat
  if (getC s c).inUse then updC s c (fun x => { x with xlatDone := (liveVal s 5 0x201 c).setWidth 32 }) else s)

end Sys2Proof.Machine
end

