-- ==== Sys2Proof/Machine/Vectors.lean ====
section
/-! DEFINITION. Vector instructions (10 Table 10.11, R368; 11 R377, R384 to R386): a 128-bit operand is an even register and the one
above it. -/

namespace Sys2Proof.Machine

/-- The 128-bit operand of an even register in a lane. -/
def vecGet (h : Shed) (l : Nat) (r : BitVec 6) : Nat := (h.g l r).toNat + (h.g l (r + 1)).toNat * 2 ^ 64
/-- Whether a vector operand is poisoned. -/
def vecPois (h : Shed) (l : Nat) (r : BitVec 6) : Bool := h.gp l r || h.gp l (r + 1)
/-- Whether a register number is even (R368). -/
def evenReg (r : BitVec 6) : Bool := r.toNat % 2 == 0

/-- A vector instruction: `val` gives a lane's result from its three operands; a poisoned operand poisons it (R341).
Log 74 (DEDUCED). -/
def vector (ok : Bool) (use2 use3 : Bool) (val : Nat → Nat → Nat → Nat) (w : ShedRef) (f : T3) (s : State) :
    Host.Outcome State Fault Refusal :=
  .next (perThread s w f.guard (ok && evenReg f.rd && evenReg f.ra && evenReg f.rb && evenReg f.rc
      && (use2 || f.rb == 0) && (use3 || f.rc == 0)) true (fun r m =>
    advance s r ((lanesOf m).foldl (fun h l =>
      let v := val (vecGet r.h l f.ra) (vecGet r.h l f.rb) (vecGet r.h l f.rc)
      let po := vecPois r.h l f.ra || (use2 && vecPois r.h l f.rb) || (use3 && vecPois r.h l f.rc)
      (h.setG l f.rd (w64 v) po).setG l (f.rd + 1) (w64 (v / 2 ^ 64)) po) r.h)))

/-- Whether mod names a float format and nothing else.
Log 66 (DEDUCED). -/
def floatMod (f : T3) : Bool := decide (f.mod.toNat < 4)
/-- Whether mod names INT32 and nothing else.
Log 66 (DEDUCED). -/
def intMod (f : T3) : Bool := f.mod == 4

/-- A float operation element by element, each result rounded once (11 R385). -/
def floatLanes (f : T3) (op : Fl → Fl → Fl → Fl) (a b c : Nat) : Nat :=
  let k := f.mod.toNat
  match vecFmt k with
  | some t =>
    let d := fun (v : Nat) => (vecElems k v).map (decodeF t)
    vecPack k ((List.zipWith (fun x (y : Fl × Fl) => encodeF t none (op x y.1 y.2)) (d a) ((d b).zip (d c))))
  | none => 0

/-- An INT32 operation element by element, modulo 2^32 (11 R386). -/
def intLanes (op : Nat → Nat → Nat → Nat) (a b c : Nat) : Nat :=
  vecPack 4 (List.zipWith (fun x (y : Nat × Nat) => op x y.1 y.2 % 2 ^ 32) (vecElems 4 a) ((vecElems 4 b).zip (vecElems 4 c)))

/-- An operation on the sign bit of each element alone (11 R386). -/
def signLanes (f : T3) (op : Nat → Nat → Nat) (a : Nat) : Nat :=
  let k := f.mod.toNat
  let top := 2 ^ (vecBits k - 1)
  vecPack k ((vecElems k a).map (fun v => v % top + top * op (v / top) 0))

/-- A float instruction of two operands. -/
def vecF2 (op : Fl → Fl → Fl) (w : ShedRef) (f : T3) (s : State) : Host.Outcome State Fault Refusal :=
  vector (floatMod f) true false (floatLanes f (fun x y _ => op x y)) w f s

/-- VADD (R385). -/
def execVadd := vecF2 flAdd
/-- VSUB (R385). -/
def execVsub := vecF2 (fun x y => flAdd x (flNeg y))
/-- VMUL (R385). -/
def execVmul := vecF2 flMul
/-- VMIN (R386). -/
def execVmin := vecF2 flMin
/-- VMAX (R386). -/
def execVmax := vecF2 flMax

/-- VFMA: ra × rb + rc, rounded once (R385). -/
def execVfma (w : ShedRef) (f : T3) (s : State) : Host.Outcome State Fault Refusal :=
  vector (floatMod f) true true (floatLanes f (fun x y z => flAdd (flMul x y) z)) w f s

/-- VABS: the sign bit is cleared (R386). -/
def execVabs (w : ShedRef) (f : T3) (s : State) : Host.Outcome State Fault Refusal :=
  vector (floatMod f) false false (fun a _ _ => signLanes f (fun _ _ => 0) a) w f s
/-- VNEG: the sign bit is inverted (R386). -/
def execVneg (w : ShedRef) (f : T3) (s : State) : Host.Outcome State Fault Refusal :=
  vector (floatMod f) false false (fun a _ _ => signLanes f (fun x _ => 1 - x) a) w f s

/-- VIADD (R386). -/
def execViadd (w : ShedRef) (f : T3) (s : State) : Host.Outcome State Fault Refusal :=
  vector (intMod f) true false (intLanes (fun a b _ => a + b)) w f s
/-- VIMUL (R386). -/
def execVimul (w : ShedRef) (f : T3) (s : State) : Host.Outcome State Fault Refusal :=
  vector (intMod f) true false (intLanes (fun a b _ => a * b)) w f s
/-- VIMAD: ra × rb + rc (R386). -/
def execVimad (w : ShedRef) (f : T3) (s : State) : Host.Outcome State Fault Refusal :=
  vector (intMod f) true true (intLanes (fun a b c => a * b + c)) w f s

/-- A logic instruction over the 128 bits; every format code is defined and none matters. -/
def vecLogic (op : BitVec 128 → BitVec 128 → BitVec 128) (w : ShedRef) (f : T3) (s : State) : Host.Outcome State Fault Refusal :=
  vector (decide (f.mod.toNat < 5)) true false (fun a b _ => (op (BitVec.ofNat 128 a) (BitVec.ofNat 128 b)).toNat) w f s

/-- VAND (Table 10.11). -/
def execVand := vecLogic (fun a b => a &&& b)
/-- VOR (Table 10.11). -/
def execVor := vecLogic (fun a b => a ||| b)
/-- VXOR (Table 10.11). -/
def execVxor := vecLogic (fun a b => a ^^^ b)

/-- One lane of VCVT: elements of the source format converted in order; elements of the destination that the source has none for,
and an infinity converted to an integer, have no stated value: free values. -/
def convertLanes (k d : Nat) (sat : Bool) (src : List Nat) : Nat → State → List Nat × State
  | 0, s => ([], s)
  | n + 1, s =>
    let i := 128 / vecBits d - (n + 1)
    let (v, s) := match (src[i]?).bind (vecConvert k d sat) with
      | some v => (v, s)
      | none => let (x, s) := takeFree s; (x.toNat % 2 ^ vecBits d, s)
    let (t, s) := convertLanes k d sat src n s
    (v :: t, s)

/-- VCVT: from the format in mod[2:0] to the one in mod[5:3] (R368, 11 R384), saturating as the launch took CLU.NUMERICS[sat].
Log 16 (DESIGN CHOICE); 74 (DEDUCED). -/
def execVcvt (w : ShedRef) (f : T3) (s : State) : Host.Outcome State Fault Refusal :=
  let k := f.mod.toNat % 8
  let d := f.mod.toNat / 8
  .next (perThread s w f.guard (decide (k < 5) && decide (d < 5) && evenReg f.rd && evenReg f.ra && f.rb == 0 && f.rc == 0) true
    (fun r m =>
      let sat := (r.launch s).elim false (·.sat)
      let (h, s) := (lanesOf m).foldl (fun (a : Shed × State) l =>
        let (es, s) := convertLanes k d sat (vecElems k (vecGet r.h l f.ra)) (128 / vecBits d) a.2
        let v := vecPack d es
        let po := vecPois r.h l f.ra
        ((a.1.setG l f.rd (w64 v) po).setG l (f.rd + 1) (w64 (v / 2 ^ 64)) po, s)) (r.h, s)
      advance s r h))

end Sys2Proof.Machine
end

