-- ==== Sys2Proof/Machine/Tiles.lean ====
section
/-! DEFINITION. Tile instructions (10 R353 to R357, R373; 11 R379 to R384): loading, storing, zeroing, and the issue of a tile
product, whose result is delivered by its check (12). -/

namespace Sys2Proof.Machine

/-- The bytes of a tile row of a format (Table 10.4). -/
def rowBytes (t : Nat) : Nat := 8 * tileBits t

/-- A tile register of a slot. -/
def getTile (x : Slot) (m : Nat) : Tile := Tbl.get Tile.start x.tiles m
/-- Write a tile register of a slot. -/
def putTile (s : State) (k m : Nat) (t : Tile) : State := updS s k (fun x => { x with tiles := Tbl.put x.tiles m t })

/-- The checker of a cluster. -/
def getCk (s : State) (n : Nat) : ChkCl := Tbl.get ChkCl.init s.chk.cls n
/-- Change the checker of a cluster. -/
def updCk (s : State) (n : Nat) (f : ChkCl → ChkCl) : State :=
  { s with chk := { s.chk with cls := Tbl.put s.chk.cls n (f (getCk s n)) } }

/-- Whether a product for tile register `m` of slot `k` is not yet settled (R357).
Log 79 (DEDUCED). -/
def tileBusy (s : State) (k m : Nat) : Bool :=
  s.chk.cls.any (fun e => e.2.jobs.any (fun j => j.slot == k && !j.stale && j.md == m))

/-- The element with index `c` of a row of bytes: little-endian, of 4-bit elements the even one low. -/
def rowElem (t : Nat) (b : List Byte) (c : Nat) : Nat :=
  if tileBits t = 4 then (b.getD (c / 2) 0).toNat / (if c % 2 = 0 then 1 else 16) % 16
  else bytesAt b (c * (tileBits t / 8)) (tileBits t / 8)

/-- A tile from its 64 rows of bytes. -/
def tileOfRows (t : Nat) (transposed : Bool) (rows : List (List Byte)) (poison : Bool) : Tile :=
  { tag := t, poison := poison,
    elems := (List.range 4096).filterMap (fun k =>
      let (r, c) := if transposed then (k % 64, k / 64) else (k / 64, k % 64)
      let v := rowElem t (rows.getD r []) c
      if v = 0 then none else some (k, w64 v)) }

/-- Read the 64 rows of a tile (`n` rows left). -/
def readRows (k : Nat) (stride len : Nat) : Nat → Nat → Env → List (List Byte) → Bool → State →
    Except (Nat × Nat) (List (List Byte) × Bool) × State
  | 0, _, _, acc, po, s => (.ok (acc, po), s)
  | n + 1, va, env, acc, po, s => match slotRead k 2 va len env [] s with
    | (.ok (b, env), s) => readRows k stride len n (va + stride) env (acc ++ [b.map (·.1)]) (po || b.any (·.2)) s
    | (.error e, s) => (.error e, s)

/-- Address and stride of a tile instruction from its lowest active lane: none where one is poisoned. -/
def tileAddr (r : Run) (f : TM) : Option (Nat × Nat) :=
  let l := (lanesOf r.h.exec).headD 0
  if r.h.gp l f.ga || r.h.gp l f.gb then none else some ((r.h.g l f.ga).toNat, (r.h.g l f.gb).toNat)

/-- R354: ga 32-byte aligned, gb a multiple of 32 no smaller than a row. -/
def tileAligned (t va stride : Nat) : Bool := va % 32 == 0 && stride % 32 == 0 && decide (rowBytes t ≤ stride)

/-- TLD md, ga, gb (Table 10.5): poisoned data makes the whole tile poisoned (13 R454); a failure loads nothing (R373).
Log 68 (DEDUCED). -/
def execTld (w : ShedRef) (f : TM) (env : Env) (s : State) : Host.Outcome State Fault Refusal :=
  let t := f.mod.toNat % 16
  .next (perShed s w 0 (decide (t < 9) && decide (f.mod.toNat < 32) && f.ma == 0 && f.mb == 0) true (fun r =>
    let l := (lanesOf r.h.exec).headD 0
    match tileAddr r f with
    | none => consume s r l
    | some (va, stride) =>
      if tileBusy s r.key f.md.toNat then s
      else if !tileAligned t va stride then threadFault s r 0x0102 va l
      else match readRows r.key stride (rowBytes t) 64 va env [] false s with
        | (.ok (rows, po), s) =>
          advance (putTile s r.key f.md.toNat (tileOfRows t (f.mod.getLsbD 4) rows po)) r r.h
        | (.error (st, a), s) => threadFault s r st a l))

/-- The bytes of row `i` of an accumulator tile in an output format (11 R384). -/
def outRow (x : Tile) (out : Nat) (sat : Bool) (i : Nat) : List Byte :=
  (List.range 64).flatMap (fun j => leBytes (tileBits out / 8) (tileOut x.tag out sat (Tbl.get 0 x.elems (64 * i + j)).toNat))

/-- Write marked bytes for a thread from `va` on, in pieces of one page. -/
def threadWrites (r : Run) (lane : Nat) (env : Env) : Nat → Nat → Marked → State → Except (Nat × Nat) State
  | 0, _, _, s => .ok s
  | fuel + 1, va, l, s =>
    if l.isEmpty then .ok s
    else
      let m := Nat.min l.length (4096 - va % 4096)
      match slotXlat s r.key (getS s r.key) va .write env with
      | (.ok p, s) =>
        if placeDown s p then .error (0x0108, va)
        else match threadWrite s r lane p (l.take m) with
          | .ok s => threadWrites r lane env fuel (va + m) (l.drop m) s
          | .error st => .error (st, va)
      | (x, _) => .error (xlatStatus x, va)

/-- The pages that the rows of a tile meet. -/
def tilePages (va stride len : Nat) : List Nat :=
  (List.range 64).flatMap (fun i => [(va + i * stride) / 4096 * 4096, (va + i * stride + len - 1) / 4096 * 4096])

/-- Whether the format of an accumulator admits an output format (R355). -/
def outOk (acc out : Nat) : Bool :=
  if acc = 8 then out == 2 || out == 8 else acc == 7 && (out == 3 || out == 4 || out == 5 || out == 6 || out == 7)

/-- TST ma, ga, gb (Table 10.5): a poisoned tile is stored poisoned; a failure writes nothing (R373). -/
def execTst (w : ShedRef) (f : TM) (env : Env) (s : State) : Host.Outcome State Fault Refusal :=
  let t := f.mod.toNat
  .next (perShed s w 0 (decide (2 ≤ t) && decide (t < 9) && f.md == 0 && f.mb == 0) true (fun r =>
    let l := (lanesOf r.h.exec).headD 0
    let x := getTile r.slot f.ma.toNat
    match tileAddr r f with
    | none => consume s r l
    | some (va, stride) =>
      if tileBusy s r.key f.ma.toNat then s
      else if !tileAligned t va stride then threadFault s r 0x0102 va l
      else if !outOk x.tag t then indexFault s r 0x010C l
      else if !mayWrite s r then indexFault s r 0x010B l
      else if (tilePages va stride (rowBytes t)).any (fun a => writeHeld s r a) then s
      else
        let sat := (r.launch s).elim false (·.sat)
        match (List.range 64).foldl (fun (a : Except (Nat × Nat) State) i => match a with
            | .ok s => threadWrites r l env 2 (va + i * stride) ((outRow x t sat i).map (fun b => (b, x.poison))) s
            | .error e => .error e) (.ok s) with
        | .ok s => advance s r r.h
        | .error (st, a) => threadFault s r st a l))

/-- TZERO md (Table 10.5). -/
def execTzero (w : ShedRef) (f : TM) (s : State) : Host.Outcome State Fault Refusal :=
  .next (perShed s w 0 (decide (f.mod.toNat < 2) && f.ma == 0 && f.mb == 0 && f.ga == 0 && f.gb == 0) true (fun r =>
    if tileBusy s r.key f.md.toNat then s
    else advance (putTile s r.key f.md.toNat { Tile.start with tag := if f.mod = 1 then 7 else 8 }) r r.h))

/-! ### Tile products -/

/-- Whether two operand tags may meet, and the accumulator tag they need (R355). -/
def pairTag (a b : Nat) : Option Nat :=
  if (a = 0 ∨ a = 2) ∧ a = b then some 8
  else if (a = 1 ∨ a = 5 ∨ a = 6) ∧ a = b then some 7
  else if (a = 3 ∨ a = 4) ∧ (b = 3 ∨ b = 4) then some 7
  else none

/-- The dot product of row `i` of A and column `j` of B (11 R379, R380, R382). -/
def dotAt (a b : Tile) (i j : Nat) : Dot :=
  dotOf (tileWide a.tag) tileUnit ((List.range 64).map (fun k =>
    flMul (tileVal a.tag (Tbl.get 0 a.elems (64 * i + k)).toNat) (tileVal b.tag (Tbl.get 0 b.elems (64 * k + j)).toNat)))

/-- Whether a tile has a NaN or an infinity among its elements (12 R419). -/
def nonFinite (t : Tile) : Bool :=
  t.elems.any (fun e => match tileVal t.tag e.2.toNat with
    | .fin _ _ _ => false
    | _ => true)

/-- The payload of a checking record (12 Table 12.7). -/
def chkPay (n : Nat) (j : TmmaJob) (outcome arb col row : Nat) (diff : Nat) : List Byte :=
  pay [(2, n), (2, j.slot % 512), (2, j.ctx), (1, j.tileA.tag), (1, outcome), (6, j.index), (2, arb), (2, col), (2, row),
       (4, j.ctr % 2 ^ 32), (8, diff), (1, b2n (j.inj != 0) + 2 * b2n (tileWide j.tileA.tag) + 4 * b2n j.inf + 8 * b2n j.other)]

/-- The injection armed for the next TMMA of cluster `n` (12 R434, Table 12.5): its kind, row, column and bit.
Log 78 (DEDUCED). -/
def injection (s : State) (n : Nat) : Option (Nat × Nat × Nat × Nat) :=
  let v := (liveVal s 6 0xF0 0).toNat
  let k := bitsOf v 11 8
  if v.testBit 0 ∧ bitsOf v 21 12 = n ∧ 1 ≤ k ∧ k ≤ 6 then some (k, bitsOf v 39 34, bitsOf v 33 28, bitsOf v 27 22) else none

/-- The deviation that a flipped bit of the register of S makes (12 Table 12.5, kind 1). -/
def flipDev (a b : Tile) (row col bit : Nat) : Int :=
  let d := dotAt a b row col
  let width := if tileWide a.tag then 49 else 72
  if bit ≥ width then 0
  else
    let set := (unsgn width d.s).testBit bit
    let v : Int := ((2 ^ bit : Nat) : Int)
    if set = decide (bit + 1 = width) then v else -v

/-- TMMA md, ma, mb, ga (R355 to R357, 12 R422, R423): copies of the operands enter the tile hold; md takes the result when its
check has settled it.  A third unchecked TMMA of the cluster waits.
Log 67, 79 (DEDUCED). -/
def execTmma (w : ShedRef) (f : TM) (s : State) : Host.Outcome State Fault Refusal :=
  .next (perShed s w 0 (f.mod == 0 && f.gb == 0) true (fun r =>
    let l := (lanesOf r.h.exec).headD 0
    let n := r.slot.host
    let a := getTile r.slot f.ma.toNat
    let b := getTile r.slot f.mb.toNat
    let d := getTile r.slot f.md.toNat
    let idx := (r.h.g l f.ga).toNat
    if idx ≥ 2 ^ 48 ∨ pairTag a.tag b.tag ≠ some d.tag then indexFault s r 0x010C l
    else if ((getCk s n).jobs.filter (fun j => j.stage == 0)).length ≥ 2 then s
    else
      let job : TmmaJob :=
        { slot := r.key, ctx := r.ctx, md := f.md.toNat, mod := 0, tileA := a, tileB := b, stage := 0, perr := [], qerr := [],
          inj := 0, inf := nonFinite a || nonFinite b, arb := 0xFFFF, other := false, noArb := false, sums := true, entry := 0,
          stale := false, index := idx, ctr := (getC s r.ctx).stepCtr.toNat }
      let (job, s) := match injection s n with
        | some (k, row, col, bit) =>
          let job := { job with
            inj := k, mod := 64 * row + col
            perr := if k = 1 then [⟨BitVec.ofNat 6 row, BitVec.ofNat 6 col, flipDev a b row col bit⟩] else [] }
          let v := liveVal s 6 0xF0 0
          (job, record (putLive s 6 0xF0 0 (v &&& ~~~1#64) (setGen s 6 0xF0 0)) 0x3030 0 0x02 n (chkPay n job 0 0xFFFF 0xFFFF 0xFFFF 0))
        | none => (job, s)
      let s := updCk s n (fun c => { c with jobs := c.jobs ++ [job] })
      let s := updC s r.ctx (fun x => if x.perfOn then { x with tileOps := x.tileOps + 1 } else x)
      advance s r r.h))

end Sys2Proof.Machine
end

