-- ==== Sys2Proof/Machine/Checking.lean ====
section
/-! DEFINITION. Warp and weft checking (12): the comparison of a tile product, the accumulate, arbitration, the repeat and the classes
of faults. -/

namespace Sys2Proof.Machine

/-! ### Comparison (R414 to R419) -/

/-- The deviations of a product by element, 64 × row + column; elements without one are not listed. -/
def errTbl (l : List TileErr) : Tbl Int :=
  (l.foldl (fun t e => Tbl.upd 0 t (64 * e.row.toNat + e.col.toNat) (· + e.delta)) []).filter (fun e => e.2 != 0)

/-- The sum of deviations over a row or a column. -/
def errSum (t : Tbl Int) (p : Nat → Bool) : Int := (t.filter (fun e => p e.1)).foldl (fun a e => a + e.2) 0

/-- A finite datum in units of 2^−400. -/
def unitsOf : Fl → Int
  | .fin n m e => let v : Int := ((m * 2 ^ (e + 400).toNat : Nat) : Int); if n then -v else v
  | _ => 0

/-- The products of one element. -/
def productsAt (a b : Tile) (i j : Nat) : List Fl :=
  (List.range 64).map (fun k =>
    flMul (tileVal a.tag (Tbl.get 0 a.elems (64 * i + k)).toNat) (tileVal b.tag (Tbl.get 0 b.elems (64 * k + j)).toNat))

/-- For a 16-bit format, the difference of a column's (or row's) product sum from its reference value and its sum of absolute
products, both exact, in units of 2^−400 (R417; the binary64 roundings, whose order the spec does not give, are left out).
Log 75 (DEDUCED). -/
def boundAt (a b : Tile) (t : Tbl Int) (cells : List (Nat × Nat)) : Int × Int :=
  cells.foldl (fun acc c =>
    let d := dotAt a b c.1 c.2
    let ps := productsAt a b c.1 c.2
    let s := (d.s + Tbl.get 0 t (64 * c.1 + c.2)) * ((2 ^ (d.e + 400).toNat : Nat) : Int)
    (acc.1 + s - ps.foldl (fun x p => x + unitsOf p) 0,
     acc.2 + ps.foldl (fun x p => x + ((unitsOf p).natAbs : Int)) 0)) (0, 0)

/-- Whether the comparison of column `j` fails (R415, R417).
Log 75 (DEDUCED). -/
def colFails (a b : Tile) (t : Tbl Int) (j : Nat) : Bool :=
  if tileWide a.tag then
    t.any (fun e => e.1 % 64 == j) &&
      (let (d, u) := boundAt a b t ((List.range 64).map (fun i => (i, j)))
       decide ((d.natAbs : Int) * 2 ^ 34 > u))
  else errSum t (fun k => k % 64 == j) != 0

/-- Whether the comparison of row `i` fails (R415, R417).
Log 75 (DEDUCED). -/
def rowFails (a b : Tile) (t : Tbl Int) (i : Nat) : Bool :=
  if tileWide a.tag then
    t.any (fun e => e.1 / 64 == i) &&
      (let (d, u) := boundAt a b t ((List.range 64).map (fun j => (i, j)))
       decide ((d.natAbs : Int) * 2 ^ 34 > u))
  else errSum t (fun k => k / 64 == i) != 0

/-- The first failing column and row of a product with deviations. -/
def failing (a b : Tile) (l : List TileErr) : Option Nat × Option Nat :=
  let t := errTbl l
  ((List.range 64).find? (colFails a b t), (List.range 64).find? (rowFails a b t))

/-- Whether a product with deviations fails its comparison. -/
def detected (j : TmmaJob) (l : List TileErr) : Bool :=
  !j.inf && ((failing j.tileA j.tileB l).1.isSome || (failing j.tileA j.tileB l).2.isSome)

/-- The difference that a record carries for the first failing column: register units, or the binary64 difference. -/
def diffOf (j : TmmaJob) (l : List TileErr) (col : Nat) : Nat :=
  let t := errTbl l
  if tileWide j.tileA.tag then
    encodeF fmtFp64 none (Fl.ofInt (boundAt j.tileA j.tileB t ((List.range 64).map (fun i => (i, col)))).1 (-400))
  else unsgn 64 (errSum t (fun k => k % 64 == col))

/-! ### Delivery (R357, R381, R424, R444) -/

/-- The accumulator tile after the product with the given deviations is added; no value: a poisoned tile. -/
def addProduct (j : TmmaJob) (d : Tile) (res : Option (List TileErr)) : Tile :=
  match res with
  | none => { d with poison := true }
  | some l =>
    let t := errTbl l
    { d with
      poison := d.poison || j.tileA.poison || j.tileB.poison
      elems := (List.range 4096).filterMap (fun k =>
        let x := dotAt j.tileA j.tileB (k / 64) (k % 64)
        let old := (Tbl.get 0 d.elems k).toNat
        let v := if d.tag = 7 then accFloat old x (Tbl.get 0 t k) else accInt old x (Tbl.get 0 t k)
        if v = 0 then none else some (k, w64 v)) }

/-- The warp and weft sums of a product in exact form (11 R400); a poisoned product has none. -/
def exactSums (j : TmmaJob) (res : Option (List TileErr)) : List Int :=
  match res with
  | none => [-1]
  | some l =>
    let t := errTbl l
    let one := fun (i k : Nat) =>
      let x := dotAt j.tileA j.tileB i k
      (x.s + Tbl.get 0 t (64 * i + k)) * ((2 ^ (x.e + 400).toNat : Nat) : Int)
        + ((b2n x.nan + 2 * b2n x.pinf + 4 * b2n x.ninf : Nat) : Int)
    let r := List.range 64
    r.map (fun c => r.foldl (fun a i => a + one i c) 0) ++ r.map (fun i => r.foldl (fun a c => a + one i c) 0)

/-- Whether the slot of the oldest unchecked TMMA of a cluster runs its part of the step again (10 R370).
Log 79 (DEDUCED). -/
def frontStale (c : ChkCl) : Bool := c.jobs.head?.elim false (·.stale)

/-- The oldest unchecked TMMA of a cluster is settled: md takes the value, unless its slot runs again or is gone. -/
def deliver (s : State) (n : Nat) (j : TmmaJob) (res : Option (List TileErr)) : State :=
  let stale := j.stale || frontStale (getCk s n)
  let s := updCk s n (fun c => { c with jobs := c.jobs.drop 1 })
  let x := getS s j.slot
  if stale || x.ended || x.ctx != j.ctx then s
  else
    let sums := exactSums j res
    putS s j.slot { x with
      tiles := Tbl.put x.tiles j.md (addProduct j (getTile x j.md) res), checked := x.checked + 1,
      tdig := crc64 x.tdig (Config.digestBytes 0 (((j.index : Nat) : Int) :: sums)),
      locs := if (getPair s j.ctx).rerun then x.locs ++ [(j.index, Config.locateDigest (((j.index : Nat) : Int) :: sums))] else x.locs }

/-- Write the oldest unchecked TMMA of a cluster back; that its slot runs again is kept. -/
def setFront (s : State) (n : Nat) (j : TmmaJob) : State :=
  updCk s n (fun c => { c with jobs := { j with stale := j.stale || frontStale c } :: c.jobs.drop 1 })

/-! ### Charges and classes (R430 to R433, R442) -/

/-- A record of this chapter at the severity of its event. -/
def chkRec (s : State) (code n : Nat) (p : List Byte) : State := record s code ((evInfo code).elim 0 (·.1)) 0x02 n p

/-- A charge on a cluster; an injected fault makes none (R434). -/
def chargeFor (s : State) (n : Nat) (j : TmmaJob) : State := if j.inj = 0 then charge s n else s
/-- A cluster is quarantined for a class or outcome; an injected fault changes no state (R434). -/
def quarantineFor (s : State) (n cause : Nat) (j : TmmaJob) : State := if j.inj = 0 then quarantine s n cause else s

/-- A fault is classed: 1 transient, 2 permanent, 3 intermittent (Table 12.4); only the first of a cluster in one step (R433). -/
def classify (s : State) (n : Nat) (j : TmmaJob) (cls arb outcome : Nat) : State :=
  let key := some (j.ctx, j.ctr, 0)
  if (getCk s n).classed = key then s
  else
    let s := updCk s n (fun c => { c with classed := key, last := cls })
    let s := chkRec s (0x301F + cls) n (chkPay n j outcome arb 0xFFFF 0xFFFF 0)
    if cls = 1 then chargeFor s n j else quarantineFor s n cls j

/-- A failed comparison is counted; the seventeenth of a cluster within 1 s is a storm (R442).
Log 78 (DEDUCED). -/
def countFail (s : State) (n : Nat) (j : TmmaJob) : State :=
  let s := { s with chk := { s.chk with fails := s.chk.fails + 1 } }
  if j.inj ≠ 0 then s
  else
    let s := updHist s n (fun h => { h with storms := s.aon :: h.storms.filter (fun t => decide (s.aon < t + 1000000000)) })
    if (getHist s n).storms.length > 16 ∧ clState s n < 2 then
      quarantine (chkRec s 0x3023 n (chkPay n j 0 0xFFFF 0xFFFF 0xFFFF 0)) n 6
    else s

/-- A tile checked is counted. -/
def countTile (s : State) : State := { s with chk := { s.chk with tiles := s.chk.tiles + 1 } }

/-- A product is disputed (15 R511): CHECK_MISMATCH enters the pipeline, and the TMMA awaits its arbitration. -/
def dispute (s : State) (n : Nat) (j : TmmaJob) (col row diff : Nat) : State :=
  let s := setFront s n { j with stage := 1, entry := s.err.nextId }
  accept s 0x3001 2 0x02 n j.ctx 0xFFFF (chkPay n j 0 0xFFFF col row diff)

/-- The outcome UNRESOLVED for a tile (R425, R427, R432): CHECK_UNRESOLVED, the host quarantined with a deep run. -/
def unresolved (s : State) (n : Nat) (j : TmmaJob) (arb : Nat) : State :=
  let s := { s with chk := { s.chk with unres := s.chk.unres + 1 } }
  quarantineFor (chkRec s 0x3005 n (chkPay n j 4 arb 0xFFFF 0xFFFF 0)) n 4 j

/-- The accumulate of an accepted product (R425): a mismatch is repeated once.
Log 77 (DEDUCED). -/
def accumulate (s : State) (n : Nat) (j : TmmaJob) (fault again : Bool) : State :=
  if !fault then deliver s n j (some j.perr)
  else if again then
    let s := deliver s n j (some j.perr)
    accept (chargeFor s n j) 0x3031 2 0x02 n j.ctx 0xFFFF (chkPay n j 0 0xFFFF 0xFFFF 0xFFFF 0)
  else deliver (unresolved s n j 0xFFFF) n j none

/-- A TMMA of a Burling item (R413, 14 R496): the spec does not give the operands of an item's tiles.
Log 16 (DESIGN CHOICE); 79 (DEDUCED). -/
def itemJob (s : State) : TmmaJob × State :=
  let (t, s) := takeFree s
  let (i, s) := takeFree s
  ({ slot := 0xFFFFFF, ctx := 0xFFFF, md := 0, mod := 0, tileA := { Tile.start with tag := t.toNat % 5 }, tileB := Tile.start,
     stage := 0, perr := [], qerr := [], inj := 0, inf := false, arb := 0xFFFF, other := false, noArb := false, sums := true,
     entry := 0, stale := true, index := i.toNat % 2 ^ 48, ctr := 0 }, s)

/-- What an injected weft or warp sum makes fail (R434): the first column, or row, that the sum enters; for a 16-bit format whether
the bound is exceeded is not stated.
Log 78 (DEDUCED). -/
def sumInjection (j : TmmaJob) : Option (Option Nat × Option Nat) :=
  let k := fun (x : Nat) => j.mod / (if x = 0 then 64 else 1) % 64
  if j.inj = 2 then some ((List.range 64).find? (fun c => Tbl.get 0 j.tileB.elems (64 * k 1 + c) != 0), none)
  else if j.inj = 3 then some (none, (List.range 64).find? (fun r => Tbl.get 0 j.tileA.elems (64 * r + k 0) != 0))
  else none

/-- TILE_CHECK_COMPLETE (R414 to R421, R425): the sum lane has compared the oldest unchecked product of a cluster.  `prodErrs` are
the deviations of the product, `sumFault` a wrong sum that no residue shows, `residueFault` a failed residue check, `accFault`
a mismatch of the accumulate and `accAgain` that its repeat agrees with one of the two.
Log 8, 16 (DESIGN CHOICE). -/
def execTileCheckComplete (cluster : BitVec 9) (prodErrs : List TileErr) (sumFault residueFault accFault accAgain : Bool) (s : State) :
    Host.Outcome State Fault Refusal :=
  .next (
  let n := cluster.toNat
  let (front, s) := match (getCk s n).jobs with
    | j :: _ => (some j, s)
    | [] => if (getB s n).slice.isSome then
        let (j, s) := itemJob s
        (some j, updCk s n (fun c => { c with jobs := [j] }))
      else (none, s)
  match front with
  | none => s
  | some j =>
    if j.stage ≠ 0 then s
    else
      let j := { j with perr := j.perr ++ prodErrs }
      let s := setFront (countTile s) n j
      let (v, s1) := takeFree s
      let accF := accFault || j.inj == 6
      let accA := accAgain || j.inj == 6
      if j.inf then dispute (countFail s n j) n j 0xFFFF 0xFFFF 0
      else
        let (c, r) := failing j.tileA j.tileB j.perr
        let (c, r, s, diff) := match sumInjection j with
          | some (c', r') =>
            if tileWide j.tileA.tag && !v.getLsbD 0 then (c, r, s1, 0) else (c.orElse (fun _ => c'), r.orElse (fun _ => r'), s1, (v >>> 1).toNat)
          | none =>
            if sumFault ∧ c.isNone ∧ r.isNone then
              (if v.toNat % 65 = 64 then none else some (v.toNat % 65), some (v.toNat / 65 % 64), s1, v.toNat)
            else (c, r, s, c.elim 0 (diffOf j j.perr))
        let bad := c.isSome || r.isSome || j.inj == 5
        let res := residueFault || j.inj == 4
        let col := c.getD 0xFFFF
        let row := r.getD 0xFFFF
        let s := if res then updCk s n (fun k => { k with residue := satAdd 65535 k.residue 1 }) else s
        if res && !bad then
          accumulate (chargeFor (chkRec s 0x3010 n (chkPay n j 0 0xFFFF 0xFFFF 0xFFFF 0)) n j) n j accF accA
        else if bad then
          let s := if res then chkRec s 0x3011 n (chkPay n j 0 0xFFFF col row diff) else s
          dispute (countFail s n j) n j col row diff
        else accumulate s n j accF accA)

/-! ### Arbitration (R426 to R433, R439, R441) -/

/-- The next arbiter in rotation for a host cluster (R428): ACTIVE, outside the host's group, without a slice or a quiet window.
Log 76 (DEDUCED). -/
def pickArbiter (s : State) (n : Nat) : Option Nat :=
  ((List.range 512).map (fun i => (s.chk.rotate + 1 + i) % 512)).find? (fun c =>
    clState s c == 0 && clInService s c && c / 8 != n / 8 && clusterIssues s c && !isFencedEngine s c)

/-- The outcome of an arbitration is decided (Table 12.2): counted and recorded.
Log 77 (DEDUCED). -/
def decide12 (s : State) (n : Nat) (j : TmmaJob) (outcome arb : Nat) : State :=
  let s := { s with chk := { s.chk with arbs := s.chk.arbs + 1 } }
  let s := updCk s n (fun c => { c with product := if outcome = 1 then satAdd 65535 c.product 1 else c.product,
                                         checker := if outcome = 2 then satAdd 65535 c.checker 1 else c.checker })
  let x := getS s j.slot
  let s := if x.ended || x.ctx != j.ctx then s else putS s j.slot { x with arbs := x.arbs + 1 }
  if outcome = 4 then unresolved s n j arb else chkRec s (0x3001 + outcome) n (chkPay n j outcome arb 0xFFFF 0xFFFF 0)

/-- A disputed tile is settled: md is written or poisoned, and the handling of its entry is complete.
Log 77 (DEDUCED). -/
def settleJob (s : State) (n : Nat) (j : TmmaJob) (res : Option (List TileErr)) : State := finishEntry (deliver s n j res) j.entry

/-- The arbitration of the disputed tile of a cluster starts without an arbiter (R441): NO_ARBITER, and the repeat takes its place.
Log 76 (DEDUCED). -/
def withoutArbiter (s : State) (n : Nat) (j : TmmaJob) (sumsOk : Bool) : State :=
  chkRec (setFront s n { j with stage := 2, noArb := true, sums := sumsOk }) 0x3024 n (chkPay n j 0 0xFFFF 0xFFFF 0xFFFF 0)

/-- The handling of CHECK_MISMATCH starts (R426, R441).
Log 76 (DEDUCED). -/
def beginArb (s : State) (n : Nat) : State :=
  match (getCk s n).jobs with
  | j :: _ => if j.stage = 1 ∧ !j.noArb ∧ j.inj ≠ 5 ∧ (pickArbiter s n).isNone then withoutArbiter s n j true else s
  | [] => s

/-- ARBITER_RESULT (R426 to R431): the arbiter has computed Q for the disputed tile of a host cluster.  `crcOk`: the CRCs of the held
operands; `sumsOk`: the re-formed sums are right; `qErrs`: the deviations of Q; `ownCheckOk`: Q passed the arbiter's check.
Log 76 (DEDUCED). -/
def execArbiterResult (cluster : BitVec 9) (crcOk sumsOk : Bool) (qErrs : List TileErr) (ownCheckOk : Bool) (s : State) :
    Host.Outcome State Fault Refusal :=
  .next (
  let n := cluster.toNat
  match (getCk s n).jobs with
  | [] => s
  | j :: _ =>
    if j.stage ≠ 1 ∨ !inHandling s.err j.entry then s
    else if !crcOk || j.inj == 5 then settleJob (decide12 s n j 3 0xFFFF) n j none
    else match pickArbiter s n with
      | none => withoutArbiter s n j sumsOk
      | some a =>
        let s := countTile { s with chk := { s.chk with rotate := a } }
        if !ownCheckOk && !j.inf then
          let s := { s with chk := { s.chk with fails := s.chk.fails + 1 } }
          let s := suspect (chkRec s 0x3012 n (chkPay n j 0 a 0xFFFF 0xFFFF 0)) a
          if j.other then settleJob (decide12 s n j 4 a) n j none else setFront s n { j with other := true }
        else if errTbl qErrs = errTbl j.perr then
          let s := decide12 s n j 2 a
          let s := if j.inf then s else classify s n j (if sumsOk && !detected j j.perr then 1 else 2) a 2
          settleJob s n j (some j.perr)
        else if j.inf || !sumsOk || detected j j.perr then
          setFront (decide12 s n j 1 a) n { j with stage := 2, qerr := qErrs, arb := a }
        else settleJob (decide12 s n j 4 a) n j none)

/-- REPEAT_RESULT (R430, R441): the host cluster has computed the disputed tile once more.
Log 77 (DEDUCED). -/
def execRepeatResult (cluster : BitVec 9) (p2Errs : List TileErr) (s : State) : Host.Outcome State Fault Refusal :=
  .next (
  let n := cluster.toNat
  match (getCk s n).jobs with
  | [] => s
  | j :: _ =>
    if j.stage ≠ 2 then s
    else
      let s := countTile s
      let bad := detected j p2Errs
      let s := if bad then { s with chk := { s.chk with fails := s.chk.fails + 1 } } else s
      let x := getS s j.slot
      let s := if x.ended || x.ctx != j.ctx then s else putS s j.slot { x with replayed := x.replayed + 1 }
      let p := errTbl j.perr
      let q := errTbl j.qerr
      let p2 := errTbl p2Errs
      if j.noArb then
        if (if j.inf then p2 == p else j.sums && !bad) then
          let o := if p2 = p then 2 else 1
          settleJob (classify (decide12 s n j o 0xFFFF) n j 1 0xFFFF o) n j (some p2Errs)
        else settleJob (decide12 s n j 4 0xFFFF) n j none
      else
        let cls := if p2 = q then 1 else if p2 = p then 2 else 3
        settleJob (classify s n j cls j.arb 1) n j (some j.qerr))

end Sys2Proof.Machine
end

