-- ==== Sys2Proof/Machine/Ecdsa.lean ====
section
/-! DEFINITION. The signature of a pack: ECDSA over P-384 with SHA-384, as FIPS 186-5 and FIPS 180-4 give them (14 R476). -/

namespace Sys2Proof.Machine

/-! ### SHA-384 -/

/-- The first and the second half of the 80 constants of SHA-384. -/
def shaK0 : List Word64 :=
  [0x428a2f98d728ae22, 0x7137449123ef65cd, 0xb5c0fbcfec4d3b2f, 0xe9b5dba58189dbbc, 0x3956c25bf348b538,
   0x59f111f1b605d019, 0x923f82a4af194f9b, 0xab1c5ed5da6d8118, 0xd807aa98a3030242, 0x12835b0145706fbe,
   0x243185be4ee4b28c, 0x550c7dc3d5ffb4e2, 0x72be5d74f27b896f, 0x80deb1fe3b1696b1, 0x9bdc06a725c71235,
   0xc19bf174cf692694, 0xe49b69c19ef14ad2, 0xefbe4786384f25e3, 0x0fc19dc68b8cd5b5, 0x240ca1cc77ac9c65,
   0x2de92c6f592b0275, 0x4a7484aa6ea6e483, 0x5cb0a9dcbd41fbd4, 0x76f988da831153b5, 0x983e5152ee66dfab,
   0xa831c66d2db43210, 0xb00327c898fb213f, 0xbf597fc7beef0ee4, 0xc6e00bf33da88fc2, 0xd5a79147930aa725,
   0x06ca6351e003826f, 0x142929670a0e6e70, 0x27b70a8546d22ffc, 0x2e1b21385c26c926, 0x4d2c6dfc5ac42aed,
   0x53380d139d95b3df, 0x650a73548baf63de, 0x766a0abb3c77b2a8, 0x81c2c92e47edaee6, 0x92722c851482353b]
def shaK1 : List Word64 :=
  [0xa2bfe8a14cf10364, 0xa81a664bbc423001, 0xc24b8b70d0f89791, 0xc76c51a30654be30, 0xd192e819d6ef5218,
   0xd69906245565a910, 0xf40e35855771202a, 0x106aa07032bbd1b8, 0x19a4c116b8d2d0c8, 0x1e376c085141ab53,
   0x2748774cdf8eeb99, 0x34b0bcb5e19b48a8, 0x391c0cb3c5c95a63, 0x4ed8aa4ae3418acb, 0x5b9cca4f7763e373,
   0x682e6ff3d6b2b8a3, 0x748f82ee5defb2fc, 0x78a5636f43172f60, 0x84c87814a1f0ab72, 0x8cc702081a6439ec,
   0x90befffa23631e28, 0xa4506cebde82bde9, 0xbef9a3f7b2c67915, 0xc67178f2e372532b, 0xca273eceea26619c,
   0xd186b8c721c0c207, 0xeada7dd6cde0eb1e, 0xf57d4f7fee6ed178, 0x06f067aa72176fba, 0x0a637dc5a2c898a6,
   0x113f9804bef90dae, 0x1b710b35131c471b, 0x28db77f523047d84, 0x32caab7b40c72493, 0x3c9ebe0a15c9bebc,
   0x431d67c49c100d4c, 0x4cc5d4becb3e42b6, 0x597f299cfc657e2a, 0x5fcb6fab3ad6faec, 0x6c44198c4a475817]

/-- The initial hash value of SHA-384. -/
def sha384Init : List Word64 :=
  [0xcbbb9d5dc1059ed8, 0x629a292a367cd507, 0x9159015a3070dd17, 0x152fecd8f70e5939, 0x67332667ffc00b31,
   0x8eb44a8768581511, 0xdb0c2e0d64f98fa7, 0x47b5481dbefa4fa4]

/-- The number that bytes spell, most significant first. -/
def beNat (l : List Byte) : Nat := l.foldl (fun n b => 256 * n + b.toNat) 0

/-- A 128-byte block as its sixteen words, the last first. -/
def blockWords : Nat → List Byte → List Word64 → List Word64
  | 0, _, w => w
  | n + 1, b, w => blockWords n (b.drop 8) (BitVec.ofNat 64 (beNat (b.take 8)) :: w)

/-- The message schedule, the newest word first: `n` more words after those of the block. -/
def schedule : Nat → List Word64 → List Word64
  | 0, w => w
  | n + 1, w =>
    let a := w.getD 1 0
    let b := w.getD 14 0
    let x := (a.rotateRight 19 ^^^ a.rotateRight 61 ^^^ (a >>> 6)) + w.getD 6 0 +
      (b.rotateRight 1 ^^^ b.rotateRight 8 ^^^ (b >>> 7)) + w.getD 15 0
    schedule n (x :: w)

/-- The rounds over the pairs of a constant and a schedule word. -/
def shaRounds : List (Word64 × Word64) → List Word64 → List Word64
  | (k, w) :: t, [a, b, c, d, e, f, g, h] =>
    let t1 := h + (e.rotateRight 14 ^^^ e.rotateRight 18 ^^^ e.rotateRight 41) + ((e &&& f) ^^^ (~~~e &&& g)) + k + w
    let t2 := (a.rotateRight 28 ^^^ a.rotateRight 34 ^^^ a.rotateRight 39) + ((a &&& b) ^^^ (a &&& c) ^^^ (b &&& c))
    shaRounds t [t1 + t2, a, b, c, d + t1, e, f, g]
  | _, l => l

/-- The hash value after `n` blocks of padded bytes. -/
def shaBlocks : Nat → List Byte → List Word64 → List Word64
  | 0, _, v => v
  | n + 1, m, v =>
    let w := (schedule 64 (blockWords 16 m [])).reverse
    shaBlocks n (m.drop 128) (List.zipWith (· + ·) v (shaRounds ((shaK0 ++ shaK1).zip w) v))

/-- The SHA-384 of a byte string, as a number. -/
def sha384 (m : List Byte) : Nat :=
  let body := m ++ [0x80#8] ++ zeros ((239 - m.length % 128) % 128) ++ (leBytes 16 (8 * m.length)).reverse
  ((shaBlocks (body.length / 128) body sha384Init).take 6).foldl (fun n w => 2 ^ 64 * n + w.toNat) 0

/-! ### The curve P-384 -/

/-- The prime, the coefficient b and the order of the base point. -/
def p384 : Nat := 2 ^ 384 - 2 ^ 128 - 2 ^ 96 + 2 ^ 32 - 1
def p384b : Nat := 0xb3312fa7e23ee7e4988e056be3f82d19181d9c6efe8141120314088f5013875ac656398d8a2ed19d2a85c8edd3ec2aef
def p384n : Nat := 0xffffffffffffffffffffffffffffffffffffffffffffffffc7634d81f4372ddf581a0db248b0a77aecec196accc52973

/-- A point in Jacobian coordinates: (X / Z², Y / Z³); Z = 0 is the point at infinity. -/
abbrev EcPoint := Nat × Nat × Nat

/-- The base point. -/
def p384G : EcPoint :=
  (0xaa87ca22be8b05378eb1c71ef320ad746e1d3b628ba79b9859f741e082542a385502f25dbf55296c3a545e3872760ab7,
   0x3617de4a96262c6f5d9e98bf9292dc29f8f41dbd289a147ce9da3113b5f0b8c00a60b1ce1d7e819d7a431d7c90ea0e5f, 1)

/-- The difference modulo the prime of two numbers below it. -/
def ecSub (a b : Nat) : Nat := (a + p384 - b) % p384

/-- Twice a point. -/
def ecDouble : EcPoint → EcPoint
  | (x, y, z) =>
    if z = 0 ∨ y = 0 then (1, 1, 0)
    else
      let zz := z * z % p384
      let yy := y * y % p384
      let m := 3 * (ecSub x zz * ((x + zz) % p384)) % p384
      let w := 4 * x * yy % p384
      let x3 := ecSub (m * m % p384) (2 * w % p384)
      (x3, ecSub (m * ecSub w x3 % p384) (8 * yy * yy % p384), 2 * y * z % p384)

/-- The sum of two points. -/
def ecAdd : EcPoint → EcPoint → EcPoint
  | (x1, y1, z1), (x2, y2, z2) =>
    if z1 = 0 then (x2, y2, z2)
    else if z2 = 0 then (x1, y1, z1)
    else
      let zz1 := z1 * z1 % p384
      let zz2 := z2 * z2 % p384
      let u1 := x1 * zz2 % p384
      let u2 := x2 * zz1 % p384
      let s1 := y1 * zz2 * z2 % p384
      let s2 := y2 * zz1 * z1 % p384
      let h := ecSub u2 u1
      let r := ecSub s2 s1
      if h = 0 then (if r = 0 then ecDouble (x1, y1, z1) else (1, 1, 0))
      else
        let hh := h * h % p384
        let hhh := h * hh % p384
        let v := u1 * hh % p384
        let x3 := ecSub (ecSub (r * r % p384) hhh) (2 * v % p384)
        (x3, ecSub (r * ecSub v x3 % p384) (s1 * hhh % p384), h * z1 % p384 * z2 % p384)

/-- The multiple of a point by the low `n` bits of a number, added to 2^n times an accumulator. -/
def ecMul (k : Nat) (q : EcPoint) : Nat → EcPoint → EcPoint
  | 0, acc => acc
  | n + 1, acc =>
    let d := ecDouble acc
    ecMul k q n (if k.testBit n then ecAdd d q else d)

/-- a to the power of the low `n` bits of e, times acc to the power 2^n, modulo m. -/
def powMod (a e m : Nat) : Nat → Nat → Nat
  | 0, acc => acc
  | n + 1, acc =>
    let d := acc * acc % m
    powMod a e m n (if e.testBit n then d * a % m else d)

/-- Whether a 96-byte signature, r and s, is that of a message under a 96-byte public key, the coordinates of a point of the curve (14
R476).  DEDUCED (log 17): a key's bytes are x and y, each big-endian as r and s are.
Log 17 (DEDUCED). -/
def signatureOk (key msg sig : List Byte) : Bool :=
  let x := beNat (key.take 48)
  let y := beNat (key.drop 48)
  let r := beNat (sig.take 48)
  let s := beNat (sig.drop 48)
  if key.length ≠ 96 ∨ sig.length ≠ 96 ∨ p384 ≤ x ∨ p384 ≤ y ∨ (y * y + 3 * x) % p384 ≠ (x * x * x + p384b) % p384 ∨ r = 0 ∨ p384n ≤ r ∨ s = 0 ∨
      p384n ≤ s then false
  else
    let w := powMod s (p384n - 2) p384n 384 1
    let u := sha384 msg * w % p384n
    let v := r * w % p384n
    let (px, _, pz) := ecAdd (ecMul u p384G 384 (1, 1, 0)) (ecMul v (x, y, 1) 384 (1, 1, 0))
    let zi := powMod pz (p384 - 2) p384 384 1
    pz != 0 && px * zi % p384 * zi % p384 % p384n == r

end Sys2Proof.Machine
end

