-- ==== Sys2Proof/Machine/Collectives.lean ====
section
/-! DEFINITION. Collective operations (18): forming groups, fetching descriptors, the Reed and ring paths in the canonical order,
barriers, grants, aborts and ends. -/

namespace Sys2Proof.Machine

/-! ### Formats (Table 18.5, R616 to R618) -/

/-- The fixed-point form of FP8 (R616): units of 2^−16, with three reserved values. -/
def fixNan : Nat := 0x8000000000000000
def fixPinf : Nat := 0x7FFFFFFFFFFFFFFF
def fixNinf : Nat := 0x8000000000000001

/-- The float format of a collective format code. -/
def colFmt (f : Nat) : Option Fmt :=
  match f with
  | 3 => some fmtE4M3
  | 4 => some fmtE5M2
  | 5 => some fmtBf16
  | 6 => some fmtFp16
  | 7 => some fmtFp32
  | 10 => some fmtFp64
  | _ => none

/-- The float format of the wide form of a format code. -/
def wideFmt (f : Nat) : Option Fmt :=
  match f with
  | 5 | 6 => some fmtFp32
  | 7 | 10 => some fmtFp64
  | _ => none

/-- An input element in the wide form. -/
def toWide (f v : Nat) : Nat :=
  match f with
  | 2 => unsgn 32 (sgn 8 v)
  | 8 => unsgn 64 (sgn 32 v)
  | 9 => v
  | 3 | 4 => match decodeF (if f = 3 then fmtE4M3 else fmtE5M2) v with
    | .nan => fixNan
    | .inf n => if n then fixNinf else fixPinf
    | .fin n m e => unsgn 64 (let t : Int := ((toGrid m e (-16) : Nat) : Int); if n then -t else t)
  | _ => match colFmt f, wideFmt f with
    | some a, some b => encodeF b none (decodeF a v)
    | _, _ => v

/-- The sum of two values in the wide form (R616, R617). -/
def addWide (f a b : Nat) : Nat :=
  match f with
  | 2 => (a + b) % 2 ^ 32
  | 8 | 9 => (a + b) % 2 ^ 64
  | 3 | 4 =>
    if a = fixNan ∨ b = fixNan ∨ (a = fixPinf ∧ b = fixNinf) ∨ (a = fixNinf ∧ b = fixPinf) then fixNan
    else if a = fixPinf ∨ b = fixPinf then fixPinf
    else if a = fixNinf ∨ b = fixNinf then fixNinf
    else (a + b) % 2 ^ 64
  | _ => match wideFmt f with
    | some t => encodeF t none (flAdd (decodeF t a) (decodeF t b))
    | none => a

/-- The datum of a fixed-point value. -/
def fixVal (v : Nat) : Fl :=
  if v = fixNan then .nan else if v = fixPinf then .inf false else if v = fixNinf then .inf true else Fl.ofInt (sgn 64 v) (-16)

/-- A wide result converted once to dst's form (R618). -/
def fromWide (f : Nat) (wideOut sat : Bool) (v : Nat) : Nat :=
  match f with
  | 2 => if wideOut then v else unsgn 8 (clampInt (-128) 127 (sgn 32 v))
  | 8 => if wideOut then v else unsgn 32 (clampInt (-2147483648) 2147483647 (sgn 64 v))
  | 9 => v
  | 3 | 4 => if wideOut then encodeF fmtFp32 none (fixVal v)
    else encodeF (if f = 3 then fmtE4M3 else fmtE5M2) (some sat) (fixVal v)
  | _ => match colFmt f, wideFmt f with
    | some a, some b => if wideOut then v else encodeF a (if f = 5 ∨ f = 6 then some sat else none) (decodeF b v)
    | _, _ => v

/-- Minimum or maximum of two input elements (R618). -/
def minMax (f redop a b : Nat) : Nat :=
  match colFmt f with
  | some t => encodeF t none ((if redop = 1 then flMin else flMax) (decodeF t a) (decodeF t b))
  | none =>
    let n := 8 * colBytes f
    if (sgn n a ≤ sgn n b) = (redop = 1) then a else b

/-- The fold of the values of one element along a line, in the order given (R617, R618). -/
def foldLine (f redop : Nat) (wide : Bool) : List Nat → Nat
  | [] => 0
  | v :: t =>
    if redop = 0 then
      let w := fun x => if wide then x else toWide f x
      t.foldl (fun a x => addWide f a (w x)) (w v)
    else t.foldl (minMax f redop) (match colFmt f with
      | some g => encodeF g none (decodeF g v)
      | none => v)

/-! ### Groups (R607 to R609, R633, R638) -/

/-- The payload and record of a group event. -/
def groupRec (s : State) (code c g cause port : Nat) : State :=
  record s code 0 0x08 (if port < 6 then port else 0xFFFF) (colPay s c g cause 0 0 (getG s c g).seq port 0 0 0)

/-- A group fails (R609, R633, R638): collectives in flight abort at once with cause TOPOLOGY, with no message sent. -/
def failGroup (s : State) (c g cause port : Nat) : State :=
  let s := updG s c g (fun y => { y with state := 3, fail := cause })
  abortGroup (groupRec s 0x8011 c g cause port) c g 3 port true

/-- The fields of FORM (R609). -/
def formFields (s : State) (c g : Nat) : List Nat :=
  let v := groupWord s c g
  [(getC s c).jobTag.toNat, gKey v, bitsOf v 47 36, bitsOf v 6 4, bitsOf v 31 20,
   dsigOf ((liveVal s 4 0x60 c).getLsbD 0) ((liveVal s 4 0x62 c).getLsbD 0)]

/-- Send FORM of a group through a port.
Log 103 (DEDUCED). -/
def sendForm (s : State) (c g p : Nat) : State :=
  linkSend (updG s c g (fun y => { y with sent := insertNat y.sent p })) p 1 msgForm (formFields s c g) [] []

/-! ### Phases -/

/-- The next axis with an extent above 1, from `a` on; 3: none. -/
def nextAxis (v : Nat) : Nat → Nat → Nat
  | 0, _ => 3
  | n + 1, a => if a ≥ 3 then 3 else if gExt v a > 1 then a else nextAxis v n (a + 1)

/-- Whether an axis is the last phase. -/
def lastAxis (v a : Nat) : Bool := nextAxis v 3 (a + 1) == 3

/-- Whether an op is a barrier or small reduction, which travel on VC1 without grants.
Log 103 (DEDUCED). -/
def smallOp (x : Col) : Bool := x.op == 1 || x.op == 2
/-- Whether an op reduces. -/
def reduces (x : Col) : Bool := x.op == 2 || x.op == 3

/-- The offset of rank `r` on an axis. -/
def rankOff (v r a : Nat) : Nat :=
  if a = 0 then r % gExt v 0 else if a = 1 then r / gExt v 0 % gExt v 1 else r / (gExt v 0 * gExt v 1)

/-- Whether this member's line takes part in an axis phase: of a broadcast only lines that the root's data has reached (R627). -/
def linePart (v : Nat) (x : Col) (a : Nat) : Bool :=
  x.op != 5 || (List.range 3).all (fun b => decide (b ≤ a) || gOff v b == rankOff v x.root b)

/-- The bytes of a value as it travels in the present phase. -/
def travelBytes (x : Col) : Nat := if x.op = 1 then 8 else if x.wide then colWide x.format else colBytes x.format

/-- The elements in one piece or chunk (R625, R626). -/
def pieceElems (x : Col) : Nat :=
  if smallOp x then Nat.max 1 x.cur.length
  else if x.alg = 2 then 65536 / (if reduces x then colWide x.format else travelBytes x)
  else 4096 / travelBytes x

/-- The first elements of the pieces of `lo` to `hi - 1`. -/
def firsts (lo hi e : Nat) : List Nat :=
  let n := (hi - lo + e - 1) / (if e = 0 then 1 else e)
  (List.range n).map (fun i => lo + i * e)

/-- The boundary of the two halves (R617): ⌈N/2⌉. -/
def half (x : Col) : Nat := (x.cur.length + 1) / 2

/-- Whether a collective runs the pipelines of the ring path (R626). -/
def ringReduce (x : Col) : Bool := x.alg == 2 && x.op == 3

/-- The offsets whose values reach this member through a port in the present phase (R619, R625). -/
def upstream (v : Nat) (x : Col) (p : Nat) : List Nat :=
  let a := x.axis
  let m := gExt v a
  let o := gOff v a
  let l := if gWrap v a && smallOp x then
      (if p % 2 = 1 then (List.range (m / 2)).map (fun i => (o + m - (i + 1)) % m)
       else (List.range ((m - 1) / 2)).map (fun i => (o + i + 1) % m))
    else if p % 2 = 1 then List.range o else (List.range m).filter (fun i => decide (o < i))
  if x.op = 5 then l.filter (· == rankOff v x.root a) else l

/-- What is expected through a port in the present phase: first element, whether on the return, and how many pieces. -/
def expected (v : Nat) (x : Col) (p : Nat) : List (Nat × Bool × Nat) :=
  let a := x.axis
  let n := x.cur.length
  let e := pieceElems x
  if a ≥ 3 ∨ p / 2 ≠ a ∨ !linePart v x a then []
  else if ringReduce x then
    let o := gOff v a
    if p % 2 = 1 then
      if o = 0 then [] else (firsts 0 (half x) e).map (fun i => (i, false, 1)) ++ (firsts (half x) n e).map (fun i => (i, true, 1))
    else
      if o + 1 = gExt v a then []
      else (firsts (half x) n e).map (fun i => (i, false, 1)) ++ (firsts 0 (half x) e).map (fun i => (i, true, 1))
  else
    let k := (upstream v x p).length
    if k = 0 then [] else (firsts 0 n e).map (fun i => (i, false, k))

/-- How many pieces of an expected set have arrived. -/
def arrived (x : Col) (p first : Nat) (back : Bool) : Nat :=
  (x.seen.filter (fun t => t.1 == p && t.2.1 == x.axis && t.2.2.1 == first && t.2.2.2.1 == back)).length

/-- Whether the buffers of a granted set are free again: a chunk when it has been taken, a Reed set when its range is folded. -/
def freed (v : Nat) (x : Col) (t : Nat × Nat × Bool) : Bool :=
  let ok := fun (p : Nat) => (expected v x p).all (fun e => e.1 != t.2.1 || e.2.1 != t.2.2 || decide (e.2.2 ≤ arrived x p e.1 e.2.1))
  if x.alg = 2 then ok t.1 else ok (2 * x.axis) && ok (2 * x.axis + 1)

/-- The collective that a group performs now. -/
def frontCol (s : State) (c g : Nat) : Option Col :=
  match (getG s c g).ops with
  | x :: _ => if x.started && x.fin.isNone then some x else none
  | [] => none

/-- Change the front collective of a group. -/
def updCol (s : State) (c g : Nat) (f : Col → Col) : State :=
  updG s c g (fun y => match y.ops with
    | x :: t => { y with ops := f x :: t }
    | [] => y)

/-- The next set of a port that a group has not granted, if its buffers allow (R625: sixteen 4 KiB buffers a port; R626: two chunk
buffers a direction).
Log 103 (DEDUCED). -/
def nextGrant (s : State) (c g p : Nat) : Option (Nat × Bool) :=
  match frontCol s c g with
  | none => none
  | some x =>
    let v := groupWord s c g
    if smallOp x then none
    else
      let open' := x.granted.filter (fun t => t.1 == p && !freed v x t)
      match (expected v x p).find? (fun e => !x.granted.contains (p, e.1, e.2.1) &&
          (x.alg != 2 || decide ((open'.filter (fun t => t.2.2 == e.2.1)).length < 2))) with
      | none => none
      | some e =>
        if x.alg = 2 then some (e.1, e.2.1)
        else
          let used := (s.col.groups.flatMap (fun h => match frontCol s (h.1 / 16) (h.1 % 16) with
            | some y => (y.granted.filter (fun t => t.1 == p && y.alg == 1 && !freed (groupWord s (h.1 / 16) (h.1 % 16)) y t)).map
                (fun t => ((expected (groupWord s (h.1 / 16) (h.1 % 16)) y p).find? (fun e => e.1 == t.2.1)).elim 0 (·.2.2))
            | none => [])).foldl (· + ·) 0
          if used + e.2.2 ≤ 16 then some (e.1, e.2.1) else none

/-- Grant the sets of a port, one set a group a turn (R625).
Log 103 (DEDUCED). -/
def grantPort (p : Nat) : Nat → State → State
  | 0, s => s
  | fuel + 1, s =>
    let last := Tbl.get 0xFFFF s.col.turns p
    let ks := (s.col.groups.map (·.1)).filter (fun k => (nextGrant s (k / 16) (k % 16) p).isSome)
    let after := ks.filter (fun k => decide (last < k))
    match after ++ ks with
    | [] => s
    | k :: _ => match nextGrant s (k / 16) (k % 16) p, frontCol s (k / 16) (k % 16) with
      | some (first, back), some x =>
        let s := updCol s (k / 16) (k % 16) (fun x => { x with granted := x.granted ++ [(p, first, back)] })
        let s := { s with col := { s.col with turns := Tbl.put s.col.turns p k } }
        grantPort p fuel (linkSend s p 1 msgGrant
          [gKey (groupWord s (k / 16) (k % 16)), x.seq, x.crc, x.alg, x.axis, first] [] [])
      | _, _ => s

/-- Grant on every port. -/
def grantAll (s : State) : State := (List.range 6).foldl (fun s p => grantPort p 64 s) s

/-- The bytes of values. -/
def valueBytes (n : Nat) (l : List Word64) : List Byte := l.flatMap (fun v => leBytes n v.toNat)

/-- Send the pieces that may leave: on VC1 at once, else under a grant (R625, R626). -/
def flushCol (s : State) (c g : Nat) : State :=
  match frontCol s c g with
  | none => s
  | some x =>
    let may := fun (q : ColPiece) => q.free || x.grants.contains (q.port, q.axis, q.first)
    let s := updCol s c g (fun x => { x with send := x.send.filter (fun q => !may q) })
    (x.send.filter may).foldl (fun s q =>
      linkSend s q.port (if q.free then 1 else 0) (if x.alg = 2 then msgChunk else if x.op = 1 then msgBarrier else msgPiece)
        [gKey (groupWord s c g), x.seq, x.crc, x.alg, q.axis, q.origin, q.first, b2n q.back, b2n x.unsync, b2n x.e2e]
        (valueBytes (travelBytes x) q.values) []) s

/-- Values `first` to `first + n - 1` of a list. -/
def slice (l : List Word64) (first n : Nat) : List Word64 := (l.drop first).take n

/-- The pieces that a member sends of its own at the start of a phase (R625, R626). -/
def ownPieces (v : Nat) (x : Col) : List ColPiece :=
  let a := x.axis
  let o := gOff v a
  let m := gExt v a
  let n := x.cur.length
  let e := pieceElems x
  let mk := fun (p lo hi : Nat) => (firsts lo hi e).map (fun i => (⟨p, a, o, i, false, smallOp x, slice x.cur i (Nat.min e (hi - i))⟩ : ColPiece))
  if a ≥ 3 ∨ !linePart v x a then []
  else if ringReduce x then
    if o = 0 then mk (2 * a) 0 (half x) else if o + 1 = m then mk (2 * a + 1) (half x) n else []
  else if x.op = 5 ∧ rankOff v x.root a ≠ o then []
  else if gWrap v a && smallOp x then
    (if m / 2 = 0 then [] else mk (2 * a) 0 n) ++ (if (m - 1) / 2 = 0 then [] else mk (2 * a + 1) 0 n)
  else (if o + 1 < m then mk (2 * a) 0 n else []) ++ (if 0 < o then mk (2 * a + 1) 0 n else [])

/-- A collective enters an axis phase. -/
def enterPhase (v : Nat) (x : Col) : Col :=
  let x := { x with got := [], part := [], granted := [], send := x.send }
  { x with send := x.send ++ ownPieces v x }

/-- The values after a phase whose values have all arrived (R617, R627); none while some are missing. -/
def phaseResult (v : Nat) (x : Col) : Option (List Word64) :=
  let a := x.axis
  let n := x.cur.length
  let m := gExt v a
  let o := gOff v a
  let at' := fun (i k : Nat) => if i = o then (x.cur.getD k 0) else Tbl.get 0 (Tbl.get [] x.got i) k
  if !linePart v x a then some x.cur
  else if ringReduce x then
    if x.part.length = n then some (x.part.map (·.2)) else none
  else
    let need := if x.op = 5 then [rankOff v x.root a] else List.range m
    if need.all (fun i => decide (i = o) || decide ((Tbl.get [] x.got i).length = n)) then
      if x.op = 1 then some [w64 ((List.range m).foldl (fun t i => Nat.max t (at' i 0).toNat) 0)]
      else if x.op = 4 then some ((List.range m).flatMap (fun i => (List.range n).map (at' i)))
      else if x.op = 5 then some ((List.range n).map (at' (rankOff v x.root a)))
      else some ((List.range n).map (fun k =>
        let os := if k < (n + 1) / 2 then List.range m else (List.range m).reverse
        w64 (foldLine x.format x.redop x.wide (os.map (fun i => (at' i k).toNat)))))
    else none

/-! ### Memory -/

/-- Read bytes for the collective logic of a context; poison ends the collective, a failure ends the context (R637). -/
def colRead (s : State) (c va n : Nat) (env : Env) : (Marked × ShutFail) × State := shutRead c 5 (n / 4096 + 2) va n env [] s

/-- Write bytes for a context from `va` on, page by page; the address that fails, with its status. -/
def colWrite (c : Nat) : Nat → Nat → List Byte → State → ShutFail × State
  | 0, _, _, s => (none, s)
  | fuel + 1, va, l, s =>
    if l.isEmpty then (none, s)
    else
      let m := Nat.min l.length (4096 - va % 4096)
      match xlat s c va .write none with
      | .ok p => if placeDown s p then (some (0x0108, va), s) else colWrite c fuel (va + m) (l.drop m) (placeWrite s p (l.take m) false 3)
      | r => (some (xlatStatus r, va), s)

/-- A fault of the collective logic ends the context. -/
def colFault (s : State) (c : Nat) (f : Nat × Nat) : State := faultCtx s c f.1 f.2 0xFFFF 0xFF 0xFF 0xFFFF false

/-! ### Running a collective -/

/-- The diameter of a group for barrier timing. -/
def gDiam (v : Nat) : Nat :=
  (List.range 3).foldl (fun d a => d + (if gExt v a = 1 then 0 else if gWrap v a then gExt v a / 2 else gExt v a - 1)) 0

/-- The release time of a barrier (R621). -/
def releaseAt (v tLast : Nat) : Nat := tLast + 1200 + 300 * gDiam v

/-- A collective has passed its last phase: a barrier waits for its release, or releases at once when it is late or the member is
UNSYNC (R621, R622); anything else has ended with OK. -/
def lastPhase (s : State) (c g : Nat) (x : Col) : State :=
  if x.op = 1 then
    let due := releaseAt (groupWord s c g) ((x.cur.headD 0).toNat)
    if s.time.state = 0 then updCol s c g (fun x => { x with fin := some 0, unsync := true })
    else if due < s.gtc then
      let s := updCol s c g (fun x => { x with fin := some 0, late := true })
      colRec s 0x8020 c g x 0 0xFF
    else s
  else updCol s c g (fun x => { x with fin := some 0 })

/-- Go through the phases whose values have all arrived (`fuel` phases). -/
def runPhases (c g : Nat) : Nat → State → State
  | 0, s => s
  | fuel + 1, s =>
    match frontCol s c g with
    | none => s
    | some x =>
      let v := groupWord s c g
      if x.axis ≥ 3 then lastPhase s c g x
      else match phaseResult v x with
        | none => s
        | some r =>
          let a := nextAxis v 3 (x.axis + 1)
          let wide := x.wide || (reduces x && x.redop == 0)
          let s := updCol s c g (fun x => enterPhase v { x with cur := r, axis := a, wide := wide, outDone := ringReduce x && a == 3 })
          let (bad, s) := if x.op = 3 ∧ !(ringReduce x && a == 3) then
              colWrite c (r.length * 8 / 4096 + 2) x.work (valueBytes (colWide x.format) r) s
            else (none, s)
          match bad with
          | some f => colFault s c f
          | none => runPhases c g fuel (flushCol s c g)

/-- The front collective of a group starts when the group is FORMED (R609, R613, R633): at once with an abort when the group is
FAILED or DISABLED, or when an ABORT for it has already come. -/
def startCol (s : State) (c g : Nat) : State :=
  let y := getG s c g
  match y.ops with
  | [] => s
  | x :: _ =>
    if x.started ∨ x.fin.isSome then s
    else match y.aborts.find? (fun e => e.1 == x.seq) with
      | some (_, cause) => updCol s c g (fun x => { x with fin := some cause })
      | none =>
        if y.state = 3 ∨ y.state = 0 then
          let cause := if y.state = 3 then 3 else 7
          originate (updCol s c g (fun x => { x with fin := some cause, orig := true })) c g x cause 0xFF true
        else if y.state = 2 then
          let v := groupWord s c g
          let first := fun (x : Col) =>
            if gSize v = 1 ∧ reduces x then
              { x with started := true, axis := 3, wide := x.redop == 0
                       cur := x.cur.map (fun e => w64 (foldLine x.format x.redop false [e.toNat])) }
            else enterPhase v { x with started := true, axis := nextAxis v 3 0 }
          grantAll (runPhases c g 4 (flushCol (updCol s c g first) c g))
        else s

/-- A group becomes FORMED when every expected neighbour has matched (R609). -/
def settleGroup (s : State) (c g : Nat) : State :=
  let y := getG s c g
  if y.state = 1 ∧ (gPorts (groupWord s c g)).all (fun p => y.matched.contains p) then
    startCol (groupRec (updG s c g (fun y => { y with state := 2, fail := 0 })) 0x8010 c g 0 0xFF) c g
  else s

/-- COL.GROUP of a group has been committed (R609, R613, R631): its collective in flight aborts; with enable set it forms anew.
Log 127 (DEDUCED). -/
def commitGroup (s : State) (c g : Nat) (rose : Bool) : State :=
  let s := abortGroup s c g 3 0xFF false
  let v := groupWord s c g
  let s := updG s c g (fun y => { y with
    state := if v.testBit 0 then 1 else 0, fail := 0, seq := if rose then 0 else y.seq, matched := [], sent := [], moved := [],
    early := [], aborts := if rose then [] else y.aborts })
  if !v.testBit 0 then s
  else if gBad v then failGroup s c g 1 0xFF
  else if gSize v > 1 ∧ s.bist.failed.contains 1115 then failGroup s c g 4 0xFF
  else settleGroup s c g

/-- COL.QUEUE has been committed (R610): the head counts from 0 when enable rises. -/
def commitColQueue (s : State) (c : Nat) (rose : Bool) : State :=
  if rose then { s with col := { s.col with heads := Tbl.put s.col.heads c 0 } } else s

/-- The collective logic is told of a topology change on a port (R633).
Log 104 (DEDUCED). -/
def topoChange (s : State) (p : Nat) : State :=
  s.col.groups.foldl (fun s e =>
    let c := e.1 / 16
    let g := e.1 % 16
    let y := getG s c g
    if (y.state = 1 ∨ y.state = 2) ∧ (gPorts (groupWord s c g)).contains p then
      let s := abortGroup s c g 3 p false
      updG s c g (fun y => { y with state := 1, fail := 4, matched := dropNat y.matched p, sent := dropNat y.sent p })
    else s) s

/-- The neighbour of a port has changed its identity: a FORM that no longer matches is for that cause (R633). -/
def neighbourMoved (s : State) (p : Nat) : State :=
  { s with col := { s.col with groups := s.col.groups.map (fun e => (e.1, { e.2 with moved := insertNat e.2.moved p })) } }

/-- FORM_SEND (R609): FORM goes out through each port whose neighbour has not answered. -/
def execFormSend (ctx : BitVec 8) (group : BitVec 4) (s : State) : Host.Outcome State Fault Refusal :=
  .next (
  let c := ctx.toNat
  let g := group.toNat
  let y := getG s c g
  if y.state = 1 ∧ (getC s c).inUse ∧ !isFenced s c then
    ((gPorts (groupWord s c g)).filter (fun p => !y.matched.contains p)).foldl (fun s p => sendForm s c g p) s
  else s)

/-- The context and group that a message by a port and a key is for. -/
def groupFor (s : State) (port key : Nat) : Option (Nat × Nat) :=
  if !(getL s port).up then none
  else (s.col.groups.find? (fun e =>
    let c := e.1 / 16
    let v := groupWord s c (e.1 % 16)
    (getC s c).inUse && !(getC s c).ended && !isFenced s c && v.testBit 0 && gKey v == key && (gPorts v).contains port)).map
      (fun e => (e.1 / 16, e.1 % 16))

/-- Whether a neighbour's FORM matches in its offsets (R609): differing by one on the port's axis, equal on the others. -/
def offsetsMatch (v port offs : Nat) : Bool :=
  let a := port / 2
  let m := gExt v a
  let want := if port % 2 = 0 then gOff v a + 1 else gOff v a + m - 1
  (List.range 3).all (fun b =>
    let o := bitsOf offs (4 * b + 3) (4 * b)
    if b = a then (if gWrap v a then o == want % m else o + (if port % 2 = 0 then 0 else m) == want) else o == gOff v b)

/-! ### Fetching (R610 to R613, R624, R639) -/

/-- The path of a collective (R624). -/
def pathOf (s : State) (c op alg bytes : Nat) : Nat :=
  if op = 1 ∨ op = 2 then 0
  else if alg ≠ 0 then alg
  else if bytes < (liveVal s 10 0x11 c).toNat then 1 else 2

/-- Whether a Bobbin area is reachable: 256 KiB of the scratchpad window (R314). -/
def bobbinOk (s : State) (c va : Nat) : Bool :=
  va % 4096 == 0 && decide (0x800000000000 ≤ va) && decide (va + 0x40000 ≤ 0x800020000000) &&
    (List.range 64).all (fun i => match xlat s c (va + 4096 * i) .write none with
      | .ok (.pad _ _ _) => true
      | _ => false)

/-- Whether a descriptor passes its CRC and the rules of Tables 18.3 and 18.5.
Log 104 (DEDUCED). -/
def colValid (s : State) (c : Nat) (b : List Byte) : Bool :=
  let f := fun lo n => bytesAt b lo n
  let op := f 0 1
  let fmt := f 1 1
  let n := gSize (groupWord s c (f 3 1 % 16))
  let eb := colBytes fmt
  let flags := f 44 1
  let wideOut := flags.testBit 1
  let path := pathOf s c op (flags / 4 % 4) (f 4 4 * eb)
  let red := op == 2 || op == 3
  f 60 4 == (crc32c (b.take 48)).toNat && decide (1 ≤ op) && decide (op ≤ 5) && decide (f 3 1 < 16)
    && (if op = 1 then fmt == 0 && f 4 4 == 0 && f 8 8 == 0
        else decide (2 ≤ fmt) && decide (fmt ≤ 10) && decide (1 ≤ f 4 4) && decide (f 4 4 * eb ≤ 2 ^ 31)
          && f 8 8 % eb == 0 && f 16 8 % colOut fmt (wideOut && red) == 0)
    && (if red then decide (f 2 1 < 3) else f 2 1 == 0)
    && (if op = 3 then f 24 8 % colWide fmt == 0
          && (decide (f 24 8 + f 4 4 * colWide fmt ≤ f 8 8) || decide (f 8 8 + f 4 4 * eb ≤ f 24 8))
          && (f 24 8 != f 16 8 || colWide fmt == colOut fmt wideOut)
        else f 24 8 == 0)
    && (if path = 2 then bobbinOk s c (f 32 8) else f 32 8 == 0)
    && (decide (f 40 2 < 256) || f 40 2 == 0xFFFF)
    && (if op = 5 then decide (f 42 2 < n) else f 42 2 == 0)
    && decide (flags < 16) && decide (flags / 4 < 3) && f 45 3 == 0
    && (op != 4 || decide (n * (f 4 4 * eb) ≤ 2 ^ 32))

/-- The collective that a descriptor describes, as fetched. -/
def colOf (s : State) (c va : Nat) (b : List Byte) (seq : Nat) : Col :=
  let f := fun lo n => bytesAt b lo n
  let flags := f 44 1
  let crc := crc32c ((b.take 3) ++ ((b.drop 4).take 4) ++ ((b.drop 42).take 2) ++ [BitVec.ofNat 8 (flags % 2)])
  { op := f 0 1, format := f 1 1, redop := f 2 1, count := f 4 4, src := f 8 8, dst := f 16 8, work := f 24 8, done := f 40 2,
    root := f 42 2, e2e := flags.testBit 0, wideOut := flags.testBit 1, va := va, seq := seq, crc := crc.toNat,
    alg := pathOf s c (f 0 1) (flags / 4 % 4) (f 4 4 * colBytes (f 1 1)), started := false, axis := 0, wide := false,
    outDone := false, cur := [], got := [], part := [], seen := [], grants := [], granted := [], send := [], unsync := false,
    overflow := f 0 1 == 2 && decide (64 < f 4 4 * colBytes (f 1 1)), late := false, orig := false, fin := none, fetched := s.aon,
    timer := s.aon }

/-- The elements of a contribution that take part (R620). -/
def usedElems (x : Col) : Nat := if x.op = 2 then Nat.min x.count (64 / colBytes x.format) else if x.op = 1 then 0 else x.count

/-- The next descriptor of a context's ring is fetched, takes the next sequence number of its group and reads its contribution
(R611 to R614).
Log 104 (DEDUCED). -/
def fetchCol (s : State) (c : Nat) (env : Env) : State :=
  let q := (liveVal s 10 0x20 c).toNat
  let i := Tbl.get 0 s.col.heads c
  let x := getC s c
  if !q.testBit 0 || !x.inUse || x.ended || x.fault != 0 || isFenced s c || x.step.isOpen || s.phase != .run
      || decide ((syncGet s c (bitsOf q 63 56)).toNat ≤ i) then s
  else
    let size := 2 ^ (Nat.min 8 (bitsOf q 51 48) + 4)
    let va := bitsOf q 47 6 * 64 + 64 * (i % size)
    match colRead s c va 64 env with
    | ((_, some f), s) => colFault s c f
    | ((l, none), s) =>
      let env := { env with host := { env.host with bytes := env.host.bytes.drop 64 } }
      let b := l.map (·.1)
      let s := { s with col := { s.col with heads := Tbl.put s.col.heads c (i + 1) } }
      let g := bytesAt b 3 1 % 16
      let seq := (getG s c g).seq
      let y := colOf s c va b seq
      let s := updG s c g (fun z => { z with seq := (seq + 1) % 2 ^ 64 })
      let add := fun (s : State) (y : Col) => updG s c g (fun z => { z with ops := z.ops ++ [y] })
      if l.any (·.2) || !colValid s c b then originate (add s { y with fin := some 7, orig := true }) c g y 7 0xFF false
      else if y.op = 1 then startCol (add s { y with cur := [w64 s.gtc], unsync := s.time.state == 0 }) c g
      else if y.op = 5 ∧ gRank (groupWord s c g) ≠ y.root then startCol (add s { y with cur := List.replicate y.count 0 }) c g
      else
        let eb := colBytes y.format
        match colRead s c y.src (usedElems y * eb) env with
        | ((_, some f), s) => colFault s c f
        | ((l, none), s) =>
          if l.any (·.2) then originate (add s { y with fin := some 2, orig := true }) c g y 2 0xFF false
          else
            let v := (List.range (usedElems y)).map (fun k => w64 (bytesAt (l.map (·.1)) (k * eb) eb))
            startCol (add s { y with cur := v, timer := s.aon }) c g

/-! ### Messages -/

/-- COLLECTIVE_GRANT (R625, R626): the neighbour has set buffers aside.
Log 103 (DEDUCED). -/
def execCollectiveGrant (h : ColHdr) (axis : BitVec 2) (first : Nat) (s : State) : Host.Outcome State Fault Refusal :=
  .next (match groupFor s h.port.toNat h.key.toNat with
  | none => s
  | some (c, g) =>
    let s := updG s c g (fun y => { y with ops := y.ops.map (fun x =>
      if x.seq = h.seq.toNat then { x with grants := x.grants ++ [(h.port.toNat, axis.toNat, first)], timer := s.aon } else x) })
    flushCol s c g)

/-- Values of an element range in a table. -/
def putRange (t : Tbl Word64) (first : Nat) (l : List Word64) : Tbl Word64 :=
  (l.zipIdx).foldl (fun t e => Tbl.put t (first + e.2) e.1) t

/-- Whether a piece of `origin` that came by a port goes on along the line. -/
def goesOn (v : Nat) (x : Col) (port origin : Nat) : Bool :=
  let a := x.axis
  let m := gExt v a
  let o := gOff v a
  if gWrap v a && smallOp x then
    if port % 2 = 1 then decide ((o + m - origin) % m < m / 2) else decide ((origin + m - o) % m < (m - 1) / 2)
  else if port % 2 = 1 then decide (o + 1 < m) else decide (0 < o)

/-- A piece of the Reed path, or a chunk that the ring path only moves, has come (R625, R627).
Log 104 (DEDUCED). -/
def takeMove (v : Nat) (x : Col) (port : Nat) (d : ColData) : Col :=
  let a := x.axis
  let org := d.offset.toNat
  let vals := if x.op = 1 then [d.stamp] else d.values
  let other := if port % 2 = 1 then port - 1 else port + 1
  let fwd : List ColPiece := if goesOn v x port org then [⟨other, a, org, d.first, false, smallOp x, vals⟩] else []
  { x with got := Tbl.upd [] x.got org (fun t => putRange t d.first vals), unsync := x.unsync || (x.op == 1 && d.unsync),
           seen := x.seen ++ [(port, a, d.first, false, org)], send := x.send ++ fwd }

/-- A chunk of the ring pipelines has come (R626): on the way out the own values are added, at the end of the line the result
turns back; on the last phase the return carries the output format. -/
def takeRing (v : Nat) (sat : Bool) (x : Col) (port : Nat) (d : ColData) : Col :=
  let a := x.axis
  let o := gOff v a
  let m := gExt v a
  let other := if port % 2 = 1 then port - 1 else port + 1
  let seen := x.seen ++ [(port, a, d.first, d.back, d.offset.toNat)]
  let w := fun (e : Word64) => if x.wide || x.redop != 0 then e.toNat else toWide x.format e.toNat
  if d.back then
    let more := if port % 2 = 1 then decide (o + 1 < m) else decide (0 < o)
    { x with seen := seen, part := putRange x.part d.first d.values
             send := x.send ++ (if more then [⟨other, a, o, d.first, true, false, d.values⟩] else []) }
  else
    let sum := (d.values.zipIdx).map (fun e =>
      let mine := w (x.cur.getD (d.first + e.2) 0)
      w64 (if x.redop = 0 then addWide x.format e.1.toNat mine else minMax x.format x.redop e.1.toNat mine))
    let last := if port % 2 = 1 then decide (o + 1 = m) else decide (o = 0)
    if last then
      let out := if lastAxis v a then sum.map (fun e =>
          w64 (fromWide x.format x.wideOut sat (if x.redop = 0 then e.toNat else toWide x.format e.toNat)))
        else sum
      { x with seen := seen, part := putRange x.part d.first out, send := x.send ++ [⟨port, a, o, d.first, true, false, out⟩] }
    else { x with seen := seen, send := x.send ++ [⟨other, a, o, d.first, false, false, sum⟩] }

/-- A message of a collective has come by a port (R613, R624, R625, R626, R629, R456). -/
def takeData (s : State) (h : ColHdr) (d : ColData) : State :=
  match groupFor s h.port.toNat h.key.toNat with
  | none => s
  | some (c, g) =>
    let y := getG s c g
    let hold := updG s c g (fun y => { y with early := y.early ++ [(h, d)] })
    match y.ops with
    | [] => if y.seq ≤ h.seq.toNat then hold else s
    | x :: _ =>
      if h.seq.toNat < x.seq then s
      else if x.seq < h.seq.toNat ∨ !x.started then hold
      else if x.fin.isSome then s
      else if h.crc.toNat ≠ x.crc ∨ h.alg.toNat ≠ x.alg then abortGroup s c g 5 h.port.toNat false
      else if d.poison then abortGroup s c g 2 h.port.toNat false
      else if x.e2e && !d.e2eOk then abortGroup s c g 6 h.port.toNat false
      else if d.axis.toNat ≠ x.axis then (if x.axis < d.axis.toNat then hold else s)
      else
        let v := groupWord s c g
        let sat := (liveVal s 4 0x62 c).getLsbD 0
        let s := updCol s c g (fun x =>
          { (if ringReduce x then takeRing v sat x h.port.toNat d else takeMove v x h.port.toNat d) with timer := s.aon })
        grantAll (runPhases c g 4 (flushCol s c g))

/-- Messages that came before their collective or phase are taken up (`fuel` rounds). -/
def takeEarly (c g : Nat) : Nat → State → State
  | 0, s => s
  | fuel + 1, s =>
    let l := (getG s c g).early
    match (getG s c g).ops with
    | x :: _ =>
      match l.find? (fun e => e.1.seq.toNat == x.seq && e.2.axis.toNat == x.axis && x.started && x.fin.isNone) with
      | some e => takeEarly c g fuel (takeData (updG s c g (fun y => { y with early := y.early.erase e })) e.1 e.2)
      | none => s
    | [] => s

/-- Messages that came early are taken up in every group of a context. -/
def settleEarly (s : State) (c : Nat) : State :=
  (List.range 16).foldl (fun s g => takeEarly c g ((getG s c g).early.length) s) s

/-- COLLECTIVE_FETCH (R611 to R614). -/
def execCollectiveFetch (ctx : BitVec 8) (env : Env) (s : State) : Host.Outcome State Fault Refusal :=
  .next (settleEarly (fetchCol s ctx.toNat env) ctx.toNat)

/-- Take a message and all that it lets be taken. -/
def takeAll (s : State) (h : ColHdr) (d : ColData) : State :=
  let s := takeData s h d
  match groupFor s h.port.toNat h.key.toNat with
  | some (c, g) => takeEarly c g ((getG s c g).early.length) s
  | none => s

/-- FORM (R609, R633): the neighbour's form is compared with the group of the same key; a FORM for no group of the chip is
discarded.
Log 103 (DEDUCED); 131 (DESIGN CHOICE). -/
def execForm (port : BitVec 3) (m : FormMsg) (s : State) : Host.Outcome State Fault Refusal :=
  .next (
  let p := port.toNat
  match groupFor s p m.key.toNat with
  | none => s
  | some (c, g) =>
    let y := getG s c g
    let v := groupWord s c g
    let f := formFields s c g
    if y.state = 3 ∨ y.state = 0 then s
    else
      let shape := m.jobTag.toNat == f.getD 0 0 && m.extents.toNat == f.getD 2 0 && m.wrap.toNat == f.getD 3 0
        && offsetsMatch v p m.offsets.toNat
      if !shape then failGroup s c g (if y.moved.contains p then 5 else 2) p
      else if m.dsig.toNat ≠ f.getD 5 0 then failGroup s c g (if y.moved.contains p then 5 else 3) p
      else
        let s := updG s c g (fun y => { y with matched := insertNat y.matched p, moved := dropNat y.moved p })
        settleEarly (settleGroup (if y.sent.contains p then s else sendForm s c g p) c g) c)

/-- PIECE_RECEIVE (R625). -/
def execPieceReceive (h : ColHdr) (d : ColData) (s : State) : Host.Outcome State Fault Refusal := .next (takeAll s h d)

/-- CHUNK_RECEIVE (R626). -/
def execChunkReceive (h : ColHdr) (d : ColData) (s : State) : Host.Outcome State Fault Refusal :=
  .next (if h.alg = 2 then takeAll s h d else takeAll s h { d with back := false })

/-- ABORT (R631, R635): the first for a sequence number is forwarded, and ends a collective that has not written its status.
Log 104 (DEDUCED). -/
def execAbort (h : ColHdr) (cause : Byte) (s : State) : Host.Outcome State Fault Refusal :=
  .next (match groupFor s h.port.toNat h.key.toNat with
  | none => s
  | some (c, g) =>
    let n := h.seq.toNat
    if (getG s c g).aborts.any (fun e => e.1 == n) then s
    else
      let s := sendAbort s c g n cause.toNat
      updG s c g (fun y => { y with
        aborts := y.aborts ++ [(n, cause.toNat)]
        ops := y.ops.map (fun x => if x.seq = n ∧ (x.fin.isNone ∨ x.fin = some 0) then { x with fin := some cause.toNat } else x) }))

/-- BARRIER_RELEASE (R621): the GTC has reached the scheduled release. -/
def execBarrierRelease (ctx : BitVec 8) (group : BitVec 4) (s : State) : Host.Outcome State Fault Refusal :=
  .next (
  let c := ctx.toNat
  let g := group.toNat
  match frontCol s c g with
  | none => s
  | some x =>
    if x.op = 1 ∧ x.axis ≥ 3 ∧ releaseAt (groupWord s c g) ((x.cur.headD 0).toNat) ≤ s.gtc then
      updCol s c g (fun x => { x with fin := some 0 })
    else s)

/-- The status word of a collective (Table 18.4). -/
def colStatus (x : Col) (cause : Nat) : Nat :=
  x.seq % 2 ^ 32 * 2 ^ 32 + x.alg * 2 ^ 28 + bitIf x.unsync 27 + bitIf x.late 26 + bitIf x.overflow 25 + bitIf x.orig 24
    + cause * 65536 + (if cause = 0 then 0 else 1)

/-- The bytes of the result (R618, R627). -/
def colResult (x : Col) (sat : Bool) : List Byte :=
  if x.op = 1 then []
  else if reduces x then
    valueBytes (colOut x.format x.wideOut) (x.cur.map (fun v =>
      if x.outDone then v
      else w64 (fromWide x.format x.wideOut sat (if x.wide then v.toNat else toWide x.format v.toNat))))
  else valueBytes (colBytes x.format) x.cur

/-- The counts of COL.COUNTS after an end. -/
def bumpCounts (t : Nat × Nat × Nat) (x : Col) (cause : Nat) : Nat × Nat × Nat :=
  (if cause = 0 then satAdd 0xFFFFFFFF t.1 1 else t.1, if cause = 0 then t.2.1 else satAdd 65535 t.2.1 1,
   if x.late then satAdd 65535 t.2.2 1 else t.2.2)

/-- COLLECTIVE_END (R615): the result when all is well, then the status word, then the done object; the next collective of the
group starts. -/
def execCollectiveEnd (ctx : BitVec 8) (group : BitVec 4) (env : Env) (s : State) : Host.Outcome State Fault Refusal :=
  .next (
  let c := ctx.toNat
  let g := group.toNat
  match (getG s c g).ops with
  | [] => s
  | x :: t =>
    match x.fin with
    | none => s
    | some cause =>
      if isFenced s c ∨ (getC s c).fault ≠ 0 ∨ (getC s c).ended then s
      else
        let sat := (liveVal s 4 0x62 c).getLsbD 0
        let b := if cause = 0 then colResult x sat else []
        let s := env.ecc.foldl (fun s e => hbmDecode s e.1 e.2 c 5) s
        let (bad, s) := colWrite c (b.length / 4096 + 2) x.dst b s
        let (bad, s) := match bad with
          | some f => (some f, s)
          | none => colWrite c 2 (x.va + 48) (leBytes 8 (colStatus x cause)) s
        match bad with
        | some f => colFault s c f
        | none =>
          let s := updG s c g (fun y => { y with ops := t, early := y.early.filter (fun e => decide (x.seq < e.1.seq.toNat)) })
          let s := { s with col := { s.col with counts := Tbl.upd (0, 0, 0) s.col.counts c (fun n => bumpCounts n x cause) } }
          let s := startCol (syncBump s c x.done) c g
          takeEarly c g ((getG s c g).early.length) s)

/-- COLLECTIVE_TIMEOUT (16 R546, R631, R632): the member's timer has run out. -/
def execCollectiveTimeout (ctx : BitVec 8) (group : BitVec 4) (s : State) : Host.Outcome State Fault Refusal :=
  .next (
  let c := ctx.toNat
  let g := group.toNat
  match (getG s c g).ops with
  | [] => s
  | x :: _ =>
    let us := Nat.max 100 (liveVal s 10 0x10 c).toNat
    if x.fin.isNone ∧ x.timer + us * 1000 ≤ s.aon ∧ !isFenced s c then
      let s := updCol s c g (fun x => { x with fin := some 1, orig := true })
      originate s c g x 1 0xFF false
    else s)

end Sys2Proof.Machine
end

