-- ==== Sys2Proof/Machine/Links.lean ====
section
/-! DEFINITION. Torus links and time synchronisation (17 R577 to R606, 02 R83): training, CRC, replay and credits, link
operations at the receiver, link loss, and the GTC's time parent. -/

namespace Sys2Proof.Machine

/-! ### Time synchronisation -/

/-- TIM.CTL (R594). -/
def timRoot (s : State) : Bool := (liveVal s 15 0x10 0).getLsbD 0
/-- TIM.CTL[sync_enable] (R594, R606). -/
def timOn (s : State) : Bool := (liveVal s 15 0x10 0).getLsbD 1

/-- The up ports that advertise a root. -/
def advPorts (s : State) : List Nat := (List.range 6).filter (fun p => (getL s p).up && decide ((getL s p).advHops < 255))

/-- The better of two candidate ports: the lower pair (root serial, hops), then the lower port (R597). -/
def betterPort (s : State) (a b : Nat) : Nat :=
  let x := getL s a
  let y := getL s b
  if y.advSerial < x.advSerial ∨ (y.advSerial = x.advSerial ∧ y.advHops < x.advHops) then b else a

/-- The best candidate for time parent (R597). -/
def bestPort (s : State) : Option Nat :=
  match advPorts s with
  | [] => none
  | p :: t => some (t.foldl (betterPort s) p)

/-- Whether a neighbour advertises a root of lower serial than this device's (R597). -/
def lowerRoot (s : State) : Bool := (advPorts s).any (fun p => decide ((getL s p).advSerial < s.fuses.serial.toNat))

/-- Whether the device serves as time root (R594, R597, R605, R606). -/
def isRoot (s : State) : Bool := timRoot s && timOn s && !s.time.lost && !lowerRoot s

/-- TIM.STATUS[state] as R601 gives it.
Log 22, 101 (DEDUCED). -/
def timeState (s : State) : Nat :=
  if !timOn s ∨ s.time.lost then 0
  else if isRoot s then 2
  else if rawBound s > 400000000 then 0
  else if s.time.parent < 6 then 2
  else if s.time.state = 2 ∨ s.time.state = 3 then 3 else 0

/-- A record of time synchronisation, with the port it is about.
Log 102 (DEDUCED). -/
def timeRec (s : State) (code sev port amount : Nat) : State :=
  let p := if port < 6 then port else 0xFF
  let b := linkPay s p 0 (if port < 6 then (getL s port).skip else 15) (if port < 6 then (getL s port).serial.toNat else 0)
    amount 0xFFFF 0xFFFF 0
  let idx := if port < 6 then port else 0xFFFF
  if sev = 0 then record s code 0 0x07 idx b else accept s code sev 0x07 idx 0xFFFF 0xFFFF b

/-- The parent, the hops and the state follow what holds now (R597, R601, R605, R606); a change of state is recorded, and a
conflict of roots once. -/
def settleTime (s : State) : State :=
  let t := s.time
  let t1 :=
    if !timOn s ∨ t.lost then { t with parent := 7 }
    else if isRoot s then { t with parent := 7, hops := 0 }
    else if t.hops = 0 then { t with parent := 7, hops := 255 }
    else if t.parent < 6 ∧ !(advPorts s).contains t.parent then { t with parent := 7 } else t
  let clash := timRoot s && timOn s && !t.lost && lowerRoot s
  let s := { s with time := { t1 with conflict := clash } }
  let s := if clash && !t.conflict then timeRec s 0x7055 2 ((bestPort s).getD 7) 0 else s
  let v := timeState s
  if v = t.state then s
  else
    let s := { s with time := { s.time with state := v, hops := if v = 0 ∧ s.time.parent = 7 then 255 else s.time.hops } }
    if v = 2 then timeRec s 0x7051 0 s.time.parent 0
    else if v = 3 then timeRec s 0x7052 0 s.time.parent 0
    else timeRec s 0x7053 2 s.time.parent 0

/-- Hops as advertised (R597, R601).
Log 101 (DEDUCED). -/
def advertised (s : State) : Nat := if s.time.state = 0 then 255 else if isRoot s then 0 else if s.time.parent < 6 then s.time.hops else 255

/-- The serial of the root that the device follows or is. -/
def rootSerial (s : State) : Nat := if s.time.parent < 6 then (getL s s.time.parent).advSerial else s.fuses.serial.toNat

/-- A signed number in 64 bits. -/
def signed64 (v : Int) : Nat := (BitVec.ofInt 64 v).toNat

/-- TIME_FLIT_SEND (R580, R596): a TIME flit-group with the root's serial, the hops, the error bound and the GTC values of the last
exchange. -/
def execTimeFlitSend (port : BitVec 3) (s : State) : Host.Outcome State Fault Refusal :=
  .next (
  let p := port.toNat
  let l := getL s p
  if p < 6 ∧ l.up then
    emit s p 4 0 0 0 ((List.range 256).map (Config.linkByte msgTime
      [rootSerial s, advertised s, timeBound s, signed64 l.lastT, signed64 l.lastA]))
  else s)

/-- The rate correction after an exchange (R598): a change of at most 0.1 ppm towards the parent, at most 200 ppm in total; its
size within that is not stated and is a free value.
Log 16 (DESIGN CHOICE); 101 (DEDUCED). -/
def correctRate (s : State) (off2 : Int) : State :=
  let (v, s) := takeFree s
  let d : Int := (v.toNat % 1001 : Nat)
  let r := if 0 < off2 then s.time.rate + d else if off2 < 0 then s.time.rate - d else s.time.rate
  { s with time := { s.time with rate := max (-2000000) (min 2000000 r) } }

/-- The exchange with the parent on port `p` (R598 to R600): a new parent more than 1 µs away loads the GTC while no context
exists, else the rate is corrected.
Log 101 (DEDUCED). -/
def followParent (s : State) (p : Nat) (off2 : Int) : State :=
  let fresh := s.time.parent != p
  let s := { s with time := { s.time with parent := p, hops := Nat.min 255 ((getL s p).advHops + 1), last := s.aon } }
  if fresh && (s.ctxs.all (fun e => !e.2.inUse)) && decide (off2.natAbs > 32000) then
    let ns := off2 / 32
    let g := Int.toNat ((s.gtc : Int) + ns)
    timeRec { s with gtc := g } 0x7054 0 p (signed64 ns)
  else correctRate s off2

/-- TIME_FLIT_RECEIVE (R596 to R601, R606): the port's delay, the neighbour's advertisement, and what follows for the parent. -/
def execTimeFlitReceive (port : BitVec 3) (t : TimeFlit) (s : State) : Host.Outcome State Fault Refusal :=
  .next (
  let p := port.toNat
  if p < 6 ∧ (getL s p).up then
    let off2 := (t.t2 - t.t1) - (t.t4 - t.t3)
    let s := updL s p (fun l => { l with delay := ((t.t2 - t.t1) + (t.t4 - t.t3)) / 2, advSerial := t.rootSerial.toNat,
                                         advHops := t.hops.toNat, lastT := t.t3, lastA := t.t4 })
    if timOn s && !s.time.lost && !isRoot s && bestPort s == some p then settleTime (followParent s p off2)
    else settleTime s
  else s)

/-- TIME_BOUND_EXPIRY (R600, R601): the error bound has grown past 4 ns. -/
def execTimeBoundExpiry (s : State) : Host.Outcome State Fault Refusal := .next (settleTime s)

/-- TB_REF_LOST (02 R83, R605): the timebase reference is gone after release; the device is UNSYNC.
Log 22 (DEDUCED). -/
def execTbRefLost (s : State) : Host.Outcome State Fault Refusal :=
  .next (
  if (s.phase = .run ∨ s.phase = .reset) ∧ !s.time.lost then
    settleTime (timeRec { s with time := { s.time with lost := true } } 0x7050 2 7 0)
  else s)

/-! ### Link loss -/

/-- A link operation ends as rejected at its sender (R585, R592): LINK_OP_ABORTED, and its done object stays as it is. -/
def opAborted (s : State) (p : Nat) (o : LinkOpTx) : State :=
  accept s 0x7030 2 0x07 p o.ctx 0xFFFF
    (linkPay s p (getL s p).cause (getL s p).skip (getL s p).serial.toNat 0 o.ctx o.remote ((getL s p).coord.toNat % 2 ^ 32))

/-- The replay buffer is discarded and every kept operation ends as a rejection does (R592).
Log 99 (DEDUCED). -/
def dropKept (s : State) (p : Nat) : State :=
  let ops := (getL s p).ops
  let s := updL s p (fun l => { l with replay := [], wait0 := [], wait1 := [], ops := [], msg0 := [], msg1 := [], kept := false,
                                       seqTx := 1, seqRx := 0, rounds := 0, nak := false })
  ops.foldl (fun s o => opAborted s p o) s

/-- A port goes down (R591): LINK_DOWN, the collective logic is told, what is in progress is kept, and a time parent is lost.
Log 99 (DEDUCED). -/
def portDown (s : State) (p cause : Nat) : State :=
  let l := getL s p
  if !l.up && !l.training then s
  else
    let s := accept s 0x7002 2 0x07 p 0xFFFF 0xFFFF
      (linkPay s p cause l.skip l.serial.toNat 0 0xFFFF 0xFFFF (l.coord.toNat % 2 ^ 32))
    let s := updL s p (fun l =>
      let m := { l with up := false, training := false, cause := cause, skip := 15, serial := 0, coord := 0, cred0 := 0, cred1 := 0,
                        owed0 := 0, owed1 := 0, nak := false, rounds := 0, advHops := 255, crcTimes := [] }
      if l.up then { m with kept := true, keptSerial := l.serial, keptCoord := l.coord, away := s.aon } else m)
    settleTime (if l.up then topoChange s p else s)

/-- LINK_DOWN (R591): loss of signal, the replay limit, loss of block lock, closure of the axis, or a port reset. -/
def execLinkDown (port : BitVec 3) (cause : BitVec 4) (s : State) : Host.Outcome State Fault Refusal :=
  .next (if port.toNat < 6 ∧ 1 ≤ cause.toNat ∧ cause.toNat ≤ 5 then portDown s port.toNat cause.toNat else s)

/-- LINK_KEEP_EXPIRY (R592): 100 ms have passed and the port is still down.
Log 99 (DEDUCED). -/
def execLinkKeepExpiry (port : BitVec 3) (s : State) : Host.Outcome State Fault Refusal :=
  .next (
  let l := getL s port.toNat
  if port.toNat < 6 ∧ !l.up ∧ l.kept then dropKept s port.toNat else s)

/-! ### Training -/

/-- Whether a port may train now: its axis in service, its link down, and not held down by a storm (R587, R603, 02 R85). -/
def mayTrain (s : State) (p : Nat) : Bool :=
  let l := getL s p
  decide (p < 6) && decide (s.phase = .run) && axisState s (p / 2) == 0 && !l.up && !l.training && !l.heldDown

/-- A training begins; it is counted.
Log 98 (DEDUCED). -/
def beginTrain (s : State) (p : Nat) : State :=
  updL s p (fun l => { l with training := true, trainings := satAdd 65535 l.trainings 1 })

/-- LINK_TRAIN_START (R587).
Log 98 (DEDUCED). -/
def execLinkTrainStart (port : BitVec 3) (s : State) : Host.Outcome State Fault Refusal :=
  .next (if mayTrain s port.toNat && !(getL s port.toNat).slow then beginTrain s port.toNat else s)

/-- LINK_TRAIN_RETRY (R589): 1 s after a failure the port tries again.
Log 98 (DEDUCED). -/
def execLinkTrainRetry (port : BitVec 3) (s : State) : Host.Outcome State Fault Refusal :=
  .next (if mayTrain s port.toNat && (getL s port.toNat).slow then beginTrain s port.toNat else s)

/-- LINK_TRAIN_TIMEOUT (R589): retried at once twice; after the third failure LINK_TRAIN_FAIL, then every 1 s.
Log 98 (DEDUCED). -/
def execLinkTrainTimeout (port : BitVec 3) (s : State) : Host.Outcome State Fault Refusal :=
  .next (
  let p := port.toNat
  let l := getL s p
  if p < 6 ∧ l.training then
    if l.slow then updL s p (fun l => { l with training := false })
    else if l.fails < 2 then
      beginTrain (updL s p (fun l => { l with fails := l.fails + 1 })) p
    else
      accept (updL s p (fun l => { l with training := false, fails := 0, slow := true })) 0x7003 2 0x07 p 0xFFFF 0xFFFF
        (linkPay s p l.cause 15 0 0 0xFFFF 0xFFFF 0)
  else s)

/-- The coordinate and the dimension of LNK.COORD on an axis. -/
def coordOf (v : Word64) (a : Nat) : Nat := bitsOf v.toNat (4 * a + 3) (4 * a)
def dimOf (v : Word64) (a : Nat) : Nat := bitsOf v.toNat (4 * a + 15) (4 * a + 12) + 1
/-- Whether LNK.COORD is valid: every coordinate below its dimension (R588). -/
def coordValid (v : Word64) : Bool := v.getLsbD 31 && (List.range 3).all (fun a => decide (coordOf v a < dimOf v a))

/-- The skip of a port's neighbour (R588); 15 without valid coordinates on both ends. -/
def skipOf (mine theirs : Word64) (p : Nat) : Nat :=
  if coordValid mine && coordValid theirs then
    let a := p / 2
    let d := dimOf mine a
    let (hi, lo) := if p % 2 = 0 then (coordOf theirs a, coordOf mine a) else (coordOf mine a, coordOf theirs a)
    (hi + 2 * d - lo - 1) % d
  else 15

/-- Whether the port and the coordinates on the other two axes are right (R588). -/
def portRight (mine theirs : Word64) (p : Nat) (nbr : NeighbourId) : Bool :=
  nbr.port.toNat == (if p % 2 = 0 then p + 1 else p - 1) &&
    (!(coordValid mine && coordValid theirs) ||
      (List.range 3).all (fun a => a == p / 2 || coordOf mine a == coordOf theirs a))

/-- LINK_TRAINED (R587, R588, R592): the checks, then the link is up; what was kept goes on with an unchanged neighbour within 100
ms, else it ends.
Log 98, 99 (DEDUCED). -/
def execLinkTrained (port : BitVec 3) (nbr : NeighbourId) (s : State) : Host.Outcome State Fault Refusal :=
  .next (
  let p := port.toNat
  let l := getL s p
  let mine := liveVal s 9 0x20 0
  let sk := skipOf mine nbr.coord p
  let pay := fun (s : State) (old : Nat) => linkPay s p 0 sk old nbr.serial.toNat 0xFFFF 0xFFFF (nbr.coord.toNat % 2 ^ 32)
  let had := l.kept || l.keptSerial != 0
  let oldSer := if had then l.keptSerial.toNat else 0
  if p ≥ 6 ∨ !l.training ∨ axisState s (p / 2) ≠ 0 then s
  else if !portRight mine nbr.coord p nbr then
    accept (updL s p (fun l => { l with training := false })) 0x7005 2 0x07 p 0xFFFF 0xFFFF (pay s oldSer)
  else if sk ≠ 15 ∧ 1 < sk then
    accept (updL s p (fun l => { l with training := false })) 0x7004 2 0x07 p 0xFFFF 0xFFFF (pay s oldSer)
  else
    let same := l.keptSerial == nbr.serial && l.keptCoord == nbr.coord
    let goOn := l.kept && same && decide (s.aon ≤ l.away + 100000000)
    let s := if had && !same then accept s 0x7020 2 0x07 p 0xFFFF 0xFFFF (pay s oldSer) else s
    let s := if goOn then s else dropKept s p
    let n0 := ((getL s p).replay.filter (fun f => f.vc == 0)).length
    let n1 := ((getL s p).replay.filter (fun f => f.vc == 1)).length
    let s := updL s p (fun l => { l with
      up := true, training := false, fails := 0, slow := false, serial := nbr.serial, coord := nbr.coord, skip := sk, kept := false,
      keptSerial := nbr.serial, keptCoord := nbr.coord, cred0 := 128 - n0, cred1 := 32 - n1, sinceAlign := 0 })
    let s := record s 0x7001 0 0x07 p (pay s oldSer)
    let s := if had && !same then neighbourMoved s p else s
    let s := if n0 + n1 = 0 then s else resend s p
    pumpPort s p)

/-! ### Flit-groups -/

/-- ALIGN_SEND (R580): one ALIGN flit-group after every 4,095 others. -/
def execAlignSend (port : BitVec 3) (s : State) : Host.Outcome State Fault Refusal :=
  .next (
  let p := port.toNat
  if p < 6 ∧ (getL s p).up ∧ 4095 ≤ (getL s p).sinceAlign then
    updL (emit s p 5 0 0 0 []) p (fun l => { l with sinceAlign := 0 })
  else s)

/-- Every unacknowledged flit-group is resent, or the link goes down after 16 rounds without ack progress (R582).
Log 97 (DEDUCED). -/
def resendOrDown (s : State) (p : Nat) : State :=
  let l := getL s p
  if l.replay.isEmpty then s else if l.rounds ≥ 16 then portDown s p 2 else resend s p

/-- REPLAY_TIMEOUT (R582). -/
def execReplayTimeout (port : BitVec 3) (s : State) : Host.Outcome State Fault Refusal :=
  .next (if port.toNat < 6 ∧ (getL s port.toNat).up then resendOrDown s port.toNat else s)

/-- The flit-groups that an ack does not cover. -/
def uncovered (ack : Nat) (l : List LinkFlit) : List LinkFlit :=
  if l.any (fun f => f.seq == ack) then (l.dropWhile (fun f => f.seq != ack)).drop 1 else l

/-- Nak once per gap: an IDLE flit-group with nak, whose ack names the last good flit-group (R581). -/
def sendNak (s : State) (p : Nat) : State :=
  if (getL s p).nak then s else emit (updL s p (fun l => { l with nak := true })) p 2 8 0 0 []

/-- A flit-group that fails its CRC is discarded, counted and naked (R581); more than 1,000 within 1 s are a storm: the port
is retrained once, then stays down (R603).
Log 97 (DEDUCED). -/
def crcFailed (s : State) (p : Nat) : State :=
  let s := updL s p (fun l => { l with crcFails := satAdd 65535 l.crcFails 1,
                                       crcTimes := s.aon :: l.crcTimes.filter (fun t => decide (s.aon < t + 1000000000)) })
  let l := getL s p
  if l.crcTimes.length > 1000 then
    let s := accept s 0x7011 2 0x07 p 0xFFFF 0xFFFF (portPay s p)
    updL (portDown s p 5) p (fun m => { m with stormed := true, heldDown := l.stormed })
  else sendNak s p

/-- Ack, nak and credits of a good flit-group (R581 to R583).
Log 95 (DESIGN CHOICE); 97 (DEDUCED). -/
def takeHeader (s : State) (p : Nat) (fg : FlitGroup) : State :=
  let l := getL s p
  let rest := uncovered fg.ack.toNat l.replay
  let s := updL s p (fun l => { l with replay := rest, rounds := if rest.length < l.replay.length then 0 else l.rounds,
                                       cred0 := l.cred0 + fg.credit0.toNat, cred1 := l.cred1 + fg.credit1.toNat })
  if fg.flags.getLsbD 3 then resendOrDown s p else s

/-- A DATA or CTRL flit-group is accepted in sequence order only (R581); its payload joins its message and its buffer's credit is
to be returned (R583).
Log 96 (DEDUCED). -/
def takeFlit (s : State) (p : Nat) (fg : FlitGroup) : State :=
  let l := getL s p
  let want := (l.seqRx + 1) % 65536
  let vc := fg.flags.getLsbD 0
  let join := fun (m : List (List Byte)) =>
    let m := if fg.flags.getLsbD 1 then [fg.payload] else m ++ [fg.payload]
    if fg.flags.getLsbD 2 then [] else m
  if fg.seq.toNat = want then
    updL s p (fun l =>
      let l := { l with seqRx := want, nak := false }
      if vc then { l with owed1 := l.owed1 + 1, msg1 := join l.msg1 } else { l with owed0 := l.owed0 + 1, msg0 := join l.msg0 })
  else if (fg.seq.toNat + 65536 - want) % 65536 < 32768 then sendNak s p else s

/-- FLIT_GROUP_RECEIVE (R579, R581 to R583, R603).
Log 131 (DESIGN CHOICE). -/
def execFlitGroupReceive (port : BitVec 3) (fg : FlitGroup) (s : State) : Host.Outcome State Fault Refusal :=
  .next (
  let p := port.toNat
  let k := fg.kind.toNat
  if p ≥ 6 ∨ !(getL s p).up then s
  else if !fg.crcOk ∨ k = 0 ∨ 6 < k then crcFailed s p
  else if k = 6 then s
  else
    let s := takeHeader s p fg
    if !(getL s p).up then s
    else pumpPort (if k = 1 ∨ k = 3 then takeFlit s p fg else s) p)

/-! ### Link operations at the receiver -/

/-- Where `n` bytes from `va` of a context lie, page by page, and whether all of them translate for a write (`fuel` pages). -/
def writePlaces (s : State) (c : Nat) : Nat → Nat → Nat → List (Place × Nat) × Bool
  | 0, _, _ => ([], true)
  | fuel + 1, va, n =>
    if n = 0 then ([], true)
    else
      let m := Nat.min n (4096 - va % 4096)
      match xlat s c va .write none with
      | .ok p =>
        let r := writePlaces s c fuel (va + m) (n - m)
        ((p, m) :: r.1, r.2)
      | _ => ([], false)

/-- Data laid on places in ascending address order. -/
def layOut : List (Place × Nat) → Marked → List (Place × Marked)
  | [], _ => []
  | (p, n) :: t, l => (p, l.take n) :: layOut t (l.drop n)

/-- Data cut at granules of 32 bytes (`fuel` granules). -/
def cutGranules : Nat → Place → Marked → List (Place × Marked)
  | 0, _, _ => []
  | fuel + 1, p, l =>
    if l.isEmpty then []
    else
      let m := 32 - placeKey p % 32
      (p, l.take m) :: cutGranules fuel (p.plus m) (l.drop m)

/-- A rejected write may have written some of its granules and not others (R585, 16 R554): each by a free value.
Log 16 (DESIGN CHOICE); 100 (DEDUCED). -/
def maybeWrite (s : State) (l : List (Place × Marked)) : State :=
  (l.flatMap (fun e => cutGranules (e.2.length / 32 + 2) e.1 e.2)).foldl (fun s g =>
    let (v, s) := takeFree s
    if v.getLsbD 0 then writeMarked s g.1 g.2 3 else s) s

/-- The marked data of a link operation. -/
def opData (m : LinkOpMsg) : Marked := (m.data.zipIdx).map (fun e => (e.1, m.poison.contains (e.2 / 32)))

/-- LINK_OP_RECEIVE (R585): the data is written in ascending address order, the object rises and a completion goes back; a wrong
context, job tag, translation or CRC is recorded and rejected.  A write to an input range of an open step waits with its
credits withheld (R583); one for a fenced context is discarded and rejected (16 Table 16.5).
Log 100 (DEDUCED); 131 (DESIGN CHOICE). -/
def execLinkOpReceive (port : BitVec 3) (m : LinkOpMsg) (env : Env) (s : State) : Host.Outcome State Fault Refusal :=
  .next (
  let p := port.toNat
  let c := m.remoteCtx.toNat
  let x := getC s c
  let reject := fun (s : State) => linkSend s p 1 msgReject [m.id.toNat] [] []
  let note := fun (s : State) => accept s 0x7031 2 0x07 p (if c < 256 then c else 0xFFFF) 0xFFFF
    (linkPay s p (getL s p).cause (getL s p).skip (getL s p).serial.toNat 0 m.srcCtx.toNat c ((getL s p).coord.toNat % 2 ^ 32))
  if p ≥ 6 ∨ !(getL s p).up then s
  else if c ≥ 256 ∨ !x.inUse ∨ x.ended ∨ x.jobTag ≠ m.jobTag then reject (note s)
  else if isFenced s c then reject s
  else
    let s := ((List.range (m.data.length / 4096 + 2)).foldl (fun s i => (xlatE s c (m.dst.toNat + 4096 * i) .write none
      (if 4096 * i < m.data.length then env else Env.quiet)).2) s)
    let ps := writePlaces s c (m.data.length / 4096 + 2) m.dst.toNat m.data.length
    let l := layOut ps.1 (opData m)
    if ps.1.any (fun e => (stepHolder s 0xFFFF e.1).isSome) then s
    else if !ps.2 ∨ (m.e2e ∧ !m.e2eOk) then reject (note (maybeWrite s l))
    else
      let s := l.foldl (fun s e => writeMarked s e.1 e.2 3) s
      let s := if m.remoteObject.toNat < 256 then syncBump s c m.remoteObject.toNat else s
      linkSend s p 1 msgDone [m.id.toNat] [] [])

/-- LINK_OP_REPLY_RECEIVE (R585): a completion increments the done object of the sender; a rejection records LINK_OP_ABORTED. -/
def execLinkOpReplyReceive (port : BitVec 3) (id : BitVec 32) (accepted : Bool) (s : State) : Host.Outcome State Fault Refusal :=
  .next (
  let p := port.toNat
  match (getL s p).ops.find? (fun o => o.id == id.toNat) with
  | none => s
  | some o =>
    let s := updL s p (fun l => { l with ops := l.ops.filter (fun o => o.id != id.toNat) })
    if accepted then syncBump s o.ctx o.done else opAborted s p o)

/-- LNK.AXIS_CTL has been committed (R590): an axis set to 1 is declared failed and its switch closes; one set back to 0 is
commanded open where no close cause remains, which also ends a storm's hold (R603).
Log 123 (DEDUCED). -/
def commitAxisCtl (s : State) (old new : Word64) : State :=
  (List.range 3).foldl (fun s a =>
    let o := bitsOf old.toNat (2 * a + 1) (2 * a)
    let n := bitsOf new.toNat (2 * a + 1) (2 * a)
    let x := Tbl.get Axis.init s.axes a
    let tested := s.bist.failed.contains (1094 + 2 * a) || s.bist.failed.contains (1095 + 2 * a) || s.bist.failed.contains 1115
    if n = 1 then
      if x.failed then s
      else
        let s := updAxis s a (fun x => { x with failed := true, cmd := false })
        let s := record s 0x7021 2 0x07 (2 * a) (portPay s (2 * a))
        portDown (portDown s (2 * a) 4) (2 * a + 1) 4
    else if n = 0 ∧ o = 1 then
      let s := if tested then s else updAxis s a (fun x => { x with failed := false })
      let s := [2 * a, 2 * a + 1].foldl (fun s p => updL s p (fun l => { l with stormed := false, heldDown := false })) s
      openAxis s a
    else s) s

end Sys2Proof.Machine
end

