-- ==== Sys2Proof/Machine/Power.lean ====
section
/-! DEFINITION. Power delivery, domains, the cap, the estimator (03), and the pins and bypass switches (02). -/

namespace Sys2Proof.Machine

/-- The outcome of a meaning that always goes on. -/
abbrev Res := Host.Outcome State Fault Refusal

/-- The domains that stay on the always-on rail and VAUX33 in KEEP-ALIVE (03 Table 3.9).
Log 55 (DEDUCED). -/
def keepAliveDomains : Tbl Nat :=
  (List.range 1121).map (fun d => (d, if d = 1100 ∨ d = 1117 ∨ d = 1118 ∨ d = 1119 ∨ d = 1120 then 1 else 0))

/-- Queue 1023 where the program that it runs is lost: the entries that wait stay (16 Table 16.11).
Log 41 (DEDUCED). -/
def keptChorno (s : State) : Queue :=
  let l := (getQ s 1023).entries
  { Queue.chorno with entries := l, tail := l.length, fetch := l.length }
/-- The programs of queue 1023 that have not ended, without the one that is lost. -/
def keptIds (s : State) : List (Nat × List Byte) :=
  let q := getQ s 1023
  if q.running.isSome || q.pendRec.isSome then s.chn.ids.drop 1 else s.chn.ids

/-- Every VIN12-fed rail is off: domains OFF but those of KEEP-ALIVE, scratchpad and HBM contents lost, the switches closed,
contexts and queues gone but for queue 1023, the link down, the installed pack lost (03 Table 3.7, 14 R479).
Log 41 (DEDUCED). -/
def railsOff (s : State) : State :=
  let pci := { Pcie.released with perst := s.pci.perst }
  let err := { s.err with q0 := [], q1 := [], q2 := [], q3 := [], handlers := [], safe := false }
  { s with pwr := { s.pwr with domains := keepAliveDomains, domTarget := [], pwrGood := false, fullPace := false,
                               single := false, changing := none, quiet := none, meter := [], iin := 0, gating := false,
                               exceeded := false, hbmKept := false },
           mem := { cells := [], poison := [] }, slots := [], progs := [], ctxs := [],
           queues := [(1023, keptChorno s)], chn := { s.chn with chunks := [], ids := keptIds s },
           axes := (s.axes.filter (fun e => e.2.closeFail)).map (fun e => (e.1, { Axis.init with closeFail := true })),
           pci := pci, rst := { s.rst with runs := [], watch := [] }, err := err,
           brl := { Burling.init with packNo := 0 }, chk := Checking.init, ecc := Ecc.init, deepQ := [], shut := [], links := [],
           pairs := [], col := Collectives.init, esp := { Esp.init with late := isFleet s },
           time := { TimeSync.init with lost := s.time.lost, rate := s.time.rate } }

/-- Store power-on seconds and the power-cycle count in the counter region (20 R682, R684). -/
def storeCounter (s : State) : State :=
  { s with rcd := { s.rcd with ctrStored := powerOnSec s, ctrWrites := s.rcd.ctrWrites + 1 } }

/-- The power-down of 03 Table 3.7: every context ends with POWER_DOWN, the rails go off, POWER_DOWN is recorded and
KEEP-ALIVE is reached; a freeze ends first (20 R697).
Log 130 (DEDUCED). -/
def powerDown (s : State) : State :=
  let s := endAll (endFreeze s) 0x011B
  let s := railsOff s
  let s := storeCounter { s with phase := .keepAlive, trd := { Trd.released with
    standby := 0, aFailed := s.trd.aFailed, owner := !s.trd.aFailed } }
  record s 0x1002 0 0x00 0xFFFF (powerPay s 0xFFFF 0xFF 0xFF 0x8000 0 0)

/-- Whether the thermal wait of 04 R145 is over: no voter votes and every valid digital sensor reads at most 100 °C. -/
def thermalClear (s : State) : Bool :=
  s.thm.votes == 0 && s.thm.brokenV == 0 && s.thm.sensors.all (fun e => e.2.broken || decide (e.2.temp.toInt ≤ 400))

/-- The domains as they stand when the VIN12 rails are up: every domain ON but coppiced clusters and their arrays, which are never
powered or tested (05 R176): OFF, or FAILED where they have failed. -/
def allOn (s : State) : Tbl Nat :=
  ((s.fuses.coppice ++ s.bist.bootCop).flatMap (fun n => [n, 512 + n])).foldl
    (fun t d => Tbl.put t d (if domState s d = 3 then 3 else 0)) []

/-- The device stays in reset (05 R172, R173): HELD, FAULT_L low, with the summary record. -/
def summaryPay (s : State) (result counts ess : Nat) : List Byte :=
  pay [(4, result), (4, counts), (4, ess), (4, s.bist.micros.toNat), (2, s.bist.firstFail), (8, s.bist.obsSig.toNat),
       (8, s.bist.expSig.toNat)]

/-- A start-up test begins with Phase 1: depth 1 FULL, 2 SHORT (05 R166). -/
def startTest (s : State) (depth : Nat) : State :=
  { s with phase := .test, bist := { s.bist with depth := depth, phase := 1, failed := [], firstFail := 0xFFFF, obsSig := 0, expSig := 0,
                                                 stay := false } }

/-- The power state HELD (03 Table 3.9): of the VIN12 domains only Treadle A and PCIe are ON, and a FAILED domain stays FAILED; with
their rails off HBM and the scratchpads lose their contents. -/
def heldPower (s : State) (p : Phase) : State :=
  let f := fun (d : Nat) => (d, if domState s d = 3 then 3 else if d = 1100 ∨ d ≥ 1116 then 1 else 0)
  { s with phase := p, mem := { cells := [], poison := [] },
           pwr := { s.pwr with domains := (List.range 1121).map f, domTarget := [], hbmKept := false } }

/-- The domain that fails with a block: a cluster fails with its array. -/
def blockDomain (d : Nat) : Nat := if 512 ≤ d ∧ d < 1024 then d - 512 else d

/-- What a failed block takes OFF with it (03 R92, 05 R170, R176): a failed cluster its array, a failed router tile the clusters
of its group and their arrays.
Log 134 (DEDUCED). -/
def failOff (s : State) (d : Nat) : State :=
  if d < 512 then clusterOff s d
  else if 1024 ≤ d ∧ d < 1088 then (List.range 8).foldl (fun s i => clusterOff s ((d - 1024) * 8 + i)) s
  else s

/-- The essential blocks (05 Table 5.5): a failure holds the device in reset. -/
def essentialBlock (d : Nat) : Bool := d == 1100 || d == 1101 || (decide (1116 ≤ d) && decide (d ≤ 1120))

/-- A block fails its test (05 R164, R170, R188): BIST_BLOCK_FAIL is recorded, after BIST_PHASE_TIMEOUT or BIST_SIG_ROM_FAIL where one of
them is the cause, and the domain of a block that is not essential is FAILED (Table 5.5).
Log 134 (DEDUCED). -/
def bistFail (s : State) (d0 : Nat) (c : BistCause) : State :=
  let d := blockDomain d0
  let (o, x) := match c with
    | .signature o x => (o, x)
    | _ => (0, 0)
  let cl := if d < 512 then d else 0xFFFF
  let s := match c with
    | .timeout => record s 0xE008 4 0x0F d (bistPay s d s.bist.depth s.bist.phase cl 0 0)
    | .romCrc => record s 0xE007 5 0x0F d (bistPay s d s.bist.depth s.bist.phase cl 0 0)
    | _ => s
  let s := record s 0xE002 4 0x0F d (bistPay s d s.bist.depth s.bist.phase cl o x)
  let first := s.bist.failed.isEmpty
  let b := { s.bist with failed := insertNat s.bist.failed d }
  let b := if first then { b with firstFail := d, obsSig := o, expSig := x } else b
  let s := { s with bist := b }
  if essentialBlock d then s else failOff (putDom s d 3) d

/-- The clusters excluded after a test (05 R171): fused, boot-coppiced, failed, and those behind a failed router tile.
Log 134 (DEDUCED). -/
def excludedAfter (s : State) : List Nat :=
  let f := s.bist.failed
  upTo 512 (fun n => s.fuses.coppice.contains n || s.bist.bootCop.contains n || f.contains n || f.contains (1024 + n / 8))

/-- SYS.BIST_RESULT (05 Table 5.7).
Log 134 (DEDUCED). -/
def bistResult (s : State) : Nat :=
  let f := s.bist.failed
  s.bist.depth * 0x40000000 + bitIf s.bist.stay 29 + bitIf (f.contains 1102) 28 + bitIf (f.contains 1115) 27
    + ((List.range 6).map (fun i => bitIf (f.contains (1088 + i)) (21 + i))).foldl (· + ·) 0
    + ((List.range 6).map (fun i => bitIf (f.contains (1094 + i)) (15 + i))).foldl (· + ·) 0
    + ((List.range 12).map (fun i => bitIf (f.contains (1103 + i)) (3 + i))).foldl (· + ·) 0

/-- SYS.BIST_COUNTS (05 Table 5.8). -/
def bistCounts (s : State) : Nat :=
  (s.bist.failed.filter (fun d => decide (1024 ≤ d) && decide (d < 1088))).length * 0x10000
    + s.fuses.coppice.length * 0x400 + s.bist.excluded.length

/-- The essential blocks that failed the test (05 Table 5.8): Treadle A and B, PCIe, timebase, fuse, always-on, thermal. -/
def essentialBits (s : State) : BitVec 7 :=
  let f := s.bist.failed
  BitVec.ofNat 7 (bitIf (f.contains 1100) 0 + bitIf (f.contains 1101) 1 + bitIf (f.contains 1116) 2
    + bitIf (f.contains 1118) 3 + bitIf (f.contains 1119) 4 + bitIf (f.contains 1117) 5 + bitIf (f.contains 1120) 6)

/-- The summary record of a test (05 R179): BIST_COMPLETE or BIST_STAY_IN_RESET. -/
def bistSummary (s : State) (code sev : Nat) : State :=
  record s code sev 0x0F 0xFFFF (summaryPay s (bistResult s) (bistCounts s) s.bist.essential.toNat)

/-- Power-up from PWR_EN (03 Table 3.6): the VIN12 rails come up, the power-cycle count goes up after a power cycle and LAT
settings return to their reset values (R97), POWER_ON is recorded, and start-up test begins with Phase 1 of the FULL test;
with a failed keep-alive block the device stays in reset without a test (05 R173).
Log 134 (DEDUCED). -/
def powerUp (s : State) : State :=
  let s := if s.rcd.pcMarked then
      { s with rcd := { s.rcd with pcc := Nat.min 0xFFFFFF (s.rcd.pcc + 1), pcMarked := false, wearCrit := false },
               bist := { s.bist with bootCop := [], senseOff := false, scanOn := false },
               thm := { s.thm with latched := false, latchV := 0, latchR := false, latchS := 0 },
               rst := { s.rst with pcReq := false, seq := 0 }, axes := [],
               sets := { s.sets with hard := [] } }
    else s
  let s := storeCounter s
  let s := { s with pwr := { s.pwr with domains := allOn s, pwrGood := true, fullPace := true, capTarget := 900,
                                        hbmKept := true, warnBlock := false },
                    thm := { s.thm with targets := [] } }
  let s := record s 0x1001 0 0x00 0xFFFF (powerPay s 0xFFFF 0xFF 0xFF 0x8000 0 0)
  if s.bist.kaFailed ≠ 0 then
    let b := { s.bist with stay := true, essential := s.bist.kaFailed, depth := 0, excluded := excludedAfter s, repeatDue := true }
    bistSummary { heldPower s .stay with bist := b } 0xE004 5
  else startTest s 1

/-- Start the power-up when PWR_EN is asserted with rails in range in KEEP-ALIVE and the thermal wait is over (03 R95). -/
def tryPowerUp (s : State) : State :=
  if (s.phase = .keepAlive ∨ s.phase = .thermWait) ∧ s.pwr.pwrEn ∧ s.pwr.railsOk ∧ !s.pwr.warnBlock then
    if thermalClear s then powerUp s else { s with phase := .thermWait }
  else s

/-- VAUX33_RISE (03 R94): the always-on logic starts, the straps are sampled (02 R62), the fuses are read, power-on seconds
resume at the stored value plus 60 (20 R682), the GTC starts at 0 (17 R595) and the keep-alive phase begins; a reserved
profile holds the device in reset with STRAP_INVALID (02 R79), a record of kind B that goes out as a REPORT (15 R514, 21 R724); without
a timebase reference the timebase fails (R82).
Log 135 (DEDUCED). -/
def execVaux33Rise (straps : Straps) (tbRef : Bool) (s : State) : Res :=
  .next (if s.phase ≠ .off then s
  else
    let c := s.rcd
    let rcd := { Recorder.fresh with
      posBase := c.ctrStored + 60, pcc := c.pcc, ctrStored := c.ctrStored + 60, ctrWrites := c.ctrWrites + 1,
      pcMarked := true, log := c.log, ckpt := c.ckpt, svc := c.svc, blocks := c.blocks, ckpts := c.ckpts,
      wearAdv := c.wearAdv }
    let b := { Bist.passed with
      kaFailed := if tbRef then 0 else 8, secret := false, bootCop := s.bist.bootCop, scanLock := s.bist.scanLock,
      depth := 0 }
    let s' := { State.reset with
      pending := s.pending, out := s.out, freeCtr := s.freeCtr, fuses := { s.fuses with prog := [] }, rcd := rcd,
      bist := b, straps := straps, phase := .kaTest,
      rst := { Resets.none with oos := s.rst.oos, history := s.rst.history },
      pwr := { Power.released with vin12 := s.pwr.vin12, railsOk := s.pwr.railsOk, pwrEn := s.pwr.pwrEn,
                                   warn := s.pwr.warn } }
    let s' := { railsOff s' with phase := .kaTest }
    if straps.profile.toNat ≥ 2 then
      let (r, s') := formRec { s' with phase := .strapBad } 0xE021 5 0 0x0F 0xFFFF (bistPay s' 0xFFFF 0 0 0xFFFF 0 0)
      addReport (ringAdd s' r) r
    else s')

/-- The blocks tested in the keep-alive phase (05 Table 5.3): Treadle A, always-on, timebase, fuse and security, thermal. -/
def keepAliveBlock (d : Nat) : Bool := d == 1100 || (decide (1117 ≤ d) && decide (d ≤ 1120))

/-- KEEP_ALIVE_REACHED (03 R94, 05 R165, R170, R173): the keep-alive phase ends with the blocks that failed in it, the timebase among them
where it had no reference (02 R82); the device secret is loaded once the fuse block has passed (R163); OUT_OF_SERVICE is rebuilt from the
log, and taken as set where it cannot be read (16 R575); a held assertion of PWR_EN is acted on (R95).
Log 134 (DEDUCED). -/
def execKeepAliveReached (fails : List BistFail) (nvReadable : Bool) (s : State) : Res :=
  .next (if s.phase ≠ .kaTest then s
  else
    let l := (if s.bist.kaFailed.getLsbD 3 then [(⟨1118, .mbist⟩ : BistFail)] else []) ++ fails.filter (fun f => keepAliveBlock f.domain)
    let s := l.foldl (fun s f => if s.bist.failed.contains f.domain then s else bistFail s f.domain f.cause) s
    let f := s.bist.kaFailed ||| essentialBits s
    let s := { s with phase := .keepAlive,
                      bist := { s.bist with kaFailed := f, secret := !f.getLsbD 4 && !s.bist.senseOff },
                      trd := { s.trd with aFailed := f.getLsbD 0 } }
    let s := if nvReadable then s
      else accept { s with rst := { s.rst with oos := true } } 0xA030 2 0x0D 0 0xFFFF 0xFFFF (pay [(2, 0), (2, 0xFFFF)])
    tryPowerUp s)

/-- What a record slot reads after power fails during the programming operation in progress (20 Table 20.4): bytes of
earlier operations written, bytes of this one each bit 1 or intended, the rest erased.
Log 111 (DEDUCED). -/
def tornBytes (b : List Byte) (op : Nat) (free : Word64) : List Byte :=
  let lo := 16 * op
  let hi := if op = 3 then 63 else if op = 4 then 64 else lo + 16
  let lo := if op = 4 then 63 else lo
  (List.range 64).map (fun i =>
    let v := b.getD i 0xFF
    if i < lo then v
    else if i < hi then v ||| (BitVec.ofNat 8 (free.toNat >>> (8 * (i % 8))))
    else 0xFF)

/-- Append a slot to a region's newest block. -/
def regionAppend (r : NvRegion) (x : NvSlot) : NvRegion :=
  match r.segs.getLast? with
  | some g =>
    if g.slots.length < 1024 then
      { r with segs := r.segs.dropLast ++ [{ g with slots := g.slots ++ [x] }], next := r.next + 1 }
    else match r.erased with
      | b :: t => { r with segs := r.segs ++ [⟨b, r.next, [x]⟩], erased := t, next := r.next + 1 }
      | [] => r
  | none => match r.erased with
    | b :: t => { r with segs := [⟨b, r.next, [x]⟩], erased := t, next := r.next + 1 }
    | [] => r

/-- Change the region of a number (1 durable log, 2 checkpoint, 3 service). -/
def updRegion (c : Recorder) (n : Nat) (f : NvRegion → NvRegion) : Recorder :=
  match n with
  | 1 => { c with log := f c.log }
  | 2 => { c with ckpt := f c.ckpt }
  | _ => { c with svc := f c.svc }

/-- Power fails for the always-on domain: a slot being programmed is left torn (20 R698).
Log 16 (DESIGN CHOICE). -/
def cutProgram (s : State) : State :=
  match s.rcd.op with
  | none => s
  | some o =>
    let (v, s) := takeFree s
    let x : NvSlot := ⟨tornBytes o.body.bytes o.op v⟩
    { s with rcd := { updRegion s.rcd o.region (fun r => regionAppend r x) with op := none,
                                                                                tornTot := satAdd 255 s.rcd.tornTot 1 } }

/-- VAUX33_LOSS (03 R126): everything volatile is lost, the ring with it; the device is OFF and a power cycle is marked. -/
def execVaux33Loss (s : State) : Res :=
  .next (if s.phase = .off then s
  else
    let s := railsOff (cutProgram s)
    { s with phase := .off, gtc := 0, aon := 0,
             pwr := { s.pwr with vaux33 := false, domains := (List.range 1121).map (fun d => (d, 0)) },
             rcd := { s.rcd with ring := [], pcMarked := true, frozen := false, rates := [], warnDrain := [],
                                 ckptWait := none },
             bist := { s.bist with secret := false, bootCop := [], senseOff := false, scanOn := false },
             thm := { s.thm with latched := false, latchV := 0, latchR := false, latchS := 0 },
             rst := { s.rst with pcReq := false, seq := 0 }, axes := [],
             sets := { regs := [], hard := [] } })

/-- PWR_EN_ASSERT (03 R95, 02 R80): recognised with the rails in range or not; ignored while the shutdown latch is held
(04 R144). A device that stays in reset, or held, starts again (05 R172, 16 R574). -/
def execPwrEnAssert (railsOk : Bool) (s : State) : Res :=
  .next (if s.phase = .off ∨ s.pwr.pwrEn then s
  else
    let s := { s with pwr := { s.pwr with pwrEn := true, railsOk := railsOk,
                                          warnBlock := s.pwr.warnBlock && s.pwr.warn } }
    if s.phase = .latched then s else tryPowerUp s)

/-- RAILS_IN_RANGE (02 R80): all rails have been in range for 1 ms. -/
def execRailsInRange (s : State) : Res :=
  .next (if s.phase = .off then s
  else
    let s := { s with pwr := { s.pwr with railsOk := true, vin12 := true } }
    if s.phase = .latched then s else tryPowerUp s)

/-- THERMAL_WAIT_END (04 R145): the wait before power-up ends. -/
def execThermalWaitEnd (s : State) : Res :=
  .next (if s.phase = .thermWait then tryPowerUp s else s)

/-- PWR_EN_DEASSERT (03 R99, Table 3.7): the device powers down and enters KEEP-ALIVE. -/
def execPwrEnDeassert (s : State) : Res :=
  .next (if s.phase = .off ∨ !s.pwr.pwrEn then s
  else
    let s := { s with pwr := { s.pwr with pwrEn := false } }
    match s.phase with
    | .run | .reset | .test | .stay | .oosHold | .pcHeld => powerDown s
    | .thermWait => { s with phase := .keepAlive }
    | _ => s)

/-- The warning response (03 Table 3.8) from its second row: issue stops, every open command is withdrawn, a freeze ends (20 R697), and the drain turns to the warning record, the two oldest
records of the highest severity and a counter entry (20 R691). -/
def warnResponse (s : State) (code : Nat) : State :=
  let s := endFreeze s
  let old := s.rcd.ring
  let s := record s code 2 0x00 0xFFFF (powerPay s 0xFFFF 0xFF 0 0x8000 0 0)
  let top := old.foldl (fun m r => Nat.max m r.body.sev) 0
  let two := (old.filter (fun r => r.body.sev == top)).take 2
  let own := s.rcd.ring.drop old.length
  let s := { s with pwr := { s.pwr with warn := true },
                    rcd := { s.rcd with warnDrain := (own ++ two).map (·.body) } }
  storeCounter (closeAxes s)

/-- What PWR_WARN does (03 R100, R119, 05 R185, R186): in keep-alive the warning is only recorded; before PWR_GOOD it abandons the
power-up; during a FULL test it is answered, abandons the test and powers down; a SHORT test starts again from Phase 1 later.
Log 136 (DEDUCED). -/
def pwrWarn (s : State) : State :=
  if s.phase = .off ∨ s.pwr.warn then s
  else match s.phase with
    | .thermWait =>
      { s with phase := .keepAlive, pwr := { s.pwr with warn := true, warnBlock := true } }
    | .test =>
      if s.bist.depth = 1 then
        let s := warnResponse s 0x1010
        let s := record s 0xE006 2 0x0F 0xFFFF (bistPay s 0xFFFF 1 s.bist.phase 0xFFFF 0 0)
        let s := powerDown { s with bist := { s.bist with phase := 0 } }
        { s with pwr := { s.pwr with warn := true, warnBlock := true } }
      else { warnResponse s 0x1010 with bist := { s.bist with phase := 1 } }
    | .run | .reset | .stay | .oosHold | .pcHeld | .scan => warnResponse s 0x1010
    | _ => record { s with pwr := { s.pwr with warn := true } } 0x1010 2 0x00 0xFFFF
             (powerPay s 0xFFFF 0xFF 0 0x8000 0 0)

/-- PWR_WARN_CLEARED (03 R102): issue resumes and the axes reopen.
Log 21, 136 (DEDUCED). -/
def execPwrWarnCleared (s : State) : Res :=
  .next (if !s.pwr.warn ∨ s.phase = .off then s
  else
    let s := { s with pwr := { s.pwr with warn := false }, rcd := { s.rcd with warnDrain := [] } }
    let s := record s 0x1011 0 0x00 0xFFFF (powerPay s 0xFFFF 0xFF 0 0x8000 0 0)
    if s.phase = .run then openAxis (openAxis (openAxis s 0) 1) 2 else s)

/-- The SMBus target latches an undervoltage of VIN12 with PWR_EN asserted (21 Tables 21.9, 21.10). -/
def latchVin (s : State) : State :=
  if s.pwr.pwrEn ∧ s.phase ≠ .off then { s with smb := { s.smb with vinUv := true, inUv := true } } else s

/-- What VIN12_UNDERVOLTAGE does (03 R122): with PWR_WARN_L released, the response of Table 3.8 from its second row. -/
def vin12Undervoltage (s0 : State) : State :=
  let s := latchVin s0
  if s.pwr.warn then s
  else match s.phase with
    | .run | .reset | .test | .stay | .oosHold | .pcHeld | .scan => warnResponse s 0x1021
    | _ => s

/-- VIN12_LOSS (03 R101, 02 R81): VIN12 falls below range; every VIN12-fed rail is gone and the ring is kept while VAUX33
remains. -/
def execVin12Loss (s : State) : Res :=
  .next (if s.phase = .off then s
  else
    let s := latchVin { s with pwr := { s.pwr with vin12 := false, railsOk := false } }
    match s.phase with
    | .run | .reset | .test | .stay | .oosHold | .pcHeld | .scan => { railsOff s with phase := .keepAlive }
    | .thermWait => { s with phase := .keepAlive }
    | _ => s)

/-- POWER_CYCLE_MARK (20 R683): VIN12 has been below range for 10 ms, so a power cycle is marked; the shutdown latch clears
(04 R144). -/
def execPowerCycleMark (s : State) : Res :=
  .next (if s.phase = .off ∨ s.pwr.vin12 then s
  else { s with rcd := { s.rcd with pcMarked := true }, phase := if s.phase = .latched then .keepAlive else s.phase })

/-- RAIL_FAULT (03 R121): an island out of regulation switches off its group's cluster domains and takes the eight clusters
to QUARANTINED; any other rail is an error whose handling is a chip reset. PWR_GOOD goes low (R96). -/
def execRailFault (rail : Rail) (s : State) : Res :=
  .next (if !s.pwr.pwrGood then s
  else
    let s := { s with pwr := { s.pwr with pwrGood := false } }
    let chip := fun (d : Nat) => accept s 0x1020 5 0x00 d 0xFFFF d (powerPay s d 2 0xFF 0x8000 0 0)
    match rail with
    | .group g =>
      if g < 64 then
        let s := (List.range 8).foldl (fun s i => quarantine (if domState s (8 * g + i) = 1 then putDom s (8 * g + i) 0 else s)
          (8 * g + i) 7) s
        accept s 0x1020 4 0x00 (8 * g) 0xFFFF (8 * g) (powerPay s g 0 0xFF 0x8000 0 0)
      else s
    | .vesp => accept (unbindEsp (putDom s 1102 0)) 0x1020 4 0x00 1102 0xFFFF 1102 (powerPay s 64 0 0xFF 0x8000 0 0)
    | .vunc => chip 1024
    | .vtrd => chip 1100
    | .vphy => chip 1116
    | .vsp => chip 512
    | .hbm => chip 1088)

/-- The average in mW of the last `n` samples.
Log 24 (DESIGN CHOICE). -/
def avgMw (m : List Nat) (n : Nat) : Nat := ((m.take n).foldl (· + ·) 0) / n

/-- CAP_METER_SAMPLE (03 R105, R106, R124): the 10 µs measurement of VIN12. Above a limit the cap targets of all islands go
down by 5 mV to no less than 550 mV, then duty gating applies (CAP_GATING), and CAP_EXCEEDED is recorded when gating does
not hold the cap; below the limits gating ends and the targets go up again.
Log 24 (DESIGN CHOICE). -/
def execCapMeterSample (mV mA : Nat) (s : State) : Res :=
  .next (if !s.pwr.pwrGood then s
  else
    let m := (mV * mA / 1000 :: s.pwr.meter).take 100
    let cap := (liveVal s 1 0x20 0).toNat * 1000
    let hot := decide (avgMw m 100 > cap) || decide (avgMw m 10 * 10 > cap * 11) ||
      decide (avgMw m 2 * 4 > s.fuses.gradeW * 1000 * 5)
    let s := { s with pwr := { s.pwr with meter := m, iin := mA } }
    if hot then
      if s.pwr.capTarget > 550 then { s with pwr := { s.pwr with capTarget := Nat.max 550 (s.pwr.capTarget - 5) } }
      else if !s.pwr.gating then
        record { s with pwr := { s.pwr with gating := true },
                        ctxs := s.ctxs.map (fun e => (e.1, { e.2 with energy := { e.2.energy with gated := true } })) }
          0x1030 0 0x00 0xFFFF (powerPay s 0xFFFF 0xFF 0 0x8000 0 0)
      else if !s.pwr.exceeded then
        accept { s with pwr := { s.pwr with exceeded := true } } 0x1031 2 0x00 0xFFFF 0xFFFF 0xFFFF
          (powerPay s 0xFFFF 0xFF 0 0x8000 0 0)
      else s
    else { s with pwr := { s.pwr with gating := false, exceeded := false,
                                      capTarget := Nat.min 900 (s.pwr.capTarget + 5) } })

/-- The essential blocks' domains: Treadles, PCIe, always-on, timebase, fuse and security, thermal (01 R43). -/
def essentialDom (d : Nat) : Bool := d == 1100 || d == 1101 || (decide (1116 ≤ d) && decide (d ≤ 1120))

/-- A domain reaches its target: its state, lost contents of an array, and the program that waits for it goes on.
Log 122 (DEDUCED). -/
def domainDone (s : State) (d v result : Nat) : State :=
  let s := putDom s d v
  let s := { s with pwr := { s.pwr with domTarget := Tbl.del s.pwr.domTarget d } }
  let s := if 512 ≤ d ∧ d < 1024 ∧ v = 0 then
      s.slots.foldl (fun s e => if e.2.host = d - 512 then
        memWipe s (padBase 0 e.1) (padBase 0 e.1 + 0x100000) else s) s
    else s
  let s := if d = 1102 then settleEsp s false else s
  s.progs.foldl (fun s e => match e.2.wait with
    | .domain d' _ rd => if d' = d then wakeRd s e.1 e.2 rd (w64 result) else s
    | _ => s) s

/-- A domain fails (03 R123): FAILED, DOMAIN_SWITCH_FAIL, and its cluster is taken to QUARANTINED.
Log 122 (DEDUCED). -/
def domainFailed (s : State) (d : Nat) : State :=
  let s := domainDone s d 3 1
  let sev := if essentialDom d then 5 else 4
  let s := accept s 0x1050 sev 0x00 d 0xFFFF d (powerPay s d 2 0xFF 0x8000 0 0)
  if d < 1024 then quarantine s (d % 512) 7 else s

/-- DOMAIN_SWITCH_COMPLETE (03 R93, Table 3.4): a commanded change is done; a cluster that comes ON after having been OFF has
run its start-up test (05 R159), and a failed test boot-coppices it (Table 5.5). No more than 8 cluster domains come ON
within any 50 µs.
Log 122 (DEDUCED). -/
def execDomainSwitchComplete (domain : Nat) (testPass : Bool) (s : State) : Res :=
  .next (match s.pwr.domTarget.find? (fun e => e.1 == domain) with
  | none => s
  | some (_, t) =>
    if domain < 512 ∧ t = 1 then
      let recent := s.pwr.onTimes.filter (fun x => decide (s.aon < x + 50000))
      if recent.length ≥ 8 then s
      else
        let s := { s with pwr := { s.pwr with onTimes := s.aon :: recent } }
        if testPass then domainDone s domain 1 0
        else
          let b := { s.bist with bootCop := insertNat s.bist.bootCop domain, excluded := insertNat s.bist.excluded domain }
          let s := record { s with bist := b } 0xE002 4 0x0F domain (bistPay s domain 2 0 domain 0 0)
          domainDone s domain 3 1
    else domainDone s domain t 0)

/-- DOMAIN_SWITCH_FAIL (03 R123).
Log 122 (DEDUCED). -/
def execDomainSwitchFail (domain : Nat) (s : State) : Res :=
  .next (match s.pwr.domTarget.find? (fun e => e.1 == domain) with
  | none => s
  | some _ => domainFailed s domain)

/-- The domains in SINGLE-CLUSTER (03 R109, Table 3.9): the kept cluster with its array and router tile, Treadle A, the
kept Shuttle, PCIe, thermal and the KEEP-ALIVE domains. -/
def singleDomains (s : State) (cl sh : Nat) : Tbl Nat :=
  (List.range 1121).map (fun d =>
    (d, if domState s d = 3 then 3
        else if d = cl ∨ d = 512 + cl ∨ d = 1024 + cl / 8 ∨ d = 1100 ∨ d = 1103 + sh ∨ d ≥ 1116 then 1 else 0))

/-- STATE_CHANGE (03 R110, R111): entry to SINGLE-CLUSTER, or the return to FULL, that a commit of PWR.STATE_REQ requested
completes: domains follow, HBM contents are lost unless kept, the links go off with their switches closed.  On the return a
FAILED domain stays FAILED, and coppiced clusters and those behind a FAILED router tile stay OFF (R92, 05 R176). -/
def execStateChange (s : State) : Res :=
  .next (match s.pwr.changing with
  | none => s
  | some r =>
    let s := { s with pwr := { s.pwr with changing := none } }
    let done := fun (s : State) => record s 0x1060 0 0x00 0xFFFF (powerPay s 0xFFFF 0xFF 0xFF 0x8000 0 0)
    if r % 4 = 3 then
      let cl := bitsOf r 15 7
      let keep := bitsOf r 6 6
      let s := closeAxes { s with pwr := { s.pwr with single := true, domains := singleDomains s cl (bitsOf r 5 2),
                                                      hbmKept := keep == 1 } }
      let s := if keep = 1 then s else memWipe s 0 hbmSize
      done s
    else
      let t := s.pwr.domains.filter (fun e => e.2 == 3 || e.1 == 1102)
      let out := (List.range 512).filter (fun n => s.fuses.coppice.contains n || s.bist.bootCop.contains n ||
        domState s (1024 + n / 8) == 3)
      let t := ((out.flatMap (fun n => [n, 512 + n])).filter (fun d => domState s d != 3)).foldl (fun t d => Tbl.put t d 0) t
      let s := { s with pwr := { s.pwr with single := false, domains := t, hbmKept := true } }
      done (openAxis (openAxis (openAxis s 0) 1) 2))

/-- A group is calibrated: its stale flag clears with ESTIMATE_FRESH (03 R118). -/
def calibrate (s : State) (g : Nat) : State :=
  let s := { s with pwr := { s.pwr with calib := Tbl.put s.pwr.calib g s.aon } }
  if s.pwr.stale.contains g then
    record { s with pwr := { s.pwr with stale := dropNat s.pwr.stale g } } 0x1041 0 0x00 (8 * g)
      (powerPay s g 0 0xFF 0x8000 0 0)
  else s

/-- NATURAL_IDLE_CALIBRATION (03 R115): a natural idle of at least 20 µs calibrates the group. -/
def execNaturalIdleCalibration (group : BitVec 6) (s : State) : Res :=
  .next (if s.phase = .run then calibrate s group.toNat else s)

/-- Whether a group holds work in twin mode or in a pleached pair (03 R117). -/
def lockstepGroup (s : State) (g : Nat) : Bool :=
  s.slots.any (fun e => !e.2.ended && e.2.host / 8 == g && decide (e.2.host < 512) &&
    ((getC s e.2.ctx).launches.any (fun l => l.number == e.2.launch && l.twin)
      || (liveVal s 0 0x40 e.2.ctx).toNat % 2 == 1))

/-- The first group from `start` on in rotation that has had no calibration and no forced window for 10 s (03 R115). -/
def quietDue (s : State) (start : Nat) : Option Nat :=
  ((List.range 64).map (fun i => (start + i) % 64)).find? (fun g =>
    decide (Tbl.get 0 s.pwr.calib g + 10000000000 ≤ s.aon) &&
    (!Tbl.has s.pwr.forcedAt g || decide (Tbl.get 0 s.pwr.forcedAt g + 10000000000 ≤ s.aon)))

/-- FORCED_QUIET_WINDOW (03 R115, R117): the next group in rotation that is due gets its window, one at a time; a group in
twin mode or in a pleached pair is refused with QUIET_REFUSED. -/
def execForcedQuietWindow (s : State) : Res :=
  .next (if s.phase ≠ .run ∨ s.pwr.quiet.isSome ∨ s.pwr.warn ∨ !s.trd.owner then s
  else match quietDue s s.pwr.rotation with
    | none => s
    | some g =>
      let s := { s with pwr := { s.pwr with rotation := (g + 1) % 64, forcedAt := Tbl.put s.pwr.forcedAt g s.aon } }
      if lockstepGroup s g then record s 0x1042 0 0x00 (8 * g) (powerPay s g 0 0xFF 0x8000 0 0)
      else { s with pwr := { s.pwr with quiet := some (g, s.aon) } })

/-- QUIET_WINDOW_END (03 R116): after 20 µs of quiet the group is calibrated and issues again; the window's energy is device
overhead (R114), a free value.
Log 13 (DESIGN CHOICE). -/
def execQuietWindowEnd (s : State) : Res :=
  .next (match s.pwr.quiet with
  | none => s
  | some (g, _) =>
    let (v, s) := takeFree s
    calibrate { s with pwr := { s.pwr with quiet := none, overheadE := s.pwr.overheadE + v } } g)

/-- ESTIMATE_STALE (03 R118): 120 s without a calibration. -/
def execEstimateStale (group : BitVec 6) (s : State) : Res :=
  .next (if Tbl.get 0 s.pwr.calib group.toNat + 120000000000 ≤ s.aon ∧ !s.pwr.stale.contains group.toNat then
    record { s with pwr := { s.pwr with stale := insertNat s.pwr.stale group.toNat },
                    ctxs := s.ctxs.map (fun e => (e.1, { e.2 with energy := { e.2.energy with stale := true } })) }
      0x1040 0 0x00 (8 * group.toNat) (powerPay s group.toNat 0 0xFF 0x8000 0 0)
  else s)

/-- BYPASS_OPEN_FAIL (02 R84): the axis is commanded closed and stays closed until the next chip reset. -/
def execBypassOpenFail (axis : BitVec 2) (s : State) : Res :=
  .next (if axis.toNat < 3 ∧ axisState s axis.toNat = 0 then
    let s := updAxis s axis.toNat (fun x => { x with cmd := false, openFail := true })
    accept s 0x7041 4 0x07 (2 * axis.toNat) 0xFFFF (1094 + 2 * axis.toNat) (portPay s (2 * axis.toNat))
  else s)

/-- BYPASS_CLOSE_FAIL (02 R85): a switch still open 20 µs after a close cause; FAULT_L is low until power cycle. -/
def execBypassCloseFail (axis : BitVec 2) (s : State) : Res :=
  .next (if axis.toNat < 3 ∧ axisState s axis.toNat ≠ 0 ∧ !(Tbl.get Axis.init s.axes axis.toNat).closeFail
      ∧ s.phase ≠ .off then
    let s := updAxis s axis.toNat (fun x => { x with closeFail := true })
    accept s 0x7042 4 0x07 (2 * axis.toNat) 0xFFFF (1094 + 2 * axis.toNat) (portPay s (2 * axis.toNat))
  else s)

/-- EXTEST_ENTER (02 R77): the axis's switch is open for the duration of the test. -/
def execExtestEnter (axis : BitVec 2) (s : State) : Res :=
  .next (if axis.toNat < 3 then updAxis s axis.toNat (fun x => { x with extest := true }) else s)

/-- EXTEST_EXIT (02 R77): the switch closes when the test access port leaves EXTEST. -/
def execExtestExit (axis : BitVec 2) (s : State) : Res :=
  .next (if axis.toNat < 3 then updAxis s axis.toNat (fun x => { x with extest := false }) else s)

end Sys2Proof.Machine
end

