-- ==== Sys2Proof/Machine/Espalier.lean ====
section
/-! DEFINITION. Espalier (19 R641 to R680): binding, the command queue, models and primitives, epochs, cycles, batches and the held
stop. -/

namespace Sys2Proof.Machine

/-! ### Binding and lanes -/

/-- ESP.QUEUE has been committed: the head counts from 0 when enable rises (R655). -/
def commitEspQueue (s : State) (c : Nat) (rose : Bool) : State :=
  if rose then updX s (fun e => { e with heads := Tbl.put e.heads c 0 }) else s

/-- The lanes in service of a half (R662). -/
def espLanes (s : State) (half : Nat) : Nat := 64 - (s.esp.retired.filter (fun l => l / 64 == half)).length

/-- Espalier fails (R677): the forced stop where it still can, ESP_FAILED, domain 1102 FAILED. -/
def espFail (s : State) : State :=
  let s := unbindEsp s
  let s := accept s 0x9040 4 0x09 0xFFFF 0xFFFF 1102 (espPay s 0xFFFF 0 0xFFFF 0 0 0 0 0 0 0)
  updX (putDom s 1102 3) (fun e => { e with late := true, ready := false })

/-- A lane is charged (R661, R662): the third charge within 24 hours retires it; fewer than 48 lanes in the smaller half fail
Espalier (R677).
Log 105 (DEDUCED). -/
def chargeLane (s : State) (l : Nat) : State :=
  let ts := s.aon :: (Tbl.get [] s.esp.charges l).filter (fun t => decide (s.aon < t + dayNs))
  let s := updX s (fun e => { e with charges := Tbl.put e.charges l ts })
  if ts.length ≥ 3 ∧ !s.esp.retired.contains l then
    let s := updX s (fun e => { e with retired := insertNat e.retired l })
    let s := accept s 0x9021 4 0x09 l 0xFFFF 1102 (espPay s l 0 0xFFFF 0 0 0 0 0 0 0)
    if espLanes s 0 < 48 ∨ espLanes s 1 < 48 then espFail s else s
  else s

/-- The engine watchdog of Espalier has fired (R677): twice within 1 s fails it. -/
def espHang (s : State) : State :=
  let ts := s.aon :: s.esp.hangs.filter (fun t => decide (s.aon < t + 1000000000))
  let s := updX s (fun e => { e with hangs := ts })
  if ts.length ≥ 2 then espFail s else s

/-- An engine reset of Espalier (16 R559): the held stop, then its stores are zeroed; it stays bound. -/
def resetEsp (s : State) : State :=
  let c := s.esp.bound.getD 0
  let s := forcedStop s
  updX s (fun e => { espZero e with front := modelFields s c EspMap.none })

/-! ### Commands -/

/-- Bytes that Espalier reads for its context; a fault ends the context (R676). -/
def espRead (s : State) (c va n : Nat) (env : Env) : (Marked × ShutFail) × State := shutRead c 5 (n / 4096 + 2) va n env [] s

/-- The operands of the host reads that follow `n` bytes. -/
def envAfter (env : Env) (n : Nat) : Env := { env with host := { env.host with bytes := env.host.bytes.drop n } }

/-- The status word of a command, then its object (R656). -/
def espStatusWord (s : State) (c : Nat) (k : EspCmd) (status idx epoch : Nat) (stale : Bool) : State :=
  let w := epoch * 2 ^ 48 + idx * 2 ^ 32 + bitIf stale 16 + status
  match colWrite c 2 (k.va + 48) (leBytes 8 w) s with
  | (some f, s) => colFault s c f
  | (none, s) => s

/-- A command ends (R656): its status word, then its object; one that broke a rule is recorded.
Log 105 (DEDUCED). -/
def endCmd (s : State) (k : EspCmd) (status idx epoch : Nat) (stale : Bool) : State :=
  let c := s.esp.bound.getD 0
  let s := updX s (fun e => { e with cmd := none })
  let s := if status = 1 ∨ status = 4 then
      accept s 0x9030 2 0x09 0xFFFF c 0xFFFF (espPay s 0xFFFF epoch idx status 0 0 0 0 0 k.kind)
    else s
  syncBump (espStatusWord s c k status idx epoch stale) c k.done

/-- The fetched command, where it is of kind `n` and Espalier may run it now; commands wait while a publication does. -/
def onEspCmd (s : State) (n : Nat) (f : Nat → EspCmd → State) : State :=
  match s.esp.bound, s.esp.cmd with
  | some c, some k =>
    if k.kind = n ∧ s.esp.due.isNone ∧ !isFencedEngine s 1102 ∧ !isFenced s c ∧ (getC s c).fault = 0 ∧ s.phase = .run ∧ !s.err.safe
    then f c k else s
  | _, _ => s

/-- Whether a descriptor keeps the rules of Table 19.6. -/
def espValid (b : List Byte) : Bool :=
  let f := bytesAt b
  let k := f 0 1
  let n := f 2 2
  f 60 4 == (crc32c (b.take 48)).toNat && decide (1 ≤ k) && decide (k ≤ 7) && decide (f 1 1 < (if k = 5 then 2 else 1)) &&
    (if k = 2 then decide (1 ≤ n) && decide (f 4 2 + n ≤ 1024) && decide (n ≤ 1024)
     else if k = 4 then decide (1 ≤ n) && decide (n ≤ 8)
     else if k = 6 then decide (1 ≤ n) && decide (n ≤ 4096) else n == 0) &&
    (k == 2 || k == 3 || f 4 2 == 0) && f 6 2 == 0 && ((k != 5 && k != 7) || f 8 8 == 0) && (k == 5 || k == 6 || f 16 8 == 0) &&
    (k == 3 || f 24 4 == 0) && (decide (f 28 2 < 256) || f 28 2 == 0xFFFF) && f 30 8 == 0 && f 38 8 == 0 && f 46 2 == 0

/-- The command that a descriptor at `va` describes. -/
def espCmdOf (va : Nat) (b : List Byte) : EspCmd :=
  { va := va, kind := bytesAt b 0 1, flags := bytesAt b 1 1, count := bytesAt b 2 2, arg := bytesAt b 4 2, src := bytesAt b 8 8,
    dst := bytesAt b 16 8, mask := bytesAt b 24 4, done := bytesAt b 28 2 }

/-- ESP_COMMAND_FETCH (R655 to R657): the next command of the bound context's queue; one that is poisoned, or breaks a rule or its
CRC, ends at once. -/
def execEspCommandFetch (env : Env) (s : State) : Host.Outcome State Fault Refusal :=
  .next (match s.esp.bound, s.esp.cmd with
  | some c, none =>
    let q := (liveVal s 11 0x20 c).toNat
    let i := Tbl.get 0 s.esp.heads c
    let x := getC s c
    if !q.testBit 0 || x.fault != 0 || isFenced s c || isFencedEngine s 1102 || s.phase != .run || s.err.safe || s.esp.due.isSome
        || decide ((syncGet s c (bitsOf q 63 56)).toNat ≤ i) then s
    else
      let va := bitsOf q 47 6 * 64 + 64 * (i % 2 ^ (Nat.min 8 (bitsOf q 51 48) + 4))
      match espRead s c va 64 env with
      | ((_, some f), s) => colFault s c f
      | ((l, none), s) =>
        let b := l.map (·.1)
        let k := espCmdOf va b
        let s := updX s (fun e => { e with heads := Tbl.put e.heads c (i + 1), cmd := some k })
        if l.any (·.2) then endCmd s { k with done := 0xFFFF } 3 0xFFFF 0 false
        else if !espValid b then endCmd s k 1 0xFFFF 0 false
        else if k.kind = 5 ∧ k.dst % 8 ≠ 0 then colFault s c (0x0102, k.dst)
        else s
  | _, _ => s)

/-! ### Model and library -/

/-- A signed 16-bit field. -/
def s16 (b : List Byte) (lo : Nat) : Int := (BitVec.ofNat 16 (bytesAt b lo 2)).toInt

/-- The radii of the spheres of a model record (Table 19.3), of its links in use. -/
def sphereRadii (m : List Byte) : List Nat :=
  (List.range (Nat.min 8 (bytesAt m 0 1))).flatMap (fun i =>
    (List.range (Nat.min 64 (bytesAt m (64 + 528 * i + 2) 1))).map (fun j => bytesAt m (80 + 528 * i + 8 * j + 6) 2))

/-- The voxels that a sphere meets (R648): r' = r + s/2 in mm, the voxel size `v` in cm. -/
def sphereVoxels (r v : Nat) : Nat :=
  let side := (2 * r + 10 * v + 10 * v - 1) / (10 * v) + 1
  side * side * side

/-- Whether a model record keeps the layout of Table 19.3 and its CRC. -/
def modelValid (m : List Byte) : Bool :=
  let n := bytesAt m 0 1
  decide (1 ≤ n) && decide (n ≤ 8) && (((m.drop 1).take 59).all (· == 0)) &&
    bytesAt m 60 4 == (crc32c (m.take 60 ++ m.drop 64)).toNat &&
    (List.range n).all (fun i =>
      let h := 64 + 528 * i
      decide (bytesAt m (h + 1) 1 ≤ 3) && decide (bytesAt m (h + 2) 1 ≤ 64) && bytesAt m (h + 3) 1 == 0 && bytesAt m (h + 10) 6 == 0)
    && (sphereRadii m).all (fun r => decide (1 ≤ r) && decide (r ≤ 2000))

/-- Whether a model is refused (R645). -/
def modelRefused (m : List Byte) (voxel : Nat) : Bool :=
  (List.range (bytesAt m 0 1)).any (fun i =>
    let p := bytesAt m (64 + 528 * i) 1
    p != 0xFF && decide (i ≤ p)) || (sphereRadii m).any (fun r => decide (sphereVoxels r voxel > 512))

/-- The stop set is one alternative of zero primitives (R657); a validation starts when a publication next needs one. -/
def dropStops (s : State) : State := updX s (fun e => { e with stops := [[]], fresh := false })

/-- MODEL (R645, R657): refused while a cycle is open. -/
def execModel (env : Env) (s : State) : Host.Outcome State Fault Refusal :=
  .next (onEspCmd s 1 (fun c k =>
    if s.esp.cycle.isSome then endCmd s k 4 0xFFFF 0 false
    else match espRead s c k.src 4288 env with
      | ((_, some f), s) => colFault s c f
      | ((l, none), s) =>
        let m := l.map (·.1)
        if l.any (·.2) then endCmd s k 3 0xFFFF 0 false
        else if !modelValid m then endCmd s k 1 0xFFFF 0 false
        else if modelRefused m s.esp.front.voxel then endCmd s k 4 0xFFFF 0 false
        else endCmd (dropStops (updX s (fun e => { e with model := m }))) k 0 0xFFFF 0 false))

/-- Whether an entry keeps Table 19.4 and its CRC. -/
def entryValid (b : List Byte) : Bool :=
  decide (1 ≤ bytesAt b 0 2) && decide (bytesAt b 0 2 ≤ 5000) && bytesAt b 52 8 == 0 && bytesAt b 60 4 == (crc32c (b.take 60)).toNat

/-- Whether an entry keeps the conditions of R646. -/
def entryAllowed (b : List Byte) : Bool :=
  let t := bytesAt b 0 2
  let v0 := s16 b 4
  let v1 := s16 b 6
  decide (v0.natAbs ≤ bytesAt b 12 2) && decide (v1.natAbs ≤ bytesAt b 12 2) &&
    decide ((v1 - v0).natAbs * 1000 ≤ bytesAt b 14 2 * t) &&
    decide ((BitVec.ofNat 32 (bytesAt b 8 4)).toInt.natAbs ≤ bytesAt b 16 4) &&
    (List.range 8).all (fun i => decide ((s16 b (20 + 2 * i)).natAbs * 1000 ≤ bytesAt b (36 + 2 * i) 2 * t))

/-- LIBRARY (R646, R657): loaded whole or not at all. -/
def execLibrary (env : Env) (s : State) : Host.Outcome State Fault Refusal :=
  .next (onEspCmd s 2 (fun c k =>
    if s.esp.cycle.isSome then endCmd s k 4 0xFFFF 0 false
    else match espRead s c k.src (64 * k.count) env with
      | ((_, some f), s) => colFault s c f
      | ((l, none), s) =>
        let es := (List.range k.count).map (fun i => ((l.drop (64 * i)).take 64).map (·.1))
        if l.any (·.2) then endCmd s k 3 0xFFFF 0 false
        else match (es.zipIdx).find? (fun e => !entryValid e.1 || !entryAllowed e.1) with
          | some (b, i) => endCmd s k (if entryValid b then 4 else 1) i 0 false
          | none =>
            let s := updX s (fun e => { e with lib := (es.zipIdx).foldl (fun t x => Tbl.put t (k.arg + x.2) x.1) e.lib })
            endCmd (dropStops s) k 0 0xFFFF 0 false))

/-- The samples less one of a primitive (R647): k = max(1, ⌈2L/s⌉), where L is the base's own path when no joint of the model moves
and the base does not turn.
Log 106 (DEDUCED). -/
def samplesK (e model : List Byte) (voxel : Nat) : Nat :=
  let mm := 10 * voxel
  let v0 := s16 e 4
  let v1 := s16 e 6
  let t := bytesAt e 0 2
  let n := Nat.min 8 (bytesAt model 0 1)
  if (sphereRadii model).isEmpty then 1
  else if (List.range n).any (fun i => bytesAt e (20 + 2 * i) 2 != 0) ∨ (bytesAt e 8 4 ≠ 0 ∧ (v0 ≠ 0 ∨ v1 ≠ 0)) then
    Nat.max 1 (Config.sampleCount e model mm)
  else if 0 ≤ v0 * v1 then Nat.max 1 (((v0.natAbs + v1.natAbs) * t + 1000 * mm - 1) / (1000 * mm))
  else
    let d := 1000 * (v1 - v0).natAbs * mm
    Nat.max 1 (((v0.natAbs * v0.natAbs + v1.natAbs * v1.natAbs) * t + d - 1) / d)

/-- The pairs of a stop alternative (R648, R663): zero primitives are tested in each of the 32 slices. -/
def stopPairs (s : State) (a : List Nat) : Nat :=
  let per := ((sphereRadii s.esp.model).map (fun r => sphereVoxels r s.esp.front.voxel)).foldl (· + ·) 0
  let smp := if a.isEmpty then 32
    else (a.map (fun i => (espPrim s i).elim 0 (fun e => samplesK e s.esp.model s.esp.front.voxel + 1))).foldl (· + ·) 0
  smp * per

/-! ### Maps -/

/-- Bytes of a time slice of a grid (R650).
Log 107 (DEDUCED). -/
def sliceBytes : Nat := 524288

/-- One slice of a grid replaced. -/
def putSlice (g : Tbl Byte) (t : Nat) (l : List Byte) : Tbl Byte :=
  let base := t * sliceBytes
  (g.filter (fun e => decide (e.1 < base))) ++
    ((l.zipIdx).filter (fun e => e.1 != 0)).map (fun e => (base + e.2, e.1)) ++
    (g.filter (fun e => decide (base + sliceBytes ≤ e.1)))

/-- Read the slices of a mask; the grid, whether one was poisoned, and how the reading ended.
Log 107 (DEDUCED). -/
def readSlices (c src mask : Nat) : List Nat → Env → Tbl Byte → Bool → State → (Tbl Byte × Bool × ShutFail) × State
  | [], _, g, bad, s => ((g, bad, none), s)
  | t :: ts, env, g, bad, s =>
    if !mask.testBit t then readSlices c src mask ts env g bad s
    else match espRead s c (src + 64 + t * sliceBytes) sliceBytes env with
      | ((_, some f), s) => ((g, bad, some f), s)
      | ((l, none), s) =>
        readSlices c src mask ts (envAfter env sliceBytes) (putSlice g t (l.map (·.1))) (bad || l.any (·.2)) s

/-- MAP (R652, R653): waits while a load is under way or a batch or double check holds the back buffer; the header and the masked
slices are read into the back buffer.
Log 107 (DEDUCED). -/
def execMap (env : Env) (s : State) : Host.Outcome State Fault Refusal :=
  .next (onEspCmd s 3 (fun c k =>
    let holds := s.esp.batch.elim false (fun b => b.epoch != s.esp.front.epoch)
      || s.esp.check.elim false (fun x => x.1.epoch != s.esp.front.epoch)
    if s.esp.back.isSome || holds then s
    else if k.arg = 0 ∨ k.arg = s.esp.front.epoch then endCmd s k 4 0xFFFF 0 false
    else match espRead s c k.src 64 env with
      | ((_, some f), s) => colFault s c f
      | ((l, none), s) =>
        let h := l.map (·.1)
        if l.any (·.2) then endCmd s k 3 0xFFFF 0 false
        else if bytesAt h 60 4 ≠ (crc32c (h.take 60)).toNat ∨ !((h.drop 49).take 11).all (· == 0) then endCmd s k 1 0xFFFF 0 false
        else match readSlices c k.src k.mask (List.range 32) (envAfter env 64) s.esp.front.grid false s with
          | ((_, _, some f), s) => colFault s c f
          | ((_, true, none), s) => endCmd s k 3 0xFFFF 0 false
          | ((g, false, none), s) =>
            let m : EspMap := { s.esp.front with
              epoch := k.arg, base := bytesAt h 0 8, grid := g, pose := (h.drop 20).take 29, expired := false,
              origin := [8, 12, 16].map (fun i => (BitVec.ofNat 32 (bytesAt h i 4)).toInt) }
            updX s (fun e => { e with cmd := none, back := some (k, m) })))

/-- EPOCH_SWAP (R651, R652, R664): the load is complete; the buffers swap, the fields of ESP.MODEL take effect, the stop set is
validated again. -/
def execEpochSwap (s : State) : Host.Outcome State Fault Refusal :=
  .next (match s.esp.bound, s.esp.back with
  | some c, some (k, m) =>
    let cur := s.esp.cmd
    let s := updX s (fun e => { e with front := modelFields s c m, back := none, fresh := false, validating := true })
    updX (endCmd s k 0 0xFFFF 0 false) (fun e => { e with cmd := cur })
  | _, _ => s)

/-- EPOCH_EXPIRY (R654, R666): the GTC has reached base + 32 × slice_ms.
Log 7 (DESIGN CHOICE). -/
def execEpochExpiry (s : State) : Host.Outcome State Fault Refusal :=
  .next (
  let m := s.esp.front
  if s.esp.bound.isSome ∧ m.epoch ≠ 0 ∧ !m.expired ∧ m.base + 32000000 * m.slice ≤ s.gtc then
    let s := updX s (fun e => { e with front := { e.front with expired := true }, ready := false })
    accept s 0x9014 2 0x09 0xFFFF 0xFFFF 0xFFFF (espPay s 0xFFFF m.epoch 0xFFFF 0 0 0 0 0 0 0)
  else s)

/-! ### Publications -/

/-- A running batch is abandoned and ends with LATE (R668). -/
def lateBatch (s : State) : State :=
  match s.esp.batch, s.esp.cmd with
  | some b, some k => endCmd (updX s (fun e => { e with batch := none })) k 2 0xFFFF b.epoch false
  | _, _ => updX s (fun e => { e with batch := none })

/-- Publish now with the validation that stands, and increment the object of CYCLE_OPEN (R669). -/
def publishNow (s : State) (kind flags : Nat) : State :=
  let c := s.esp.bound.getD 0
  let (v, s) := stopNow s
  let (o, s) := publishRaw s kind flags v
  settleRing (syncBump s c o)

/-- Publish, or wait for a validation: the one in progress, or one that a stop not yet validated against the front epoch needs
(R664, R674). -/
def publish (s : State) (kind flags : Nat) (close : Bool) : State :=
  if kind = 1 ∨ (s.esp.fresh ∧ !s.esp.validating) then publishNow s kind flags
  else updX s (fun e => { e with due := some ⟨kind, flags, close⟩, validating := true })

/-- The forced publication of a power-fail warning (R671): Espalier stays bound. -/
def forceWarn (s : State) : State :=
  if s.esp.bound.isSome ∧ domState s 1102 = 1 then
    let s := lateBatch s
    let c := s.esp.bound.getD 0
    let (o, s) := forcedRaw s
    settleRing (syncBump s c o)
  else s

/-- ESP.STOP_NOW is written with 1 for context `c` (R671): the open cycle ends with a requested stop. -/
def espRequested (s : State) (c : Nat) : State :=
  if s.esp.bound = some c ∧ domState s 1102 = 1 ∧ s.esp.due.isNone then publish (lateBatch s) 2 16 false else s

/-- STOP (R663, R664): waits while a validation runs; the set is refused above 131,072 pairs, else it replaces the held set and is
validated. -/
def execStop (env : Env) (s : State) : Host.Outcome State Fault Refusal :=
  .next (onEspCmd s 4 (fun c k =>
    if s.esp.validating then s
    else match espRead s c k.src (32 * k.count) env with
      | ((_, some f), s) => colFault s c f
      | ((l, none), s) =>
        let alts := (List.range k.count).map (fun i => ((l.drop (32 * i)).take 32).map (·.1))
        let bad := (alts.zipIdx).find? (fun e => decide (8 < bytesAt e.1 0 1) || !((e.1.drop 1).take 15).all (· == 0))
        let set := alts.map (fun b => (List.range (bytesAt b 0 1)).map (fun i => bytesAt b (16 + 2 * i) 2))
        if l.any (·.2) then endCmd s k 3 0xFFFF 0 false
        else match bad with
          | some (_, i) => endCmd s k 1 i 0 false
          | none =>
            if (set.map (stopPairs s)).foldl (· + ·) 0 > 131072 then endCmd s k 4 0xFFFF 0 false
            else updX s (fun e => { e with stops := set, fresh := false, validating := true })))

/-- STOP_READY follows a validation that changes its level (R666). -/
def settleReady (s : State) : State :=
  let r := readyNow s
  if r = s.esp.ready then s
  else record (updX s (fun e => { e with ready := r })) 0x9015 0 0x09 0xFFFF (espPay s 0xFFFF s.esp.front.epoch 0xFFFF 0 0 0 0 0 0 0)

/-- A mismatch of lanes is recorded and counted (R661, R664).
Log 105 (DEDUCED). -/
def laneMismatch (s : State) (lane epoch cand : Nat) : State :=
  record (updX s (fun e => { e with mism := satAdd 65535 e.mism 1 })) 0x9020 1 0x09 lane (espPay s lane epoch cand 0 0 0 0 0 0 0)

/-- Counts as natural numbers. -/
def pairNat (p : PairCounts) : Nat × Nat × Nat := (p.n1.toNat, p.n2.toNat, p.n3.toNat)

/-- STOP_VALIDATION_COMPLETE (R664 to R666, R674): the larger count of the two halves decides; where they differ a lane is charged
after the third test.  The STOP that asked for it ends, and a publication that waited goes out.
Log 108 (DEDUCED). -/
def execStopValidationComplete (half0 half1 _third : List PairCounts) (lane : BitVec 7) (s : State) : Host.Outcome State Fault Refusal :=
  .next (
  if s.esp.bound.isNone ∨ !s.esp.validating then s
  else
    let at' := fun (l : List PairCounts) (i : Nat) => pairNat (l.getD i ⟨0, 0, 0⟩)
    let ids := List.range s.esp.stops.length
    let big := ids.map (fun i =>
      let a := at' half0 i
      let b := at' half1 i
      (Nat.max a.1 b.1, Nat.max a.2.1 b.2.1, Nat.max a.2.2 b.2.2))
    let v := selectStop s big
    let ep := s.esp.front.epoch
    let s := updX s (fun e => { e with valid := some v, fresh := true, validating := false })
    let s := if v.unsafeStop then
        accept s 0x9013 2 0x09 0xFFFF 0xFFFF 0xFFFF (espPay s 0xFFFF ep v.alt 0 (s.esp.cycle.elim 0 (·.deadline)) v.n3 v.n2 0 2 0)
      else s
    let s := settleReady s
    let s := match s.esp.cmd with
      | some k => if k.kind = 4 ∧ s.esp.due.isNone then endCmd s k 0 0xFFFF ep false else s
      | none => s
    let s := match s.esp.due with
      | none => s
      | some d =>
        let s := publishNow s d.kind d.flags
        match d.close, s.esp.cmd with
        | true, some k => endCmd (updX s (fun e => { e with ended := false })) k 0 0xFFFF 0 false
        | _, _ => s
    if ids.any (fun i => at' half0 i != at' half1 i) then chargeLane (laneMismatch s lane.toNat ep v.alt) lane.toNat else s)

/-! ### Cycles and batches -/

/-- CYCLE_OPEN (R658): the next cycle, its deadline from now; its object is incremented after its publication (R669).
Log 105 (DEDUCED). -/
def execCycleOpen (s : State) : Host.Outcome State Fault Refusal :=
  .next (onEspCmd s 5 (fun c k =>
    if s.esp.cycle.isSome then endCmd s k 1 0xFFFF 0 false
    else
      let (ps, ok) := writePlaces s c 2 k.dst 256
      if !ok then colFault s c (0x0101, k.dst)
      else
        let dl := s.gtc + bitsOf (liveVal s 11 0x10 c).toNat 55 36 * 1000
        let s := updX s (fun e => { e with
          cycleNo := e.cycleNo + 1, ended := false,
          cycle := some ⟨e.cycleNo + 1, dl, k.flags.testBit 0, ps, k.done, 0, none⟩ })
        endCmd s { k with done := 0xFFFF } 0 0xFFFF 0 false))

/-- What a candidate record is (R649, R659): a broken rule answers none. -/
def candOf (s : State) (cls : Nat) (l : Marked) : Option EspTest :=
  let b := l.map (·.1)
  let n := bytesAt b 4 1
  let path := (List.range n).map (fun i => bytesAt b (8 + 2 * i) 2)
  if l.any (·.2) then some ⟨0, [], 3⟩
  else if n = 0 ∨ 64 < n ∨ bytesAt b 5 3 ≠ 0 ∨ !(b.drop (8 + 2 * n)).all (· == 0) then none
  else some ⟨bytesAt b 0 4, path, if espChain s cls path then 0 else 2⟩

/-- BATCH (R658 to R660): takes the front epoch and starts its tests; the double check of an earlier batch runs ahead of it. -/
def execBatch (env : Env) (s : State) : Host.Outcome State Fault Refusal :=
  .next (onEspCmd s 6 (fun c k =>
    if s.esp.batch.isSome ∨ s.esp.check.isSome then s
    else match s.esp.cycle with
    | none => endCmd s k (if s.esp.ended then 2 else 5) 0xFFFF 0 false
    | some cy =>
      match espRead s c k.src 64 env with
      | ((_, some f), s) => colFault s c f
      | ((h, none), s) =>
        let b := h.map (·.1)
        if h.any (·.2) then endCmd s k 3 0xFFFF 0 false
        else if bytesAt b 60 4 ≠ (crc32c (b.take 60)).toNat ∨ bytesAt b 29 3 ≠ 0 ∨ !((b.drop 40).take 20).all (· == 0) then
          endCmd s k 1 0xFFFF 0 false
        else match espRead s c (k.src + 64) (136 * k.count) (envAfter env 64) with
          | ((_, some f), s) => colFault s c f
          | ((l, none), s) =>
            let cs := (List.range k.count).map (fun i => candOf s (bytesAt b 28 1) ((l.drop (136 * i)).take 136))
            match (cs.zipIdx).find? (fun e => e.1.isNone) with
            | some (_, i) => endCmd s k 1 i 0 false
            | none =>
              updX s (fun e => { e with cycle := some { cy with batches := cy.batches + 1 },
                                        batch := some ⟨e.front.epoch, cy.batches + 1, b.take 29, cs.filterMap id⟩ })))

/-- The verdict of a candidate (R660).
Log 108 (DEDUCED). -/
def verdictOf (s : State) (t : EspTest) (r : CandResult) : Nat :=
  if t.pre ≠ 0 then t.pre else if espBlocked s (pairNat r.counts) then 1 else 0

/-- The 16 bytes of a result (R660). -/
def resultBytes (v : Nat) (r : CandResult) : List Byte :=
  if v ≥ 2 then leBytes 1 v ++ [0xFF#8] ++ zeros 14
  else leBytes 1 v ++ [if v = 1 then r.prim else 0xFF#8] ++ leBytes 2 r.sample.toNat ++ leBytes 4 r.counts.n1.toNat
    ++ leBytes 4 r.counts.n2.toNat ++ leBytes 4 r.counts.n3.toNat

/-- A result that nothing was reported for. -/
def CandResult.zero : CandResult := ⟨⟨0, 0, 0⟩, 0xFF, 0, 0⟩

/-- BATCH_COMPLETE (R660, R661): the lanes have tested every candidate; results are written, and the best feasible candidate that
would become incumbent enters the double check.
Log 109 (DEDUCED). -/
def execBatchComplete (results : List CandResult) (s : State) : Host.Outcome State Fault Refusal :=
  .next (match s.esp.bound, s.esp.batch, s.esp.cmd, s.esp.cycle with
  | some c, some b, some k, some cy =>
    let rs := (b.tests.zipIdx).map (fun e =>
      let r := results.getD e.2 CandResult.zero
      (verdictOf s e.1 r, r, e.1, e.2))
    match colWrite c (16 * k.count / 4096 + 2) k.dst (rs.flatMap (fun e => resultBytes e.1 e.2.1)) s with
    | (some f, s) => colFault (updX s (fun e => { e with batch := none })) c f
    | (none, s) =>
      let good := rs.filter (fun e => e.1 == 0)
      let best := good.foldl (fun (m : Option (Nat × CandResult × EspTest × Nat)) (e : Nat × CandResult × EspTest × Nat) => match m with
        | none => some e
        | some o => if e.2.2.1.score < o.2.2.1.score then some e else some o) none
      let check := match best with
        | none => none
        | some (_, r, t, i) =>
          if cy.inc.elim true (fun x => decide (t.score < x.score)) then
            some ((⟨t.score, i, b.num, b.epoch, t.path, b.pose⟩ : EspCand), (pairNat r.counts), r.lane.toNat)
          else none
      let s := updX s (fun e => { e with batch := none, check := check })
      endCmd s k 0 0xFFFF b.epoch (b.epoch != s.esp.front.epoch)
  | _, _, _, _ => s)

/-- A candidate that passed its double check becomes the incumbent (R661).
Log 109 (DEDUCED). -/
def setIncumbent (s : State) (x : EspCand) : State :=
  updX s (fun e => { e with cycle := e.cycle.map (fun cy => { cy with inc := some x }) })

/-- DOUBLE_CHECK_COMPLETE (R661): two results that agree decide; else the third, with the lane in the minority charged; three
different results leave the candidate blocked.
Log 109 (DEDUCED). -/
def execDoubleCheckComplete (second : CandResult) (third : Option CandResult) (s : State) : Host.Outcome State Fault Refusal :=
  .next (match s.esp.check with
  | none => s
  | some (x, first, lane) =>
    let s' := updX s (fun e => { e with check := none })
    if (pairNat second.counts) = first then setIncumbent s' x
    else match third with
      | none => s
      | some t =>
        let s := laneMismatch s' (if (pairNat t.counts) = (pairNat second.counts) then lane else second.lane.toNat) x.epoch x.index
        if (pairNat t.counts) = first then chargeLane (setIncumbent s x) second.lane.toNat
        else if (pairNat t.counts) = (pairNat second.counts) then
          chargeLane (if espBlocked s (pairNat t.counts) then s else setIncumbent s x) lane
        else accept s 0x9022 2 0x09 0xFFFF 0xFFFF 0xFFFF (espPay s 0xFFFF x.epoch x.index 0 0 0 0 0 0 0))

/-- CYCLE_CLOSE (R658, R668): waits for a pending double check, then publishes PLAN with the incumbent, or STOP. -/
def execCycleClose (s : State) : Host.Outcome State Fault Refusal :=
  .next (onEspCmd s 7 (fun _ k =>
    if s.esp.check.isSome ∨ s.esp.batch.isSome then s
    else match s.esp.cycle with
      | none => endCmd (updX s (fun e => { e with ended := false })) k (if s.esp.ended then 2 else 5) 0xFFFF 0 false
      | some cy =>
        let s := publish s (if cy.inc.isSome then 1 else 2) 0 true
        if s.esp.due.isSome then s
        else endCmd (updX s (fun e => { e with ended := false })) k 0 0xFFFF 0 false))

/-- PLANNING_DEADLINE (R668, R672): the deadline passes with the cycle open.
Log 7 (DESIGN CHOICE); 108 (DEDUCED). -/
def execPlanningDeadline (s : State) : Host.Outcome State Fault Refusal :=
  .next (match s.esp.bound, s.esp.cycle with
  | some c, some cy =>
    if s.gtc < cy.deadline ∨ s.esp.due.isSome then s
    else
      let kind := if cy.optimise then 3 else 2
      let s := updX s (fun e => { e with late := true, missed := satAdd 65535 e.missed 1, check := none })
      let s := accept s 0x9012 2 0x09 0xFFFF c 0xFFFF (espPay s 0xFFFF s.esp.front.epoch 0xFFFF 0 cy.deadline 0 0 kind 4 0)
      publish (lateBatch s) kind 4 false
  | _, _ => s)

/-- ESP.STATUS (R672). -/
def espStatus (s : State) : Nat :=
  let e := s.esp
  e.front.epoch * 2 ^ 48 + espLanes s 0 * 2 ^ 40 + espLanes s 1 * 2 ^ 32 + e.bound.getD 0xFFFF * 2 ^ 16 + bitIf e.ready 7
    + bitIf (e.valid.elim false (·.unsafeStop)) 6 + bitIf e.late 5 + bitIf e.cycle.isSome 4 + bitIf e.back.isSome 3
    + bitIf e.front.expired 2 + bitIf e.bound.isSome 1 + bitIf (domState s 1102 == 3) 0

/-- ESP.COUNTS (R672). -/
def espCounts (s : State) : Nat := s.esp.cycles * 2 ^ 32 + s.esp.missed * 2 ^ 16 + s.esp.mism

/-- A warning has been recognised by this step: Espalier publishes its held stop (R671). -/
def warned (before after : State) : State := if !before.pwr.warn && after.pwr.warn then forceWarn after else after

/-- PWR_WARN (03 R100, R119, 05 R185, R186, 19 R671). -/
def execPwrWarn (s : State) : Host.Outcome State Fault Refusal := .next (warned s (pwrWarn s))

/-- VIN12_UNDERVOLTAGE (03 R122, 19 R671).
Log 21 (DEDUCED). -/
def execVin12Undervoltage (s : State) : Host.Outcome State Fault Refusal := .next (warned s (vin12Undervoltage s))

end Sys2Proof.Machine
end

