-- ==== Sys2Proof/Machine/Burling.lean ====
section
/-! DEFINITION. Scrub (13 R462 to R471) and Burling: slices, items, classes and deep runs, packs (14 R473 to R509). -/

namespace Sys2Proof.Machine

/-! ### Scrub -/

/-- Granules of one HBM stack. -/
def stackGranules : Nat := 24 * 0x40000000 / 32

/-- PATROL_SCRUB_READ (13 R462, R448, R470): the next granule of a stack in ascending order; a corrected or poisoned granule that
cannot be written back stays as it was, and the failure counts towards the limit of R469.
Log 8 (DESIGN CHOICE); 80, 137 (DEDUCED). -/
def execPatrolScrubRead (stack : BitVec 3) (cls : SynClass) (writeOk : Bool) (s : State) : Host.Outcome State Fault Refusal :=
  .next (
  let k := stack.toNat
  if k ≥ 6 ∨ domState s (1088 + k) ≠ 1 ∨ s.phase ≠ .run then s
  else
    let g := k * stackGranules + (getE s k).next
    let was := isPoison s (g * 32)
    let s := hbmDecode s g cls 0xFFFF 0
    let s :=
      if writeOk ∨ cls = .clean ∨ cls = .poison ∨ (cls = .data ∧ was) then s
      else
        let s := if was then s else clearPoison s (g * 32)
        let s := updE s k (fun e => { e with recent := s.aon :: e.recent.filter (fun t => decide (s.aon < t + 1000000000)) })
        let p := memPay 0 (if cls = .uncorrectable then 3 else if cls = .check then 2 else 1) k (g * 32) 0 0xFFFF 0
          (1 + 8 * b2n (getE s k).esc) (eccRate s k)
        let s := accept s 0x4041 2 0x04 k 0xFFFF (1088 + k) p
        if (getE s k).recent.length > 64 ∧ domState s (1088 + k) ≠ 3 then
          accept (putDom s (1088 + k) 3) 0x4040 4 0x04 k 0xFFFF (1088 + k) p
        else s
    updE s k (fun e =>
      if e.next + 1 = stackGranules then { e with next := 0, passes := e.passes + 1, late := false } else { e with next := e.next + 1 }))

/-- SCRUB_LATE (13 R463): the pass is more than 1 hour behind; it goes on. -/
def execScrubLate (stack : BitVec 3) (s : State) : Host.Outcome State Fault Refusal :=
  .next (
  let k := stack.toNat
  if k ≥ 6 ∨ domState s (1088 + k) ≠ 1 ∨ (getE s k).late then s
  else accept (updE s k (fun e => { e with late := true })) 0x4032 2 0x04 k 0xFFFF (1088 + k)
    (memPay 0 0xFF k 0 0 0xFFFF 0 (8 * b2n (getE s k).esc) (eccRate s k)))

/-- SCRUB_WINDOW_EXPIRY (13 R464): corrections leave the 1-hour window. -/
def execScrubWindowExpiry (stack : BitVec 3) (s : State) : Host.Outcome State Fault Refusal :=
  .next (
  let k := stack.toNat
  if k ≥ 6 then s
  else settleScrub (updE s k (fun e => { e with window := e.window.filter (fun t => decide (s.aon < t + hourNs)) })) k)

/-- The slot that a cluster runs. -/
def runningSlot (s : State) (n : Nat) : Option Nat :=
  (s.slots.find? (fun e => !e.2.ended && e.2.active && e.2.host == n)).map (·.1)

/-- SCRATCHPAD_SCRUB (13 R465): a word of an array that is ON and that no slice uses. -/
def execScratchpadScrub (cluster : BitVec 9) (granule : Nat) (cls : SynClass) (s : State) : Host.Outcome State Fault Refusal :=
  .next (
  let n := cluster.toNat
  if domState s (512 + n) ≠ 1 ∨ (getB s n).slice.isSome then s
  else
    let cell := if granule < 24576 then (runningSlot s n).map (fun k => padBase 0 k + 32 * granule) else none
    padDecode s n granule cell cls 0xFFFF 0)

/-! ### Packs -/

/-- The item entry `i` of a pack (Table 14.4). -/
def itemEntry (b : List Byte) (i : Nat) : List Byte := (b.drop (64 + 32 * i)).take 32
def itemCls (b : List Byte) (i : Nat) : Nat := bytesAt (itemEntry b i) 2 1
def itemNeeds (b : List Byte) (i : Nat) : Nat := bytesAt (itemEntry b i) 3 1
def itemExpected (b : List Byte) (i : Nat) : Nat := bytesAt (itemEntry b i) 24 8
/-- The items of a class that are not shared, in pack order. -/
def itemsOf (b : List Byte) (c : Nat) : List Nat :=
  (List.range (bytesAt b 6 2)).filter (fun i => itemCls b i == c && !(itemNeeds b i).testBit 1)
/-- The shared items, in pack order. -/
def sharedItems (b : List Byte) : List Nat := (List.range (bytesAt b 6 2)).filter (fun i => (itemNeeds b i).testBit 1)

/-- The first number of a list at or above `pos`, wrapping at the end (R482). -/
def fromPos (l : List Nat) (pos : Nat) : Option Nat :=
  match l.find? (fun i => decide (pos ≤ i)) with
  | some i => some i
  | none => l.head?

/-- The sum of the beats of some items. -/
def beatsOf (b : List Byte) (l : List Nat) : Nat := (l.map (fun i => bytesAt (itemEntry b i) 4 4)).foldl (· + ·) 0

/-- Whether item entry `i` keeps Table 14.4 in a pack of length `len`. -/
def itemValid (b : List Byte) (len i : Nat) : Bool :=
  let f := bytesAt (itemEntry b i)
  f 0 2 == i && decide (f 2 1 ≤ 2) && decide (f 3 1 < 8) && ((f 3 1).testBit 1 == (f 3 1).testBit 2) &&
    (!(f 3 1).testBit 1 || f 2 1 == 1) && decide (1 ≤ f 4 4) && decide (f 4 4 ≤ 16384) && decide (8 ≤ f 12 4) &&
    decide (f 12 4 ≤ 65536) && decide (f 8 4 + f 12 4 ≤ len) && decide (f 16 2 ≤ 1023) && decide (1 ≤ f 18 2) &&
    decide (f 18 2 ≤ 1024 - f 16 2) && decide (f 20 2 ≤ 8) && f 22 2 == 0

/-- Whether a pack keeps Tables 14.3 and 14.4, the sums included (R475). -/
def packValid (b : List Byte) : Bool :=
  let f := bytesAt b
  let n := f 6 2
  let deep := (List.range n).filter (fun i => itemCls b i == 2)
  f 0 4 == 0x504C5242 && f 4 2 == 1 && decide (1 ≤ n) && decide (n ≤ 4096) && f 16 1 == 1 && f 17 1 == 0xB1 && decide (f 18 1 ≤ 3) &&
    f 19 1 == 0 && decide (f 20 4 ≤ 67000000) && decide (f 24 4 ≤ 45000000) && decide (f 28 4 ≤ 200000000) &&
    decide (f 32 4 ≤ 4194304) && decide (64 + 32 * n + 96 ≤ f 32 4) && f 36 2 == 4 && ((b.drop 38).take 26).all (· == 0) &&
    (List.range n).all (itemValid b (f 32 4)) && decide ((sharedItems b).length ≤ 128) &&
    f 20 4 == beatsOf b (itemsOf b 0) && f 24 4 == beatsOf b (itemsOf b 1) && f 28 4 == beatsOf b deep

/-- The bytes of the verification key of a slot (R476, 07 R266).
Log 15 (DESIGN CHOICE); 17 (DEDUCED). -/
def keyBytes (s : State) (slot : Nat) : List Byte :=
  if slot = 0 then Config.vendorKey
  else (List.range 24).flatMap (fun w => leBytes 4 (Tbl.get 0 s.fuses.opKeys (slot * 24 + w)).toNat)

/-- Whether a push in progress lacks a chunk of the pack in the staging half, by its header's length (21 R731). -/
def pushLacks (s : State) (len : Nat) : Bool :=
  s.chn.pushId.isSome && (List.range ((len + 255) / 256)).any (fun c => !s.chn.chunks.contains c)

/-- The result with which a pack in the staging half is verified (R475 to R477, R508, 21 R731): 0 when it passes.
Log 17, 53 (DEDUCED). -/
def packResult (s : State) : Nat :=
  let b := s.brl.staging
  let len := bytesAt b 32 4
  if s.brl.stageUe ∨ !packValid b ∨ pushLacks s len then 2
  else if bytesAt b 18 1 ≠ s.trd.bkey ∨
      !signatureOk (keyBytes s s.trd.bkey) (b.take (len - 96)) ((b.drop (len - 96)).take 96) then 1
  else if bytesAt b 12 4 < (liveVal s 7 0x11 0).toNat ∨
      (bytesAt b 8 4 = packIdOf s ∧ bytesAt b 12 4 ≤ bytesAt (packBytes s) 12 4) then 3
  else 0

/-- The payload of a pack event (Table 14.9). -/
def packPay (s : State) (b : List Byte) (result : Nat) : List Byte :=
  pay [(2, 0xFFFF), (2, 0xFFFF), (4, bytesAt b 8 4), (4, bytesAt b 12 4), (1, result)]

/-- The program that waits for a verification goes on with its result. -/
def wakeVerify (s : State) (result : Nat) : State :=
  s.progs.foldl (fun s e => match e.2.wait with
    | .verify rd => wakeRd s e.1 e.2 rd (w64 result)
    | _ => s) s

/-- PACK_VERIFY_END (R478): the pack becomes the installed pack at one instant, or is refused. -/
def execPackVerifyEnd (s : State) : Host.Outcome State Fault Refusal :=
  .next (match s.brl.verify with
  | none => s
  | some _ =>
    let b := s.brl.staging
    let r := packResult s
    let s := { s with brl := { s.brl with verify := none, stageUe := false }, chn := { s.chn with chunks := [] } }
    let s :=
      if r = 0 then
        let s := { s with brl := { s.brl with pack := some (b.take (bytesAt b 32 4)), packNo := s.brl.packNo + 1, packAt := s.gtc,
                                              curItem := 0, blame := [] } }
        record s 0x5010 0 0x0B (trdIdx s) (packPay s b 0)
      else record s 0x5011 2 0x0B (trdIdx s) (packPay s b r)
    wakeVerify s r)

/-- BURLING_STORE_UE (R508): the resident pack is installed at once, or the BINST in progress will refuse its pack. -/
def execBurlingStoreUe (installedHalf : Bool) (s : State) : Host.Outcome State Fault Refusal :=
  .next (
  if installedHalf then residentPack { s with brl := { s.brl with blame := [] } }
  else if s.brl.verify.isSome then { s with brl := { s.brl with stageUe := true } } else s)

/-! ### Slices -/

/-- A cluster's progress on the pack that is installed now: at a new pack it starts at item 0 of each class with n = 0, and a repeat
pending is dropped (14 "A pack is installed while slices run"). -/
def freshPack (s : State) (n : Nat) : State :=
  if (getB s n).pack = s.brl.packNo then s
  else updB s n (fun b => { b with pack := s.brl.packNo, nextFast := 0, nextSweep := 0, count := 0, again := none, passes := [],
                                   clean := 0 })

/-- The pack of a slice.
Log 15 (DESIGN CHOICE). -/
def slicePack (x : BrlSlice) : List Byte := x.bytes.getD Config.residentPack

/-- Whether the replay hold buffer of a cluster holds entries. -/
def holdsEntries (s : State) (n : Nat) : Bool :=
  s.slots.any (fun e => e.2.host == n && !e.2.ended && (!e.2.held.isEmpty || !e.2.atomics.isEmpty))

/-- The slice goes on with item `i`, or its item window ends there: no item, or an item that needs the hold buffer while that holds
entries (R482). -/
def setItem (s : State) (n : Nat) (x : BrlSlice) (i : Option Nat) (shared : Bool) : State :=
  let y := match i with
    | some i =>
      if (itemNeeds (slicePack x) i).testBit 0 && holdsEntries s n then { x with isOpen := false }
      else { x with item := i, shared := shared, isOpen := true }
    | none => { x with isOpen := false }
  updB s n (fun b => { b with slice := some y })

/-- The next item of a slice's class from the cluster's position (R482). -/
def nextItem (s : State) (n : Nat) (x : BrlSlice) : Option Nat :=
  let b := getB s n
  if x.sweep then fromPos (itemsOf (slicePack x) 1) b.nextSweep else fromPos (itemsOf (slicePack x) 0) b.nextFast

/-- The shared item that the cursor names (R484). -/
def cursorItem (s : State) : Option Nat := fromPos (sharedItems (packBytes s)) s.brl.curItem

/-- Whether a slice may start on a cluster (R486 to R489, R507): in service, none in its group, no quiet window, no unsettled
TMMA or dispute, issue not stopped, dispatch under a Treadle.
Log 82 (DEDUCED). -/
def sliceAllowed (s : State) (n : Nat) : Bool :=
  clInService s n && decide (s.phase = .run) && !s.pwr.warn && !s.err.safe && s.trd.owner && (getCk s n).jobs.isEmpty &&
    (List.range 8).all (fun i => (getB s (n / 8 * 8 + i)).slice.isNone) && s.pwr.quiet.elim true (fun q => q.1 != n / 8) &&
    !Tbl.has s.brl.deep n && !isFencedEngine s n

/-- The tested region of a cluster (R481): its offset in the scratchpad. -/
def regionAt (s : State) (n : Nat) : Nat := 0x10000 * ((getB s n).rotations % 12)

/-- Save the slot that a slice suspends (R481): its tested region and general registers go to its save entry. -/
def saveRegion (s : State) (n k : Nat) : State :=
  let e := saveEntry s (k / 512) (k % 512)
  let s := copyCells s (padBase 0 k + regionAt s n) (e + regionAt s n) 0x10000
  let s := memWipe s (e + 0x160000) (e + 0x168000)
  (regImage (getS s k)).foldl (fun s r => memPuts s (e + 0x160000 + r.1) (leBytes 8 r.2.toNat)) s

/-- Start a slice (R480 to R484, R495).
Log 82 (DEDUCED). -/
def startSlice (s : State) (n : Nat) : State :=
  let s := freshPack s n
  let b := getB s n
  let k := runningSlot s n
  let forced := b.defer == 16
  let s := if forced then record s 0x5020 0 0x02 n (brlPay s n 0xFFFF 0 0 0 0 1) else s
  let bad := k.elim false (fun k => !hbmUp s (saveEntry s (k / 512) (k % 512)))
  if bad then
    accept (updB s n (fun b => { b with noSlice := k })) 0x5040 2 0x02 n 0xFFFF n (brlPay s n 0xFFFF 0 0 0 0 (b2n forced))
  else
    let s := k.elim s (fun k => saveRegion s n k)
    let x : BrlSlice := ⟨s.aon, b.count % 3 == 2, 0, false, true, forced, k, regionAt s n, s.brl.pack⟩
    let s := updB s n (fun b => { b with count := b.count + 1, noSlice := none })
    match b.again with
    | some (i, _) => setItem s n x (some i) ((itemNeeds (slicePack x) i).testBit 1)
    | none =>
      if x.sweep ∧ s.brl.curCl = n ∧ (cursorItem s).isSome then setItem s n x (cursorItem s) true
      else setItem s n x (nextItem s n x) false

/-- BURLING_OFFER (R486 to R489, R495): a due slice, or the slice of a repeat, starts or is deferred.
Log 82 (DEDUCED). -/
def execBurlingOffer (cluster : BitVec 9) (s : State) : Host.Outcome State Fault Refusal :=
  .next (
  let n := cluster.toNat
  if !sliceAllowed s n then s
  else
    let s := freshPack (settleDebt s n) n
    let b := getB s n
    let k := runningSlot s n
    let defers := k.elim false (fun k => (liveVal s 7 0x20 (getS s k).ctx).getLsbD 0)
    if k.isSome ∧ b.noSlice = k then s
    else if b.again.isSome then startSlice s n
    else if b.debt < debtDue then s
    else if defers ∧ b.defer < 16 then updB s n (fun b => { b with defer := b.defer + 1 })
    else startSlice s n)

/-- The item of a slice is over: the next one starts while at least 28 µs of the window remain (R482). -/
def goOn (s : State) (n : Nat) (x : BrlSlice) : State :=
  if clState s n < 2 ∧ s.aon ≤ x.start + 132000 then setItem s n x (nextItem s n x) false else setItem s n x none false

/-- The next in-service cluster in ascending number after `n`, wrapping (R484). -/
def nextCluster (s : State) (n : Nat) : Nat :=
  (((List.range 512).map (fun i => (n + 1 + i) % 512)).find? (fun m => clInService s m)).getD n

/-- The shared cursor moves on (R484): to the next cluster, and to the next shared item unless this one was skipped. -/
def moveCursor (s : State) (item : Nat) (skipped : Bool) : State :=
  let nx := (fromPos (sharedItems (packBytes s)) (item + 1)).getD 0
  { s with brl := { s.brl with curCl := nextCluster s s.brl.curCl, curItem := if skipped then item else nx } }

/-- After an item that passed or failed, the cluster's position moves past it; a fast rotation that ends is counted, and one
that was clean from its first item on returns a SUSPECT cluster to ACTIVE (R481, R482, Table 14.7). -/
def passItem (s : State) (n : Nat) (x : BrlSlice) (passed : Bool) : State :=
  let b := slicePack x
  if x.shared then (if s.brl.pack == x.bytes then moveCursor s x.item false else s)
  else if x.sweep then updB s n (fun c => { c with nextSweep := x.item + 1 })
  else
    let fast := itemsOf b 0
    let first := fast.head?.getD 0
    let last := fast.getLastD 0
    let clean := if !passed then 0 else if x.item = first then 1 else if (getB s n).clean = 0 then 0 else (getB s n).clean + 1
    let wrap := x.item == last
    let s := updB s n (fun c => { c with nextFast := if wrap then 0 else x.item + 1, clean := if wrap then 0 else clean,
                                         rotations := if wrap then (c.rotations + 1) % 2 ^ 24 else c.rotations })
    if wrap && decide (clean = fast.length) && decide (clState s n = 1) then
      let v := (liveVal s 7 (0x400 + n) 0).toNat
      let s := writeClState s n (w64 (v / 4 * 4))
      record s 0x5030 0 0x02 n (brlPay s n 0xFFFF 0 0 0 0 0)
    else s

/-- More than 8 clusters have found one item permanently failing within 10 s (R509): the resident pack is installed, the clusters
that the item quarantined return to their earlier state, PACK_REFUSED with result 4.
Log 84 (DEDUCED). -/
def settleBlame (s : State) (item : Nat) : State :=
  let l := s.brl.blame.filter (fun e => e.item == item)
  if (l.filter (fun e => decide (s.aon ≤ e.time + 10000000000))).length > 8 then
    let bad := packBytes s
    let s := l.foldl (fun s e =>
      if clState s e.cluster = 2 then
        let v := (liveVal s 7 (0x400 + e.cluster) 0).toNat
        let s := writeClState s e.cluster (w64 (v / 16 * 16 + e.prev))
        record { s with deepQ := dropNat s.deepQ e.cluster, brl := { s.brl with deep := Tbl.del s.brl.deep e.cluster } }
          0x5030 0 0x02 e.cluster (brlPay s e.cluster 0xFFFF 0 0 0 0 0)
      else s) s
    let s := residentPack { s with brl := { s.brl with blame := [] } }
    record s 0x5011 2 0x0B (trdIdx s) (packPay s bad 4)
  else s

/-- The class of a repeat (R495, Table 14.6): its record and what it does to the cluster. -/
def classRepeat (s : State) (n item : Nat) (exp old crc : Nat) (flags : Nat) : State :=
  let p := fun (s : State) (cls : Nat) => brlPay s n item exp crc (Tbl.get 0 (getB s n).passes item) cls flags
  let prev := clState s n
  if crc = exp then
    let s := charge s n
    record s 0x5002 1 0x02 n (p s 1)
  else if crc = old then
    let s := quarantine s n 2
    let s := record s 0x5003 2 0x02 n (p s 2)
    settleBlame { s with brl := { s.brl with blame := ⟨item, n, s.aon, prev⟩ :: s.brl.blame.filter (fun e => e.cluster != n || e.item != item) } } item
  else
    let s := quarantine s n 3
    record s 0x5004 2 0x02 n (p s 3)

/-- ITEM_END (R483, R495): the item's CRC-64 passes or fails; a failing item is recorded and repeated first in the next slice, and
the repeat is classed. -/
def execItemEnd (cluster : BitVec 9) (crc : BitVec 64) (s : State) : Host.Outcome State Fault Refusal :=
  .next (
  let n := cluster.toNat
  match (getB s n).slice with
  | none => s
  | some x =>
    if !x.isOpen then s
    else
      let exp := itemExpected (slicePack x) x.item
      let again := (getB s n).again
      let fl := b2n x.forced + 8 * b2n x.shared
      let s := if crc.toNat = exp then updB s n (fun b => { b with passes := Tbl.put b.passes x.item s.gtc }) else s
      match again with
      | some (i, old) =>
        if i = x.item then
          let s := updB s n (fun b => { b with again := none, slice := some { x with shared := false } })
          let s := classRepeat s n i exp old.toNat crc.toNat (fl + 2)
          goOn s n { x with shared := false }
        else goOn s n x
      | none =>
        if crc.toNat = exp then goOn (passItem s n x true) n { x with shared := false }
        else
          let s := accept s 0x5001 2 0x02 n 0xFFFF n (brlPay s n x.item exp crc.toNat (Tbl.get 0 (getB s n).passes x.item) 0 fl)
          let s := updB s n (fun b => { b with again := some (x.item, crc) })
          goOn (passItem s n x false) n { x with shared := false })

/-- ITEM_SKIPPED (R484): the memory Shuttle has not started the shared item within 40 µs. -/
def execItemSkipped (cluster : BitVec 9) (s : State) : Host.Outcome State Fault Refusal :=
  .next (
  let n := cluster.toNat
  match (getB s n).slice with
  | none => s
  | some x =>
    if !x.isOpen ∨ !x.shared then s
    else
      let s := record s 0x5022 0 0x02 n (brlPay s n x.item (itemExpected (slicePack x) x.item) 0
        (Tbl.get 0 (getB s n).passes x.item) 0 (b2n x.forced + 8))
      goOn (if s.brl.pack == x.bytes then moveCursor s x.item true else s) n { x with shared := false })

/-- The slot of a slice is restored from its save entry (R481, R505): what an unreadable entry held comes back poisoned.
Log 82 (DEDUCED). -/
def restoreRegion (s : State) (n k region : Nat) : State :=
  let x := getS s k
  let e := saveEntry s (k / 512) (k % 512)
  if x.ended then s
  else
    let lost := !hbmUp s e
    let s := if lost then
        accept ((granules (padBase 0 k + region) 0x10000).foldl (fun s g => setPoison s (32 * g)) s) 0x5040 2 0x02 n x.ctx n
          (brlPay s n 0xFFFF 0 0 0 0 0)
      else copyCells s (e + region) (padBase 0 k + region) 0x10000
    if lost || anyPoison s (e + 0x160000) 0x8000 then
      updS s k (fun x => { x with sheds := x.sheds.map (fun h => 
        (h.1, { h.2 with regP := (List.range 1024).filter (fun r =>
          lost || h.2.regP.contains r || anyPoison s (e + 0x160000 + 8192 * h.1 + 512 * (r / 64) + 8 * (r % 64)) 8) })) })
    else s

/-- SLICE_END (R480, R481, R486, R488): the item window has closed; the slot is restored, the debt goes down by the slice's duration,
and the deferral count returns to 0 when it falls below 180 µs. -/
def execSliceEnd (cluster : BitVec 9) (s : State) : Host.Outcome State Fault Refusal :=
  .next (
  let n := cluster.toNat
  match (getB s n).slice with
  | none => s
  | some x =>
    if x.isOpen then s
    else
      let s := x.slot.elim s (fun k => restoreRegion s n k x.region)
      let s := settleDebt s n
      updB s n (fun b =>
        let d := b.debt - 10000 * (s.aon - x.start)
        { b with slice := none, debt := d, defer := if d < debtDue then 0 else b.defer }))

/-- SHARE_SHORTFALL (R486, R506): once per minute while the debt is held at its limit. -/
def execShareShortfall (cluster : BitVec 9) (s : State) : Host.Outcome State Fault Refusal :=
  .next (
  let n := cluster.toNat
  let b := getB s n
  if !clInService s n ∨ debtNow s n < debtMax ∨ (0 < b.short ∧ s.aon < b.short + 60000000000) then s
  else accept (updB s n (fun b => { b with short := s.aon })) 0x5023 2 0x02 n 0xFFFF n (brlPay s n 0xFFFF 0 0 0 0 0))

/-! ### Deep runs -/

/-- Whether a cluster may never be powered in this boot (05 R176). -/
def neverOn (s : State) (n : Nat) : Bool :=
  s.fuses.coppice.contains n || s.bist.bootCop.contains n || domState s n == 3 || domState s (512 + n) == 3

/-- DEEP_RUN_START (R498): the first queued cluster that may run starts its deep run, at most four at once.
Log 83 (DEDUCED). -/
def execDeepRunStart (s : State) : Host.Outcome State Fault Refusal :=
  .next (
  if s.phase ≠ .run ∨ s.brl.deep.length ≥ 4 ∨ !s.trd.owner then s
  else match s.deepQ.find? (fun n => clState s n == 2 && !neverOn s n && (getB s n).slice.isNone && !isFencedEngine s n) with
  | none => s
  | some n =>
    let s := putDom (putDom s n 1) (512 + n) 1
    { s with deepQ := dropNat s.deepQ n, brl := { s.brl with deep := Tbl.put s.brl.deep n s.aon } })

/-- DEEP_RUN_END (R498 to R500, Table 14.7): a failing run coppices the cluster; after three clean passes a permanent cause leaves
it held and OFF, and any other returns it to ACTIVE when the SHORT cluster test passes. -/
def execDeepRunEnd (cluster : BitVec 9) (pass shortPass : Bool) (s : State) : Host.Outcome State Fault Refusal :=
  .next (
  let n := cluster.toNat
  let v := (liveVal s 7 (0x400 + n) 0).toNat
  let cause := bitsOf v 31 24
  if !Tbl.has s.brl.deep n ∨ clState s n ≠ 2 then s
  else
    let s := { s with brl := { s.brl with deep := Tbl.del s.brl.deep n } }
    if !pass then
      coppice (accept s 0x5032 2 0x02 n 0xFFFF n (brlPay s n 0xFFFF 0 0 0 0 4)) n cause
    else
      let s := record s 0x5031 0 0x02 n (brlPay s n 0xFFFF 0 0 0 0 4)
      if cause = 2 then
        let s := clusterOff (writeClState s n (w64 (v / 16 * 16 + 8 + 2))) n
        record s 0x5033 2 0x02 n (brlPay s n 0xFFFF 0 0 0 0 0)
      else if (getHist s n).returns.any (fun t => decide (s.aon < t + dayNs)) ∨ !shortPass then coppice s n cause
      else
        let r := Nat.min 255 (bitsOf v 23 16 + 1)
        let s := writeClState s n (w64 (cause * 0x1000000 + r * 0x10000))
        let s := updHist s n (fun h => { h with returns := s.aon :: h.returns.filter (fun t => decide (s.aon < t + dayNs)) })
        let s := updB s n (fun b => { b with since := s.aon, debt := 0, clean := 0, again := none })
        record s 0x5030 0 0x02 n (brlPay s n 0xFFFF 0 0 0 0 0))

/-- BRL.STATUS. -/
def brlStatus (s : State) : Nat :=
  let cnt := fun (v : Nat) => ((List.range 512).filter (fun n => clState s n == v)).length
  s.deepQ.length % 256 * 2 ^ 32 + s.brl.deep.length * 2 ^ 24 + cnt 1 % 256 * 2 ^ 16 + cnt 2 % 256 * 2 ^ 8 + bitIf s.brl.verify.isSome 1
    + bitIf s.brl.pack.isNone 0

/-- BRL.CL_PROGRESS of a cluster (R502). -/
def brlProgress (s : State) (n : Nat) : Nat :=
  let b := getB s n
  b.rotations % 2 ^ 24 * 2 ^ 40 + b.nextFast % 4096 * 2 ^ 28 + b.nextSweep % 4096 * 2 ^ 16 + Nat.min 2047 (debtNow s n / 40000000) * 32 + b.defer

end Sys2Proof.Machine
end

