-- ==== Sys2Proof/Machine/Thermal.lean ====
section
/-! DEFINITION. Temperature sensing and thermal control (04): zones, cadence, broken sensors, the throttle law, rate of rise, trip
votes and the shutdown latch.  Temperatures are in units of 0.25 °C, rates in 0.25 °C/ms. -/

namespace Sys2Proof.Machine

/-- The sensors of a zone: 0 to 63 group zones, 64 uncore, 65 Espalier, 66 timebase (04 Table 4.2). -/
def zoneSensors (z : Nat) : List Nat :=
  if z < 64 then (List.range 8).map (· + 8 * z) ++ [512 + z]
  else if z = 64 then (List.range 12).map (· + 576) ++ [592, 593, 594, 595]
  else if z = 65 then [588, 589, 590, 591]
  else if z = 66 then [596] else []

/-- The zone of a digital sensor. -/
def zoneOf (n : Nat) : Nat :=
  if n < 512 then n / 8 else if n < 576 then n - 512 else if n < 588 then 64 else if n < 592 then 65
  else if n < 596 then 64 else 66

/-- Sensor `n`. -/
def getSensor (s : State) (n : Nat) : Sensor := Tbl.get Sensor.init s.thm.sensors n
/-- Write sensor `n`. -/
def putSensor (s : State) (n : Nat) (v : Sensor) : State :=
  { s with thm := { s.thm with sensors := Tbl.put s.thm.sensors n v } }
/-- Zone `z`. -/
def getZone (s : State) (z : Nat) : Zone := Tbl.get Zone.slow s.thm.zones z
/-- Write zone `z`. -/
def putZone (s : State) (z : Nat) (v : Zone) : State := { s with thm := { s.thm with zones := Tbl.put s.thm.zones z v } }

/-- The valid sensors among a list. -/
def validOf (s : State) (l : List Nat) : List Nat := l.filter (fun n => !(getSensor s n).broken)
/-- The greatest of a list of temperatures. -/
def maxTemp (l : List Int) : Option Int := l.foldl (fun m x => some (match m with
  | some y => if x > y then x else y
  | none => x)) none

/-- A digital sensor is declared broken: SENSOR_BROKEN (04 R132). -/
def breakSensor (s : State) (n : Nat) : State :=
  let x := getSensor s n
  if x.broken ∨ n > 596 then s
  else accept (putSensor s n { x with broken := true, rorFor := 0 }) 0x2020 2 0x01 n 0xFFFF 0xFFFF
    (powerPay s n 1 0xFF x.temp.toNat 0 0)

/-- The rate of rise of a sensor (04 R131): against the reading 500 µs earlier at fast cadence, 1 ms earlier otherwise;
none before that reading exists.
Log 26 (DESIGN CHOICE). -/
def rateOf (s : State) (z : Zone) (n : Nat) : Option Int :=
  let x := getSensor s n
  if x.broken then none
  else match x.hist with
    | r :: t =>
      if z.fast then (if z.fastN ≥ 5 then (t[4]?).map (fun q => 2 * (r.toInt - q.toInt)) else none)
      else t.head?.map (fun q => r.toInt - q.toInt)
    | [] => none

/-- The uncore zone temperature (04 R129, R133): a broken sensor is taken as the highest valid reading plus 10 °C; none when
all 16 are broken. -/
def uncoreTemp (s : State) : Option Int :=
  let l := zoneSensors 64
  (maxTemp ((validOf s l).map (fun n => (getSensor s n).temp.toInt))).map
    (fun t => if (validOf s l).length < l.length then t + 40 else t)

/-- The temperature that a group's or Espalier's target is computed from; none means at or above t_floor (04 R129,
R133). -/
def zoneTemp (s : State) (z : Nat) : Option Int :=
  let l := zoneSensors z
  if (validOf s l).length < l.length then none
  else match maxTemp (l.map (fun n => (getSensor s n).temp.toInt)) with
    | none => none
    | some t => if z < 64 then (uncoreTemp s).map (fun u => if u > t then u else t) else some t

/-- Round down to a multiple of 5 mV. -/
def floor5 (v : Int) : Nat := (v / 5 * 5).toNat

/-- The throttle law (04 R138) at temperature `t`, for a full voltage and a floor in mV. -/
def throttle (s : State) (t : Int) (full low : Nat) : Nat :=
  let lim := (liveVal s 2 0x10 0).toNat
  let tt : Int := 4 * bitsOf lim 7 0
  let tf : Int := 4 * bitsOf lim 15 8
  if t ≤ tt then floor5 full
  else if t ≥ tf then low
  else floor5 (((full : Int) * (tf - tt) - ((full : Int) - low) * (t - tt)) / (tf - tt))

/-- The thermal target of island `z` (64: Espalier), in mV. -/
def thmTarget (s : State) (z : Nat) : Nat := Tbl.get 800 s.thm.targets z

/-- Recompute the target of a group island or of the Espalier island at a measurement of its zone (04 R138 to R140): a
higher target is raised by at most 5 mV; the group events are recorded. -/
def retarget (s : State) (z : Nat) (rate : Int) : State :=
  if z ≥ 66 ∨ z = 64 then s
  else
    let k := if z = 65 then 64 else z
    let full := if z = 65 then 800 else (liveVal s 2 0x11 0).toNat
    let low := if z = 65 then 600 else 550
    let zone := getZone s z
    let want := match zoneTemp s z with
      | none => low
      | some t => throttle s (if zone.pre then t + 2 * rate else t) full low
    let old := thmTarget s k
    let new := if want > old then Nat.min want (old + 5) else want
    let s := { s with thm := { s.thm with targets := Tbl.put s.thm.targets k new } }
    if z = 65 then s
    else
      let f := floor5 full
      let t := ((zoneTemp s z).getD 420).toNat
      let p := powerPay s z 0 0xFF t new 0
      let s := if old ≥ f ∧ new < f then record s 0x2001 0 0x01 (512 + z) p else s
      let s := if old > 550 ∧ new = 550 then record s 0x2003 0 0x01 (512 + z) p else s
      if old < f ∧ new ≥ f then record s 0x2002 0 0x01 (512 + z) p else s

/-- Entry to the shutdown latch (04 R143, Table 4.5): THERM_TRIP_L and PWR_CYCLE_REQ_L go low, every VIN12-fed rail goes
off, resets and takeovers in progress are abandoned (R152), queued entries and unsent reports are lost (15), and the
shutdown is recorded in the ring with the sensor that completed it: the voter whose vote is the second, or the first sensor
of a rate-of-rise pair.
Log 138 (DEDUCED). -/
def shutdownLatch (s : State) (ror : Bool) (sensor : Nat) : State :=
  if s.phase = .off ∨ s.phase = .latched then s
  else
    let s := railsOff (endFreeze s)
    let v := s.thm.votes ||| s.thm.brokenV
    let s := { s with phase := .latched,
                      thm := { s.thm with latched := true, latchV := v, latchR := ror,
                                          latchS := if ror then sensor else 0 },
                      trd := { s.trd with takeover := 0, owner := true, tokenQ := [] },
                      fuses := { s.fuses with prog := [] }, err := { s.err with reports := [] },
                      bist := { s.bist with phase := 0 } }
    acceptDone s (if ror then 0x2032 else 0x2031) 5 0x01 sensor (powerPay s sensor 1 0xFF 0x8000 0 0)

/-- Insert into a rising list. -/
def insertInt (x : Int) : List Int → List Int
  | [] => [x]
  | h :: t => if x ≤ h then x :: h :: t else h :: insertInt x t

/-- The median of a list of temperatures; none of an empty list.
Log 25 (DEDUCED). -/
def median (l : List Int) : Option Int := (l.foldr insertInt [])[(l.length - 1) / 2]?

/-- Take one reading of a sensor (04 R132): outside −40 to 150 °C it breaks the sensor, and so does the third reading in a
row more than 20 °C from the median of the zone's other valid sensors.
Log 25 (DEDUCED). -/
def takeReading (s : State) (readings : List (Nat × BitVec 16)) (n : Nat) (r : BitVec 16) : State :=
  let x := getSensor s n
  if x.broken then s
  else if r.toInt < -160 ∨ r.toInt > 600 then breakSensor s n
  else
    let others := (readings.filter (fun e => e.1 != n && !(getSensor s e.1).broken)).map (fun e => e.2.toInt)
    let off := match median others with
      | some m => decide (r.toInt - m > 80) || decide (m - r.toInt > 80)
      | none => false
    let k := if off then x.outline + 1 else 0
    if k ≥ 3 then breakSensor s n
    else putSensor s n { x with temp := r, outline := k, hist := (r :: x.hist).take 6 }

/-- The valid digital sensors that have been measured.
Log 26 (DESIGN CHOICE). -/
def measured (s : State) : List Int :=
  (s.thm.sensors.filter (fun e => !e.2.broken && !e.2.hist.isEmpty && decide (e.1 < 597))).map (fun e => e.2.temp.toInt)

/-- The fuse window (04 R150): every valid digital sensor from 15 °C to 85 °C.
Log 27 (DEDUCED). -/
def fuseWindow (s : State) : Bool :=
  !(measured s).isEmpty && (measured s).all (fun t => decide (60 ≤ t) && decide (t ≤ 340))

/-- The recorder's write window follows the readings (04 R149).
Log 27 (DEDUCED). -/
def nvWindow (s : State) : State :=
  let l := measured s
  if s.thm.nvOpen && l.any (fun t => decide (t < 0) || decide (t > 400)) then
    record { s with thm := { s.thm with nvOpen := false } } 0x2040 0 0x01 0 (powerPay s 0xFFFF 0xFF 0xFF 0x8000 0 0)
  else if !s.thm.nvOpen && l.all (fun t => decide (8 ≤ t) && decide (t ≤ 392)) then
    record { s with thm := { s.thm with nvOpen := true } } 0x2041 0 0x01 0 (powerPay s 0xFFFF 0xFF 0xFF 0x8000 0 0)
  else s

/-- THERMAL_LIMIT and JUNCTION_LOW (04 R154, R155), each once for as long as its condition lasts. -/
def thermalLimits (s : State) (z : Nat) : State :=
  let hot := (List.range 64).all (fun g => decide (thmTarget s g ≤ 550)) && decide (z < 64) &&
    (match zoneTemp s z with
      | some t => decide (t ≥ 420)
      | none => false)
  let s :=
    if hot && !s.thm.limitRec.contains z then
      accept { s with thm := { s.thm with limitRec := insertNat s.thm.limitRec z } } 0x2050 2 0x01 (512 + z) 0xFFFF 0xFFFF
        (powerPay s z 0 0xFF 420 (thmTarget s z) 0)
    else if hot then s else { s with thm := { s.thm with limitRec := dropNat s.thm.limitRec z } }
  let low := (measured s).any (fun t => decide (t < 0)) && s.pwr.pwrGood
  if low && !s.thm.lowRec then
    accept { s with thm := { s.thm with lowRec := true } } 0x2051 2 0x01 ((zoneSensors z).headD 0) 0xFFFF 0xFFFF
      (powerPay s ((zoneSensors z).headD 0) 1 0xFF 0x8000 0 0)
  else if low then s else { s with thm := { s.thm with lowRec := false } }

/-- What a broken or new reading does to the target of its zone, and to all 64 groups when the uncore zone has no valid
sensor: then the Treadle performs a chip reset (04 R158). -/
def uncoreLost (s : State) : State :=
  if (validOf s (zoneSensors 64)).isEmpty ∧ s.phase = .run then
    chipReset { s with thm := { s.thm with targets := (List.range 64).foldl (fun t g => Tbl.put t g 550) s.thm.targets } }
      0x2020
  else s

/-- SENSOR_MEASURE (04 R130 to R141, R147, R149): a measurement of a zone.
Log 8, 16 (DESIGN CHOICE). -/
def execSensorMeasure (zone : Nat) (readings : List (Nat × BitVec 16)) (s : State) : Res :=
  .next (if zone > 66 ∨ s.phase = .off then s
  else
    let rs := readings.filter (fun e => (zoneSensors zone).contains e.1)
    let z := getZone s zone
    let period := if z.fast then 100 else 1000
    let s := rs.foldl (fun s e => takeReading s rs e.1 e.2) s
    let z := if z.fast then { z with fastN := z.fastN + 1 } else z
    let valid := validOf s (rs.map (·.1))
    let rates := valid.filterMap (fun n => (rateOf s z n).map (fun r => (n, r)))
    let top := (maxTemp (rates.map (·.2))).getD 0
    let lim := (liveVal s 2 0x10 0).toNat
    let near := fun (t : Int) (c : Nat) => decide (t - 4 * (c : Int) ≤ 20) && decide (4 * (c : Int) - t ≤ 20)
    let hot := valid.any (fun n =>
      let t := (getSensor s n).temp.toInt
      near t (bitsOf lim 7 0) || near t (bitsOf lim 15 8) || decide (t ≥ 4 * 112 - 20)) || decide (top > 4)
    let z' : Zone :=
      { fast := z.fast || hot, calm := if hot then 0 else z.calm + period,
        fastN := if z.fast then z.fastN else 0, pre := z.pre || decide (top > 12),
        preCalm := if top > 8 then 0 else z.preCalm + period }
    let s := if !z.pre && z'.pre then
        record s 0x2010 0 0x01 ((zoneSensors zone).headD 0) (powerPay s zone 0 0xFF 0x8000 0 (25 * top).toNat) else s
    let ends := z'.pre && z.pre && decide (z'.preCalm ≥ 1000)
    let s := if ends then
        record s 0x2011 0 0x01 ((zoneSensors zone).headD 0) (powerPay s zone 0 0xFF 0x8000 0 0) else s
    let s := putZone s zone { z' with pre := z'.pre && !ends }
    let s := (rs.map (·.1)).foldl (fun s n =>
      let x := getSensor s n
      let fastRise := rates.any (fun r => r.1 == n && decide (r.2 > 40))
      putSensor s n { x with rorFor := if fastRise then x.rorFor + period else 0 }) s
    let s := retarget s zone top
    let s := if zone = 66 then
        let (v, s) := takeFree s
        { s with thm := { s.thm with tbCorr := s.thm.tbCorr + ((v.toNat % 3 : Nat) : Int) - 1 } }
      else s
    let s := thermalLimits (nvWindow s) zone
    let s := uncoreLost s
    match (zoneSensors zone).filter (fun n => !(getSensor s n).broken && decide ((getSensor s n).rorFor ≥ 2000)) with
    | a :: _ :: _ => shutdownLatch s true a
    | _ => s)

/-- A sensor broke outside a measurement: its zone's target follows (04 R133). -/
def brokeNow (s : State) (n : Nat) : State :=
  if (getSensor s n).broken ∨ n > 596 then s else uncoreLost (retarget (breakSensor s n) (zoneOf n) 0)

/-- SENSOR_CONVERSION_TIMEOUT (04 R132): a conversion did not complete within 20 µs. -/
def execSensorConversionTimeout (sensor : Nat) (s : State) : Res :=
  .next (if s.phase = .off then s else brokeNow s sensor)

/-- SENSOR_REFERENCE_CHECK (04 R132): the built-in check, run once per second. -/
def execSensorReferenceCheck (sensor : Nat) (pass : Bool) (s : State) : Res :=
  .next (if s.phase = .off ∨ pass then s else brokeNow s sensor)

/-- FAST_CADENCE_END (04 R130): 10 ms without a fast-cadence condition. -/
def execFastCadenceEnd (zone : Nat) (s : State) : Res :=
  .next (let z := getZone s zone
    if z.fast ∧ z.calm ≥ 10000 then putZone s zone { z with fast := false, fastN := 0 } else s)

/-- The votes for shutdown that stand now, broken voters included (04 R134, R142). -/
def voteCount (s : State) : Nat :=
  let v := s.thm.votes ||| s.thm.brokenV
  b2n (v.getLsbD 0) + b2n (v.getLsbD 1) + b2n (v.getLsbD 2)

/-- Two votes enter the shutdown latch (04 R142).
Log 138 (DEDUCED). -/
def checkVotes (s : State) (voter : Nat) : State := if voteCount s ≥ 2 then shutdownLatch s false (597 + voter) else s

/-- The mask of one voter. -/
def voterBit (v : BitVec 2) : BitVec 3 := if v.toNat < 3 then 1#3 <<< v.toNat else 0

/-- TRIP_VOTE (04 R142): a voter output has held for 10 µs. -/
def execTripVote (voter : BitVec 2) (s : State) : Res :=
  .next (if voter.toNat ≥ 3 ∨ s.phase = .off ∨ (s.thm.votes ||| s.thm.brokenV).getLsbD voter.toNat then s
  else
    let s := { s with thm := { s.thm with votes := s.thm.votes ||| voterBit voter } }
    checkVotes (accept s 0x2030 2 0x01 (597 + voter.toNat) 0xFFFF 0xFFFF
      (powerPay s (597 + voter.toNat) 1 0xFF 0x8000 0 0)) voter.toNat)

/-- TRIP_VOTE_CLEARED (04): votes are not accumulated over time. -/
def execTripVoteCleared (voter : BitVec 2) (s : State) : Res :=
  .next (if voter.toNat ≥ 3 then s else { s with thm := { s.thm with votes := s.thm.votes &&& ~~~(voterBit voter) } })

/-- TRIP_VOTER_BROKEN (04 R134, R157): a broken voter counts as a vote until chip reset. -/
def execTripVoterBroken (voter : BitVec 2) (s : State) : Res :=
  .next (if voter.toNat ≥ 3 ∨ s.phase = .off ∨ s.thm.brokenV.getLsbD voter.toNat then s
  else
    let s := { s with thm := { s.thm with brokenV := s.thm.brokenV ||| voterBit voter } }
    checkVotes (accept s 0x2021 2 0x01 (597 + voter.toNat) 0xFFFF 0xFFFF
      (powerPay s (597 + voter.toNat) 1 0xFF 0x8000 0 0)) voter.toNat)

/-- THERMAL_BLOCK_FAULT (04 R156): the Treadle sets every island to its floor and records the fault, whose handling is a chip
reset. -/
def execThermalBlockFault (s : State) : Res :=
  .next (if s.phase ≠ .run then s
  else
    let t := Tbl.put ((List.range 64).foldl (fun t g => Tbl.put t g 550) s.thm.targets) 64 600
    accept { s with thm := { s.thm with targets := t } } 0x2052 5 0x01 0 0xFFFF 1120 (powerPay s 1120 2 0xFF 0x8000 0 0))

/-- THERM_WARN_L is asserted (04 R146). -/
def thermWarn (s : State) : Bool :=
  (List.range 64).any (fun g => decide (thmTarget s g < floor5 (liveVal s 2 0x11 0).toNat))
    || decide (thmTarget s 64 < 800) || s.thm.zones.any (fun e => e.2.pre)
    || s.thm.sensors.any (fun e => e.2.broken) || s.thm.brokenV != 0 || decide (voteCount s ≥ 1)

/-- The voltage of a group island in mV: the lower of the thermal and the cap target (03 R89), 550 mV during a power-fail
warning (Table 3.8). -/
def islandMv (s : State) (g : Nat) : Nat := if s.pwr.warn then 550 else Nat.min (thmTarget s g) s.pwr.capTarget

end Sys2Proof.Machine
end

