-- ==== Sys2Proof/Machine/BistOps.lean ====
section
/-! DEFINITION. Start-up test, release, scan entry and fuse programming (05, 07 R266). -/

namespace Sys2Proof.Machine

/-- The phase of start-up test that tests a domain (05 Table 5.4). -/
def phaseOfDomain (d : Nat) : Nat :=
  if d < 1024 then 4
  else if 1088 ≤ d ∧ d ≤ 1093 then 3
  else if d = 1100 ∨ d = 1101 ∨ d ≥ 1117 then 1 else 2

/-- A cluster that the test leaves untested (05 R170, R176): coppiced, or behind a failed router tile.
Log 134 (DEDUCED). -/
def untested (s : State) (d : Nat) : Bool :=
  decide (d < 512) && (s.fuses.coppice.contains d || s.bist.bootCop.contains d || s.bist.failed.contains (1024 + d / 8))

/-- BIST_PHASE_END (05 R161, R162, R166): a phase ends with the blocks that failed in it and the arrays repaired; the FULL
test zero-fills HBM in Phase 3 (R160).
Log 6 (DESIGN CHOICE). -/
def execBistPhaseEnd (fails : List BistFail) (repaired : List Nat) (s : State) : Res :=
  .next (if s.phase ≠ .test ∨ s.bist.phase = 0 ∨ s.bist.phase ≥ 5 ∨ s.pwr.warn then s
  else
    let ph := s.bist.phase
    let s := (repaired.filter (fun d => phaseOfDomain d == ph)).foldl (fun s d =>
      record s 0xE005 1 0x0F d (bistPay s d s.bist.depth ph (if d < 1024 then d % 512 else 0xFFFF) 0 0)) s
    let s := (fails.filter (fun f => phaseOfDomain f.domain == ph && !s.bist.failed.contains (blockDomain f.domain) &&
        !untested s (blockDomain f.domain))).foldl
      (fun s f => bistFail s f.domain f.cause) s
    let s := if ph = 3 ∧ s.bist.depth = 1 then memWipe s 0 hbmSize else s
    { s with bist := { s.bist with phase := ph + 1 } })

/-- BIST_PHASE_TIMEOUT (05 R164): a block has not finished by twice its worst-case time. -/
def execBistPhaseTimeout (domain : Nat) (s : State) : Res :=
  .next (if s.phase ≠ .test ∨ s.bist.phase = 0 ∨ domain > 1120 ∨ phaseOfDomain domain ≠ s.bist.phase
      ∨ s.bist.failed.contains (blockDomain domain) ∨ untested s (blockDomain domain) then s
  else bistFail s domain .timeout)

/-- Whether a hardened setting keeps its value across a chip reset (24 R790).
Log 130 (DEDUCED). -/
def keptHard (place : Nat) : Bool :=
  (decide (setPlace 7 0x400 0 ≤ place) && decide (place ≤ setPlace 7 0x5FF 0)) || place == setPlace 7 0x11 0

/-- Clusters held since a rail or domain fault get their deep run at the first release after the chip reset (14 R499).
Log 31 (DEDUCED). -/
def releaseHeld (s : State) : State :=
  (List.range 512).foldl (fun s n =>
    let v := (liveVal s 7 (0x400 + n) 0).toNat
    if v % 4 = 2 ∧ bitsOf v 3 3 = 1 ∧ bitsOf v 31 24 = 7 then
      { writeClState s n (w64 (v - 8)) with deepQ := dropNat s.deepQ n ++ [n] }
    else s) s

/-- A QUARANTINED cluster that stays held has its domains OFF (14 R499). -/
def heldOff (s : State) : State :=
  (List.range 512).foldl (fun s n =>
    let v := (liveVal s 7 (0x400 + n) 0).toNat
    if v % 4 = 2 ∧ v.testBit 3 then clusterOff s n else s) s

/-- RELEASE (05 R175): every setting at its Reset column (24 R789, R790), contexts, queues but 1023 and owner maps as after a
chip reset (16 Table 16.11), Treadle A active with a standby that starts its full-state copy (06 R193, R220), Espalier by
profile (R174), the axes whose ports and the Reed passed commanded open.
Log 31 (DEDUCED). -/
def release (s : State) : State :=
  let f := s.bist.failed
  let dom1102 := if f.contains 1102 then 3 else if isFleet s then 1 else 0
  let s := { s with
    phase := .run, ctxs := [], slots := [], progs := [], groupEff := [], sliceEff := [], shutEff := [], orderCtr := 0,
    queues := [(1023, { Queue.chorno with entries := (getQ s 1023).entries })],
    sets := { regs := [], hard := s.sets.hard.filter (fun e => keptHard e.1) },
    trd := Trd.released, err := { Pipeline.empty with reports := s.err.reports, direct := s.err.direct, folded := s.err.folded },
    rst := { s.rst with runs := [], watch := [] },
    pci := { Pcie.released with perst := s.pci.perst },
    thm := { s.thm with sensors := [], zones := [], votes := s.thm.votes, brokenV := 0, targets := [], limitRec := [],
                        lowRec := false },
    pwr := { s.pwr with single := false, changing := none, capTarget := 900, gating := false, exceeded := false,
                        overheadE := 0, stale := [], forcedAt := [], quiet := none, domTarget := [] },
    axes := (s.axes.filter (fun e => e.2.closeFail)).map (fun e => (e.1, { Axis.init with closeFail := true })),
    history := s.history.map (fun e => (e.1, { e.2 with storms := [] })), chk := Checking.init, ecc := Ecc.init,
    brl := { Burling.init with pack := s.brl.pack, packNo := s.brl.packNo, packAt := s.brl.packAt, began := s.aon },
    shut := [], links := [], pairs := [], col := Collectives.init, time := { s.time with parent := 7 },
    esp := { Esp.init with late := isFleet s || f.contains 1102, charges := s.esp.charges, retired := s.esp.retired } }
  let s := if s.brl.packNo = 0 then residentPack s else s
  let s := putDom s 1102 dom1102
  let s := if f.contains 1115 then
      (List.range 6).foldl (fun s i => if domState s (1094 + i) = 3 then s else putDom s (1094 + i) 0) s
    else s
  openAxis (openAxis (openAxis (heldOff (releaseHeld s)) 0) 1) 2

/-- Entry to internal scan (05 Table 5.11): contexts end with SCAN_ENTRY, secrets and memories are zeroed, settings go to
reset values, the switches close, and the device holds the chip-reset state.
Log 29 (DEDUCED). -/
def enterScan (s : State) : State :=
  let s := record s 0xE030 2 0x0F 0xFFFF (bistPay s 0xFFFF 0xFF 0 0xFFFF 0 0)
  let s := closeAxes (endAll s 0x011C)
  { s with phase := .scan, mem := { cells := [], poison := [] }, slots := [], progs := [],
           sets := { regs := [], hard := [] }, ctxs := s.ctxs.map (fun e => (e.1, { e.2 with seed := 0 })),
           bist := { s.bist with scanPend := true, secret := false, senseOff := true, scanWait := !s.thm.nvOpen } }

/-- What follows the decision of Phase 5 where the device is not held in reset: the out-of-service hold, a held power-cycle
request (16 R564, R574), or release; a scan request that waited takes effect (05 R187). -/
def afterTest (s : State) : State :=
  let s := bistSummary s 0xE001 0
  let s := if s.rst.oos then heldPower s .oosHold else if s.rst.pcReq then heldPower s .pcHeld else release s
  if s.bist.scanPend ∧ !s.bist.scanOn then enterScan s else s

/-- START_UP_TEST_END (05 R166, R170 to R175, R179): Phase 5 decides.
Log 31 (DEDUCED). -/
def execStartUpTestEnd (micros : Word32) (s : State) : Res :=
  .next (if s.phase ≠ .test ∨ s.bist.phase ≠ 5 ∨ s.pwr.warn then s
  else
    let cl := s.bist.failed.filter (fun d => decide (d < 512))
    let b := { s.bist with bootCop := cl.foldl insertNat s.bist.bootCop, micros := micros, phase := 0 }
    let s := { s with bist := b, rst := { s.rst with runs := [] } }
    let ex := excludedAfter s
    let ess := essentialBits s
    let stay := decide (ex.length > 16) || decide (ess ≠ 0)
    let s := { s with bist := { s.bist with excluded := ex, essential := ess, stay := stay, repeatDue := true } }
    if stay then
      let s := bistSummary (heldPower s .stay) 0xE004 5
      if s.bist.scanPend ∧ !s.bist.scanOn then enterScan s else s
    else afterTest s)

/-- BIST_REPORT_REPEAT (05 R180): in the stay-in-reset state the report is due again each second. -/
def execBistReportRepeat (s : State) : Res :=
  .next (if s.phase = .stay then { s with bist := { s.bist with repeatDue := true } } else s)

/-- SCAN_REQ (05 R183, R187): refused where the scan_lock fuse is blown; during a test or a reset it waits for its end. -/
def execScanReq (s : State) : Res :=
  .next (if s.phase = .off ∨ s.phase = .scan then s
  else if s.bist.scanLock then
    record { s with bist := { s.bist with scanRef := true } } 0xE032 2 0x0F 0xFFFF (bistPay s 0xFFFF 0xFF 0 0xFFFF 0 0)
  else if s.phase = .test ∨ s.phase = .reset ∨ s.phase = .kaTest then { s with bist := { s.bist with scanPend := true } }
  else enterScan s)

/-- SCAN_ENABLED (05 Table 5.11, R184): once SCAN_ENABLED can be made durable, the scan chains are reachable until the next
power cycle; while the recorder's window is closed the entry waits.
Log 29 (DEDUCED). -/
def execScanEnabled (s : State) : Res :=
  .next (if s.phase ≠ .scan ∨ s.bist.scanOn then s
  else if !s.thm.nvOpen then { s with bist := { s.bist with scanWait := true } }
  else
    record { s with bist := { s.bist with scanPend := false, scanOn := true, scanWait := false } } 0xE031 5 0x0F 0xFFFF
      (bistPay s 0xFFFF 0xFF 0 0xFFFF 0 0))

/-- Skip words that already hold their target value: they count as completed (07 R266). -/
def skipWords (opKeys : Tbl Word32) (key : Nat) : Nat → Nat → List Word32 → Nat × Nat × List Word32
  | w, d, [] => (w, d, [])
  | w, d, x :: t => if Tbl.get 0 opKeys (key * 24 + w) = x then skipWords opKeys key (w + 1) (d + 1) t else (w, d, x :: t)

/-- A fuse program goes on to its next word, ends when none is left, or ends its program with FUSE_TEMP_WINDOW and the count
of words in h1 when the window is closed (04 R150, 07 R266). -/
def nextFuse (s : State) (f : FuseProg) : State :=
  let rest := s.fuses.prog.filter (fun g => g.exec != f.exec)
  let (w, d, l) := if f.kind = 0 then skipWords s.fuses.opKeys f.key f.word f.done f.words else (f.word, f.done, f.words)
  match getP s f.exec with
  | none => { s with fuses := { s.fuses with prog := rest } }
  | some p =>
    if l.isEmpty then
      wakeRd { s with fuses := { s.fuses with prog := rest } } f.exec p f.rd (if f.kind = 0 then w64 d else 0)
    else if !fuseWindow s then
      let s := { s with fuses := { s.fuses with prog := rest } }
      endWith s f.exec ({ p with wait := .none }.setReg 1 (w64 d)) stFuseTemp p.index none
    else { s with fuses := { s.fuses with prog := { f with word := w, done := d, words := l } :: rest } }

/-- The first fuse program goes on; one that ends makes way for the next, whose words and window are checked in turn.
Log 32 (DEDUCED). -/
def settleFuses : Nat → State → State
  | 0, s => s
  | n + 1, s =>
    match s.fuses.prog with
    | [] => s
    | f :: _ =>
      let t := nextFuse s f
      if t.fuses.prog.length < s.fuses.prog.length then settleFuses n t else t

/-- A fuse program of a program in a slot is queued behind those in progress (04 R150, 07 R272).
Log 32 (DEDUCED). -/
def startFuse (s : State) (f : FuseProg) : State :=
  let l := s.fuses.prog
  let s := { s with fuses := { s.fuses with prog := l ++ [f] } }
  if l.isEmpty then settleFuses 1 s else s

/-- FUSE_WORD_COMPLETE (04 R150, 07 R266): the word in progress is programmed; a completed coppice mark records
COPPICE_FUSED (05 R177). -/
def execFuseWordComplete (s : State) : Res :=
  .next (match s.fuses.prog with
  | [] => s
  | f :: rest =>
    match f.words with
    | [] => settleFuses (rest.length + 1) s
    | x :: t =>
      if f.kind = 0 then
        let g := { f with word := f.word + 1, done := f.done + 1, words := t }
        settleFuses (rest.length + 1)
          { s with fuses := { s.fuses with opKeys := Tbl.put s.fuses.opKeys (f.key * 24 + f.word) x, prog := g :: rest } }
      else
        let g := { f with done := 1, words := t }
        let s := { s with fuses := { s.fuses with coppice := insertNat s.fuses.coppice f.key, prog := g :: rest } }
        settleFuses (rest.length + 1) (record s 0xE010 0 0x0F f.key (bistPay s f.key 0xFF 0 f.key 0 0)))

end Sys2Proof.Machine
end

