-- ==== Sys2Proof/Machine/Treadle.lean ====
section
/-! DEFINITION. Queues, doorbells, completion records and the Treadles (06). -/

namespace Sys2Proof.Machine

/-! ### Queues -/

/-- The privilege at which programs of a queue run (06 R212, R213). -/
def queuePriv (s : State) (q : Nat) : Nat :=
  if q = 1023 ∨ s.trd.grants.contains q then 2 else (getQ s q).priv

/-- Bytes 0 to 47 of a descriptor, with bits 1 and 2 of byte 9 read as 0 (06 Table 6.3). -/
def Queue.image (d : Queue) : List Byte :=
  leBytes 8 d.cmdBase.toNat ++ leBytes 1 d.cmdLog2 ++ leBytes 1 (b2n d.devMem) ++ leBytes 1 d.priv ++ leBytes 1 0
    ++ leBytes 2 d.fn ++ leBytes 2 d.ctx ++ leBytes 8 d.cplBase.toNat ++ leBytes 1 d.cplLog2 ++ leBytes 1 d.cplClass
    ++ leBytes 2 d.msix ++ leBytes 4 d.jobTag.toNat ++ leBytes 8 d.acct.toNat ++ leBytes 8 d.dossier.toNat

/-- Indices run freely modulo 2^32 (06 R201). -/
def idxSub (a b : Nat) : Nat := (a + 0x100000000 - b % 0x100000000) % 0x100000000

/-- The source index and payload of a queue's record (15 Table 15.4: Hexah program, queue number).
Log 37 (DEDUCED). -/
def queueEvent (s : State) (code sev q : Nat) : State :=
  accept s code sev 0x11 q 0xFFFF 0xFFFF (trdPay s q 0xFFFF 0 0xFF 0xFFFF 0xFFFF 0xFF [])

/-- Whether the descriptor of a queue fails its CRC (06 R236); queue 1023 has none in memory.
Log 39 (DEDUCED). -/
def badDescriptor (s : State) (q : Nat) : Bool :=
  (getQ s q).valid && q != 1023 && decide (crc32c (getQ s q).image ≠ (getQ s q).crc)

/-- A queue is enabled, or enabled again (06 R236, 07 R271): one whose descriptor fails its CRC is stopped with DESCRIPTOR_CRC.
Log 39 (DEDUCED). -/
def openQueue (s : State) (q : Nat) (d : Queue) : State :=
  if badDescriptor s q then queueEvent (jot (putQ s q { d with stopped := true })) 0xD022 2 q else jot (putQ s q d)

/-- Whether a function may reach its BARs: link up, enabled, memory space on, not in D3hot (22 R748). -/
def barOk (s : State) (f : Nat) : Bool := s.pci.up && fnEnabled s f && (getF s f).mse && !(getF s f).d3

/-- A doorbell write (06 R203 to R205, 22 R749, R764): of the wrong width or foreign it is counted and recorded; during a
reset of its function it counts as foreign; an invalid value is discarded and stops the queue; a valid one is captured.  `off` is the
offset in BAR0.
Log 36, 119 (DEDUCED). -/
def doorbell (s : State) (fn q off width : Nat) (ok : Queue → Bool) (put : Queue → Queue) (value : Nat) : State :=
  if !barOk s fn then s
  else if width ≠ 32 then
    record { s with pci := { s.pci with cntWidth := satAdd 65535 s.pci.cntWidth 1 } } 0xC015 1 0x0A fn
      (pciPay s fn 0xFF q off 0 value)
  else
    let d := getQ s q
    let foreign := { s with pci := { s.pci with cntFor := satAdd 65535 s.pci.cntFor 1 } }
    if (getF s fn).inReset then foreign
    else if q = 1023 ∨ !d.valid ∨ d.fn ≠ fn then
      accept foreign 0xC016 2 0x0A fn 0xFFFF 0xFFFF (pciPay s fn 0xFF q off 0 value)
    else if ok d then putQ s q (put d)
    else queueEvent (stopQueue s q) 0xD020 2 q

/-- COMMAND_DOORBELL (06 R204): a tail no less than the last one and at most the ring size beyond done.
Log 36 (DEDUCED). -/
def execCommandDoorbell (fn : BitVec 6) (q : BitVec 10) (width : Nat) (value : Word32) (s : State) : Res :=
  .next (doorbell s fn.toNat q.toNat (16 * q.toNat) width
    (fun d => decide (idxSub d.tail d.done ≤ idxSub value.toNat d.done)
      && decide (idxSub value.toNat d.done ≤ 2 ^ d.cmdLog2))
    (fun d => { d with tail := value.toNat }) value.toNat)

/-- COMPLETION_DOORBELL (06 R204): cpl_head no less than the last one and no greater than done.
Log 36 (DEDUCED). -/
def execCompletionDoorbell (fn : BitVec 6) (q : BitVec 10) (width : Nat) (value : Word32) (s : State) : Res :=
  .next (doorbell s fn.toNat q.toNat (16 * q.toNat + 4) width (fun d => decide (idxSub d.done value.toNat ≤ idxSub d.done d.cplHead))
    (fun d => { d with cplHead := value.toNat }) value.toNat)

/-- The entry that 64 bytes spell (06 R202, Table 6.4): a failed CRC, an undefined kind or a length out of range ends it with
MALFORMED and stops the queue (R237); another field that breaks the table ends it with MALFORMED.
Log 38 (DEDUCED). -/
def parseEntry (b : List Byte) : CmdEntry :=
  let len := bytesAt b 16 4
  let hard := decide (bytesAt b 60 4 ≠ (crc32c (b.take 60)).toNat) || decide (bytesAt b 0 2 ≠ 1)
    || decide (len % 8 ≠ 0) || decide (len < 8) || decide (len > 65536)
  let soft := decide (bytesAt b 2 1 > 3) || decide (bytesAt b 3 1 ≠ 0) || decide (bytesAt b 20 4 ≠ 0)
    || decide (bytesAt b 56 4 ≠ 0) || decide (bytesAt b 8 8 % 8 ≠ 0)
  { tag := BitVec.ofNat 32 (bytesAt b 4 4), irq := (bytesAt b 2 1).testBit 0, stopOn := (bytesAt b 2 1).testBit 1,
    progAddr := w64 (bytesAt b 8 8), progLen := len,
    args := (List.range 4).map (fun i => w64 (bytesAt b (24 + 8 * i) 8)),
    bad := if hard || soft then stMalformed else 0, stops := hard }

/-- ENTRY_FETCH (06 R200, R202, R206): the next entry of a queue that is enabled, not stopped and not fenced, at most four
ahead of done; while the link is down a queue in host memory fetches nothing (22 R762).  An entry that cannot be read ends
with the fetch's status; its tag is a free value.
Log 16 (DESIGN CHOICE); 38 (DEDUCED). -/
def execEntryFetch (q : BitVec 10) (env : Env) (s : State) : Res :=
  .next (
  let q := q.toNat
  let d := getQ s q
  let host := !d.devMem && decide (d.priv ≠ 0)
  if q = 1023 ∨ !d.valid ∨ !d.enabled ∨ d.stopped ∨ !serves s q ∨ isFenced s d.ctx ∨ idxSub d.fetch d.done ≥ 4
      ∨ d.fetch = d.tail ∨ (host ∧ !s.pci.up) then s
  else
    let addr := d.cmdBase.toNat + 64 * (d.fetch % 2 ^ d.cmdLog2)
    let (r, s) := queueRead d 4 2 addr 64 env [] s
    let (e, s) := match r with
      | .ok b => (parseEntry b, s)
      | .bad st =>
        let (v, s) := takeFree s
        ({ tag := v.setWidth 32, irq := false, stopOn := false, progAddr := 0, progLen := 0, args := [], bad := st,
           stops := false : CmdEntry }, s)
    let s := updQ s q (fun d => { d with fetch := (d.fetch + 1) % 0x100000000, entries := d.entries ++ [e] })
    settleQueue s q)

/-- PROGRAM_START (06 R206, R207, R214, R217, 07 R242, R243): a fetched program takes a free slot; slots 0 to 7 take no tenant
program, and a queue whose completion ring is full starts none.
Log 9 (DESIGN CHOICE); 124 (DEDUCED). -/
def execProgramStart (slot : BitVec 6) (q : BitVec 10) (s : State) : Res :=
  .next (
  let q := q.toNat
  let d := getQ s q
  let full := q ≠ 1023 ∧ idxSub d.done d.cplHead ≥ 2 ^ d.cplLog2
  match d.entries with
  | [] => s
  | e :: t =>
    if !d.valid ∨ !d.enabled ∨ d.stopped ∨ !serves s q ∨ isFenced s d.ctx ∨ ctxGone s d ∨ d.running.isSome
        ∨ d.pendRec.isSome ∨ full ∨ e.bad ≠ 0 ∨ (getP s slot.toNat).isSome
        ∨ (slot.toNat < 8 ∧ queuePriv s q = 0) then s
    else
      let p : Prog :=
        { queue := q, priv := queuePriv s q, index := 0, words := e.progLen / 8,
          regs := (List.range 4).foldl (fun r i => Tbl.put r (i + 1) (e.args.getD i 0)) [],
          sel := if queuePriv s q = 0 then d.ctx else 0xFFFF, staged := [], overfull := false, retired := 0,
          committed := false, wait := .none, tag := e.tag, irq := e.irq, stopOn := e.stopOn, base := e.progAddr }
      let s := if d.ctx < 256 ∧ !hasWork s d.ctx then watchRestart s d.ctx else s
      jot (putP (putQ s q { d with entries := t, running := some slot.toNat }) slot.toNat p))

/-- PROGRAM_BUDGET (06 R215, 07 R277): the running time of a program exceeds budget_us; it ends at an instruction boundary,
waiting excluded.
Log 7 (DESIGN CHOICE). -/
def execProgramBudget (slot : BitVec 6) (s : State) : Res :=
  .next (match running s slot with
  | some p => endAt s slot p stBudget
  | none => s)

/-- The 32 bytes of a completion record (06 Table 6.5) with phase bit `ph`. -/
def cplBytes (r : CplRec) (q ph : Nat) : List Byte :=
  leBytes 4 r.tag.toNat ++ leBytes 2 r.status ++ leBytes 2 q ++ leBytes 8 r.gtcEnd ++ leBytes 8 r.result.toNat
    ++ leBytes 4 r.retired.toNat ++ leBytes 2 r.faultAt
    ++ leBytes 1 (ph + 2 * b2n r.cold + 4 * b2n r.commit) ++ leBytes 1 0

/-- A queue is destroyed: its descriptor reads zero and its grant is gone (06 R198, R213).
Log 40 (DEDUCED). -/
def destroyQueue (s : State) (q : Nat) : State :=
  jot { putQ s q Queue.absent with trd := { s.trd with grants := dropNat s.trd.grants q } }

/-- A queue is disabled: programs it has fetched and not started are flushed (06 Table 6.6).
Log 40 (DEDUCED). -/
def disableQueue (s : State) (q : Nat) : State :=
  let fl := fun (d : Queue) => d.entries.map (fun e => { e with bad := stFlushed })
  settleQueue (jot (updQ s q (fun d => { d with enabled := false, stopped := false, entries := fl d }))) q

/-- What follows a completion record (06 R202, R240, 07 R262, R271, 16 R543): the queue stops on an error, a QCTL on the
program's own queue takes effect, a reset that acted as END starts, and the context has progressed.
Log 125 (DEDUCED). -/
def afterRecord (s : State) (q : Nat) (d : Queue) (r : CplRec) : State :=
  let s := watchRestart s (if (getC s d.ctx).inUse && !(getC s d.ctx).ended then d.ctx else 0xFFFF)
  let s := if r.stopOn && r.status != stOk then stopQueue s q else s
  let s := match d.ctlAfter with
    | some 1 => disableQueue s q
    | some 2 => stopQueue s q
    | some 3 => destroyQueue s q
    | _ => s
  let s := updQ s q (fun d => { d with ctlAfter := none })
  let s := match r.reset with
    | some (lv, tg) => (beginReset s lv tg 0xC000 [] []).2
    | none => s
  settleQueue s q

/-- Issue the record waiting in a queue (06 R201, R207 to R209, R238): into a released ring slot, with done moving in the same
transaction and the vector after it; a host write that cannot be sent keeps the record and stops the queue.
Log 16 (DESIGN CHOICE); 125 (DEDUCED). -/
def issueRecord (s : State) (q : Nat) : State :=
  let d := getQ s q
  match d.pendRec with
  | none => s
  | some r =>
    if !d.valid ∨ !s.trd.owner then s
    else if q = 1023 then
      let (v, s) := takeFree s
      let b := cplBytes r 1023 (v.toNat % 2)
      let (id, rest) := match s.chn.ids with
        | i :: t => (i.1, t)
        | [] => (0, [])
      let s := { s with chn := { s.chn with ids := rest, done := s.chn.done ++ [leBytes 2 id ++ b] } }
      afterRecord (putQ s q { d with pendRec := none, done := (d.done + 1) % 0x100000000 }) q d r
    else if d.held ∨ idxSub d.done d.cplHead ≥ 2 ^ d.cplLog2 then s
    else
      let addr := d.cplBase.toNat + 32 * (d.done % 2 ^ d.cplLog2)
      let b := cplBytes r q ((d.done / 2 ^ d.cplLog2 + 1) % 2)
      let fail := queueEvent (stopQueue (putQ s q { d with held := true }) q) 0xD023 2 q
      match (queuePlace s d addr .write Env.quiet).1 with
      | .ok p =>
        let sendable := match p with
          | .host f _ => hostOk s f
          | _ => true
        if !sendable then fail
        else
          let s := placeWrite s p b false d.cplClass
          let s := putQ s q { d with pendRec := none, done := (d.done + 1) % 0x100000000 }
          let s := if r.irq && decide (d.msix ≠ 0xFFFF) then raiseVec s d.fn d.msix else s
          afterRecord s q d r
      | _ => fail

/-- COMPLETION_RECORD_ISSUE (06 R207).
Log 35, 125 (DEDUCED). -/
def execCompletionRecordIssue (q : BitVec 10) (s : State) : Res := .next (issueRecord s q.toNat)

/-! ### The Treadles -/

/-- The word in progress of a fuse program completes although its program has ended (07 R273). -/
def finishFuseWord (s : State) : State :=
  s.fuses.prog.foldl (fun s f => match f.words with
    | [] => s
    | x :: _ =>
      if f.kind = 0 then { s with fuses := { s.fuses with opKeys := Tbl.put s.fuses.opKeys (f.key * 24 + f.word) x } }
      else record { s with fuses := { s.fuses with coppice := insertNat s.fuses.coppice f.key } } 0xE010 0 0x0F f.key
        (bistPay s f.key 0xFF 0 f.key 0 0)) s

/-- A Treadle payload for a Treadle's own event. -/
def trdOwn (s : State) : List Byte := trdPay s 0xFFFF 0xFFFF 0 0xFF 0xFFFF 0xFFFF 0xFF []

/-- Count a failed recovery: `n` of them so far; three make that Treadle FAILED until chip reset (06 R226). -/
def recoveryFailed (t : Trd) (n : Nat) : Trd :=
  let dead := decide (n ≥ 3)
  let a := t.aFailed || (dead && t.activeB)
  let b := t.bFailed || (dead && !t.activeB)
  { t with standby := if dead then 3 else 0, attempts := Nat.min 3 n, aFailed := a, bFailed := b }

/-- The standby is gone (06 R218, R226): ABSENT, with STANDBY_LOST; lost during a full-state copy it counts as a failed attempt,
and after three the Treadle is FAILED until chip reset. -/
def standbyLost (s : State) : State :=
  let n := if s.trd.standby = 1 then s.trd.attempts + 1 else s.trd.attempts
  let s := { s with trd := recoveryFailed s.trd n }
  accept s 0xD003 2 0x0B (trdIdx s) 0xFFFF 0xFFFF (trdOwn s)

/-- A Treadle is declared faulty (06 R194, R195, R221, R222, R234, R235) with the record of its cause, if it has one.
Log 33 (DEDUCED). -/
def declareFaulty (s : State) (t : Treadle) (code : Option Nat) : State :=
  let isB := decide (t = .b)
  if s.phase ≠ .run ∧ s.phase ≠ .keepAlive ∧ s.phase ≠ .oosHold then s
  else
    let rec1 : State → State := fun s => match code with
      | some c => record s c 4 0x0B (b2n isB) (trdOwn s)
      | none => s
    let both : State → State := fun s =>
      let s := { s with trd := { s.trd with owner := false, takeover := 0 } }
      let s := accept s 0xD008 5 0x0B (b2n isB) 0xFFFF 0xFFFF (trdOwn s)
      chipReset s 0xD008
    if isB = s.trd.activeB then
      if !s.trd.owner then s
      else if s.phase = .keepAlive then
        { rec1 s with trd := { s.trd with owner := false, aFailed := true } }
      else
        let s := rec1 s
        if s.trd.standby ≠ 1 ∧ s.trd.standby ≠ 2 then both s
        else
          let ts := s.aon :: s.trd.takeovers.filter (fun x => decide (s.aon < x + hourNs))
          let s := { s with trd := { s.trd with owner := false, takeover := if s.trd.standby = 2 then 1 else 2,
                                                takeovers := ts } }
          if ts.length ≥ 3 then
            let s := accept s 0xD030 5 0x0B (b2n isB) 0xFFFF 0xFFFF (trdOwn s)
            chipReset s 0xD030
          else s
    else if s.trd.takeover ≠ 0 then both (rec1 s)
    else if s.trd.standby = 1 ∨ s.trd.standby = 2 then standbyLost (rec1 s)
    else s

/-- TRD_LOCKSTEP_MISMATCH (06 R194). -/
def execTrdLockstepMismatch (t : Treadle) (s : State) : Res := .next (declareFaulty s t (some 0xD005))
/-- TRD_HEARTBEAT_LOST (06 R194). -/
def execTrdHeartbeatLost (t : Treadle) (s : State) : Res := .next (declareFaulty s t (some 0xD006))
/-- TREADLE_MEMORY_UE (06 R194): the spec names no record of its own for it.
Log 34 (DEDUCED). -/
def execTreadleMemoryUe (t : Treadle) (s : State) : Res := .next (declareFaulty s t none)

/-- STANDBY_LOST (06 R218): the standby's acknowledgement is late. -/
def execStandbyLost (s : State) : Res :=
  .next (if s.trd.owner ∧ (s.trd.standby = 1 ∨ s.trd.standby = 2) ∧ s.phase = .run then standbyLost s else s)

/-- STANDBY_HOT (06 R220): the copy ends; images that differ start it again. -/
def execStandbyHot (crcMatch : Bool) (s : State) : Res :=
  .next (if s.trd.owner ∧ s.trd.standby = 1 ∧ s.phase = .run ∧ crcMatch then
    let s := { s with trd := { s.trd with standby := 2 } }
    record s 0xD004 0 0x0B (trdIdx s) (trdOwn s)
  else s)

/-- TREADLE_RECOVERY_TEST_END (06 R226): a pass starts the full-state copy; a failure is recorded, and the third since chip
reset makes the Treadle FAILED.
Log 34 (DEDUCED). -/
def execTreadleRecoveryTestEnd (pass : Bool) (s : State) : Res :=
  .next (if !s.trd.owner ∨ s.trd.standby ≠ 0 ∨ s.phase ≠ .run then s
  else if pass then { s with trd := { s.trd with standby := 1 } }
  else
    let s := { s with trd := recoveryFailed s.trd (s.trd.attempts + 1) }
    record s 0xD007 2 0x0B (trdIdx s) (trdOwn s))

/-- TREADLE_CHECKPOINT (06 R225, Table 6.12, 20 R685): the record is formed and reported, and waits for the checkpoint region
as the latest.
Log 34 (DEDUCED). -/
def execTreadleCheckpoint (s : State) : Res :=
  .next (if !s.trd.owner ∨ s.phase ≠ .run then s
  else
    let p := pay [(8, s.trd.commitSeq.toNat), (2, s.brl.curCl), (2, s.brl.curItem), (1, s.pwr.rotation)]
    let (r, s) := formRec s 0xD010 0 0 0x0B (trdIdx s) p
    let s := settleRing (offerDirect (hostRing s r) r)
    { s with rcd := { s.rcd with ckptWait := some r } })

/-- A reset in progress starts again from its drain step with a new dossier (06 R230). -/
def restartResets (s : State) : State :=
  let again := fun (r : ResetRun) =>
    { r with restarted := true, drainEnd := none, snapshot := snapshots s r }
  let runs := s.rst.runs.map (fun e => (e.1, again e.2))
  let hs := s.err.handlers.map (fun h => (h.1, { h.2 with taken := s.aon }))
  { s with rst := { s.rst with runs := runs }, err := { s.err with handlers := hs } }

/-- What both takeovers do: the other Treadle is active and owns the device, arbitrations start again (06 R221, R224, R231,
12).
Log 33 (DEDUCED). -/
def takeOver (s : State) (kind : Nat) : State :=
  let s := finishFuseWord s
  let again := fun (j : TmmaJob) => { j with stage := Nat.min 1 j.stage, qerr := [] }
  let cls := s.chk.cls.map (fun e => (e.1, { e.2 with jobs := e.2.jobs.map again }))
  let trd := { s.trd with activeB := !s.trd.activeB, owner := true, takeover := 0, standby := 0, lastKind := kind,
                          failovers := Nat.min 255 (s.trd.failovers + 1), tokenQ := [] }
  restartResets { s with trd := trd, brl := { s.brl with verify := none }, chk := { s.chk with cls := cls } }

/-- The hot takeover (06 Table 6.9): programs in flight end with TREADLE_FAILOVER, their uncommitted writes abandoned. -/
def takeoverHot (s : State) : State :=
  let s := takeOver s 1
  let s := acceptDone s 0xD001 5 0x0B (trdIdx s) (trdOwn s)
  s.progs.foldl (fun s e => issueRecord (endWith s e.1 { e.2 with wait := .none } stFailover e.2.index none) e.2.queue) s

/-- The entry at `done` of a queue is completed cold (06 Table 6.10).
Log 16 (DESIGN CHOICE); 33, 128 (DEDUCED). -/
def coldRecord (s : State) (q : Nat) : State :=
  let d := getQ s q
  if idxSub d.fetch d.done = 0 ∧ q ≠ 1023 then s
  else if q = 1023 ∧ s.chn.ids.isEmpty then s
  else
    let (v, s) := takeFree s
    let run := d.running.bind (getP s)
    let e := d.entries.head?
    let tag := match run, d.pendRec, e with
      | some p, _, _ => p.tag
      | none, some r, _ => r.tag
      | none, none, some e => e.tag
      | none, none, none => 0
    let irq := match run, d.pendRec, e with
      | some p, _, _ => p.irq
      | none, some r, _ => r.irq
      | none, none, some e => e.irq
      | none, none, none => false
    let stop := match run, d.pendRec, e with
      | some p, _, _ => p.stopOn
      | none, some r, _ => r.stopOn
      | none, none, some e => e.stopOn
      | none, none, none => false
    let r : CplRec := { tag := tag, status := stFailover, gtcEnd := s.gtc, result := 0, retired := 0xFFFFFFFF,
                        faultAt := v.toNat % 65536, cold := true, commit := run.elim false (·.committed), irq := irq,
                        stopOn := stop, reset := none }
    let rest := if q = 1023 then (if run.isSome || d.pendRec.isSome then d.entries else d.entries.drop 1) else []
    let s := putQ s q { d with running := none, pendRec := some r, entries := rest, ctlAfter := none,
                               fetch := if q = 1023 then d.fetch else (d.done + 1) % 0x100000000 }
    issueRecord s q

/-- The cold assumption (06 Tables 6.10 and 6.11): every Treadle-held state is rebuilt from its stored source or reset.
Log 128 (DEDUCED). -/
def takeoverCold (s : State) : State :=
  let s := takeOver s 2
  let hard := s.sets.hard.map (fun e => (e.1, { e.2 with golden := hdVote e.2 }))
  let regs := s.sets.regs.map (fun e => (e.1, { e.2 with image := e.2.val }))
  let s := { s with sets := { regs := regs, hard := hard }, trd := { s.trd with grants := [], bkey := 0 } }
  let s := s.queues.foldl (fun s e =>
    if badDescriptor s e.1 then queueEvent (stopQueue s e.1) 0xD022 2 e.1 else s) s
  let last := match s.rcd.ckptWait with
    | some r => some r
    | none => s.rcd.ckpts.head?
  let s := match last with
    | some r => { s with brl := { s.brl with curCl := bytesAt r.payload 8 2, curItem := bytesAt r.payload 10 2 },
                         pwr := { s.pwr with rotation := bytesAt r.payload 12 1,
                                             calib := (List.range 64).map (fun g => (g, r.gtc)) } }
    | none => s
  let s := { s with
    brl := { s.brl with cls := (List.range 512).map (fun n => (n, { getB s n with defer := 16 })) },
    history := s.history.map (fun e => (e.1, { e.2 with transients := [] })) }
  let s := acceptDone s 0xD002 5 0x0B (trdIdx s) (trdOwn s)
  let qs := s.queues.map (·.1)
  let s := qs.foldl coldRecord s
  { s with progs := [] }

/-- What TAKEOVER_COMPLETE does (06 R221 to R223, R228): the new active Treadle owns the device and dispatch resumes. -/
def takeoverDone (s : State) : State :=
  if s.trd.owner then s
  else match s.trd.takeover with
    | 1 => takeoverHot s
    | 2 => takeoverCold s
    | _ => s

end Sys2Proof.Machine
end

