-- ==== Sys2Proof/Machine/Pcie.lean ====
section
/-! DEFINITION. The PCIe interface (22): functions and their configuration, BAR writes and the bootstrap window, MSI-X, host
completions, the link, and function resets. -/

namespace Sys2Proof.Machine

/-! ### Queue images -/

/-- The queue that the 48 bytes of a descriptor image describe (06 Table 6.3), disabled, with every index 0. -/
def imageQueue (b : List Byte) : Queue :=
  { Queue.absent with
    valid := true, cmdBase := w64 (bytesAt b 0 8), cmdLog2 := bytesAt b 8 1, devMem := (bytesAt b 9 1).testBit 0,
    priv := bytesAt b 10 1, fn := bytesAt b 12 2, ctx := bytesAt b 14 2, cplBase := w64 (bytesAt b 16 8),
    cplLog2 := bytesAt b 24 1, cplClass := bytesAt b 25 1, msix := bytesAt b 26 2, jobTag := BitVec.ofNat 32 (bytesAt b 28 4),
    acct := w64 (bytesAt b 32 8), dossier := w64 (bytesAt b 40 8) }

/-- Whether an image keeps to Table 6.3 and R199: a tenant queue is bound to a context of its function, an administrator queue of
the PF to none; flag bits 1 and 2 are ignored.
Log 39 (DEDUCED). -/
def imageOk (s : State) (b : List Byte) : Bool :=
  let q := imageQueue b
  let x := getC s q.ctx
  let fields := bytesAt b 0 8 % 64 == 0 && decide (4 ≤ q.cmdLog2) && decide (q.cmdLog2 ≤ 16) && decide (bytesAt b 9 1 < 8) &&
    bytesAt b 11 1 == 0 && decide (q.fn ≤ 63) && bytesAt b 16 8 % 32 == 0 && decide (4 ≤ q.cplLog2) && decide (q.cplLog2 ≤ 16) &&
    decide (q.cplClass ≤ 3) && (decide (q.msix < 2048) || q.msix == 0xFFFF) && !(bytesAt b 32 8).testBit 5
  fields && (if q.priv = 0 then decide (q.ctx < 256) && x.inUse && x.fn == q.fn && x.jobTag == q.jobTag
    else q.priv == 1 && q.fn == 0 && q.ctx == 0xFFFF && q.jobTag == 0)

/-- A queue is created from an image with its CRC, and its doorbell registers are 0 (06 R198). -/
def createQueue (s : State) (q : Nat) (b : List Byte) (enabled : Bool) : State :=
  let d := { imageQueue b with enabled := enabled }
  jot (putQ s q { d with crc := crc32c d.image })

/-! ### The bootstrap window (R750) -/

/-- The result of a q0_ctl write that is not waiting. -/
def q0Answer (s : State) (r : Nat) : State := { s with pci := { s.pci with q0Result := r, q0Wait := none } }

/-- Whether queue 0 takes a new descriptor: absent, or disabled or stopped with no program in a slot. -/
def q0Idle (s : State) : Bool :=
  let d := getQ s 0
  !d.valid || ((!d.enabled || d.stopped) && d.running.isNone)

/-- Value 1: check q0_image as an administrator queue of function 0 and create and enable queue 0.
Log 39 (DEDUCED). -/
def q0Create (s : State) : State :=
  if s.phase ≠ .run then q0Answer s 4
  else if !imageOk s s.pci.q0Image || bytesAt s.pci.q0Image 10 1 != 1 then q0Answer s 2
  else if !q0Idle s then q0Answer s 3
  else
    let s := q0Answer (createQueue s 0 s.pci.q0Image true) 1
    record s 0xC017 0 0x0A 0 (pciPay s 0 0xFF 0 0 0 0)

/-- Value 2: a stopped queue 0 is enabled without a change of its indices, unless its descriptor fails its CRC (06 R236). -/
def q0Enable (s : State) : State :=
  if s.phase ≠ .run then q0Answer s 4
  else if !(getQ s 0).valid then q0Answer s 3
  else
    let d := getQ s 0
    let s := if d.enabled && d.stopped then openQueue s 0 { d with stopped := false, held := false } else s
    settleQueue (q0Answer s 1) 0

/-- A write of q0_ctl: during a takeover, and during a function reset of the PF (R765), it waits; values other than 1 and 2 are
ignored. -/
def q0Ctl (s : State) (v : Nat) : State :=
  if !barOk s 0 ∨ (v ≠ 1 ∧ v ≠ 2) then s
  else if (s.phase = .run ∧ !s.trd.owner ∧ s.trd.takeover ≠ 0) ∨ (getF s 0).inReset then
    { s with pci := { s.pci with q0Wait := some v } }
  else if v = 1 then q0Create s else q0Enable s

/-- A q0_ctl write that waited is performed. -/
def q0Settle (s : State) : State :=
  match s.pci.q0Wait with
  | none => s
  | some v => if !s.trd.owner ∨ (getF s 0).inReset then s else if v = 1 then q0Create s else q0Enable s

/-- Q0_CREATE (R750). -/
def execQ0Create (s : State) : Host.Outcome State Fault Refusal := .next (q0Ctl s 1)
/-- Q0_REENABLE (R750). -/
def execQ0Reenable (s : State) : Host.Outcome State Fault Refusal := .next (q0Ctl s 2)

/-- TAKEOVER_COMPLETE (06 R221 to R223, R228): the new active Treadle owns the device, dispatch resumes, and a q0_ctl write that
waited is performed (R750).
Log 33 (DEDUCED). -/
def execTakeoverComplete (s : State) : Host.Outcome State Fault Refusal := .next (q0Settle (takeoverDone s))

/-! ### MSI-X and configuration -/

/-- Messages for the pending vectors that are now unmasked and enabled (R753, R748). -/
def flushVecs (s : State) (f : Nat) : State :=
  let g := getF s f
  if s.pci.up && fnEnabled s f && g.bme && !g.d3 && g.msixEn && !g.msixMask then
    let go := g.pending.filter (fun v => g.unmasked.contains v)
    let s := putF s f { g with pending := g.pending.filter (fun v => !g.unmasked.contains v) }
    { s with out := go.foldl (fun o v => .msix f v :: o) s.out }
  else s

/-- Write one dword of the MSI-X table: bit 0 of a vector control masks its vector. -/
def msixDword (s : State) (f i : Nat) (v : Nat) : State :=
  if i / 4 ≥ vectorCount f then s
  else
    let g := getF s f
    let g := { g with vectors := Tbl.put g.vectors i (BitVec.ofNat 32 v) }
    let g := if i % 4 = 3 then { g with unmasked := if v % 2 = 0 then insertNat g.unmasked (i / 4) else dropNat g.unmasked (i / 4) } else g
    flushVecs (putF s f g) f

/-- MSIX_UNMASK (R753): the host clears the mask of a vector; one message is sent for a pending one. -/
def execMsixUnmask (fn : BitVec 6) (vector : BitVec 12) (s : State) : Host.Outcome State Fault Refusal :=
  .next (if barOk s fn.toNat then msixDword s fn.toNat (4 * vector.toNat + 3) 0 else s)

/-- CONFIGURATION_WRITE (R745, R747, R748): a function that is enabled takes the field; SR-IOV and the completion timeout are the
PF's.  Clearing VF Enable removes the VFs; a vector that may now be sent is sent.
Log 5 (PRESUMED); 132 (DESIGN CHOICE). -/
def execConfigurationWrite (fn : BitVec 6) (c : CfgWrite) (s : State) : Host.Outcome State Fault Refusal :=
  .next (
  let f := fn.toNat
  let g := getF s f
  if !s.pci.up || !fnEnabled s f || g.inReset then s
  else match c with
    | .busMaster v => flushVecs (putF s f { g with bme := v }) f
    | .memSpace v => putF s f { g with mse := v }
    | .d3hot v => flushVecs (putF s f { g with d3 := v }) f
    | .msixEnable v => flushVecs (putF s f { g with msixEn := v }) f
    | .msixMask v => flushVecs (putF s f { g with msixMask := v }) f
    | .vfEnable v =>
      if f ≠ 0 then s
      else if v then { s with pci := { s.pci with vfEnable := true } }
      else { s with pci := { s.pci with vfEnable := false, fns := s.pci.fns.filter (fun e => e.1 == 0) } }
    | .numVfs n => if f ≠ 0 || s.pci.vfEnable || decide (n.toNat > 63) then s else { s with pci := { s.pci with numVfs := n.toNat } }
    | .cplTimeout v => if f ≠ 0 then s else { s with pci := { s.pci with cplTo := v.toNat } })

/-! ### BAR writes -/

/-- Change bytes of the image of queue 0 from offset `lo` on. -/
def putImage (l : List Byte) (lo : Nat) (b : List Byte) : List Byte :=
  l.zipIdx.map (fun e => if lo ≤ e.2 ∧ e.2 < lo + b.length then b.getD (e.2 - lo) 0 else e.1)

/-- The whole dwords that a write of the MSI-X table covers. -/
def msixWrite (s : State) (f : Nat) : Nat → List Byte → State
  | i, a :: b :: c :: d :: t => msixWrite (msixDword s f i (leNat [a, b, c, d])) f (i + 1) t
  | _, _ => s

/-- BAR_WRITE (R749, R753, Table 22.3, Table 22.4): doorbells, the MSI-X table, q0_image and q0_ctl are stored or acted on; every
other offset discards the write.  A poisoned write is discarded with PCIE_BAR_POISON (Table 22.6).
Log 36 (DEDUCED); 132 (DESIGN CHOICE). -/
def execBarWrite (fn : BitVec 6) (bar : BitVec 3) (offset : BitVec 32) (data : List Byte) (ep : Bool) (s : State) :
    Host.Outcome State Fault Refusal :=
  let f := fn.toNat
  let o := offset.toNat
  if !barOk s f ∨ data.isEmpty then .next s
  else if ep then .next (accept (setAer s 12) 0xC013 2 0x0A f 0xFFFF 0xFFFF (pciPay s f 12 0xFFFF o 0 0))
  else match bar.toNat with
    | 0 =>
      if o < 0x4000 then
        let w := 8 * data.length
        let v := BitVec.ofNat 32 (leNat data)
        if o % 4 ≠ 0 ∧ o % 16 < 8 then .next (doorbell s f (o / 16) o 0 (fun _ => true) id v.toNat)
        else if o % 16 / 4 = 0 then execCommandDoorbell fn (BitVec.ofNat 10 (o / 16)) w v s
        else if o % 16 / 4 = 1 then execCompletionDoorbell fn (BitVec.ofNat 10 (o / 16)) w v s
        else .next s
      else if 0x10000 ≤ o ∧ o < 0x18000 ∧ o % 4 = 0 then .next (msixWrite s f ((o - 0x10000) / 4) data)
      else .next s
    | 2 =>
      if f ≠ 0 then .next s
      else if 0x40 ≤ o ∧ o + data.length ≤ 0x70 then
        .next { s with pci := { s.pci with q0Image := putImage s.pci.q0Image (o - 0x40) data } }
      else if o = 0x70 ∧ data.length = 4 then .next (q0Ctl s (leNat data))
      else .next s
    | _ => .next s

/-! ### Host completions and errors -/

/-- HOST_READ_COMPLETION (13 R455, Table 22.6): the data of an outstanding read is delivered, or poisons its destination; one for a
read that has been given up is discarded, one for a read never made is an Unexpected Completion.
Log 6, 8 (DESIGN CHOICE); 118 (DEDUCED). -/
def execHostReadCompletion (tag : Nat) (d : HostData) (s : State) : Host.Outcome State Fault Refusal :=
  .next (if !s.pci.up then s
  else if Tbl.has s.pci.reads tag then hostAnswer s tag d
  else if tag < s.pci.nextTag then s
  else accept (setAer s 16) 0xC014 2 0x0A 0 0xFFFF 0xFFFF (pciPay s 0xFFFF 16 0xFFFF 0 0 0))

/-- HOST_COMPLETION_TIMEOUT (R745, Table 22.6). -/
def execHostCompletionTimeout (tag : Nat) (s : State) : Host.Outcome State Fault Refusal :=
  .next (hostAnswer s tag ⟨.timeout, []⟩)

/-- PCIE_UNCORRECTABLE (R758, Table 22.6): the TLP is discarded and reported through AER; an unsupported request to a BAR is
answered so and records nothing.
Log 5 (PRESUMED). -/
def execPcieUncorrectable (aerBit : Byte) (ur : Bool) (s : State) : Host.Outcome State Fault Refusal :=
  .next (if s.phase ≠ .run then s
  else if ur then setAer s 20
  else accept (setAer s aerBit.toNat) 0xC014 2 0x0A 0 0xFFFF 0xFFFF (pciPay s 0xFFFF aerBit.toNat 0xFFFF 0 0 0))

/-- PCIE_CORRECTED (R758): counted, recorded, and reported through AER's correctable status, kept from bit 32 on.
Log 5 (PRESUMED). -/
def execPcieCorrected (aerBit : Byte) (s : State) : Host.Outcome State Fault Refusal :=
  .next (if s.phase ≠ .run then s
  else
    let s := setAer { s with pci := { s.pci with cntCorr := satAdd 65535 s.pci.cntCorr 1 } } (32 + aerBit.toNat)
    record s 0xC010 1 0x0A 0 (pciPay s 0xFFFF aerBit.toNat 0xFFFF 0 0 0))

/-- HEARTBEAT_MAILBOX_REFRESH (R752): the mailbox takes the GTC.
Log 121 (DEDUCED). -/
def execHeartbeatMailboxRefresh (s : State) : Host.Outcome State Fault Refusal :=
  .next (if s.phase = .run then { s with pci := { s.pci with beat := s.gtc } } else s)

/-! ### The link -/

/-- The outstanding reads complete as timeouts (R762); then the link is down, and a read begun meanwhile was never sent.
Log 118 (DEDUCED). -/
def linkLost (s : State) : State :=
  let s := (s.pci.reads.map (·.1)).foldl (fun s n => hostAnswer s n ⟨.timeout, []⟩) s
  { s with pci := { s.pci with up := false, speed := 0, width := 0, flit := false, reads := [] },
           shut := s.shut.map (fun e => (e.1, e.2.map (fun x => { x with tag := none }))) }

/-- PCIE_LINK_DOWN (R762): for a reason that is no function reset; contexts keep running. -/
def execPcieLinkDown (s : State) : Host.Outcome State Fault Refusal :=
  .next (if !s.pci.up then s
  else linkLost (accept s 0xC002 2 0x0A 0 0xFFFF 0xFFFF (pciPay s 0xFFFF 0xFF 0xFFFF 0 0 0)))

/-- PCIE_LINK_UP (R742 to R744, R762): the link trains, unless PERST_L is asserted or the PF is in its function reset; below x16 and
64 GT/s PCIE_LINK_DEGRADED follows. -/
def execPcieLinkUp (speed : BitVec 4) (width : Byte) (flit : Bool) (s : State) : Host.Outcome State Fault Refusal :=
  .next (
  let sp := speed.toNat
  let w := width.toNat
  if s.pci.up || s.pci.perst || (getF s 0).inReset || decide (s.phase ≠ .run) || decide (sp = 0) || decide (sp > 6) ||
      !([1, 2, 4, 8, 16].contains w) then s
  else
    let s := { s with pci := { s.pci with up := true, speed := sp, width := w, flit := flit } }
    let s := record s 0xC001 0 0x0A 0 (pciPay s 0xFFFF 0xFF 0xFFFF 0 0 0)
    if sp = 6 ∧ w = 16 then s else record s 0xC003 0 0x0A 0 (pciPay s 0xFFFF 0xFF 0xFFFF 0 0 0))

/-- PCIE_TRAIN_RETRY (R766): a training has failed; it is tried again, and PCIE_LINK_DOWN is recorded with speed 0. -/
def execPcieTrainRetry (s : State) : Host.Outcome State Fault Refusal :=
  .next (if s.pci.up || s.pci.perst || (getF s 0).inReset || decide (s.phase ≠ .run) then s
  else accept s 0xC002 2 0x0A 0 0xFFFF 0xFFFF (pciPay s 0xFFFF 0xFF 0xFFFF 0 0 0))

/-! ### Function resets (R759 to R761) -/

/-- The contexts that a function reset ends: those of a VF; for the PF every context, since each VF is reset too. -/
def fnCtxs (s : State) (f : Nat) : List Nat := (liveCtxs s).filter (fun c => f == 0 || (getC s c).fn == f)

/-- A function reset is asked for: its entry, keyed to domain 1116, waits for a handler.
Log 119 (DEDUCED). -/
def askFnReset (s : State) (f code : Nat) : State :=
  let n := (fnCtxs s f).length
  let s := accept s code 4 0x0A f 0xFFFF 1116 (pciPay s f 0xFF 0xFFFF 0 n 0)
  let fs := if f = 0 then List.range 64 else [f]
  fs.foldl (fun s f => putF s f { getF s f with inReset := true }) s

/-- FLR_VF (R759). -/
def execFlrVf (fn : BitVec 6) (s : State) : Host.Outcome State Fault Refusal :=
  .next (if fn = 0 ∨ !s.pci.up ∨ !fnEnabled s fn.toNat ∨ s.phase ≠ .run then s else askFnReset s fn.toNat 0xC005)

/-- FLR_PF (R760). -/
def execFlrPf (s : State) : Host.Outcome State Fault Refusal :=
  .next (if !s.pci.up ∨ s.phase ≠ .run then s else askFnReset s 0 0xC005)

/-- A function reset of the PF with the link down for its duration (R760). -/
def hotReset (s : State) : State :=
  let s := askFnReset s 0 0xC004
  { s with pci := { s.pci with up := false, speed := 0, width := 0, flit := false } }

/-- HOT_RESET (R760). -/
def execHotReset (s : State) : Host.Outcome State Fault Refusal :=
  .next (if !s.pci.up ∨ s.phase ≠ .run then s else hotReset s)

/-- LINK_DISABLE (R760). -/
def execLinkDisable (s : State) : Host.Outcome State Fault Refusal :=
  .next (if !s.pci.up ∨ s.phase ≠ .run then s else hotReset s)

/-- PERST_L_ASSERT (R760): before release no function exists to reset. -/
def execPerstLAssert (s : State) : Host.Outcome State Fault Refusal :=
  .next (if s.pci.perst then s
  else
    let s := { s with pci := { s.pci with perst := true } }
    if s.phase = .run then hotReset s else s)

/-- PERST_L_DEASSERT (R744): the link may train. -/
def execPerstLDeassert (s : State) : Host.Outcome State Fault Refusal :=
  .next { s with pci := { s.pci with perst := false } }

/-- The handling of a function reset begins: the contexts' fence is raised (Table 16.8).
Log 119 (DEDUCED). -/
def beginFnReset (s : State) (f code : Nat) (handlers : List Nat) : Nat × State :=
  let r : ResetRun :=
    { level := 0, target := f, cause := code, ctxs := fnCtxs s f, engines := [], raised := s.gtc,
      budget := (liveVal s 8 0x11 0).toNat, drainEnd := none, completed := 0, aborted := 0, seqNo := 0, escalated := false,
      overrun := false, restarted := false, merged := false, counts := false, waiters := [], handlers := handlers,
      origin := 0xFFFF, fn := some f, snapshot := [] }
  raiseRun s r []

/-- The programs of a queue are gone with the queue. -/
def dropPrograms (s : State) (q : Nat) : State :=
  (s.progs.filter (fun e => e.2.queue == q)).foldl (fun s e =>
    { delP s e.1 with trd := { s.trd with tokenQ := dropNat s.trd.tokenQ e.1 },
                      fuses := { s.fuses with prog := s.fuses.prog.filter (fun g => g.exec != e.1) } }) s

/-- What a function reset of `f` does once its contexts have ended (R759 steps 2 to 4, R760 steps 1 to 5).
Log 119 (DEDUCED). -/
def finishFnReset (s : State) (f : Nat) : State :=
  if f ≠ 0 then
    let s := s.queues.foldl (fun s e => if e.2.valid && e.2.fn == f then disableQueue s e.1 else s) s
    let s := if s.esp.mailFn = f then { s with esp := { s.esp with mail := List.replicate 256 0 } } else s
    putF s f PciFn.init
  else
    let s := s.queues.foldl (fun s e => if e.1 = 1023 then s else destroyQueue (dropPrograms s e.1) e.1) s
    let s := { s with esp := { s.esp with mail := List.replicate 256 0 }, err := { s.err with ringFault := true } }
    let pci := { s.pci with vfEnable := false, numVfs := 0, cplTo := 0, fns := [] }
    q0Settle { s with pci := pci }

end Sys2Proof.Machine
end

