-- ==== Sys2Proof/Machine/Handling.lean ====
section
/-! DEFINITION. Handling of errors (15 R516 to R539), watchdogs (16 R542 to R545), and the end of a reset: drain, dossier, the removal
of work, the service limit (16 R553 to R573). -/

namespace Sys2Proof.Machine

/-! ### Acceptance and watchdogs -/

/-- ERROR_ACCEPT (15 R510, R516): a detected error takes the way of its severity and kind: a record for severities 0 and 1 and for
kinds H and B, an entry else; one that is complete at acceptance occupies no handler (R519).
Log 86 (DEDUCED). -/
def execErrorAccept (e : ErrEvent) (s : State) : Host.Outcome State Fault Refusal :=
  .next (
  let c := e.code.toNat
  let k := e.srcClass.toNat
  let i := e.srcIndex.toNat
  match evInfo c with
  | none => s
  | some (sev, 1) => accept s c sev k i e.ctx.toNat e.domain.toNat (padTo 35 e.payload)
  | some (sev, 5) => acceptDone s c sev k i (padTo 35 e.payload)
  | some (sev, _) => record s c sev k i (padTo 35 e.payload))

/-- ERR_QUEUE_FAULT (15 R539): recorded outside the queues; the safe state and the chip reset follow.
Log 86 (DEDUCED). -/
def execErrQueueFault (s : State) : Host.Outcome State Fault Refusal :=
  .next (if s.phase ≠ .run then s
  else settleRing (enterSafe (recordRaw s 0xD055 5 0x0B (trdIdx s) (trdPay s 0xFFFF 0xFFFF 0 0xFF 0xFFFF 0xFFFF 0xFF [])) true 0xD055))

/-- Counting resets in the hour and in the day that end now (16 R563). -/
def countHour (s : State) : Nat :=
  (s.rst.history.filter (fun t => decide (powerOnSec s < t + 3600) && decide (t ≤ powerOnSec s))).length
def countDay (s : State) : Nat :=
  (s.rst.history.filter (fun t => decide (powerOnSec s < t + 86400) && decide (t ≤ powerOnSec s))).length

/-- The payload of a class 0x6 record (16 Table 16.13).
Log 90 (DEDUCED). -/
def hangPay (s : State) (level flags cause target seq done aborted micros ctxs engines tag domain part : Nat) : List Byte :=
  pay [(1, level), (1, flags), (2, cause), (4, target), (4, seq), (2, Nat.min 65535 done), (2, Nat.min 65535 aborted), (4, micros),
       (2, ctxs), (2, engines), (4, tag), (2, domain), (1, part), (1, Nat.min 255 (countHour s)), (1, Nat.min 255 (countDay s))]

/-- CTX_WATCHDOG (16 R542 to R544): the watchdog of a context that has work, outside any fence, reaches its period.
Log 7 (DESIGN CHOICE); 90 (DEDUCED). -/
def execCtxWatchdog (ctx : BitVec 8) (s : State) : Host.Outcome State Fault Refusal :=
  .next (
  let c := ctx.toNat
  let x := getC s c
  if !x.inUse || x.ended || !hasWork s c || isFenced s c then s
  else accept s 0x6001 3 0x10 c c 0xFFFF
    (hangPay s 1 0 0 x.jobTag.toNat 0 0 0 0 0 0 x.jobTag.toNat 0xFFFF 0xFF))

/-- The engines that carry a watchdog (16 Table 16.3). -/
def watchedEngine (d : Nat) : Bool :=
  decide (d < 512) || (decide (1024 ≤ d) && decide (d < 1100)) || (decide (1102 ≤ d) && decide (d ≤ 1115))

/-- ENGINE_HANG (16 R545); hangs of Espalier count towards its failure (19 R677). -/
def execEngineHang (domain : BitVec 16) (s : State) : Host.Outcome State Fault Refusal :=
  .next (
  let d := domain.toNat
  if !watchedEngine d || domState s d != 1 || isFencedEngine s d || decide (s.phase ≠ .run) then s
  else
    let s := accept s 0x6010 4 0x10 d 0xFFFF d (hangPay s 2 0 0 d 0 0 0 0 0 0 0 d 0xFF)
    if d = 1102 then espHang s else s)

/-! ### Handling of entries -/

/-- A job-tag kill (16 R549): every context of the tag ends under one reset of level 1, and JOB_KILLED is recorded.
Log 92 (DEDUCED). -/
def killJob (s : State) (tag cause origin : Nat) (waiters : List (Nat × Nat)) (handlers : List Nat) : Nat × State :=
  let nr := (enclosedCtxs s 1 tag).length
  let (id, s) := startReset s 1 tag cause [] [] origin false false false waiters handlers
  let no := (s.rst.runs.find? (fun e => e.1 == id)).elim 0 (fun e => if e.2.level = 1 ∧ e.2.target = tag then e.2.seqNo else 0)
  let s := record s 0x6002 3 0x10 0xFFFF (hangPay s 1 0 cause tag no 0 0 0 nr 0 tag 0xFFFF 0xFF)
  (id, settleRing s)

/-- The entry of a handler is handled by a reset. -/
def byReset (s : State) (h : Nat) (x : Handling) (lv : Nat) (f : State → Nat × State) : State :=
  let put := fun (s : State) (r : Option Nat) =>
    { s with err := { s.err with handlers := Tbl.put s.err.handlers h { x with level := lv, reset := r } } }
  let (id, s) := f (put s none)
  if Tbl.has s.err.handlers h then put s (some id) else s

/-- Whether a context has been removed (15 R525). -/
def ctxRemoved (s : State) (c : Nat) : Bool := decide (c < 256) && (!(getC s c).inUse || (getC s c).ended)

/-- Whether a handler could take an entry now (15 R520): not in handling, its key held by no entry in handling; a twin's re-run
waits for a third cluster in service (11 R398).
Log 88 (DEDUCED). -/
def takeable (s : State) (e : Entry) : Bool :=
  !inHandling s.err e.id && !(s.err.handlers.any (fun h => h.2.key == e.key)) &&
    (e.code != 0x3050 || ctxRemoved s e.ctx || s.slots.all (fun k => k.2.reRunAt != some 9 || k.2.ctx != e.ctx ||
      (twinSlot s k.1).elim true (fun y => (serviceClusters s (k.1 / 512)).any (fun h => h != k.2.host && h != y.2.host))))

/-- The oldest entry of the highest-priority queue that a free handler may take, with its queue and the handler: handler 0 takes
only P0 entries; in the safe state only P0 is handled (15 R520, R528).
Log 88 (DEDUCED). -/
def nextEntry (s : State) : Option (Nat × Entry × Nat) :=
  (List.range (if s.err.safe then 1 else 4)).findSome? (fun q =>
    match (List.range 16).find? (fun h => !Tbl.has s.err.handlers h && (q == 0 || h != 0)) with
    | none => none
    | some h => ((entriesOf s.err q).find? (takeable s)).map (fun e => (q, e, h)))

/-- A handler takes an entry and begins its handling, as the chapter of its event says: a reset, an arbitration, a re-run; any other
entry is recorded and reported, and is complete.
Log 87, 88 (DEDUCED). -/
def handleEntry (s : State) (q : Nat) (e : Entry) (h : Nat) : State :=
  let x : Handling := ⟨e.id, q, e.key, e.sev, 6, s.aon, none⟩
  let slots := s.slots.filter (fun k => k.2.ctx == e.ctx && !k.2.ended)
  if ctxRemoved s e.ctx then finishEntry s e.id
  else if e.sev = 5 then byReset s h x 4 (fun s => beginReset s 4 0 e.code [] [h])
  else match e.code with
    | 0x3001 => beginArb { s with err := { s.err with handlers := Tbl.put s.err.handlers h x } } e.srcIndex
    | 0x3040 => finishEntry ((slots.filter (fun k => k.2.host == e.srcIndex && k.2.reRunAt.elim false (fun n => decide (n ≤ 3)))).foldl
        (fun s k => softRerun s k.1) s) e.id
    | 0x3050 => finishEntry ((slots.filter (fun k => k.2.reRunAt == some 9)).foldl (fun s k => twinRerun s k.1) s) e.id
    | 0x3061 => finishEntry (pairRerun s e.ctx) e.id
    | 0x4010 | 0x4020 => byReset s h x 0 (fun s => beginReset s 0 e.ctx e.code [] [h])
    | 0x6001 => byReset s h x 1 (fun s => killJob s (getC s e.ctx).jobTag.toNat e.code e.ctx [] [h])
    | 0x6010 | 0xD044 =>
      if allEngines.contains e.domain then byReset s h x 2 (fun s => beginReset s 2 e.domain e.code [] [h])
      else byReset s h x 4 (fun s => beginReset s 4 0 e.code [] [h])
    | 0xC004 | 0xC005 => byReset s h x 6 (fun s => beginFnReset s e.srcIndex e.code [h])
    | _ => finishEntry s e.id

/-- ENTRY_TAKEN (15 R520, R521): a free handler of the active Treadle takes the next entry.
Log 87 (DEDUCED). -/
def execEntryTaken (s : State) : Host.Outcome State Fault Refusal :=
  .next (if !s.trd.owner ∨ (s.phase ≠ .run ∧ s.phase ≠ .keepAlive ∧ s.phase ≠ .oosHold) then s
  else match nextEntry s with
    | none => s
    | some (q, e, h) => handleEntry s q e h)

/-- The domain of an entry's source (15 Table 15.4), for its handling at level 2; none where the source is no engine. -/
def sourceDomain (e : Entry) : Option Nat :=
  let d := if e.domain < 0xFFFF then e.domain
    else match e.srcClass with
      | 2 => e.srcIndex
      | 3 => 512 + e.srcIndex
      | 4 => 1088 + e.srcIndex
      | 5 => 1103 + e.srcIndex
      | 6 => 1024 + e.srcIndex
      | 7 => 1094 + e.srcIndex
      | 8 => 1115
      | 9 => 1102
      | _ => 0xFFFF
  if allEngines.contains d then some d else none

/-- The next level of a reset in progress and its engines (15 Table 15.7, 16 R561). -/
def nextOf (s : State) (r : ResetRun) : Nat × Nat × List Nat :=
  if r.level ≤ 1 then
    let es := (r.ctxs.flatMap (enginesOf s)).foldl insertNat []
    (2, es.headD 0xFFFF, es)
  else if r.level = 2 then
    match r.engines.map (engineOwner s) with
    | some p :: t => if t.all (· == some p) then (3, p, []) else (4, 0, [])
    | _ => if r.engines.isEmpty then (3, partOf (r.ctxs.headD 0), []) else (4, 0, [])
  else if r.level = 3 then (4, 0, [])
  else (5, 0, [])

/-- ERR_HANDLING_TIMEOUT (15 R526): an entry in handling for 1 s goes on at the next level; one of severity 2 at level 0 of its
context, or at level 2 of its source.
Log 89 (DEDUCED). -/
def execErrHandlingTimeout (handler : BitVec 4) (s : State) : Host.Outcome State Fault Refusal :=
  .next (
  let h := handler.toNat
  match s.err.handlers.find? (fun e => e.1 == h) with
  | none => s
  | some (_, x) =>
    let e := (entriesOf s.err x.queue).find? (fun e => e.id == x.entry)
    let run := (s.rst.runs.find? (fun r => x.reset == some r.1)).map (·.2)
    let (lv, tg, es) := match run, e with
      | some r, _ => nextOf s r
      | none, some e =>
        if e.ctx < 256 then (0, e.ctx, [])
        else match sourceDomain e with
          | some d => (2, d, [])
          | none => (4, 0, [])
      | none, none => (4, 0, [])
    let s := recordRaw s 0xD054 2 0x0B (trdIdx s)
      (trdPay s 0xFFFF 0xFFFF 0 0xFF 0xFFFF 0xFFFF ((if x.level < 6 then x.level else 15) * 16 + lv) [])
    settleRing (raiseLevel s h x lv tg es false))

/-! ### The drain -/

/-- The fence's drain ends (16 Table 16.5): outstanding operations of enclosed contexts stop without raising their objects, programs
waiting on them end with ABORTED_FENCED, and what was outstanding goes into the dossier.
Log 91 (DEDUCED). -/
def endDrain (s : State) (id : Nat) : State :=
  match s.rst.runs.find? (fun e => e.1 == id) with
  | none => s
  | some (_, r) =>
    if r.drainEnd.isSome then s
    else
      let ops := s.shut.flatMap (fun e => (e.2.filter (fun x => r.ctxs.contains x.ctx)).map (fun x => (e.1, x)))
      let waits := s.progs.filter (fun e => match e.2.wait with
        | .object c _ _ _ _ _ => r.ctxs.contains c
        | _ => false)
      let sec := fun (c : Nat) =>
        let l := ops.filter (fun o => c == 0xFFFF || o.2.ctx == c)
        (5, l.length, l.flatMap (fun o => dossierRec 5 16 [o.1, o.2.ctx, o.2.trig.src, o.2.trig.kind]))
      let r := { r with drainEnd := some s.gtc, aborted := r.aborted + ops.length + waits.length,
                        snapshot := r.snapshot.map (fun e => (e.1, e.2 ++ [sec e.1])) }
      let s := { s with rst := { s.rst with runs := Tbl.put s.rst.runs id r },
                        shut := s.shut.map (fun e => (e.1, e.2.filter (fun x => !r.ctxs.contains x.ctx))),
                        pci := { s.pci with reads := s.pci.reads.filter (fun e => !r.ctxs.contains e.2.ctx) } }
      let s := waits.foldl (fun s e => endWith s e.1 e.2 stAbortedFenced e.2.index none) s
      (s.shut.map (·.1)).foldl startOp s

/-- DRAIN_BUDGET_EXPIRY (16 R552, R553).
Log 7 (DESIGN CHOICE); 91 (DEDUCED). -/
def execDrainBudgetExpiry (id : Nat) (s : State) : Host.Outcome State Fault Refusal := .next (endDrain s id)

/-- RESET_OVERRUN (16 R561, R562): a reset that has not lowered its fence in time goes on at the next level. -/
def execResetOverrun (id : Nat) (s : State) : Host.Outcome State Fault Refusal :=
  .next (match s.rst.runs.find? (fun e => e.1 == id) with
  | none => s
  | some (_, r) =>
    if r.level ≥ 5 then s
    else
      let (lv, tg, es) := nextOf s r
      let s := record s 0x6021 4 0x10 0xFFFF
        (hangPay s r.level (b2n r.escalated + 2 + 4 * b2n r.restarted) r.cause r.target r.seqNo r.completed r.aborted
          ((s.gtc - r.raised) / 1000) r.ctxs.length r.engines.length 0 0xFFFF 0xFF)
      let s := if r.fn.isSome then s else { s with rst := { s.rst with runs := Tbl.del s.rst.runs id } }
      let keep := fun (l : List Nat) => if r.fn.isSome then [] else l
      let (n, s) := startReset s lv tg r.cause es r.ctxs r.origin true true (countsLevel lv)
        (if r.fn.isSome then [] else r.waiters) (keep r.handlers)
      let move := fun (e : Nat × Handling) => if (keep r.handlers).contains e.1 then (e.1, { e.2 with level := lv, reset := some n }) else e
      settleRing { s with err := { s.err with handlers := s.err.handlers.map move } })

/-! ### The dossier -/

/-- Sections as far as they fit into `room` bytes, cut at the last whole record, with how many were written and whether they were cut
(16 R556). -/
def fitSections : Nat → List (Nat × Nat × List Byte) → List Byte × Nat × Bool
  | _, [] => ([], 0, false)
  | room, (t, n, b) :: rest =>
    let hdr := fun (n len : Nat) => leBytes 2 t ++ leBytes 2 n ++ leBytes 4 len
    if 8 + b.length ≤ room then
      let (l, k, cut) := fitSections (room - 8 - b.length) rest
      (hdr n b.length ++ b ++ l, k + 1, cut)
    else if room < 8 ∨ n = 0 then ([], 0, true)
    else
      let size := b.length / n
      let m := if size = 0 then 0 else (room - 8) / size
      (hdr m (m * size) ++ b.take (m * size), 1, true)

/-- A dossier (16 Table 16.6) with its sections in the order of their types, and whether it was cut. -/
def dossierBytes (s : State) (r : ResetRun) (secs : List (Nat × Nat × List Byte)) : List Byte × Bool :=
  let (body, n, cut) := fitSections (65536 - 64) ((List.range 8).flatMap (fun t => secs.filter (fun e => e.1 == t)))
  let flags := b2n cut + 2 * b2n r.restarted + 4 * b2n r.escalated + 8 * b2n r.overrun
  let h := leBytes 4 0x444F5353 ++ leBytes 2 1 ++ leBytes 1 r.level ++ leBytes 1 flags ++ leBytes 4 (64 + body.length)
    ++ leBytes 4 r.seqNo ++ leBytes 8 r.raised ++ leBytes 8 (r.drainEnd.getD s.gtc) ++ leBytes 4 r.target ++ leBytes 2 r.cause
    ++ leBytes 2 n ++ leBytes 8 s.trd.commitSeq.toNat ++ leBytes 4 r.completed ++ leBytes 4 r.aborted ++ leBytes 4 0
  (h ++ leBytes 4 (crc32c (h ++ body)).toNat ++ body, cut)

/-- The region that a dossier goes to (16 R555): the function and the bus address; none where it is disabled or zero.
Log 93 (DEDUCED). -/
def dossierRegion (s : State) (c : Nat) : Option (Nat × Nat) :=
  match (if c < 256 then s.queues.find? (fun e => e.2.valid && e.2.ctx == c && e.2.dossier != 0) else none) with
  | some (_, d) => some (d.fn, d.dossier.toNat)
  | none =>
    let v := (liveVal s 8 0x20 0).toNat
    if v % 2 = 1 ∧ bitsOf v 51 12 ≠ 0 then some (0, bitsOf v 51 12 * 4096) else none

/-- Write the dossiers of a reset (16 R555 to R557, R572): whether one was written, whether one was cut.
Log 93 (DEDUCED). -/
def writeDossiers (r : ResetRun) (ok : Bool) : Tbl (List (Nat × Nat × List Byte)) → State → (Bool × Bool) × State
  | [], s => ((false, false), s)
  | (c, secs) :: t, s =>
    let (one, s) := match dossierRegion s c with
      | none => ((false, false), s)
      | some (f, a) =>
        let (b, cut) := dossierBytes s r secs
        if ok && hostOk s f then ((true, cut), sendHost s f a b 2 false)
        else ((false, false), accept s 0x6022 2 0x10 0xFFFF c 0xFFFF
          (hangPay s r.level 0 r.cause r.target r.seqNo r.completed r.aborted 0 r.ctxs.length r.engines.length 0 0xFFFF 0xFF))
    let (more, s) := writeDossiers r ok t s
    ((one.1 || more.1, one.2 || more.2), s)

/-! ### The end of a reset -/

/-- An enclosed engine is reinitialised in place (16 R559); `pads` are the slots that a cluster hosted, whose scratchpad is zeroed.
Log 130 (DEDUCED). -/
def reinit (pads : List (Nat × Nat)) (s : State) (d : Nat) : State :=
  let wipe := fun (s : State) (n : Nat) =>
    (pads.filter (fun e => e.2 == n)).foldl (fun s e => memWipe s (padBase 0 e.1) (padBase 0 e.1 + 0x100000)) s
  if d < 512 then wipe { s with chk := { s.chk with cls := Tbl.del s.chk.cls d } } d
  else if d < 1024 then wipe s (d - 512)
  else if 1094 ≤ d ∧ d ≤ 1099 then portDown s (d - 1094) 5
  else if d = 1102 then resetEsp s
  else if 1103 ≤ d ∧ d ≤ 1114 then putEngine s (d - 1103) []
  else s

/-- Entries whose handling a reset was are complete, and programs that waited for it go on (07 R262). -/
def settleReset (s : State) (r : ResetRun) : State :=
  let s := r.handlers.foldl (fun s h => match s.err.handlers.find? (fun e => e.1 == h) with
    | some (_, x) => finishEntry s x.entry
    | none => s) s
  r.waiters.foldl (fun s w => match getP s w.1 with
    | some p => (match p.wait with
      | .reset _ rd => wakeRd s w.1 p rd 0
      | .delete _ c rd => wakeRd (freeCtx s c) w.1 p rd 0
      | _ => s)
    | none => s) s

/-- A counting reset enters the windows (16 R563); at 3 in an hour or 6 in a day the device is out of service (R564).
Log 92 (DEDUCED). -/
def countReset (s : State) (r : ResetRun) : State :=
  if !r.counts then s
  else
    let s := { s with rst := { s.rst with history := powerOnSec s :: s.rst.history } }
    if (countHour s ≥ 3 ∨ countDay s ≥ 6) ∧ !s.rst.oos then
      let s := { s with rst := { s.rst with oos := true } }
      record s 0x6030 5 0x10 0xFFFF (hangPay s r.level 0 r.cause r.target r.seqNo 0 0 0 0 0 0 0xFFFF 0xFF)
    else s

/-- The dossiers of a reset are written and the reset counts; each dossier has its RESET_DONE, and a reset that writes none has one
(16 R549, R555, R557, R563).  `ended` are the contexts that the reset ended.
Log 92, 93 (DEDUCED). -/
def reportReset (s : State) (r : ResetRun) (ok : Bool) (ended : List Nat) : State :=
  let one := fun (s : State) (e : Tbl (List (Nat × Nat × List Byte)) × Nat × Nat) =>
    let ((done, cut), s) := writeDossiers r ok e.1 s
    let s := countReset s r
    let flags := b2n r.escalated + 2 * b2n r.overrun + 4 * b2n r.restarted + 8 * b2n done + 16 * b2n cut
      + 32 * b2n (decide (r.aborted > 0))
    let engines := if r.level ≥ 4 then allEngines.length else r.engines.length
    let tag := if r.level = 1 then r.target else if r.level = 0 then (getC s r.target).jobTag.toNat else 0
    record s 0x6020 0 0x10 e.2.1
      (hangPay s r.level flags r.cause r.target r.seqNo r.completed r.aborted ((s.gtc - r.raised) / 1000) e.2.2 engines tag
        (if r.level = 2 then r.target else 0xFFFF) (if r.level = 3 then r.target else 0xFF))
  if r.level ≤ 1 ∧ !r.snapshot.isEmpty then
    (r.snapshot.map (fun e => ([e], e.1, b2n (ended.contains e.1)))).foldl one s
  else one s (r.snapshot, if r.level = 2 then r.target else 0xFFFF, ended.length)

/-- What a chip reset clears from its "clockless logic reset" row on (16 Tables 16.10 and 16.11, 15 R537, 24 R790): contexts, queues
but 1023, settings, scratchpads, the pipeline, the links; HBM and the recorder keep their contents.
Log 41 (DEDUCED). -/
def chipCleared (s : State) : State :=
  { s with
    ctxs := [], slots := [], progs := [], queues := [(1023, keptChorno s)], chn := { s.chn with ids := keptIds s },
    sets := { regs := [], hard := s.sets.hard.filter (fun e => keptHard e.1) },
    trd := { Trd.released with standby := 0 },
    err := { Pipeline.empty with reports := s.err.reports, direct := s.err.direct, folded := s.err.folded, safe := s.err.safe },
    mem := (memWipe s hbmSize (padBase 8 0)).mem, pci := { Pcie.released with perst := s.pci.perst },
    shut := [], links := [], pairs := [], col := Collectives.init, time := { s.time with parent := 7 },
    esp := { Esp.init with late := isFleet s, charges := s.esp.charges, retired := s.esp.retired },
    rst := { s.rst with watch := [], runs := s.rst.runs.filter (fun e => decide (e.2.level ≥ 4)) } }

/-- The end of a chip reset's removal (16 Table 16.10): the SHORT test begins; of a power-cycle request, the request is driven and the
device holds (R560).  With its rails off the device goes on in KEEP-ALIVE.
Log 92 (DEDUCED). -/
def endChip (s : State) (r : ResetRun) : State :=
  let s := if r.level = 5 then
      record { s with rst := { s.rst with pcReq := true } } 0x6032 5 0x10 0xFFFF
        (hangPay s 5 0 r.cause r.target r.seqNo 0 0 0 0 0 0 0xFFFF 0xFF)
    else s
  let s := chipCleared s
  if s.phase = .keepAlive ∨ s.phase = .thermWait then
    { s with rst := { s.rst with runs := [] }, err := { s.err with safe := false } }
  else
    let s := { s with pwr := { s.pwr with domains := allOn s, domTarget := [], single := false, changing := none, quiet := none } }
    if r.level = 5 then { heldPower s .pcHeld with rst := { s.rst with runs := [] }, err := { s.err with safe := false } }
    else startTest s 2

/-- Whether a reset of chip level has been carried out and is in its start-up test.
Log 92 (DEDUCED). -/
def inTest (s : State) (r : ResetRun) : Bool :=
  decide (r.level ≥ 4) && decide (s.phase ≠ .reset) && decide (s.phase ≠ .keepAlive) && decide (s.phase ≠ .thermWait)

/-- A reset ends (16 R557, R558): its contexts end with the status of its level, its engines are reinitialised, its dossier is
written, RESET_DONE is recorded, it counts, and the fence is lowered.
Log 92 (DEDUCED). -/
def completeReset (s : State) (id : Nat) (ok : Bool) : State :=
  let s := endDrain s id
  match s.rst.runs.find? (fun e => e.1 == id) with
  | none => s
  | some (_, r) =>
    if inTest s r then s
    else
      let pads := (s.slots.filter (fun e => decide (e.2.host < 512))).map (fun e => (e.1, e.2.host))
      let ends := r.ctxs.filter (fun c => (liveCtxs s).contains c)
      let st := ends.map (fun c => (c, endStatus s r.level r.cause r.origin r.fn c))
      let s := st.foldl (fun s e => endCtx s e.1 e.2 true) s
      match r.fn with
      | some f =>
        let s := { s with rst := { s.rst with runs := Tbl.del s.rst.runs id } }
        settleRing (settleReset (finishFnReset s f) r)
      | none =>
        let s := if r.level = 2 ∨ r.level = 3 then r.engines.foldl (reinit pads) s else s
        let s := reportReset s r ok ends
        if r.level ≥ 4 then settleRing (endChip s r)
        else
          let s := settleReset { s with rst := { s.rst with runs := Tbl.del s.rst.runs id } } r
          let s := if r.level = 3 ∧ r.counts ∧ s.rst.oos then
              (startReset s 4 0 0x6030 [] [] 0xFFFF false false false [] []).2
            else s
          settleRing s

/-- RESET_COMPLETE (16 R555 to R558, R563, R564, R572); `dossierOk` says whether the host took the dossier.
Log 6 (DESIGN CHOICE); 93 (DEDUCED). -/
def execResetComplete (id : Nat) (dossierOk : Bool) (s : State) : Host.Outcome State Fault Refusal :=
  .next (completeReset s id dossierOk)

/-- What a write of 1 to RST.SERVICE[oos] does (16 R565): SERVICE_RESTORED, both windows empty, and a chip reset that does not
count; while the flag is clear it changes nothing.
Log 94 (DEDUCED). -/
def clearOos (s : State) : State :=
  if !s.rst.oos then s
  else
    let s := { s with rst := { s.rst with oos := false, history := [] } }
    let s := record s 0x6031 0 0x10 0xFFFF (hangPay s 4 0 0 0 0 0 0 0 0 0 0 0xFFFF 0xFF)
    settleRing (startReset s 4 0 0x6031 [] [] 0xFFFF false false false [] []).2

/-- OOS_CLEAR (16 R565, 06 R213): the write is queue 1023's alone; from any other queue it ends the program with PRIVILEGE.
Log 94 (DEDUCED). -/
def execOosClear (slot : BitVec 6) (s : State) : Host.Outcome State Fault Refusal :=
  .next (onProg s slot (fun p =>
    if p.queue ≠ 1023 then endAt s slot p stPrivilege else clearOos (retire (jot s) slot p)))

end Sys2Proof.Machine
end

