-- ==== Sys2Proof/WellFormed.lean ====
section
/-! DEFINITION. Well-formed commands: the operands name what exists, and an instruction's word is defined (07 R245, R247, 10 R343,
R344). -/

namespace Sys2Proof

/-- A guard of a per-thread instruction that 10 R343 defines. -/
def T3.per (f : T3) : Bool := f.guard != 8
/-- A guard of a per-thread instruction that 10 R343 defines. -/
def TI.per (f : TI) : Bool := f.guard != 8
/-- Even registers only (10 R368). -/
def T3.even (f : T3) : Bool := f.rd.toNat % 2 == 0 && f.ra.toNat % 2 == 0 && f.rb.toNat % 2 == 0 && f.rc.toNat % 2 == 0
/-- The mod field of a load or store (10 R350): bit 0 of a load only, scope 0 to 2, bits [7:5] clear. -/
def memModOk (load : Bool) (m : BitVec 8) : Bool := (load || !m.getLsbD 0) && decide (m.toNat / 8 % 4 < 3) && decide (m.toNat < 32)
/-- A setting as a defined word names it: a block of 07 Table 7.3, and the index register 0 where the indexed flag is clear. -/
def SetRef.ok (x : SetRef) : Bool := decide (x.blk.toNat ≤ 16) && (x.indexed || x.rb == 0)

/-- Whether a command is well-formed. -/
def Instr.wf : Instr → Bool
  | .vaux33Rise _ _ => true
  | .keepAliveReached _ _ => true
  | .vaux33Loss => true
  | .pwrEnAssert _ => true
  | .thermalWaitEnd => true
  | .pwrEnDeassert => true
  | .pwrWarn => true
  | .pwrWarnCleared => true
  | .vin12Undervoltage => true
  | .railFault _ => true
  | .capMeterSample _ _ => true
  | .domainSwitchComplete domain _ => decide (domain ≤ 1120)
  | .domainSwitchFail domain => decide (domain ≤ 1120)
  | .stateChange => true
  | .naturalIdleCalibration _ => true
  | .forcedQuietWindow => true
  | .quietWindowEnd => true
  | .estimateStale _ => true
  | .sensorMeasure zone _ => decide (zone ≤ 66)
  | .sensorConversionTimeout sensor => decide (sensor ≤ 596)
  | .sensorReferenceCheck sensor _ => decide (sensor ≤ 596)
  | .fastCadenceEnd zone => decide (zone ≤ 66)
  | .tripVote voter => decide (voter.toNat < 3)
  | .tripVoterBroken voter => decide (voter.toNat < 3)
  | .thermalBlockFault => true
  | .tbRefLost => true
  | .bypassOpenFail axis => decide (axis.toNat < 3)
  | .bypassCloseFail axis => decide (axis.toNat < 3)
  | .extestEnter axis => decide (axis.toNat < 3)
  | .extestExit axis => decide (axis.toNat < 3)
  | .scanReq => true
  | .scanEnabled => true
  | .bistPhaseEnd _ _ => true
  | .bistPhaseTimeout domain => decide (domain ≤ 1120)
  | .startUpTestEnd _ => true
  | .bistReportRepeat => true
  | .fuseWordComplete => true
  | .commandDoorbell _ _ _ _ => true
  | .completionDoorbell _ _ _ _ => true
  | .entryFetch _ _ => true
  | .programStart _ _ => true
  | .programBudget _ => true
  | .completionRecordIssue _ => true
  | .trdLockstepMismatch _ => true
  | .trdHeartbeatLost _ => true
  | .treadleMemoryUe _ => true
  | .standbyLost => true
  | .standbyHot _ => true
  | .treadleRecoveryTestEnd _ => true
  | .treadleCheckpoint => true
  | .commitTokenGrant _ => true
  | .commitPrepareTimeout _ => true
  | .hardenedRefresh _ _ _ => true
  | .settingParity _ _ _ _ => true
  | .add _ _ _ _ => true
  | .sub _ _ _ _ => true
  | .mul _ _ _ _ => true
  | .mulhu _ _ _ _ => true
  | .divu _ _ _ _ => true
  | .remu _ _ _ _ => true
  | .and _ _ _ _ => true
  | .or _ _ _ _ => true
  | .xor _ _ _ _ => true
  | .shl _ _ _ _ => true
  | .shr _ _ _ _ => true
  | .sar _ _ _ _ => true
  | .slt _ _ _ _ => true
  | .sltu _ _ _ _ => true
  | .seq _ _ _ _ => true
  | .addi _ _ _ _ => true
  | .andi _ _ _ _ => true
  | .ori _ _ _ _ => true
  | .xori _ _ _ _ => true
  | .shli _ _ _ imm => decide (imm.toNat < 64)
  | .shri _ _ _ imm => decide (imm.toNat < 64)
  | .sari _ _ _ imm => decide (imm.toNat < 64)
  | .movi _ _ _ => true
  | .ldih _ _ _ _ => true
  | .gtc _ _ => true
  | .beq _ _ _ _ => true
  | .bne _ _ _ _ => true
  | .blt _ _ _ _ => true
  | .bge _ _ _ _ => true
  | .bltu _ _ _ _ => true
  | .bgeu _ _ _ _ => true
  | .jal _ _ _ => true
  | .jr _ _ _ => true
  | .endProg _ => true
  | .ld _ _ _ _ _ => true
  | .lw _ _ _ _ _ => true
  | .st _ _ _ _ => true
  | .sw _ _ _ _ => true
  | .rds _ _ set => set.ok
  | .rdst _ _ set => set.ok
  | .stage _ _ set => set.ok
  | .wri _ _ set => set.ok
  | .check _ _ => true
  | .commit _ _ imm => decide (imm.toNat < 2)
  | .abandon _ => true
  | .ctxsel _ _ => true
  | .ctxnew _ _ _ _ imm => decide (imm.toNat < 64)
  | .ctxdel _ _ _ => true
  | .qcreate _ _ _ _ _ => true
  | .qctlEnable _ _ _ => true
  | .qctlDisable _ _ _ => true
  | .qctlStop _ _ _ => true
  | .qctlDestroy _ _ _ => true
  | .gseed _ _ _ => true
  | .launch _ _ _ _ => true
  | .sctr _ _ => true
  | .sset _ _ _ => true
  | .syadd _ _ _ _ => true
  | .syset _ _ _ => true
  | .syrd _ _ _ => true
  | .wait _ _ _ _ imm => decide (0 < imm.toNat % 2 ^ 31)
  | .waitWake _ => true
  | .waitTimeout _ => true
  | .fence _ => true
  | .resetContext _ _ _ => true
  | .resetJobTag _ _ _ => true
  | .resetEngine _ _ _ => true
  | .resetPartition _ _ _ => true
  | .resetChip _ _ _ => true
  | .resetPowerCycle _ _ _ => true
  | .pwrdom _ _ _ imm => decide (imm.toNat < 3)
  | .acct _ imm => decide (imm.toNat < 2)
  | .tsnap _ _ => true
  | .binst _ _ _ _ _ => true
  | .bkey _ imm => decide (imm.toNat < 4)
  | .bdeep _ _ _ => true
  | .cstate _ _ _ imm _ => decide (imm.toNat < 4)
  | .fkey _ _ _ _ imm _ => decide (1 ≤ imm.toNat ∧ imm.toNat < 4)
  | .fcop _ _ _ => true
  | .log _ _ _ imm _ => decide (imm.toNat < 6)
  | .send _ _ _ _ _ => true
  | .launchStart _ => true
  | .slotSwitch _ _ _ => true
  | .stepCommitPoint _ => true
  | .xlatDone _ => true
  | .threadEnd _ f => f.per && f.rd == 0 && f.ra == 0 && f.rb == 0 && f.rc == 0 && f.mod == 0
  | .nop _ f => f.per && f.rd == 0 && f.ra == 0 && f.rb == 0 && f.rc == 0 && f.mod == 0
  | .bars _ f => f.guard == 0 && f.rd == 0 && f.ra == 0 && f.rb == 0 && f.rc == 0 && f.mod == 0
  | .threadAdd _ f => f.per && f.rc == 0 && f.mod == 0
  | .threadSub _ f => f.per && f.rc == 0 && f.mod == 0
  | .threadMul _ f => f.per && f.rc == 0 && f.mod == 0
  | .threadMulhu _ f => f.per && f.rc == 0 && f.mod == 0
  | .threadDivu _ f => f.per && f.rc == 0 && f.mod == 0
  | .threadRemu _ f => f.per && f.rc == 0 && f.mod == 0
  | .threadAnd _ f => f.per && f.rc == 0 && f.mod == 0
  | .threadOr _ f => f.per && f.rc == 0 && f.mod == 0
  | .threadXor _ f => f.per && f.rc == 0 && f.mod == 0
  | .threadShl _ f => f.per && f.rc == 0 && f.mod == 0
  | .threadShr _ f => f.per && f.rc == 0 && f.mod == 0
  | .threadSar _ f => f.per && f.rc == 0 && f.mod == 0
  | .min _ f => f.per && f.rc == 0 && f.mod == 0
  | .max _ f => f.per && f.rc == 0 && f.mod == 0
  | .minu _ f => f.per && f.rc == 0 && f.mod == 0
  | .maxu _ f => f.per && f.rc == 0 && f.mod == 0
  | .threadAddi _ f => f.per && f.mod == 0
  | .threadAndi _ f => f.per && f.mod == 0
  | .threadOri _ f => f.per && f.mod == 0
  | .threadXori _ f => f.per && f.mod == 0
  | .threadShli _ f => f.per && f.mod == 0 && decide (f.imm.toNat < 64)
  | .threadShri _ f => f.per && f.mod == 0 && decide (f.imm.toNat < 64)
  | .threadSari _ f => f.per && f.mod == 0 && decide (f.imm.toNat < 64)
  | .threadMovi _ f => f.per && f.mod == 0 && f.ra == 0
  | .threadLdih _ f => f.per && f.mod == 0
  | .sel _ f => f.per && decide (f.rc.toNat < 8) && f.mod == 0
  | .setp _ f => f.per && decide (f.rd.toNat < 8) && f.rc == 0 && decide (f.mod.toNat < 6)
  | .pand _ f => f.per && decide (f.rd.toNat < 8) && decide (f.ra.toNat < 8) && decide (f.rb.toNat < 8) && f.rc == 0 && f.mod == 0
  | .por _ f => f.per && decide (f.rd.toNat < 8) && decide (f.ra.toNat < 8) && decide (f.rb.toNat < 8) && f.rc == 0 && f.mod == 0
  | .pxor _ f => f.per && decide (f.rd.toNat < 8) && decide (f.ra.toNat < 8) && decide (f.rb.toNat < 8) && f.rc == 0 && f.mod == 0
  | .pnot _ f => f.per && decide (f.rd.toNat < 8) && decide (f.ra.toNat < 8) && f.rb == 0 && f.rc == 0 && f.mod == 0
  | .pmov _ f => f.per && decide (f.rd.toNat < 8) && f.rb == 0 && f.rc == 0 && f.mod == 0
  | .mif _ f => f.guard == 0 && f.rd == 0 && decide (f.ra.toNat < 8) && f.rb == 0 && f.rc == 0 && decide (f.mod.toNat < 2)
  | .melse _ f => f.guard == 0 && f.rd == 0 && f.ra == 0 && f.rb == 0 && f.rc == 0 && f.mod == 0
  | .mend _ f => f.guard == 0 && f.rd == 0 && f.ra == 0 && f.rb == 0 && f.rc == 0 && f.mod == 0
  | .mbrk _ f => f.guard == 0 && f.rd == 0 && decide (f.ra.toNat < 8) && f.rb == 0 && f.rc == 0 && f.mod == 0
  | .mget _ f => f.guard == 0 && decide (f.rd.toNat < 8) && f.ra == 0 && f.rb == 0 && f.rc == 0 && f.mod == 0
  | .br _ f => f.pk == 0
  | .bany _ _ => true
  | .ball _ _ => true
  | .bnone _ _ => true
  | .call _ f => f.pk == 0
  | .ret _ f => f.pk == 0 && f.off == 0
  | .ldB _ f _ => f.per && memModOk true f.mod
  | .ldH _ f _ => f.per && memModOk true f.mod
  | .ldW _ f _ => f.per && memModOk true f.mod
  | .ldD _ f _ => f.per && memModOk true f.mod
  | .ldQ _ f _ => f.per && memModOk true f.mod && f.rd.toNat % 2 == 0
  | .stB _ f _ => f.per && memModOk false f.mod
  | .stH _ f _ => f.per && memModOk false f.mod
  | .stW _ f _ => f.per && memModOk false f.mod
  | .stD _ f _ => f.per && memModOk false f.mod
  | .stQ _ f _ => f.per && memModOk false f.mod && f.rd.toNat % 2 == 0
  | .atom _ f _ => f.per && decide (f.mod.toNat < 32) && decide (f.mod.toNat % 16 < 10) && (f.mod.toNat % 16 == 9 || f.rc == 0)
  | .atomf _ f _ => f.per && decide (f.mod.toNat < 4) && f.rc == 0
  | .threadFence _ f => f.per && f.rd == 0 && f.ra == 0 && f.rb == 0 && f.rc == 0 && decide (f.mod.toNat < 3)
  | .vadd _ f => f.per && f.even && decide (f.mod.toNat < 4) && f.rc == 0
  | .vsub _ f => f.per && f.even && decide (f.mod.toNat < 4) && f.rc == 0
  | .vmul _ f => f.per && f.even && decide (f.mod.toNat < 4) && f.rc == 0
  | .vfma _ f => f.per && f.even && decide (f.mod.toNat < 4)
  | .vmin _ f => f.per && f.even && decide (f.mod.toNat < 4) && f.rc == 0
  | .vmax _ f => f.per && f.even && decide (f.mod.toNat < 4) && f.rc == 0
  | .vabs _ f => f.per && f.even && decide (f.mod.toNat < 4) && f.rb == 0 && f.rc == 0
  | .vneg _ f => f.per && f.even && decide (f.mod.toNat < 4) && f.rb == 0 && f.rc == 0
  | .vcvt _ f => f.per && f.even && decide (f.mod.toNat % 8 < 5) && decide (f.mod.toNat / 8 < 5) && f.rb == 0 && f.rc == 0
  | .viadd _ f => f.per && f.even && f.mod == 4 && f.rc == 0
  | .vimul _ f => f.per && f.even && f.mod == 4 && f.rc == 0
  | .vimad _ f => f.per && f.even && f.mod == 4
  | .vand _ f => f.per && f.even && decide (f.mod.toNat < 5) && f.rc == 0
  | .vor _ f => f.per && f.even && decide (f.mod.toNat < 5) && f.rc == 0
  | .vxor _ f => f.per && f.even && decide (f.mod.toNat < 5) && f.rc == 0
  | .tld _ f _ => decide (f.mod.toNat % 16 < 9) && decide (f.mod.toNat < 32) && f.ma == 0 && f.mb == 0
  | .tst _ f _ => decide (2 ≤ f.mod.toNat) && decide (f.mod.toNat < 9) && f.md == 0 && f.mb == 0
  | .tmma _ f => f.mod == 0 && f.gb == 0
  | .tzero _ f => decide (f.mod.toNat < 2) && f.ma == 0 && f.mb == 0 && f.ga == 0 && f.gb == 0
  | .stepBegin _ f _ => f.guard == 0 && f.rd == 0 && f.rb == 0 && f.rc == 0 && f.mod == 0
  | .stepCommit _ f => f.guard == 0 && f.rd == 0 && f.ra == 0 && f.rb == 0 && f.rc == 0 && f.mod == 0
  | .stepCtr _ f => f.guard == 0 && f.ra == 0 && f.rb == 0 && f.rc == 0 && f.mod == 0
  | .ckassert _ f => f.per && f.rd == 0 && f.mod == 0
  | .ckstat _ f => f.per && f.ra == 0 && f.mod == 0
  | .rng _ f => f.per && f.rc == 0 && f.mod == 0 && f.rd.toNat % 2 == 0
  | .syAdd _ f => f.per && f.rc == 0 && f.mod == 0
  | .syRd _ f => f.per && f.rb == 0 && f.rc == 0 && f.mod == 0
  | .syWait _ f => f.per && f.rd == 0 && f.rc == 0 && f.mod == 0
  | .syWaitRelease _ => true
  | .trigArm _ f _ => f.per && f.rb == 0 && f.rc == 0 && f.mod == 0
  | .triggeredOpComplete engine _ => decide (engine < 18)
  | .tileCheckComplete _ _ _ _ _ _ => true
  | .arbiterResult _ _ _ _ _ => true
  | .repeatResult _ _ => true
  | .patrolScrubRead stack _ _ => decide (stack.toNat < 6)
  | .scrubLate stack => decide (stack.toNat < 6)
  | .scrubWindowExpiry stack => decide (stack.toNat < 6)
  | .scratchpadScrub _ granule _ => decide (granule < 32768)
  | .burlingOffer _ => true
  | .itemEnd _ _ => true
  | .sliceEnd _ => true
  | .itemSkipped _ => true
  | .shareShortfall _ => true
  | .deepRunStart => true
  | .deepRunEnd _ _ _ => true
  | .packVerifyEnd => true
  | .burlingStoreUe _ => true
  | .errorAccept _ => true
  | .entryTaken => true
  | .errHandlingTimeout _ => true
  | .errQueueFault => true
  | .ctxWatchdog _ => true
  | .engineHang _ => true
  | .collectiveTimeout _ _ => true
  | .drainBudgetExpiry _ => true
  | .resetOverrun _ => true
  | .resetComplete _ _ => true
  | .oosClear _ => true
  | .flitGroupReceive port _ => decide (port.toNat < 6)
  | .replayTimeout port => decide (port.toNat < 6)
  | .alignSend port => decide (port.toNat < 6)
  | .timeFlitSend port => decide (port.toNat < 6)
  | .timeFlitReceive port _ => decide (port.toNat < 6)
  | .timeBoundExpiry => true
  | .linkTrainStart port => decide (port.toNat < 6)
  | .linkTrained port _ => decide (port.toNat < 6)
  | .linkTrainTimeout port => decide (port.toNat < 6)
  | .linkTrainRetry port => decide (port.toNat < 6)
  | .linkDown port _ => decide (port.toNat < 6)
  | .linkKeepExpiry port => decide (port.toNat < 6)
  | .linkOpReceive port _ _ => decide (port.toNat < 6)
  | .linkOpReplyReceive port _ _ => decide (port.toNat < 6)
  | .pair h _ _ => decide (h.port.toNat < 6)
  | .digest h _ _ _ => decide (h.port.toNat < 6)
  | .locate h _ _ => decide (h.port.toNat < 6)
  | .pairEnd h => decide (h.port.toNat < 6)
  | .pleachPeerLost _ => true
  | .formSend _ _ => true
  | .form port _ => decide (port.toNat < 6)
  | .collectiveFetch _ _ => true
  | .collectiveGrant h _ _ => decide (h.port.toNat < 6)
  | .pieceReceive h _ => decide (h.port.toNat < 6)
  | .chunkReceive h _ => decide (h.port.toNat < 6)
  | .abort h _ => decide (h.port.toNat < 6)
  | .barrierRelease _ _ => true
  | .collectiveEnd _ _ _ => true
  | .espCommandFetch _ => true
  | .model _ => true
  | .library _ => true
  | .map _ => true
  | .epochSwap => true
  | .stop _ => true
  | .cycleOpen => true
  | .batch _ => true
  | .batchComplete _ => true
  | .doubleCheckComplete _ _ => true
  | .cycleClose => true
  | .stopValidationComplete _ _ _ _ => true
  | .planningDeadline => true
  | .epochExpiry => true
  | .espStopNow _ => true
  | .recordProgramStep _ _ => true
  | .eraseComplete _ _ => true
  | .rateWindowClose _ => true
  | .powerOnSecondsStore => true
  | .freezeStart _ _ => true
  | .freezeEnd _ _ => true
  | .freezeLimitExpiry => true
  | .readPtrWrite _ _ => true
  | .readDataAutoinc _ _ => true
  | .perfStart _ _ => true
  | .perfStop _ _ => true
  | .perfZero _ _ => true
  | .injectArm _ _ => true
  | .injectDisarm _ _ => true
  | .beacon _ => true
  | .deviceSlot _ => true
  | .programSeg _ _ _ _ data => decide (1 ≤ data.length) && decide (data.length ≤ 256)
  | .programAssemblyTimeout => true
  | .grant _ _ action => decide (action.toNat ≤ 1)
  | .readSetting _ _ _ words => decide (1 ≤ words.toNat) && decide (words.toNat ≤ 7)
  | .recRead _ region _ => decide (region.toNat ≤ 3)
  | .packData _ _ _ data => decide (data.length = 256)
  | .packQuery _ _ => true
  | .holdReport => true
  | .page _ _ => true
  | .clearFaults _ => true
  | .capability => true
  | .statusByte => true
  | .statusWord => true
  | .statusInput => true
  | .statusTemperature => true
  | .statusCml => true
  | .readVin _ => true
  | .readIin => true
  | .readTemperature1 => true
  | .readTemperature2 => true
  | .readPin => true
  | .pmbusRevision => true
  | .mfrId => true
  | .mfrModel => true
  | .mfrRevision => true
  | .mfrSerial => true
  | .mfrDevStatus => true
  | .mfrBistResult => true
  | .mfrRecPtr region _ _ => decide (region.toNat ≤ 3)
  | .mfrRecRead => true
  | .alertResponse => true
  | .perstLAssert => true
  | .perstLDeassert => true
  | .flrVf _ => true
  | .flrPf => true
  | .hotReset => true
  | .linkDisable => true
  | .pcieLinkDown => true
  | .pcieLinkUp _ _ _ => true
  | .pcieTrainRetry => true
  | .q0Create => true
  | .q0Reenable => true
  | .barWrite _ _ _ _ _ => true
  | .hostReadCompletion _ _ => true
  | .hostCompletionTimeout _ => true
  | .pcieUncorrectable _ _ => true
  | .msixUnmask _ _ => true
  | .heartbeatMailboxRefresh => true
  | .vin12Loss => true
  | .powerCycleMark => true
  | .railsInRange => true
  | .tripVoteCleared voter => decide (voter.toNat < 3)
  | .takeoverComplete => true
  | .configurationWrite _ _ => true
  | .pcieCorrected _ => true
  | .undefinedInstruction _ _ => true
  | .illegalInstr _ _ => true

end Sys2Proof
end

