-- ==== Sys2Proof/Machine/Operands.lean ====
section
/-! DEFINITION. The instruction words of Hexah (07 R244 to R247, Tables 7.2 to 7.15) and of threads (10 R342 to R345, Tables 10.2 to
10.11): their operand forms, which words are undefined, and an encoder beside each decoder. -/

namespace Sys2Proof.Machine

/-- An instruction, where its word is defined. -/
def grd (c : Bool) (i : Instr) : Option Instr := if c then some i else none

/-! ### Hexah words -/

/-- The fields of a Hexah word: opcode [63:56], rd [55:51], ra [50:46], rb [45:41], bits [40:32] and bits [31:0] (07 Table 7.2). -/
structure HexWord where
  op  : BitVec 8
  rd  : BitVec 5
  ra  : BitVec 5
  rb  : BitVec 5
  mid : BitVec 9
  low : BitVec 32
deriving DecidableEq, Repr

/-- The fields of a word. -/
def HexWord.of (w : Word64) : HexWord :=
  ⟨w.extractLsb' 56 8, w.extractLsb' 51 5, w.extractLsb' 46 5, w.extractLsb' 41 5, w.extractLsb' 32 9, w.extractLsb' 0 32⟩
/-- The word of fields. -/
def HexWord.word (h : HexWord) : Word64 := h.op ++ h.rd ++ h.ra ++ h.rb ++ h.mid ++ h.low

/-- The registers that an instruction does not use are 0 (07 R245). -/
def HexWord.unused (h : HexWord) (rd ra rb : Bool) : Bool := (rd || h.rd == 0) && (ra || h.ra == 0) && (rb || h.rb == 0)
/-- Format R: bits [40:0] are 0. -/
def HexWord.okR (h : HexWord) (rd ra rb : Bool) : Bool := h.unused rd ra rb && h.mid == 0 && h.low == 0
/-- Formats I and B: bits [40:32] are 0. -/
def HexWord.okI (h : HexWord) (rd ra rb : Bool) : Bool := h.unused rd ra rb && h.mid == 0
/-- The setting that a word of format S names. -/
def HexWord.set (h : HexWord) : SetRef :=
  ⟨h.mid.extractLsb' 4 5, h.mid.extractLsb' 0 4 ++ h.low.extractLsb' 24 8, h.low.getLsbD 23, h.rb⟩
/-- Format S: bits [22:0] are 0. -/
def HexWord.okS (h : HexWord) (rd ra : Bool) : Bool :=
  h.unused rd ra true && h.low.extractLsb' 0 23 == 0

/-- The instruction that the opcode of a Hexah word names, its zero fields zero. -/
def hexahForm (slot : BitVec 6) (env : Env) (test : Bool) (w : Word64) : Option Instr :=
  let h := HexWord.of w
  match h.op.toNat with
  | 0x1 => grd (h.okR false false false) (.endProg slot)
  | 0x2 => grd (h.okR true false false) (.gtc slot h.rd)
  | 0x10 => grd (h.okR true true true) (.add slot h.rd h.ra h.rb)
  | 0x11 => grd (h.okR true true true) (.sub slot h.rd h.ra h.rb)
  | 0x12 => grd (h.okR true true true) (.mul slot h.rd h.ra h.rb)
  | 0x13 => grd (h.okR true true true) (.mulhu slot h.rd h.ra h.rb)
  | 0x14 => grd (h.okR true true true) (.divu slot h.rd h.ra h.rb)
  | 0x15 => grd (h.okR true true true) (.remu slot h.rd h.ra h.rb)
  | 0x16 => grd (h.okR true true true) (.and slot h.rd h.ra h.rb)
  | 0x17 => grd (h.okR true true true) (.or slot h.rd h.ra h.rb)
  | 0x18 => grd (h.okR true true true) (.xor slot h.rd h.ra h.rb)
  | 0x19 => grd (h.okR true true true) (.shl slot h.rd h.ra h.rb)
  | 0x1a => grd (h.okR true true true) (.shr slot h.rd h.ra h.rb)
  | 0x1b => grd (h.okR true true true) (.sar slot h.rd h.ra h.rb)
  | 0x1c => grd (h.okR true true true) (.slt slot h.rd h.ra h.rb)
  | 0x1d => grd (h.okR true true true) (.sltu slot h.rd h.ra h.rb)
  | 0x1e => grd (h.okR true true true) (.seq slot h.rd h.ra h.rb)
  | 0x20 => grd (h.okI true true false) (.addi slot h.rd h.ra h.low)
  | 0x21 => grd (h.okI true true false) (.andi slot h.rd h.ra h.low)
  | 0x22 => grd (h.okI true true false) (.ori slot h.rd h.ra h.low)
  | 0x23 => grd (h.okI true true false) (.xori slot h.rd h.ra h.low)
  | 0x24 => grd (h.okI true true false) (.shli slot h.rd h.ra h.low)
  | 0x25 => grd (h.okI true true false) (.shri slot h.rd h.ra h.low)
  | 0x26 => grd (h.okI true true false) (.sari slot h.rd h.ra h.low)
  | 0x27 => grd (h.okI true false false) (.movi slot h.rd h.low)
  | 0x28 => grd (h.okI true true false) (.ldih slot h.rd h.ra h.low)
  | 0x30 => grd (h.okI false true true) (.beq slot h.ra h.rb h.low)
  | 0x31 => grd (h.okI false true true) (.bne slot h.ra h.rb h.low)
  | 0x32 => grd (h.okI false true true) (.blt slot h.ra h.rb h.low)
  | 0x33 => grd (h.okI false true true) (.bge slot h.ra h.rb h.low)
  | 0x34 => grd (h.okI false true true) (.bltu slot h.ra h.rb h.low)
  | 0x35 => grd (h.okI false true true) (.bgeu slot h.ra h.rb h.low)
  | 0x36 => grd (h.okI true false false) (.jal slot h.rd h.low)
  | 0x37 => grd (h.okR true true false) (.jr slot h.rd h.ra)
  | 0x40 => grd (h.okI true true false) (.ld slot h.rd h.ra h.low env)
  | 0x41 => grd (h.okI true true false) (.lw slot h.rd h.ra h.low env)
  | 0x42 => grd (h.okI false true true) (.st slot h.ra h.rb h.low)
  | 0x43 => grd (h.okI false true true) (.sw slot h.ra h.rb h.low)
  | 0x50 => grd (h.okS true false) (.rds slot h.rd h.set)
  | 0x51 => grd (h.okS true false) (.rdst slot h.rd h.set)
  | 0x52 => grd (h.okS false true) (.stage slot h.ra h.set)
  | 0x53 => grd (h.okS false true) (.wri slot h.ra h.set)
  | 0x54 => grd (h.okR true false false) (.check slot h.rd)
  | 0x55 => grd (h.okI true false false) (.commit slot h.rd h.low)
  | 0x56 => grd (h.okR false false false) (.abandon slot)
  | 0x60 => grd (h.okR false true false) (.ctxsel slot h.ra)
  | 0x61 => grd (h.okI true true true) (.ctxnew slot h.rd h.ra h.rb h.low)
  | 0x62 => grd (h.okR true true false) (.ctxdel slot h.rd h.ra)
  | 0x63 => grd (h.okR true true true) (.qcreate slot h.rd h.ra h.rb env)
  | 0x64 => if h.okI true true false then (match h.low.toNat with
      | 0 => some (.qctlEnable slot h.rd h.ra)
      | 1 => some (.qctlDisable slot h.rd h.ra)
      | 2 => some (.qctlStop slot h.rd h.ra)
      | 3 => some (.qctlDestroy slot h.rd h.ra)
      | _ => none) else none
  | 0x65 => grd (h.okR false true true) (.gseed slot h.ra h.rb)
  | 0x70 => grd (h.okR true true false) (.launch slot h.rd h.ra env)
  | 0x71 => grd (h.okR true false false) (.sctr slot h.rd)
  | 0x72 => grd (h.okR true true false) (.sset slot h.rd h.ra)
  | 0x73 => grd (h.okR true true true) (.syadd slot h.rd h.ra h.rb)
  | 0x74 => grd (h.okR false true true) (.syset slot h.ra h.rb)
  | 0x75 => grd (h.okR true true false) (.syrd slot h.rd h.ra)
  | 0x76 => grd (h.okI true true true) (.wait slot h.rd h.ra h.rb h.low)
  | 0x80 => grd (h.okR false false false) (.fence slot)
  | 0x81 => if h.okI true true false then (match h.low.toNat with
      | 0 => some (.resetContext slot h.rd h.ra)
      | 1 => some (.resetJobTag slot h.rd h.ra)
      | 2 => some (.resetEngine slot h.rd h.ra)
      | 3 => some (.resetPartition slot h.rd h.ra)
      | 4 => some (.resetChip slot h.rd h.ra)
      | 5 => some (.resetPowerCycle slot h.rd h.ra)
      | _ => none) else none
  | 0x90 => grd (h.okI true true false) (.pwrdom slot h.rd h.ra h.low)
  | 0x91 => grd (h.okI false false false) (.acct slot h.low)
  | 0x92 => grd (h.okR false true false) (.tsnap slot h.ra)
  | 0xa0 => grd (h.okR true true true) (.binst slot h.rd h.ra h.rb env)
  | 0xa1 => grd (h.okI false false false) (.bkey slot h.low)
  | 0xa2 => grd (h.okR true true false) (.bdeep slot h.rd h.ra)
  | 0xa3 => grd (h.okI true true false) (.cstate slot h.rd h.ra h.low test)
  | 0xa8 => grd (h.okI true true true) (.fkey slot h.rd h.ra h.rb h.low env)
  | 0xa9 => grd (h.okR true true false) (.fcop slot h.rd h.ra)
  | 0xb0 => grd (h.okI false true true) (.log slot h.ra h.rb h.low env)
  | 0xb1 => grd (h.okR true true true) (.send slot h.rd h.ra h.rb env)
  | _ => none

/-- The instruction of a Hexah word in slot `slot`; none for an undefined word (07 R245).  `env` and `test` are what the device
observes where the instruction reads memory or tests a cluster. -/
def decodeHexah (slot : BitVec 6) (env : Env) (test : Bool) (w : Word64) : Option Instr :=
  (hexahForm slot env test w).filter Instr.wf

/-- A word of format R. -/
def hexR (op : BitVec 8) (rd ra rb : BitVec 5) : Word64 := HexWord.word ⟨op, rd, ra, rb, 0, 0⟩
/-- A word of format I or B. -/
def hexI (op : BitVec 8) (rd ra rb : BitVec 5) (i : BitVec 32) : Word64 := HexWord.word ⟨op, rd, ra, rb, 0, i⟩
/-- A word of format S. -/
def hexS (op : BitVec 8) (rd ra : BitVec 5) (x : SetRef) : Word64 :=
  HexWord.word ⟨op, rd, ra, x.rb, x.blk ++ x.idx.extractLsb' 8 4,
    x.idx.extractLsb' 0 8 ++ BitVec.ofBool x.indexed ++ 0#23⟩

/-- The word of a Hexah instruction; none for another command. -/
def encodeHexah : Instr → Option Word64
  | .add _ rd ra rb => some (hexR 0x10 rd ra rb)
  | .sub _ rd ra rb => some (hexR 0x11 rd ra rb)
  | .mul _ rd ra rb => some (hexR 0x12 rd ra rb)
  | .mulhu _ rd ra rb => some (hexR 0x13 rd ra rb)
  | .divu _ rd ra rb => some (hexR 0x14 rd ra rb)
  | .remu _ rd ra rb => some (hexR 0x15 rd ra rb)
  | .and _ rd ra rb => some (hexR 0x16 rd ra rb)
  | .or _ rd ra rb => some (hexR 0x17 rd ra rb)
  | .xor _ rd ra rb => some (hexR 0x18 rd ra rb)
  | .shl _ rd ra rb => some (hexR 0x19 rd ra rb)
  | .shr _ rd ra rb => some (hexR 0x1a rd ra rb)
  | .sar _ rd ra rb => some (hexR 0x1b rd ra rb)
  | .slt _ rd ra rb => some (hexR 0x1c rd ra rb)
  | .sltu _ rd ra rb => some (hexR 0x1d rd ra rb)
  | .seq _ rd ra rb => some (hexR 0x1e rd ra rb)
  | .gtc _ rd => some (hexR 0x2 rd 0 0)
  | .jr _ rd ra => some (hexR 0x37 rd ra 0)
  | .endProg _ => some (hexR 0x1 0 0 0)
  | .check _ rd => some (hexR 0x54 rd 0 0)
  | .abandon _ => some (hexR 0x56 0 0 0)
  | .ctxsel _ ra => some (hexR 0x60 0 ra 0)
  | .ctxdel _ rd ra => some (hexR 0x62 rd ra 0)
  | .qcreate _ rd ra rb _ => some (hexR 0x63 rd ra rb)
  | .gseed _ ra rb => some (hexR 0x65 0 ra rb)
  | .launch _ rd ra _ => some (hexR 0x70 rd ra 0)
  | .sctr _ rd => some (hexR 0x71 rd 0 0)
  | .sset _ rd ra => some (hexR 0x72 rd ra 0)
  | .syadd _ rd ra rb => some (hexR 0x73 rd ra rb)
  | .syset _ ra rb => some (hexR 0x74 0 ra rb)
  | .syrd _ rd ra => some (hexR 0x75 rd ra 0)
  | .fence _ => some (hexR 0x80 0 0 0)
  | .tsnap _ ra => some (hexR 0x92 0 ra 0)
  | .binst _ rd ra rb _ => some (hexR 0xa0 rd ra rb)
  | .bdeep _ rd ra => some (hexR 0xa2 rd ra 0)
  | .fcop _ rd ra => some (hexR 0xa9 rd ra 0)
  | .send _ rd ra rb _ => some (hexR 0xb1 rd ra rb)
  | .addi _ rd ra i => some (hexI 0x20 rd ra 0 i)
  | .andi _ rd ra i => some (hexI 0x21 rd ra 0 i)
  | .ori _ rd ra i => some (hexI 0x22 rd ra 0 i)
  | .xori _ rd ra i => some (hexI 0x23 rd ra 0 i)
  | .shli _ rd ra i => some (hexI 0x24 rd ra 0 i)
  | .shri _ rd ra i => some (hexI 0x25 rd ra 0 i)
  | .sari _ rd ra i => some (hexI 0x26 rd ra 0 i)
  | .movi _ rd i => some (hexI 0x27 rd 0 0 i)
  | .ldih _ rd ra i => some (hexI 0x28 rd ra 0 i)
  | .beq _ ra rb i => some (hexI 0x30 0 ra rb i)
  | .bne _ ra rb i => some (hexI 0x31 0 ra rb i)
  | .blt _ ra rb i => some (hexI 0x32 0 ra rb i)
  | .bge _ ra rb i => some (hexI 0x33 0 ra rb i)
  | .bltu _ ra rb i => some (hexI 0x34 0 ra rb i)
  | .bgeu _ ra rb i => some (hexI 0x35 0 ra rb i)
  | .jal _ rd i => some (hexI 0x36 rd 0 0 i)
  | .ld _ rd ra i _ => some (hexI 0x40 rd ra 0 i)
  | .lw _ rd ra i _ => some (hexI 0x41 rd ra 0 i)
  | .st _ ra rb i => some (hexI 0x42 0 ra rb i)
  | .sw _ ra rb i => some (hexI 0x43 0 ra rb i)
  | .commit _ rd i => some (hexI 0x55 rd 0 0 i)
  | .ctxnew _ rd ra rb i => some (hexI 0x61 rd ra rb i)
  | .wait _ rd ra rb i => some (hexI 0x76 rd ra rb i)
  | .pwrdom _ rd ra i => some (hexI 0x90 rd ra 0 i)
  | .acct _ i => some (hexI 0x91 0 0 0 i)
  | .bkey _ i => some (hexI 0xa1 0 0 0 i)
  | .cstate _ rd ra i _ => some (hexI 0xa3 rd ra 0 i)
  | .fkey _ rd ra rb i _ => some (hexI 0xa8 rd ra rb i)
  | .log _ ra rb i _ => some (hexI 0xb0 0 ra rb i)
  | .rds _ r x => some (hexS 0x50 r 0 x)
  | .rdst _ r x => some (hexS 0x51 r 0 x)
  | .stage _ r x => some (hexS 0x52 0 r x)
  | .wri _ r x => some (hexS 0x53 0 r x)
  | .qctlEnable _ rd ra => some (hexI 0x64 rd ra 0 0)
  | .qctlDisable _ rd ra => some (hexI 0x64 rd ra 0 1)
  | .qctlStop _ rd ra => some (hexI 0x64 rd ra 0 2)
  | .qctlDestroy _ rd ra => some (hexI 0x64 rd ra 0 3)
  | .resetContext _ rd ra => some (hexI 0x81 rd ra 0 0)
  | .resetJobTag _ rd ra => some (hexI 0x81 rd ra 0 1)
  | .resetEngine _ rd ra => some (hexI 0x81 rd ra 0 2)
  | .resetPartition _ rd ra => some (hexI 0x81 rd ra 0 3)
  | .resetChip _ rd ra => some (hexI 0x81 rd ra 0 4)
  | .resetPowerCycle _ rd ra => some (hexI 0x81 rd ra 0 5)
  | _ => none

/-! ### Thread words -/

/-- The fields of a word of format T3 (10 Table 10.2). -/
def t3Of (w : Word64) : T3 :=
  ⟨w.extractLsb' 52 4, w.extractLsb' 46 6, w.extractLsb' 40 6, w.extractLsb' 34 6, w.extractLsb' 28 6, w.extractLsb' 20 8⟩
/-- The fields of a word of format TI. -/
def tiOf (w : Word64) : TI := ⟨w.extractLsb' 52 4, w.extractLsb' 46 6, w.extractLsb' 40 6, w.extractLsb' 32 8, w.extractLsb' 0 32⟩
/-- The fields of a word of format TB. -/
def tbOf (w : Word64) : TB := ⟨w.extractLsb' 40 3, w.extractLsb' 0 32⟩
/-- The fields of a word of format TM. -/
def tmOf (w : Word64) : TM :=
  ⟨w.extractLsb' 49 3, w.extractLsb' 46 3, w.extractLsb' 43 3, w.extractLsb' 34 6, w.extractLsb' 28 6, w.extractLsb' 20 8⟩

/-- The word of an opcode in format T3. -/
def t3Word (f : T3) (op : BitVec 8) : Word64 := op ++ f.guard ++ f.rd ++ f.ra ++ f.rb ++ f.rc ++ f.mod ++ 0#20
/-- The word of an opcode in format TI. -/
def tiWord (f : TI) (op : BitVec 8) : Word64 := op ++ f.guard ++ f.rd ++ f.ra ++ f.mod ++ f.imm
/-- The word of an opcode in format TB. -/
def tbWord (f : TB) (op : BitVec 8) : Word64 := op ++ 0#13 ++ f.pk ++ 0#8 ++ f.off
/-- The word of an opcode in format TM. -/
def tmWord (f : TM) (op : BitVec 8) : Word64 := op ++ 0#4 ++ f.md ++ f.ma ++ f.mb ++ 0#3 ++ f.ga ++ f.gb ++ f.mod ++ 0#20

/-- Bits [19:0] are 0 in format T3. -/
def low20 (w : Word64) : Bool := w.extractLsb' 0 20 == 0
/-- The bits that format TB shows as 0. -/
def tbZero (w : Word64) : Bool := w.extractLsb' 43 13 == 0 && w.extractLsb' 32 8 == 0
/-- The bits that format TM shows as 0. -/
def tmZero (w : Word64) : Bool := w.extractLsb' 52 4 == 0 && w.extractLsb' 40 3 == 0 && low20 w

/-- The instruction that the opcode of a thread word names, its zero fields zero. -/
def threadForm (r : ShedRef) (env : Env) (w : Word64) : Option Instr :=
  match (w.extractLsb' 56 8).toNat with
  | 0x1 => let f := t3Of w; grd (low20 w) (.threadEnd r f)
  | 0x2 => let f := t3Of w; grd (low20 w) (.nop r f)
  | 0x3 => let f := t3Of w; grd (low20 w) (.bars r f)
  | 0x10 => let f := t3Of w; grd (low20 w) (.threadAdd r f)
  | 0x11 => let f := t3Of w; grd (low20 w) (.threadSub r f)
  | 0x12 => let f := t3Of w; grd (low20 w) (.threadMul r f)
  | 0x13 => let f := t3Of w; grd (low20 w) (.threadMulhu r f)
  | 0x14 => let f := t3Of w; grd (low20 w) (.threadDivu r f)
  | 0x15 => let f := t3Of w; grd (low20 w) (.threadRemu r f)
  | 0x16 => let f := t3Of w; grd (low20 w) (.threadAnd r f)
  | 0x17 => let f := t3Of w; grd (low20 w) (.threadOr r f)
  | 0x18 => let f := t3Of w; grd (low20 w) (.threadXor r f)
  | 0x19 => let f := t3Of w; grd (low20 w) (.threadShl r f)
  | 0x1a => let f := t3Of w; grd (low20 w) (.threadShr r f)
  | 0x1b => let f := t3Of w; grd (low20 w) (.threadSar r f)
  | 0x1c => let f := t3Of w; grd (low20 w) (.min r f)
  | 0x1d => let f := t3Of w; grd (low20 w) (.max r f)
  | 0x1e => let f := t3Of w; grd (low20 w) (.minu r f)
  | 0x1f => let f := t3Of w; grd (low20 w) (.maxu r f)
  | 0x20 => let f := tiOf w; grd true (.threadAddi r f)
  | 0x21 => let f := tiOf w; grd true (.threadAndi r f)
  | 0x22 => let f := tiOf w; grd true (.threadOri r f)
  | 0x23 => let f := tiOf w; grd true (.threadXori r f)
  | 0x24 => let f := tiOf w; grd true (.threadShli r f)
  | 0x25 => let f := tiOf w; grd true (.threadShri r f)
  | 0x26 => let f := tiOf w; grd true (.threadSari r f)
  | 0x27 => let f := tiOf w; grd true (.threadMovi r f)
  | 0x28 => let f := tiOf w; grd true (.threadLdih r f)
  | 0x29 => let f := t3Of w; grd (low20 w) (.sel r f)
  | 0x30 => let f := t3Of w; grd (low20 w) (.setp r f)
  | 0x31 => let f := t3Of w; grd (low20 w) (.pand r f)
  | 0x32 => let f := t3Of w; grd (low20 w) (.por r f)
  | 0x33 => let f := t3Of w; grd (low20 w) (.pxor r f)
  | 0x34 => let f := t3Of w; grd (low20 w) (.pnot r f)
  | 0x35 => let f := t3Of w; grd (low20 w) (.pmov r f)
  | 0x38 => let f := t3Of w; grd (low20 w) (.mif r f)
  | 0x39 => let f := t3Of w; grd (low20 w) (.melse r f)
  | 0x3a => let f := t3Of w; grd (low20 w) (.mend r f)
  | 0x3b => let f := t3Of w; grd (low20 w) (.mbrk r f)
  | 0x3c => let f := t3Of w; grd (low20 w) (.mget r f)
  | 0x40 => let f := tbOf w; grd (tbZero w) (.br r f)
  | 0x41 => let f := tbOf w; grd (tbZero w) (.bany r f)
  | 0x42 => let f := tbOf w; grd (tbZero w) (.ball r f)
  | 0x43 => let f := tbOf w; grd (tbZero w) (.bnone r f)
  | 0x44 => let f := tbOf w; grd (tbZero w) (.call r f)
  | 0x45 => let f := tbOf w; grd (tbZero w) (.ret r f)
  | 0x48 => let f := tiOf w; grd true (.ldB r f env)
  | 0x49 => let f := tiOf w; grd true (.ldH r f env)
  | 0x4a => let f := tiOf w; grd true (.ldW r f env)
  | 0x4b => let f := tiOf w; grd true (.ldD r f env)
  | 0x4c => let f := tiOf w; grd true (.ldQ r f env)
  | 0x4d => let f := tiOf w; grd true (.stB r f env)
  | 0x4e => let f := tiOf w; grd true (.stH r f env)
  | 0x4f => let f := tiOf w; grd true (.stW r f env)
  | 0x50 => let f := tiOf w; grd true (.stD r f env)
  | 0x51 => let f := tiOf w; grd true (.stQ r f env)
  | 0x52 => let f := t3Of w; grd (low20 w) (.atom r f env)
  | 0x53 => let f := t3Of w; grd (low20 w) (.atomf r f env)
  | 0x54 => let f := t3Of w; grd (low20 w) (.threadFence r f)
  | 0x60 => let f := t3Of w; grd (low20 w) (.vadd r f)
  | 0x61 => let f := t3Of w; grd (low20 w) (.vsub r f)
  | 0x62 => let f := t3Of w; grd (low20 w) (.vmul r f)
  | 0x63 => let f := t3Of w; grd (low20 w) (.vfma r f)
  | 0x64 => let f := t3Of w; grd (low20 w) (.vmin r f)
  | 0x65 => let f := t3Of w; grd (low20 w) (.vmax r f)
  | 0x66 => let f := t3Of w; grd (low20 w) (.vabs r f)
  | 0x67 => let f := t3Of w; grd (low20 w) (.vneg r f)
  | 0x68 => let f := t3Of w; grd (low20 w) (.vcvt r f)
  | 0x69 => let f := t3Of w; grd (low20 w) (.viadd r f)
  | 0x6a => let f := t3Of w; grd (low20 w) (.vimul r f)
  | 0x6b => let f := t3Of w; grd (low20 w) (.vimad r f)
  | 0x6c => let f := t3Of w; grd (low20 w) (.vand r f)
  | 0x6d => let f := t3Of w; grd (low20 w) (.vor r f)
  | 0x6e => let f := t3Of w; grd (low20 w) (.vxor r f)
  | 0x70 => let f := tmOf w; grd (tmZero w) (.tld r f env)
  | 0x71 => let f := tmOf w; grd (tmZero w) (.tst r f env)
  | 0x72 => let f := tmOf w; grd (tmZero w) (.tmma r f)
  | 0x73 => let f := tmOf w; grd (tmZero w) (.tzero r f)
  | 0x80 => let f := t3Of w; grd (low20 w) (.stepBegin r f env)
  | 0x81 => let f := t3Of w; grd (low20 w) (.stepCommit r f)
  | 0x82 => let f := t3Of w; grd (low20 w) (.stepCtr r f)
  | 0x83 => let f := t3Of w; grd (low20 w) (.ckassert r f)
  | 0x84 => let f := tiOf w; grd true (.ckstat r f)
  | 0x88 => let f := t3Of w; grd (low20 w) (.rng r f)
  | 0x90 => let f := t3Of w; grd (low20 w) (.syAdd r f)
  | 0x91 => let f := t3Of w; grd (low20 w) (.syRd r f)
  | 0x92 => let f := t3Of w; grd (low20 w) (.syWait r f)
  | 0x93 => let f := t3Of w; grd (low20 w) (.trigArm r f env)
  | _ => none

/-- The instruction of a thread word; none for an undefined word (10 R344).
Log 66 (DEDUCED). -/
def decodeThread (r : ShedRef) (env : Env) (w : Word64) : Option Instr := (threadForm r env w).filter Instr.wf

/-- The word of a thread instruction; none for another command. -/
def encodeThread : Instr → Option Word64
  | .threadEnd _ f => some (t3Word f 0x1)
  | .nop _ f => some (t3Word f 0x2)
  | .bars _ f => some (t3Word f 0x3)
  | .threadAdd _ f => some (t3Word f 0x10)
  | .threadSub _ f => some (t3Word f 0x11)
  | .threadMul _ f => some (t3Word f 0x12)
  | .threadMulhu _ f => some (t3Word f 0x13)
  | .threadDivu _ f => some (t3Word f 0x14)
  | .threadRemu _ f => some (t3Word f 0x15)
  | .threadAnd _ f => some (t3Word f 0x16)
  | .threadOr _ f => some (t3Word f 0x17)
  | .threadXor _ f => some (t3Word f 0x18)
  | .threadShl _ f => some (t3Word f 0x19)
  | .threadShr _ f => some (t3Word f 0x1a)
  | .threadSar _ f => some (t3Word f 0x1b)
  | .min _ f => some (t3Word f 0x1c)
  | .max _ f => some (t3Word f 0x1d)
  | .minu _ f => some (t3Word f 0x1e)
  | .maxu _ f => some (t3Word f 0x1f)
  | .sel _ f => some (t3Word f 0x29)
  | .setp _ f => some (t3Word f 0x30)
  | .pand _ f => some (t3Word f 0x31)
  | .por _ f => some (t3Word f 0x32)
  | .pxor _ f => some (t3Word f 0x33)
  | .pnot _ f => some (t3Word f 0x34)
  | .pmov _ f => some (t3Word f 0x35)
  | .mif _ f => some (t3Word f 0x38)
  | .melse _ f => some (t3Word f 0x39)
  | .mend _ f => some (t3Word f 0x3a)
  | .mbrk _ f => some (t3Word f 0x3b)
  | .mget _ f => some (t3Word f 0x3c)
  | .atom _ f _ => some (t3Word f 0x52)
  | .atomf _ f _ => some (t3Word f 0x53)
  | .threadFence _ f => some (t3Word f 0x54)
  | .vadd _ f => some (t3Word f 0x60)
  | .vsub _ f => some (t3Word f 0x61)
  | .vmul _ f => some (t3Word f 0x62)
  | .vfma _ f => some (t3Word f 0x63)
  | .vmin _ f => some (t3Word f 0x64)
  | .vmax _ f => some (t3Word f 0x65)
  | .vabs _ f => some (t3Word f 0x66)
  | .vneg _ f => some (t3Word f 0x67)
  | .vcvt _ f => some (t3Word f 0x68)
  | .viadd _ f => some (t3Word f 0x69)
  | .vimul _ f => some (t3Word f 0x6a)
  | .vimad _ f => some (t3Word f 0x6b)
  | .vand _ f => some (t3Word f 0x6c)
  | .vor _ f => some (t3Word f 0x6d)
  | .vxor _ f => some (t3Word f 0x6e)
  | .stepBegin _ f _ => some (t3Word f 0x80)
  | .stepCommit _ f => some (t3Word f 0x81)
  | .stepCtr _ f => some (t3Word f 0x82)
  | .ckassert _ f => some (t3Word f 0x83)
  | .rng _ f => some (t3Word f 0x88)
  | .syAdd _ f => some (t3Word f 0x90)
  | .syRd _ f => some (t3Word f 0x91)
  | .syWait _ f => some (t3Word f 0x92)
  | .trigArm _ f _ => some (t3Word f 0x93)
  | .threadAddi _ f => some (tiWord f 0x20)
  | .threadAndi _ f => some (tiWord f 0x21)
  | .threadOri _ f => some (tiWord f 0x22)
  | .threadXori _ f => some (tiWord f 0x23)
  | .threadShli _ f => some (tiWord f 0x24)
  | .threadShri _ f => some (tiWord f 0x25)
  | .threadSari _ f => some (tiWord f 0x26)
  | .threadMovi _ f => some (tiWord f 0x27)
  | .threadLdih _ f => some (tiWord f 0x28)
  | .ldB _ f _ => some (tiWord f 0x48)
  | .ldH _ f _ => some (tiWord f 0x49)
  | .ldW _ f _ => some (tiWord f 0x4a)
  | .ldD _ f _ => some (tiWord f 0x4b)
  | .ldQ _ f _ => some (tiWord f 0x4c)
  | .stB _ f _ => some (tiWord f 0x4d)
  | .stH _ f _ => some (tiWord f 0x4e)
  | .stW _ f _ => some (tiWord f 0x4f)
  | .stD _ f _ => some (tiWord f 0x50)
  | .stQ _ f _ => some (tiWord f 0x51)
  | .ckstat _ f => some (tiWord f 0x84)
  | .br _ f => some (tbWord f 0x40)
  | .bany _ f => some (tbWord f 0x41)
  | .ball _ f => some (tbWord f 0x42)
  | .bnone _ f => some (tbWord f 0x43)
  | .call _ f => some (tbWord f 0x44)
  | .ret _ f => some (tbWord f 0x45)
  | .tld _ f _ => some (tmWord f 0x70)
  | .tst _ f _ => some (tmWord f 0x71)
  | .tmma _ f => some (tmWord f 0x72)
  | .tzero _ f => some (tmWord f 0x73)
  | _ => none

/-! ### Undefined words -/

/-- UNDEFINED_INSTRUCTION (07 R245): an undefined word ends its program with MALFORMED.
Log 11 (DESIGN CHOICE). -/
def execUndefinedInstruction (slot : BitVec 6) (word : Word64) (s : State) : Host.Outcome State Fault Refusal :=
  .next (if (decodeHexah slot Env.quiet true word).isSome then s else onProg s slot (fun p => endAt s slot p stMalformed))

/-- ILLEGAL_INSTR (10 R344): an undefined word ends the context with ILLEGAL_INSTR.
Log 11 (DESIGN CHOICE). -/
def execIllegalInstr (w : ShedRef) (word : Word64) (s : State) : Host.Outcome State Fault Refusal :=
  .next (if (decodeThread w Env.quiet word).isSome then s else illegalWord w s)

end Sys2Proof.Machine
end

