-- ==== Sys2Proof/Machine/Recording.lean ====
section
/-! DEFINITION. The event recorder (20): the drain with its rate limit, programming, erasing and wear, freezes and readout. -/

namespace Sys2Proof.Machine

/-- The region of a number: 1 durable log, 2 checkpoint, 3 service (20 R702). -/
def regionOf (c : Recorder) (n : Nat) : NvRegion :=
  match n with
  | 1 => c.log
  | 2 => c.ckpt
  | _ => c.svc

/-- The wear data of a block. -/
def getBlk (s : State) (b : Nat) : NvBlock := Tbl.get NvBlock.fresh s.rcd.blocks b
/-- Change the wear data of a block. -/
def updBlk (s : State) (b : Nat) (f : NvBlock → NvBlock) : State :=
  { s with rcd := { s.rcd with blocks := Tbl.put s.rcd.blocks b (f (getBlk s b)) } }

/-- The blocks of a region that are not retired.
Log 110 (DESIGN CHOICE). -/
def usable (s : State) (r : NvRegion) : Nat :=
  ((r.segs.map (·.block)).filter (fun b => !(getBlk s b).retired)).length + r.erased.length + (r.erasing.elim 0 (fun _ => 1))

/-- The count of retired blocks. -/
def retiredCount (s : State) : Nat := (s.rcd.blocks.filter (fun e => e.2.retired)).length

/-- The payload of a wear event (20 Table 20.8). -/
def wearPay (s : State) (b : Nat) : List Byte :=
  let k := getBlk s b
  pay [(2, 0), (2, b), (4, if b = 0xFFFF then 0 else k.erases), (2, if b = 0xFFFF then 0 else k.retries),
       (2, usable s s.rcd.log), (2, retiredCount s)]

/-- WEAR_CRITICAL, once per power cycle (20 Table 20.6). -/
def wearCritical (s : State) : State :=
  if s.rcd.wearCrit then s
  else accept { s with rcd := { s.rcd with wearCrit := true } } 0xA012 2 0x0D 0 0xFFFF 0xFFFF (wearPay s 0xFFFF)

/-- Retire a block of region `n` (20 Table 20.6): a checkpoint or service region takes the lowest-numbered erased block of the
durable log. -/
def retireBlock (s : State) (n b : Nat) : State :=
  if (getBlk s b).retired then s
  else
    let s := updBlk s b (fun k => { k with retired := true })
    let rm := fun (r : NvRegion) => { r with erased := dropNat r.erased b,
                                             erasing := if r.erasing = some b then none else r.erasing }
    let s := { s with rcd := updRegion s.rcd n rm }
    let s := accept s 0xA011 2 0x0D 0 0xFFFF 0xFFFF (wearPay s b)
    let s := if n = 1 then s
      else match (s.rcd.log.erased.foldl insertNat []).head? with
        | some x =>
          let c := updRegion s.rcd 1 (fun r => { r with erased := dropNat r.erased x })
          { s with rcd := updRegion c n (fun r => { r with erased := r.erased ++ [x] }) }
        | none => wearCritical s
    if usable s s.rcd.log < 384 then wearCritical s else s

/-- WEAR_ADVISORY, once per block (20 Table 20.6).
Log 111 (DEDUCED). -/
def wearAdvise (s : State) (b : Nat) : State :=
  let k := getBlk s b
  if !k.advised ∧ !k.retired ∧ (k.erases ≥ 90000 ∨ (k.ops ≥ 64 ∧ k.retries * 64 > k.ops)) then
    let s := updBlk s b (fun k => { k with advised := true })
    record { s with rcd := { s.rcd with wearAdv := true } } 0xA010 1 0x0D 0 (wearPay s b)
  else s

/-- The block that a region's next slot lies in: its newest block while that has room and is not retired, else the first
erased one. -/
def writeBlock (s : State) (r : NvRegion) : Option Nat :=
  match r.segs.getLast? with
  | some g => if g.slots.length < 1024 ∧ !(getBlk s g.block).retired then some g.block else r.erased.head?
  | none => r.erased.head?

/-- Put a slot at the write point of region `n` (20 R684, R700). -/
def appendSlot (s : State) (n : Nat) (x : NvSlot) : State :=
  let r := regionOf s.rcd n
  let r' := match r.segs.getLast? with
    | some g =>
      if g.slots.length < 1024 ∧ !(getBlk s g.block).retired then
        { r with segs := r.segs.dropLast ++ [{ g with slots := g.slots ++ [x] }], next := r.next + 1 }
      else match r.erased with
        | b :: t => { r with segs := r.segs ++ [⟨b, r.next, [x]⟩], erased := t, next := r.next + 1 }
        | [] => r
    | none => match r.erased with
      | b :: t => { r with segs := [⟨b, r.next, [x]⟩], erased := t, next := r.next + 1 }
      | [] => r
  { s with rcd := updRegion s.rcd n (fun _ => r') }

/-- Whether the durable log is in hold mode (20 R692).
Log 111 (DEDUCED). -/
def holdMode (s : State) : Bool := (liveVal s 12 0 0).toNat % 2 == 1

/-- Start the erase of a region's oldest block where fewer than two erased blocks are left (20 R684, R690, R692). -/
def startErase (s : State) (n : Nat) : State :=
  let r := regionOf s.rcd n
  if r.erased.length ≥ 2 ∨ r.erasing.isSome ∨ (n = 1 ∧ holdMode s) then s
  else match r.segs with
    | g :: h :: t =>
      let e := if (getBlk s g.block).retired then none else some g.block
      { s with rcd := updRegion s.rcd n (fun r => { r with segs := h :: t, erasing := e }) }
    | _ => s

/-- Release the oldest record of the ring; RING_MISSED is stored first where records were missed (20 R687).
Log 111 (DEDUCED). -/
def releaseHead (s : State) : State :=
  let s := { s with rcd := { s.rcd with ring := s.rcd.ring.drop 1 } }
  if s.rcd.missed.all (· == 0) then s
  else
    let m := s.rcd.missed
    let p := pay ([(2, 0), (2, 0), (4, m.foldl (· + ·) 0), (8, s.rcd.missedGtc)] ++ m.map (fun n => (2, n)))
    recordRaw { s with rcd := { s.rcd with missed := [0, 0, 0, 0, 0, 0], missedGtc := 0 } } 0xA002 1 0x0D 0 p

/-- The event codes that their chapters exempt from the rate limit of the durable log, with those of 20 R694.
Log 111 (DEDUCED). -/
def exemptCodes : List Nat := [
  0x3002, 0x3004, 0x3005, 0x4003, 0x5001, 0x5003, 0x5004, 0x5030, 0x5031, 0x5032, 0x5033, 0x5034, 0x5010, 0x5011,
  0x6001, 0x6002, 0x6020, 0x6021, 0x6030, 0x6031, 0x6032, 0xB003, 0xB005, 0xB020, 0xC002, 0xC004, 0xC005, 0xC014,
  0xA001, 0xA002, 0xA003, 0xA011, 0xA012, 0xE001, 0x7002, 0x7020, 0x7021, 0x7004, 0x7005, 0x7053, 0x8011, 0x9011,
  0x9012, 0x9013, 0x9021, 0x9040]

/-- Close a rate window: SUPPRESSED where it suppressed records (20 R693). -/
def closeWindow (s : State) (code : Nat) : State :=
  match s.rcd.rates.find? (fun w => w.code == code) with
  | none => s
  | some w =>
    let s := { s with rcd := { s.rcd with rates := s.rcd.rates.filter (fun x => x.code != code) } }
    if w.supp = 0 then s
    else recordRaw s 0xA001 0 0x0D 0 (pay [(2, w.code), (2, 0), (4, w.supp), (8, w.first), (8, w.last), (4, 0)])

/-- Whether a record belongs to the service region (20 Table 20.3): RESET_DONE of a counting level and the service events.
Log 112 (DEDUCED). -/
def isService (r : Rec) : Bool :=
  (r.code == 0x6020 && decide (bytesAt r.payload 0 1 ≥ 3)) || r.code == 0x6030 || r.code == 0x6031 || r.code == 0x6032

/-- What the drain does with the oldest record: write it, suppress it, or wait (20 R688, R692 to R694). -/
def admitRec (s : State) (r : Rec) : Bool × State :=
  if r.sev = 5 ∨ exemptCodes.contains r.code then (true, s)
  else
    let limit := (liveVal s 12 1 0).toNat % 256
    let s := if s.rcd.rates.any (fun w => w.code == r.code) then s
      else
        let s := if s.rcd.rates.length ≥ 256 then closeWindow s ((s.rcd.rates.head?).elim 0 (·.code)) else s
        { s with rcd := { s.rcd with rates := s.rcd.rates ++ [⟨r.code, s.aon, 0, 0, 0, 0⟩] } }
    let w := (s.rcd.rates.find? (fun w => w.code == r.code)).getD ⟨r.code, s.aon, 0, 0, 0, 0⟩
    let ok := decide (w.written < limit)
    let w' := if ok then { w with written := w.written + 1 }
      else { w with supp := w.supp + 1, first := if w.supp = 0 then r.gtc else w.first, last := r.gtc }
    let rates := s.rcd.rates.map (fun x => if x.code = r.code then w' else x)
    (ok, { s with rcd := { s.rcd with rates := rates, suppTot := satAdd 65535 s.rcd.suppTot (if ok then 0 else 1) } })

/-- The next record to be programmed, from the ring in sequence order; suppressed records and, in hold mode, records that
the log cannot take are released on the way.  `fuel` bounds the records looked at. -/
def pickRing : Nat → State → State
  | 0, s => s
  | fuel + 1, s =>
    match s.rcd.ring with
    | [] => s
    | x :: _ =>
      if isService x.body && !x.svc && (writeBlock s s.rcd.svc).isSome then
        { s with rcd := { s.rcd with op := some ⟨3, x.body, true, 0, 0⟩ } }
      else if (writeBlock s s.rcd.log).isNone then
        if holdMode s ∧ !s.rcd.log.segs.isEmpty then
          let s := if s.rcd.logFull then s
            else accept { s with rcd := { s.rcd with logFull := true } } 0xA020 2 0x0D 0 0xFFFF 0xFFFF (wearPay s 0xFFFF)
          pickRing fuel (releaseHead { s with rcd := { s.rcd with heldTot := satAdd 65535 s.rcd.heldTot 1 } })
        else s
      else
        let (ok, s) := admitRec s x.body
        if ok then { s with rcd := { s.rcd with op := some ⟨1, x.body, true, 0, 0⟩ } }
        else pickRing fuel (releaseHead s)

/-- Choose the next record to be programmed (20 R688, R691, R696): under a warning only the warning's own list; a checkpoint
that waits goes first, and goes on during a freeze. -/
def pickNext (s : State) : State :=
  if s.pwr.warn then
    match s.rcd.warnDrain with
    | r :: t => if (writeBlock s s.rcd.log).isSome then
        { s with rcd := { s.rcd with op := some ⟨1, r, true, 0, 0⟩, warnDrain := t } } else s
    | [] => s
  else match s.rcd.ckptWait with
    | some r => if (writeBlock s s.rcd.ckpt).isSome then
        { s with rcd := { s.rcd with op := some ⟨2, r, false, 0, 0⟩, ckptWait := none } } else s
    | none => if s.rcd.frozen then s else pickRing (s.rcd.ring.length + 1) s

/-- A record whose valid mark has been verified is durable: a checkpoint is held as the latest, a record of the ring is
released once it is in every region it belongs to (20 R685, R688). -/
def recDurable (s : State) (o : NvOp) : State :=
  let s := { s with rcd := { s.rcd with op := none } }
  match o.region with
  | 2 => { s with rcd := { s.rcd with ckpts := (o.body :: s.rcd.ckpts).take 2 } }
  | 3 => { s with rcd := { s.rcd with ring := s.rcd.ring.map (fun x => if x.body = o.body then { x with svc := true } else x) } }
  | _ =>
    if (s.rcd.ring.head?).elim false (fun x => x.body == o.body) then releaseHead s
    else { s with rcd := { s.rcd with ring := s.rcd.ring.filter (fun x => x.body != o.body) } }

/-- RECORD_PROGRAM_STEP (20 R688 to R691): one program operation of the record being programmed, with the retries it took (0
or 1); the first operation of the next record chooses it.  A retry that fails leaves the slot torn and counts against its
block, and the record is programmed again in the next slot, but not during a warning.  While the write window is closed no
record is begun; one in progress completes (04 R153).
Log 6, 16 (DESIGN CHOICE); 111 (DEDUCED). -/
def execRecordProgramStep (retries : Nat) (ok : Bool) (s : State) : Res :=
  .next (if s.phase = .off then s
  else
    let s := match s.rcd.op with
      | some _ => s
      | none => if s.thm.nvOpen then pickNext s else s
    match s.rcd.op with
    | none => s
    | some o =>
      let n := o.region
      match writeBlock s (regionOf s.rcd n) with
      | none => s
      | some b =>
        let s := updBlk s b (fun k => { k with ops := k.ops + 1, retries := k.retries + Nat.min 1 retries })
        let s := if ok then
            if o.op < 4 then { s with rcd := { s.rcd with op := some { o with op := o.op + 1 } } }
            else recDurable (appendSlot s n ⟨o.body.bytes⟩) o
          else
            let (v, s) := takeFree s
            let s := appendSlot s n ⟨tornBytes o.body.bytes o.op v⟩
            let s := updBlk s b (fun k => { k with fails := k.fails + 1 })
            let next := if s.pwr.warn then none else some { o with op := 0 }
            let s := { s with rcd := { s.rcd with op := next, tornTot := satAdd 255 s.rcd.tornTot 1 } }
            if (getBlk s b).fails ≥ 4 then retireBlock s n b else s
        startErase (wearAdvise s b) n)

/-- ERASE_COMPLETE (20 R690, R701, Table 20.6): an erase ends; it runs only while the window is open and no warning holds. -/
def execEraseComplete (block : BitVec 9) (ok : Bool) (s : State) : Res :=
  .next (
  let b := block.toNat
  let n := if s.rcd.log.erasing = some b then 1 else if s.rcd.ckpt.erasing = some b then 2
    else if s.rcd.svc.erasing = some b then 3 else 0
  if n = 0 ∨ !s.thm.nvOpen ∨ s.pwr.warn ∨ s.phase = .off then s
  else
    let s := updBlk s b (fun k => { k with erases := k.erases + 1, fails := 0, retries := 0, ops := 0 })
    if !ok ∨ (getBlk s b).erases ≥ 100000 then startErase (retireBlock s n b) n
    else
      let s := { s with rcd := updRegion s.rcd n (fun r => { r with erasing := none, erased := r.erased ++ [b] }) }
      startErase (wearAdvise s b) n)

/-- RATE_WINDOW_CLOSE (20 R693).
Log 112 (DEDUCED). -/
def execRateWindowClose (code : BitVec 16) (s : State) : Res := .next (settleRing (closeWindow s code.toNat))

/-- POWER_ON_SECONDS_STORE (20 R682). -/
def execPowerOnSecondsStore (s : State) : Res :=
  .next (if s.phase = .off ∨ !s.thm.nvOpen then s else storeCounter s)

/-- A write of REC.FREEZE (20 R695). -/
def writeFreeze (s : State) (v : Word64) : State :=
  if v.getLsbD 0 then
    let l := let n := bitsOf v.toNat 23 8; if n = 0 then 60 else if n > 3600 then 3600 else n
    let c := s.rcd
    let counts := if c.frozen then c.frzCounts else [0, 0, 0, 0, 0, 0]
    let start := if c.frozen then c.frzStart else s.gtc
    { s with rcd := { c with frozen := true, frzEnd := s.aon + l * 1000000000, frzStart := start, frzCounts := counts,
                             freezeReg := v &&& w64 0xFFFF01 } }
  else
    let s := endFreeze s
    settleRing { s with rcd := { s.rcd with freezeReg := v &&& w64 0xFFFF01 } }

/-- FREEZE_LIMIT_EXPIRY (20 R695): limit_s seconds have passed since the freeze started.
Log 112 (DEDUCED). -/
def execFreezeLimitExpiry (s : State) : Res := .next (settleRing (endFreeze s))

/-- The decoding of a slot (20 Table 20.5): 0 valid, 1 damaged, 2 torn, 3 empty. -/
def decodeSlot (b : List Byte) : Nat :=
  let m := b.getD 63 0xFF
  if m = 0xFF then (if (b.take 63).all (· == 0xFF) then 3 else 2)
  else if m = 0xA5 then (if bytesAt b 59 4 = (crc32c (b.take 59)).toNat then 0 else 1)
  else 2

/-- The log index of the oldest durable-log slot still held (20 REC.LOG_FIRST). -/
def logFirst (s : State) : Nat := (s.rcd.log.segs.head?).elim s.rcd.log.next (·.start)

/-- What a readout presents where there is no slot.
Log 112 (DEDUCED). -/
def noSlot : List Byte := (List.range 64).map Config.noSlotByte

/-- The slot at an index of a region, and the decoding of REC.READ_STATE (20 R702). -/
def recSlot (s : State) (region index : Nat) : List Byte × Nat :=
  let at_ := fun (l : List (List Byte)) (i : Nat) => match l[i]? with
    | some b => (b, decodeSlot b)
    | none => (noSlot, 4)
  let slots := fun (r : NvRegion) => r.segs.flatMap (fun g => g.slots.map (·.bytes))
  match region with
  | 0 => at_ (s.rcd.ring.map (fun r => r.body.bytes)) index
  | 1 => if index < logFirst s then (noSlot, 5) else at_ (slots s.rcd.log) (index - logFirst s)
  | 2 => at_ (slots s.rcd.ckpt) index
  | _ => at_ (slots s.rcd.svc) index

/-- The slot that REC.READ_PTR selects. -/
def ptrSlot (s : State) : List Byte × Nat :=
  recSlot s (bitsOf s.rcd.readPtr.toNat 63 62) (bitsOf s.rcd.readPtr.toNat 47 0)

/-- A read of REC:0x017 with autoinc advances the index by one (20 R702).
Log 112 (DEDUCED). -/
def readAdvance (s : State) : State :=
  let v := s.rcd.readPtr.toNat
  if v.testBit 61 then
    { s with rcd := { s.rcd with readPtr := w64 (v / 2 ^ 48 * 2 ^ 48 + (v % 2 ^ 48 + 1) % 2 ^ 48) } }
  else s

end Sys2Proof.Machine
end

