-- ==== Sys2Proof/Machine/SetRead.lean ====
section
/-! DEFINITION. Reading a setting (08 R278, 24 R787 to R795): the live value of every setting, from the setting registers or from the
state that it reports, as the field map of its owning chapter lays it out. -/

namespace Sys2Proof.Machine

/-- A map of 4-bit fields: fields 16w to 16w + 15 (09 Table 9.2). -/
def mapWord (f : Nat → Nat) (w n : Nat) : Nat :=
  ((List.range 16).map (fun i => if 16 * w + i < n then f (16 * w + i) * 2 ^ (4 * i) else 0)).foldl (· + ·) 0

/-- A map of bits: bits 32w to 32w + 31 of a set (05 R178). -/
def bitWord (l : List Nat) (w : Nat) : Nat := ((List.range 32).map (fun i => bitIf (l.contains (32 * w + i)) i)).foldl (· + ·) 0

/-- The hottest valid digital sensor and its reading; the lowest number where several are as hot (04 R146).
Log 28 (DESIGN CHOICE). -/
def hottest (s : State) : Option (Nat × Int) :=
  (validOf s (List.range 597)).foldl (fun b n =>
    let t := (getSensor s n).temp.toInt
    match b with
    | some (m, u) => if t > u then some (n, t) else some (m, u)
    | none => some (n, t)) none

/-- The number that THM.STATUS gives for the hottest sensor.
Log 28 (DESIGN CHOICE). -/
def hottestNo (s : State) : Nat := (hottest s).elim (Config.noHottest % 65536) (·.1)

/-- THM.TEMP of sensor `n` (04 Table 4.3). -/
def thmTemp (s : State) (n : Nat) : Nat :=
  if n < 597 then
    let x := getSensor s n
    bitIf x.broken 31 + bitIf (getZone s (zoneOf n)).fast 30 + x.temp.toNat
  else bitIf (s.thm.brokenV.getLsbD (n - 597)) 31 + bitIf (s.thm.votes.getLsbD (n - 597)) 29

/-- THM.STATUS (04 R146). -/
def thmStatus (s : State) : Nat :=
  let low := ((List.range 64).filter (fun g => decide (thmTarget s g ≤ 550))).length
  hottestNo s * 2 ^ 16 + low * 2 ^ 8 + bitIf (s.thm.zones.any (fun e => e.2.fast)) 7
    + bitIf (s.thm.sensors.any (fun e => e.2.broken) || s.thm.brokenV != 0) 6 + bitIf (fuseWindow s) 5 + bitIf s.thm.nvOpen 4
    + bitIf (decide (voteCount s ≥ 1)) 3 + bitIf (s.thm.zones.any (fun e => e.2.pre)) 2
    + bitIf ((List.range 64).any (fun g => decide (thmTarget s g < floor5 (liveVal s 2 0x11 0).toNat)) || decide (thmTarget s 64 < 800)) 1
    + bitIf (thermWarn s) 0

/-- The measured 1 ms average power in mW (03 R105). -/
def meterMw (s : State) : Nat := if s.pwr.meter.isEmpty then 0 else avgMw s.pwr.meter s.pwr.meter.length

/-- PWR.CAP_STATUS (03 R107). -/
def capStatus (s : State) : Nat :=
  let lower := (List.range 64).any (fun g => decide (s.pwr.capTarget < thmTarget s g))
  meterMw s / 1000 % 2 ^ 16 * 2 ^ 16 + (s.pwr.capTarget - 550) / 5 % 256 * 256 + bitIf s.pwr.gating 1 + bitIf lower 0

/-- TRD.STATUS (06 Table 6.2). -/
def trdStatus (s : State) : Nat :=
  let t := s.trd
  t.failovers % 256 * 2 ^ 16 + t.lastKind % 4 * 2 ^ 10 + t.attempts % 4 * 2 ^ 8 + t.standby % 16 * 16 + bitIf t.bFailed 3 + bitIf t.aFailed 2
    + bitIf t.activeB 0

/-- TRD.SLOT of slot `n` (06 R216). -/
def trdSlot (s : State) (n : Nat) : Nat :=
  match getP s n with
  | none => 0
  | some p => (if decide (p.wait = .none) then 1 else 2) * 2 ^ 30 + p.queue * 2 ^ 20 + p.index % 2 ^ 16

/-- TRD.ERR_STATUS (15). -/
def errStatus (s : State) : Nat :=
  let e := s.err
  bitIf e.ringFault 34 + bitIf e.safe 33 + e.handlers.length * 2 ^ 28 + e.q3.length * 2 ^ 21 + e.q2.length * 2 ^ 14 + e.q1.length * 2 ^ 7
    + e.q0.length

/-- CLU.SLOT_MAP: four slots a word (09 R306).
Log 110 (DESIGN CHOICE). -/
def slotMapWord (s : State) (i : Nat) : Nat :=
  ((List.range 4).map (fun j => hostOf s (i / 128) (4 * (i % 128) + j) * 2 ^ (16 * j))).foldl (· + ·) 0

/-- A memory error count (13 R449): uncorrectable, check-bit, corrected. -/
def eccWord (ue chk cor : Nat) : Nat := Nat.min 65535 ue * 2 ^ 48 + Nat.min 65535 chk * 2 ^ 32 + Nat.min 0xFFFFFFFF cor

/-- CHK.CL_FAULTS of a cluster (12 Table 12.6). -/
def clFaults (s : State) (n : Nat) : Nat :=
  let c := getCk s n
  let day := ((getHist s n).transients.filter (fun t => decide (s.aon < t + dayNs))).length
  Nat.min 65535 c.product * 2 ^ 48 + Nat.min 65535 c.checker * 2 ^ 32 + Nat.min 65535 c.residue * 2 ^ 16 + Nat.min 255 day * 2 ^ 8 + c.last

/-- RST.SERVICE (16 R565). -/
def serviceWord (s : State) : Nat := Nat.min 255 (countDay s) * 2 ^ 16 + Nat.min 255 (countHour s) * 2 ^ 8 + b2n s.rst.oos

/-- LNK.PORT_STATUS (17 R589). -/
def portStatus (s : State) (p : Nat) : Nat :=
  let l := getL s p
  l.skip % 16 * 2 ^ 12 + l.cause % 16 * 2 ^ 8 + bitIf l.training 1 + bitIf l.up 0

/-- TIM.STATUS (17 R600). -/
def timStatus (s : State) : Nat := timeBound s * 2 ^ 16 + s.time.hops % 256 * 2 ^ 8 + s.time.parent % 8 * 2 ^ 5 + s.time.state % 4

/-- COL.GROUP_STATE (18 R609). -/
def colGroupState (s : State) (c g : Nat) : Nat :=
  let x := getG s c g
  x.seq % 2 ^ 32 * 2 ^ 32 + x.fail % 256 * 256 + x.state % 4

/-- REC.STATUS (20 R701). -/
def recStatus (s : State) : Nat :=
  let c := s.rcd
  let erasing := c.log.erasing.isSome || c.ckpt.erasing.isSome || c.svc.erasing.isSome
  Nat.min 65535 c.ring.length * 2 ^ 48 + c.rates.length % 65536 * 2 ^ 32 + bitIf c.wearCrit 7 + bitIf c.wearAdv 6 + bitIf c.logFull 5
    + bitIf s.pwr.warn 4 + bitIf erasing 3 + bitIf s.thm.nvOpen 2 + bitIf c.frozen 1 + bitIf (decide (c.ring.length ≥ 16320)) 0

/-- REC.COUNTS (20 R701). -/
def recCounts (s : State) : Nat :=
  let c := s.rcd
  c.missedTot * 2 ^ 48 + c.suppTot * 2 ^ 32 + c.heldTot * 2 ^ 16 + c.tornTot * 2 ^ 8 + c.damaged % 256

/-- REC.WEAR (20 R701). -/
def recWear (s : State) : Nat :=
  usable s s.rcd.log * 2 ^ 48 + retiredCount s * 2 ^ 32 + s.rcd.blocks.foldl (fun m e => Nat.max m e.2.erases) 0

/-- The frames since the last clean beacon (21 R715). -/
def chnAge (s : State) : Nat := s.chn.frames - s.chn.clean

/-- Whether the device keeps silent for its uncertainty, counted at the end of its own slot of the frame under way (21 R716). -/
def chnSilent (s : State) : Bool := decide (1024 * chnAge s + 220 + 52 * s.straps.chnSlot.toNat > 56000)

/-- u in units of 0.1 µs at the start of the frame under way (21 R715); without synchronisation it saturates. -/
def chnU (s : State) : Nat := if s.chn.sync then 2 + 1024 * chnAge s / 2000 else 31

/-- The guard hits among the last 64 valid beacons (21 R718). -/
def chnHits (s : State) : Nat := (s.chn.hits.filter id).length
/-- The collisions among the last 64 bursts (21 R720). -/
def chnColls (s : State) : Nat := (s.chn.colls.filter id).length

/-- CHN.STATUS[2:0].
Log 113 (DEDUCED). -/
def chnState (s : State) : Nat :=
  let c := s.chn
  if c.clash then 5 else if c.selfM then 4 else if c.cmdM then 3 else if c.silent then 2 else if c.sync then 1 else 0

/-- CHN.STATUS (21). -/
def chnStatus (s : State) : Nat :=
  chnHits s * 2 ^ 32 + Nat.min 255 s.chn.run * 2 ^ 24 + Nat.min 255 s.err.reports.length * 2 ^ 16 + Nat.min 15 s.chn.txq.length * 2 ^ 12
    + s.straps.chnSlot.toNat * 2 ^ 8 + Nat.min 31 (chnU s) * 8 + chnState s

/-- CHN.COUNTS (21). -/
def chnCounts (s : State) : Nat :=
  let c := s.chn
  c.bursts % 65536 * 2 ^ 48 + c.crcFail * 2 ^ 32 + c.guards * 2 ^ 24 + c.collN * 2 ^ 16 + c.dropped * 2 ^ 8 + c.packDis

/-- CHN.GRANTS (21 R727). -/
def chnGrants (s : State) : Nat :=
  ((List.range 4).map (fun i => s.trd.grants.getD i 0xFFFF * 2 ^ (16 * i))).foldl (· + ·) 0

/-- PCI.STATUS (22). -/
def pciStatus (s : State) : Nat :=
  let p := s.pci
  p.width % 256 * 256 + p.speed % 16 * 16 + bitIf p.flit 3 + bitIf p.perst 2 + bitIf (p.up && !(p.width == 16 && p.speed == 6)) 1 + bitIf p.up 0

/-- PCI.FUNC of a function (22). -/
def pciFunc (s : State) (f : Nat) : Nat :=
  let x := getF s f
  let n := (s.ctxs.filter (fun e => e.2.inUse && e.2.fn == f)).length
  n * 2 ^ 16 + bitIf (fnEnabled s f) 7 + bitIf x.d3 6 + bitIf x.msixMask 5 + bitIf x.msixEn 4 + bitIf x.bme 3 + bitIf x.mse 2
    + bitIf x.inReset 1 + 1

/-- The settings of SYS and SEC.
Log 30 (DESIGN CHOICE). -/
def readSys (s : State) (i c : Nat) : Nat :=
  if i = 0 then
    0x4E594458 * 2 ^ 32 + 0x01 * 2 ^ 24 + 0xB1 * 2 ^ 16 + (if s.fuses.gradeW = 1000 then 10 else 6) * 256
      + (if isFleet s then 1 else 0)
  else if i = 1 then s.fuses.serial.toNat
  else if i = 4 then s.straps.profile.toNat * 64 + s.straps.chnSlot.toNat * 4 + s.straps.smbAddr.toNat
  else if i = 0x10 then bistResult s
  else if i = 0x11 then bistCounts s
  else if i = 0x12 then s.bist.micros.toNat
  else if i = 0x13 then s.bist.essential.toNat
  else if i = 0x30 then dsigOf ((liveVal s 4 0x60 c).getLsbD 0) ((liveVal s 4 0x62 c).getLsbD 0)
  else if i = 0x41 then (match (getPair s c).first with
    | some (ctr, _, _) => ctr % 2 ^ 64
    | none => 2 ^ 64 - 1)
  else if i = 0x42 then (match (getPair s c).first with
    | some (_, slot, tile) => slot % 2 ^ 16 * 2 ^ 48 + tile % 2 ^ 48
    | none => 2 ^ 64 - 1)
  else (liveVal s 0 i c).toNat

/-- The settings of PWR. -/
def readPwr (s : State) (i : Nat) : Nat :=
  if i = 0 then powerState s
  else if i = 0x21 then capStatus s
  else if i = 0x22 then s.pwr.overheadE.toNat
  else if i = 0x31 then ((List.range 64).map (fun g => bitIf (s.pwr.stale.contains g) g)).foldl (· + ·) 0
  else if i ≥ 0x100 then domState s (i - 0x100)
  else (liveVal s 1 i 0).toNat

/-- The settings of THM. -/
def readThm (s : State) (i : Nat) : Nat :=
  if i = 0x20 then thmStatus s
  else if i = 0x30 then
    s.thm.latchV.toNat + bitIf s.thm.latchR 3 + bitIf s.thm.latched 4 + (if s.thm.latchR then s.thm.latchS % 1024 * 2 ^ 16 else 0)
  else if 0x100 ≤ i ∧ i ≤ 0x140 then thmTarget s (i - 0x100)
  else if i ≥ 0x400 then thmTemp s (i - 0x400)
  else (liveVal s 2 i 0).toNat

/-- The settings of TRD. -/
def readTrd (s : State) (i : Nat) : Nat :=
  if i = 0 then trdStatus s
  else if i = 1 then s.trd.commitSeq.toNat
  else if i = 3 then s.trd.lastCommit
  else if i = 4 then s.trd.fixCount * 2 ^ 16 + s.trd.corrCount
  else if i = 0x22 then s.err.ringTail.toNat
  else if i = 0x30 then errStatus s
  else if 0x31 ≤ i ∧ i ≤ 0x34 then
    Tbl.get 0 s.err.accepted (i - 0x31) * 2 ^ 32 + Tbl.get 0 s.err.coalesced (i - 0x31) * 2 ^ 16 + Tbl.get 0 s.err.overflow (i - 0x31)
  else if i ≥ 0x100 then trdSlot s (i - 0x100)
  else (liveVal s 3 i 0).toNat

/-- The performance counters of a context (09 R312).
Log 13 (DESIGN CHOICE); 126 (DEDUCED). -/
def perfWord (s : State) (c k : Nat) : Word64 :=
  let x := getC s c
  if k = 1 then x.tileOps
  else if k = 0 then x.beats + (if x.perfOn then Config.perfBeats 0 c s.aon else 0)
  else x.stall + (if x.perfOn then Config.perfBeats 1 c s.aon else 0)

/-- The settings of CLU.
Log 126 (DEDUCED). -/
def readClu (s : State) (i c : Nat) : Nat :=
  if 0x20 ≤ i ∧ i ≤ 0x2F then bitWord s.bist.excluded (i - 0x20)
  else if 0x30 ≤ i ∧ i ≤ 0x3F then bitWord s.bist.bootCop (i - 0x30)
  else if 0x41 ≤ i ∧ i ≤ 0x43 then (perfWord s c (i - 0x41)).toNat
  else if 0x54 ≤ i ∧ i ≤ 0x57 then mapWord (groupOwner s) (i - 0x54) 64
  else if i = 0x61 then (getC s c).status % 65536
  else if i ≥ 0x400 then slotMapWord s (i - 0x400)
  else (liveVal s 4 i c).toNat

/-- The settings of MEM. -/
def readMem (s : State) (i c : Nat) : Nat :=
  if 0x10 ≤ i ∧ i ≤ 0x15 then let e := getE s (i - 0x10); eccWord e.ue e.chk e.cor
  else if i = 0x16 then eccWord s.ecc.spUe s.ecc.spChk s.ecc.spCor
  else if 0x17 ≤ i ∧ i ≤ 0x1C then eccRate s (i - 0x17)
  else if 0x21 ≤ i ∧ i ≤ 0x26 then
    let e := getE s (i - 0x21)
    e.next % 2 ^ 32 * 2 ^ 32 + Nat.min 65535 e.passes * 2 ^ 16 + bitIf e.late 1 + bitIf e.esc 0
  else if 0x70 ≤ i ∧ i ≤ 0x78 then mapWord (sliceOwner s) (i - 0x70) 144
  else if i = 0x79 then mapWord (shutOwner s) 0 12
  else if i = 0x202 then (getC s c).xlatDone.toNat
  else (liveVal s 5 i c).toNat

/-- The settings of CHK. -/
def readChk (s : State) (i : Nat) : Nat :=
  if i = 0x10 then s.chk.tiles.toNat
  else if i = 0x11 then s.chk.fails.toNat
  else if i = 0x12 then s.chk.arbs.toNat
  else if i = 0x13 then s.chk.unres.toNat
  else if i ≥ 0x400 then clFaults s (i - 0x400)
  else (liveVal s 6 i 0).toNat

/-- The settings of BRL. -/
def readBrl (s : State) (i c : Nat) : Nat :=
  if i = 0 then brlStatus s
  else if i = 1 then (if s.brl.packNo = 0 then 0 else bytesAt (packBytes s) 8 4 * 2 ^ 32 + bytesAt (packBytes s) 12 4)
  else if i = 2 then s.brl.packAt
  else if i = 3 then s.brl.curCl % 2 ^ 16 * 2 ^ 16 + s.brl.curItem % 2 ^ 16
  else if i ≥ 0x600 then brlProgress s (i - 0x600)
  else (liveVal s 7 i c).toNat

/-- The settings of LNK. -/
def readLnk (s : State) (i : Nat) : Nat :=
  if i = 0x10 then axisState s 0 + axisState s 1 * 16 + axisState s 2 * 256
  else if 0x100 ≤ i ∧ i ≤ 0x105 then portStatus s (i - 0x100)
  else if 0x110 ≤ i ∧ i ≤ 0x115 then (if (getL s (i - 0x110)).up then (getL s (i - 0x110)).serial.toNat else 0)
  else if 0x120 ≤ i ∧ i ≤ 0x125 then
    let l := getL s (i - 0x120)
    Nat.min 65535 l.trainings * 2 ^ 48 + Nat.min 65535 l.crcFails * 2 ^ 32 + Nat.min 0xFFFFFFFF l.resends
  else (liveVal s 9 i 0).toNat

/-- The settings of COL. -/
def readCol (s : State) (i c : Nat) : Nat :=
  if i = 0x21 then Tbl.get 0 s.col.heads c
  else if i = 0x30 then
    let n := Tbl.get (0, 0, 0) s.col.counts c
    Nat.min 0xFFFFFFFF n.1 * 2 ^ 32 + Nat.min 65535 n.2.1 * 2 ^ 16 + Nat.min 65535 n.2.2
  else if 0x110 ≤ i ∧ i ≤ 0x11F then colGroupState s c (i - 0x110)
  else (liveVal s 10 i c).toNat

/-- The settings of ESP; ESP.STOP_NOW reads 0 (19 R671). -/
def readEsp (s : State) (i c : Nat) : Nat :=
  if i = 0 then espStatus s
  else if i = 0x21 then Tbl.get 0 s.esp.heads c
  else if i = 0x30 then 0
  else if i = 0x50 then espCounts s
  else (liveVal s 11 i c).toNat

/-- The settings of REC. -/
def readRec (s : State) (i : Nat) : Nat :=
  if i = 2 then recStatus s
  else if i = 3 then recCounts s
  else if i = 4 then recWear s
  else if i = 5 then powerOnSec s % 2 ^ 32 * 2 ^ 32 + s.rcd.pcc % 2 ^ 24
  else if i = 6 then logFirst s
  else if i = 7 then s.rcd.log.next
  else if i = 8 then s.rcd.freezeReg.toNat
  else if i = 9 then s.rcd.readPtr.toNat
  else if i = 0xA then (ptrSlot s).2
  else if 0x10 ≤ i ∧ i ≤ 0x17 then bytesAt (ptrSlot s).1 (8 * (i - 0x10)) 8
  else (liveVal s 12 i 0).toNat

/-- The live value of an assigned setting. -/
def readWord (s : State) (blk i c : Nat) : Word64 :=
  w64 (match blk with
  | 0 => readSys s i c
  | 1 => readPwr s i
  | 2 => readThm s i
  | 3 => readTrd s i
  | 4 => readClu s i c
  | 5 => readMem s i c
  | 6 => readChk s i
  | 7 => readBrl s i c
  | 8 => if i = 0x30 then serviceWord s else if i = 0x31 then s.rst.seq.toNat else (liveVal s 8 i c).toNat
  | 9 => readLnk s i
  | 10 => readCol s i c
  | 11 => readEsp s i c
  | 12 => readRec s i
  | 13 => if i = 0 then chnStatus s else if i = 1 then chnCounts s else if i = 0x10 then chnGrants s else (liveVal s 13 i 0).toNat
  | 14 => if i = 0 then pciStatus s
      else if i = 1 then s.pci.cntWidth * 2 ^ 48 + s.pci.cntFor * 2 ^ 32 + s.pci.cntCorr * 2 ^ 16 + s.pci.cntTo
      else pciFunc s (i - 0x100)
  | 15 => if i = 0 then timStatus s
      else if i ≥ 0x100 then ((getL s (i - 0x100)).delay % 2 ^ 64).toNat
      else (liveVal s 15 i 0).toNat
  | _ => if i = 0x50 then (Config.scanPolicy s.bist.scanLock).toNat else bitWord s.fuses.coppice (i - 0x40))

/-- The reset value of a per-context setting (24 R789, R792). -/
def ctxReset (s : State) (blk i : Nat) : Word64 :=
  if blk = 0 ∧ i = 0x30 then w64 (dsigOf false false)
  else if blk = 0 ∧ (i = 0x41 ∨ i = 0x42) then BitVec.allOnes 64
  else setReset s blk i

/-- The live value of setting `r` as RDS reads it: of a context that is not allocated, the reset value (24 R795).
Log 126 (DEDUCED). -/
def readSetting (s : State) (r : SetRow) (idx ctx : Nat) : Word64 :=
  if r.perCtx ∧ !(decide (ctx < 256) && (getC s ctx).inUse) then ctxReset s r.blk idx
  else readWord s r.blk idx (if r.perCtx then ctx else 0)

end Sys2Proof.Machine
end

