-- ==== Sys2Proof/Machine/Chorno.lean ====
section
/-! DEFINITION. Chorno and the SMBus target (21 R709 to R741): the guardian, the message of a device slot, the tray controller's
commands, and the SMBus commands of Table 21.9. -/

namespace Sys2Proof.Machine

/-! ### Records and flags -/

/-- Change Chorno. -/
def updN (s : State) (f : Chorno → Chorno) : State := { s with chn := f s.chn }

/-- The payload of a management record (Table 21.12). -/
def chnPay (s : State) (type seq result queue action : Nat) : List Byte :=
  pay [(1, s.straps.chnSlot.toNat), (1, chnState s), (2, Nat.min 65535 (chnU s)), (4, s.chn.frameC), (1, type), (1, seq), (1, result),
       (1, chnHits s), (1, chnColls s), (2, queue), (1, action)]

/-- A direct management record. -/
def chnRec (s : State) (code : Nat) : State := record s code 0 0x0E 0 (chnPay s 0 0 0 0xFFFF 0xFF)

/-- Whether no Treadle runs queue 1023 (R726); during a takeover a command is accepted and waits (21 "A command during a takeover"). -/
def noTreadle (s : State) : Bool :=
  !(s.phase == .run || s.phase == .keepAlive || s.phase == .oosHold) || (!s.trd.owner && s.trd.takeover == 0)

/-- The device status flags (Table 21.4). -/
def chnFlags (s : State) : Nat :=
  bitIf (s.phase == .stay || s.phase == .strapBad) 0 + bitIf (s.phase == .oosHold) 1 + bitIf (pcReqLow s) 2 + bitIf s.thm.latched 3
    + bitIf (faultLow s) 4 + bitIf (powerState s == 1) 5 + bitIf (noTreadle s) 6 + bitIf s.rcd.frozen 7 + bitIf (!s.err.folded.isEmpty) 8
    + powerState s * 2 ^ 9 + bitIf (isFleet s) 12

/-! ### Beacons and slots -/

/-- The self-mute is lifted after 16 consecutive clean frames (R718).
Log 113 (DEDUCED). -/
def liftMute (s : State) : State :=
  if s.chn.selfM ∧ s.chn.run ≥ 16 then chnRec (updN s (fun c => { c with selfM := false })) 0xB004 else s

/-- BEACON (R713, R715, R717 to R719): a valid beacon carries the masks; a clean one sets the frame origin.
Log 113 (DEDUCED); 132 (DESIGN CHOICE). -/
def execBeacon (b : BeaconMsg) (s : State) : Host.Outcome State Fault Refusal :=
  .next (if s.phase = .off then s
  else if !b.crcOk then updN s (fun c => { c with crcFail := satAdd 65535 c.crcFail 1, run := 0 })
  else
    let slot := s.straps.chnSlot.toNat
    let was := s.chn.sync
    let clean := !was || decide (b.errNs * 20 ≤ 4000 + 1024 * chnAge s)
    let s := updN s (fun c => { c with frame := b.frame.toNat, cmdM := b.mute.getLsbD slot, hits := (b.guardHit.getLsbD slot :: c.hits).take 64 })
    let s := if clean then
        let s := updN s (fun c => { c with clean := c.frames, frameC := b.frame.toNat, sync := true, silent := false, run := c.run + 1 })
        if was then s else chnRec s 0xB001
      else updN s (fun c => { c with run := 0 })
    if b.guardHit.getLsbD slot ∧ chnHits s ≥ 4 ∧ !s.chn.selfM then
      let s := updN s (fun c => { c with selfM := true, run := 0 })
      accept s 0xB003 2 0x0E 0 0xFFFF 0xFFFF (chnPay s 0 0 0 0xFFFF 0xFF)
    else liftMute s)

/-- A burst leaves the device: preamble, start character, header, payload, CRC-32C (R712, Table 21.3).
Log 10 (DESIGN CHOICE). -/
def sendBurst (s : State) (kind : Nat) (payload : List Byte) : State :=
  let h := leBytes 1 kind ++ leBytes 1 0x10 ++ leBytes 1 s.straps.chnSlot.toNat ++ leBytes 1 (s.chn.bursts % 256)
    ++ leBytes 2 payload.length ++ leBytes 2 (chnFlags s) ++ payload
  let b := [0x55#8, 0x7E#8] ++ h ++ leBytes 4 (crc32c h).toNat
  { s with out := .chn kind 0x10 b :: s.out, chn := { s.chn with bursts := satAdd 65535 s.chn.bursts 1 } }

/-- The payload of HOLD (Table 21.6): a power-cycle request is named before the out-of-service hold.
Log 114 (DEDUCED). -/
def holdPay (s : State) : List Byte := leBytes 1 (if pcReqLow s then 2 else 1) ++ leBytes 3 (serviceWord s)

/-- The first direct record in the order of Table 21.8, and the rest. -/
def firstDirect (s : State) : Option (Rec × List Rec) :=
  let l := s.err.direct
  let nine := if isFleet s then l.findIdx? (fun r => r.code / 4096 == 9) else none
  match l[nine.getD 0]? with
  | some r => some (r, l.eraseIdx (nine.getD 0))
  | none => none

/-- The message of a slot in which the device transmits (R722): its type, its payload, and the state that has sent it.
Log 114 (DEDUCED). -/
def slotMessage (s : State) : Nat × List Byte × State :=
  let c := s.chn
  let late := (c.txq.head?).elim false (fun m => decide (c.frames ≥ m.1 + 8))
  let prog := fun (_ : Unit) => (0x88, (c.txq.head?).elim [] (·.2), updN s (fun c => { c with txq := c.txq.drop 1 }))
  match c.ans with
  | some (k, b) => (k, b, updN s (fun c => { c with ans := none }))
  | none =>
    if !c.done.isEmpty then (0x87, c.done.headD [], updN s (fun c => { c with done := c.done.drop 1 }))
    else if s.bist.repeatDue then
      (0x89, summaryPay s (bistResult s) (bistCounts s) s.bist.essential.toNat, { s with bist := { s.bist with repeatDue := false } })
    else if c.holdDue then (0x8B, holdPay s, updN s (fun c => { c with holdDue := false }))
    else if !s.err.folded.isEmpty then
      (0x82, (List.range 14).flatMap (fun i => leBytes 2 (Nat.min 65535 (Tbl.get 0 s.err.folded (i + 1)))), { s with err := { s.err with folded := [] } })
    else if late then prog ()
    else match s.err.reports with
      | r :: t => (0x81, r.bytes, { s with err := { s.err with reports := t } })
      | [] =>
        if !c.txq.isEmpty then prog ()
        else match firstDirect s with
          | some (r, t) => (0x8A, r.bytes, { s with err := { s.err with direct := t } })
          | none => (0x80, [], s)

/-- A frame has passed. -/
def endFrame (s : State) : State := updN s (fun c => { c with frames := c.frames + 1 })

/-- DEVICE_SLOT (R716 to R722): the device's slot of a frame.  It sends one message if it is synchronised, its uncertainty permits and
no mute holds; `collided` says that a character read back differed from the one sent.
Log 113, 114 (DEDUCED). -/
def execDeviceSlot (collided : Bool) (s : State) : Host.Outcome State Fault Refusal :=
  .next (if s.phase = .off then s
  else
    let s := if chnAge s > 0 then updN s (fun c => { c with run := 0 }) else s
    let s := if s.chn.sync ∧ chnSilent s then chnRec (updN s (fun c => { c with sync := false, silent := true })) 0xB002 else s
    if !s.chn.sync || s.chn.selfM || s.chn.cmdM || s.chn.clash then endFrame s
    else
      let m := slotMessage s
      let s := sendBurst m.2.2 m.1 m.2.1
      let s := updN s (fun c => { c with colls := (collided :: c.colls).take 64, collN := satAdd 255 c.collN (b2n collided) })
      let s := if collided ∧ chnColls s ≥ 4 then
          let s := updN s (fun c => { c with clash := true })
          accept s 0xB005 2 0x0E 0 0xFFFF 0xFFFF (chnPay s 0 0 0 0xFFFF 0xFF)
        else s
      endFrame s)

/-! ### Commands -/

/-- The results of Table 21.7. -/
def ackOk : Nat := 0
def ackBusy : Nat := 1
def ackMalformed : Nat := 2
def ackNoTreadle : Nat := 3
def ackNotNow : Nat := 4

/-- An answer: an ACK with a result and words, or another message. -/
inductive Answer where
  | ack (result : Nat) (words : List Word64)
  | msg (kind : Nat) (payload : List Byte)

/-- A command of the tray controller to this device (R721): it is performed once for a sequence number and answered; one answered
with a result other than OK records CHN_CMD_REFUSED (Table 21.11).
Log 114 (DEDUCED). -/
def chnCommand (s : State) (h : ChnHdr) (type : Nat) (f : State → Answer × State) : State :=
  if s.phase = .off ∨ h.dst.toNat ≠ s.straps.chnSlot.toNat then s
  else match s.chn.last with
    | some (q, m) => if q = h.seq.toNat then updN s (fun c => { c with ans := some m }) else go s
    | none => go s
where
  go (s : State) : State :=
    let r := f s
    let m := match r.1 with
      | .ack n ws => (0x83, leBytes 1 h.seq.toNat ++ leBytes 1 n ++ ws.flatMap (fun w => leBytes 8 w.toNat))
      | .msg k b => (k, b)
    let s := updN r.2 (fun c => { c with ans := some m, last := some (h.seq.toNat, m) })
    match r.1 with
    | .ack n _ => if n = 0 then s else record s 0xB010 0 0x0E 0 (chnPay s type h.seq.toNat n 0xFFFF 0xFF)
    | .msg _ _ => s

/-- The entry that an entry image spells (R725), for a program of `len` bytes; undefined flags end it with MALFORMED. -/
def chnEntry (b : List Byte) (len : Nat) : CmdEntry :=
  { tag := BitVec.ofNat 32 (bytesAt b 0 4), irq := (bytesAt b 4 1).testBit 0, stopOn := (bytesAt b 4 1).testBit 1, progAddr := 0,
    progLen := len, args := (List.range 4).map (fun i => w64 (bytesAt b (8 + 8 * i) 8)),
    bad := if bytesAt b 4 1 > 3 then stMalformed else 0, stops := false }

/-- The last segment has arrived: the entry is placed in queue 1023 (R725, R726). -/
def placeProgram (s : State) (id : Nat) (b : List Byte) : Nat × State :=
  let len := b.length - 40
  if b.length < 48 ∨ len > 1024 ∨ len % 8 ≠ 0 then (ackMalformed, s)
  else if noTreadle s then (ackNoTreadle, s)
  else if s.chn.ids.length ≥ 4 then (ackBusy, s)
  else
    let s := updN s (fun c => { c with asm := none, ids := c.ids ++ [(id, b.drop 40)] })
    let s := updQ s 1023 (fun d => { d with entries := d.entries ++ [chnEntry b len], tail := (d.tail + 1) % 0x100000000,
                                            fetch := (d.fetch + 1) % 0x100000000 })
    (ackOk, settleQueue (jot s) 1023)

/-- PROGRAM_SEG (R725, R726).  Segment 0 discards a partial assembly; a segment that is answered BUSY or NO_TREADLE may be sent again.
Log 114 (DEDUCED). -/
def execProgramSeg (h : ChnHdr) (progId : BitVec 16) (seg nseg : Byte) (data : List Byte) (s : State) :
    Host.Outcome State Fault Refusal :=
  .next (chnCommand s h 0x10 (fun s =>
    let id := progId.toNat
    let n := nseg.toNat
    if data.isEmpty ∨ data.length > 256 ∨ n < 1 ∨ n > 5 ∨ seg.toNat ≥ n then (.ack ackMalformed [], s)
    else
      let s := if seg = 0 then updN s (fun c => { c with asm := none }) else s
      let sofar := if seg = 0 then some ⟨id, n, 0, [], s.chn.frames⟩ else s.chn.asm
      match sofar with
      | none => (.ack ackMalformed [], s)
      | some a =>
        if a.id ≠ id ∨ a.nseg ≠ n ∨ a.next ≠ seg.toNat then (.ack ackMalformed [], s)
        else if seg.toNat + 1 < n then
          (.ack ackOk [], updN s (fun c => { c with asm := some { a with next := a.next + 1, data := a.data ++ data } }))
        else
          let r := placeProgram s id (a.data ++ data)
          (.ack r.1 [], r.2)))

/-- PROGRAM_ASSEMBLY_TIMEOUT (R726): an assembly that is not complete within 100 frames is discarded. -/
def execProgramAssemblyTimeout (s : State) : Host.Outcome State Fault Refusal :=
  .next (match s.chn.asm with
  | some a => if a.begun + 100 ≤ s.chn.frames then updN s (fun c => { c with asm := none }) else s
  | none => s)

/-- GRANT (R727, R737): the operator grant of an administrator queue of the PF is given or revoked.
Log 35 (DEDUCED). -/
def execGrant (h : ChnHdr) (queue : BitVec 16) (action : Byte) (s : State) : Host.Outcome State Fault Refusal :=
  .next (chnCommand s h 0x11 (fun s =>
    let q := queue.toNat
    let d := getQ s q
    let note := fun (s : State) => record (jot s) 0xB020 0 0x0E 0 (chnPay s 0x11 h.seq.toNat 0 q action.toNat)
    if noTreadle s then (.ack ackNoTreadle [], s)
    else if q > 1022 ∨ !d.valid ∨ d.priv ≠ 1 ∨ d.fn ≠ 0 ∨ action.toNat > 1 then (.ack ackMalformed [], s)
    else if action = 1 then
      if s.trd.grants.contains q then (.ack ackOk [], s)
      else if s.trd.grants.length ≥ 4 then (.ack ackBusy [], s)
      else (.ack ackOk [], note { s with trd := { s.trd with grants := s.trd.grants ++ [q] } })
    else if s.trd.grants.contains q then (.ack ackOk [], note { s with trd := { s.trd with grants := dropNat s.trd.grants q } })
    else (.ack ackOk [], s)))

/-- Whether the always-on domain answers for a setting without a Treadle (R728).
Log 55 (DEDUCED). -/
def aonServes (blk idx : Nat) : Bool :=
  blk == 0 || blk == 12 || (blk == 8 && idx == 0x30) || (blk == 2 && (decide (idx ≥ 0x400) || idx == 0x20)) || (blk == 1 && idx == 0)
    || (blk == 9 && idx == 0x10) || (blk == 4 && decide (0x20 ≤ idx) && decide (idx ≤ 0x3F))
    || (blk == 16 && decide (0x40 ≤ idx) && decide (idx ≤ 0x4F))

/-- Consecutive words from a setting on, up to the first that cannot be read; the result is that of the first word.
Log 115 (DEDUCED). -/
def readWords (s : State) (blk : Nat) : Nat → Nat → Nat × List Word64 × State
  | 0, _ => (ackOk, [], s)
  | n + 1, idx =>
    match setRow blk idx with
    | none => (ackMalformed, [], s)
    | some r =>
      if r.perCtx then (ackMalformed, [], s)
      else if noTreadle s ∧ !aonServes blk idx then (ackNoTreadle, [], s)
      else
        let v := readSetting s r idx 0
        let s := if blk = 12 ∧ idx = 0x17 then readAdvance s else s
        let t := readWords s blk n (idx + 1)
        (ackOk, v :: t.2.1, t.2.2)

/-- READ_SETTING (R728, R794): up to 7 consecutive words.
Log 115 (DEDUCED). -/
def execReadSetting (h : ChnHdr) (blk : Byte) (idx : BitVec 16) (words : Byte) (s : State) : Host.Outcome State Fault Refusal :=
  .next (chnCommand s h 0x12 (fun s =>
    if words = 0 ∨ words.toNat > 7 then (.ack ackMalformed [], s)
    else
      let r := readWords s blk.toNat words.toNat idx.toNat
      (.ack r.1 r.2.1, r.2.2)))

/-- REC_READ (R729): one recorder slot. -/
def execRecRead (h : ChnHdr) (region : Byte) (index : BitVec 64) (s : State) : Host.Outcome State Fault Refusal :=
  .next (chnCommand s h 0x13 (fun s =>
    if region.toNat > 3 then (.ack ackMalformed [], s)
    else
      let r := recSlot s region.toNat index.toNat
      (if r.2 ≥ 4 then .msg 0x85 (leBytes 1 r.2) else .msg 0x84 r.1, s)))

/-- Put a chunk into the staging half. -/
def stageChunk (l : List Byte) (c : Nat) (data : List Byte) : List Byte :=
  padTo (256 * c) (l.take (256 * c)) ++ data ++ l.drop (256 * c + 256)

/-- A chunk of a push is written and marked, or discarded and counted (R730). -/
def takeChunk (s : State) (chunk pushId : Nat) (data : List Byte) : Nat × State :=
  let drop := updN s (fun c => { c with packDis := satAdd 255 c.packDis 1 })
  if data.length ≠ 256 ∨ chunk > 16383 then (ackMalformed, drop)
  else if !(powerState s == 2 || powerState s == 3) || s.brl.verify.isSome then (ackNotNow, drop)
  else
    let held := if s.chn.pushId = some pushId then s.chn.chunks else []
    let s := updN s (fun c => { c with pushId := some pushId, chunks := insertNat held chunk })
    (ackOk, { s with brl := { s.brl with staging := stageChunk s.brl.staging chunk data } })

/-- PACK_DATA (R721, R730): to 0xFF it is not answered.
Log 115 (DEDUCED). -/
def execPackData (h : ChnHdr) (chunk pushId : BitVec 16) (data : List Byte) (s : State) : Host.Outcome State Fault Refusal :=
  .next (
  if h.dst = 0xFF#8 then (if s.phase = .off then s else (takeChunk s chunk.toNat pushId.toNat data).2)
  else chnCommand s h 0x14 (fun s =>
    let r := takeChunk s chunk.toNat pushId.toNat data
    (.ack r.1 [], r.2)))

/-- The chunks of the push that are missing: up to the length in the header, once chunk 0 is held. -/
def missingChunks (s : State) (pushId : Nat) : List Nat :=
  let held := if s.chn.pushId = some pushId then s.chn.chunks else []
  let len := bytesAt s.brl.staging 32 4
  let n := if held.contains 0 then Nat.min 16384 ((len + 255) / 256) else 16384
  (List.range n).filter (fun c => !held.contains c)

/-- PACK_QUERY (R721, Table 21.6): PACK_STATE.
Log 115 (DEDUCED). -/
def execPackQuery (h : ChnHdr) (pushId : BitVec 16) (s : State) : Host.Outcome State Fault Refusal :=
  .next (chnCommand s h 0x15 (fun s =>
    let held := if s.chn.pushId = some pushId.toNat then s.chn.chunks.length else 0
    (.msg 0x86 (leBytes 2 pushId.toNat ++ leBytes 2 held ++ ((missingChunks s pushId.toNat).take 30).flatMap (leBytes 2)), s)))

/-- HOLD_REPORT (R724): once a second HOLD is due while the device is out of service or requests a power cycle. -/
def execHoldReport (s : State) : Host.Outcome State Fault Refusal :=
  .next (if s.phase = .oosHold ∨ (s.phase ≠ .off ∧ pcReqLow s) then updN s (fun c => { c with holdDue := true }) else s)

/-! ### SMBus -/

/-- The packet error code of SMBus 3.2: CRC-8 with polynomial x^8 + x^2 + x + 1, most significant bit first.
Log 116 (PRESUMED). -/
def pecByte (c : Byte) : Nat → Byte
  | 0 => c
  | n + 1 => pecByte (if c.getLsbD 7 then (c <<< 1) ^^^ 0x07 else c <<< 1) n
/-- The packet error code over bytes.
Log 116 (PRESUMED). -/
def pec (l : List Byte) : Byte := l.foldl (fun c b => pecByte (c ^^^ b) 8) 0

/-- The target address (02 R64). -/
def smbAddr (s : State) : Nat := 0x58 + s.straps.smbAddr.toNat

/-- Change the SMBus target. -/
def updB2 (s : State) (f : Smbus → Smbus) : State := { s with smb := f s.smb }

/-- The bytes that a read of command `code` returns, with its packet error code.
Log 10 (DESIGN CHOICE). -/
def smbReply (s : State) (code : Nat) (data : List Byte) : State :=
  let a := BitVec.ofNat 8 (2 * smbAddr s)
  { s with out := .smb (data ++ [pec ([a, BitVec.ofNat 8 code, a + 1] ++ data)]) :: s.out }

/-- A read; nothing answers without VAUX33 (R732). -/
def smbRead (s : State) (code : Nat) (data : State → List Byte) : Host.Outcome State Fault Refusal :=
  .next (if s.phase = .off then s else smbReply s code (data s))

/-- A block read: the count, then the bytes. -/
def smbBlock (s : State) (code : Nat) (data : State → List Byte) : Host.Outcome State Fault Refusal :=
  smbRead s code (fun s => leBytes 1 (data s).length ++ data s)

/-- A write whose packet error code fails is discarded, sets the CML bit and records SMB_PEC_FAIL (R732). -/
def smbWrite (s : State) (code : Nat) (pecOk : Bool) (f : State → State) : State :=
  if s.phase = .off then s
  else if pecOk then f s
  else
    let s := updB2 s (fun b => { b with pec := true })
    record s 0xB030 1 0x0E 1 (chnPay s code 0 0 0xFFFF 0xFF)

/-- A LINEAR11 word of exponent `n` (two's complement in bits [15:11]) and mantissa `y` (Table 21.9).
Log 117 (DESIGN CHOICE). -/
def linear11 (n y : Int) : Nat := (n % 32).toNat * 2048 + (y % 2048).toNat

/-- The mantissa of `num`/`den`, at most 1,023, rounded as Config.linearUp says where it is not exact.
Log 117 (DESIGN CHOICE). -/
def mantissa (code num den : Nat) : Int :=
  let q := num / den
  Nat.min 1023 (if num % den ≠ 0 ∧ Config.linearUp code num then q + 1 else q)

/-- STATUS_INPUT, with the latched bit or without. -/
def statusInput (s : State) (latched : Bool) : Nat :=
  bitIf ((latched && s.smb.inUv) || (s.pwr.pwrEn && !s.pwr.vin12)) 4 + bitIf (decide (meterMw s > (liveVal s 1 0x20 0).toNat * 1000)) 0
/-- STATUS_TEMPERATURE. -/
def statusTemp (s : State) : Nat := bitIf s.thm.latched 7 + bitIf (thermWarn s) 6
/-- STATUS_CML. -/
def statusCml (s : State) (latched : Bool) : Nat := bitIf (latched && s.smb.unsup) 7 + bitIf (latched && s.smb.pec) 5
/-- STATUS_BYTE (Table 21.10). -/
def statusByte (s : State) (latched : Bool) : Nat :=
  bitIf (!s.pwr.pwrGood) 6 + bitIf ((latched && s.smb.vinUv) || (s.pwr.pwrEn && !s.pwr.vin12)) 3 + bitIf (statusTemp s != 0) 2
    + bitIf (statusCml s latched != 0) 1 + bitIf (faultLow s || s.phase == .oosHold) 0
/-- STATUS_WORD (Table 21.9).
Log 117 (DESIGN CHOICE). -/
def statusWord (s : State) (latched : Bool) : Half :=
  BitVec.ofNat 16 (statusByte s latched + bitIf (statusInput s latched != 0) 13 + bitIf (Config.mfrStatus (chnFlags s)) 12
    + bitIf (!s.pwr.pwrGood) 11)

/-- SMB_ALERT_L is low: a bit of STATUS_WORD is set for which the alert has not been released (R734).
Log 116 (PRESUMED). -/
def smbAlert (s : State) : Bool := statusWord s true &&& ~~~s.smb.acked != 0

/-- The alert is released where no bit is set that is not still in force (R734). -/
def releaseAlert (s : State) : State :=
  let w := statusWord s true
  updB2 s (fun b => { b with acked := if w = statusWord s false then w else b.acked &&& w })

/-- PAGE: read, or write of 0 to 2 (R733).
Log 116 (PRESUMED); 132 (DESIGN CHOICE). -/
def execPage (write : Option Byte) (pecOk : Bool) (s : State) : Host.Outcome State Fault Refusal :=
  match write with
  | none => smbRead s 0x00 (fun s => leBytes 1 s.smb.page)
  | some v => .next (smbWrite s 0x00 pecOk (fun s => if v.toNat ≤ 2 then updB2 s (fun b => { b with page := v.toNat }) else s))

/-- CLEAR_FAULTS: the latched status bits clear (R733, R734). -/
def execClearFaults (pecOk : Bool) (s : State) : Host.Outcome State Fault Refusal :=
  .next (smbWrite s 0x03 pecOk (fun s =>
    releaseAlert (updB2 s (fun b => { b with vinUv := false, inUv := false, unsup := false, pec := false }))))

/-- CAPABILITY. -/
def execCapability (s : State) : Host.Outcome State Fault Refusal := smbRead s 0x19 (fun _ => [0xD0#8])
/-- STATUS_BYTE. -/
def execStatusByte (s : State) : Host.Outcome State Fault Refusal := smbRead s 0x78 (fun s => leBytes 1 (statusByte s true))
/-- STATUS_WORD. -/
def execStatusWord (s : State) : Host.Outcome State Fault Refusal := smbRead s 0x79 (fun s => leBytes 2 (statusWord s true).toNat)
/-- STATUS_INPUT. -/
def execStatusInput (s : State) : Host.Outcome State Fault Refusal := smbRead s 0x7C (fun s => leBytes 1 (statusInput s true))
/-- STATUS_TEMPERATURE. -/
def execStatusTemperature (s : State) : Host.Outcome State Fault Refusal := smbRead s 0x7D (fun s => leBytes 1 (statusTemp s))
/-- STATUS_CML. -/
def execStatusCml (s : State) : Host.Outcome State Fault Refusal := smbRead s 0x7E (fun s => leBytes 1 (statusCml s true))

/-- A read on a page that does not serve it sets CML and returns 0xFF bytes (R733). -/
def pageZero (s : State) (code : Nat) (data : State → List Byte) : Host.Outcome State Fault Refusal :=
  .next (if s.phase = .off then s
  else if s.smb.page = 0 then smbReply s code (data s)
  else smbReply (updB2 s (fun b => { b with unsup := true })) code [0xFF#8, 0xFF#8])

/-- READ_VIN: the rail of the page, in millivolts as measured. -/
def execReadVin (mV : Nat) (s : State) : Host.Outcome State Fault Refusal :=
  smbRead s 0x88 (fun _ => leBytes 2 (linear11 (-5) (mantissa 0x88 (mV * 32) 1000)))
/-- READ_IIN: the VIN12 current last measured. -/
def execReadIin (s : State) : Host.Outcome State Fault Refusal :=
  pageZero s 0x89 (fun s => leBytes 2 (linear11 (-3) (mantissa 0x89 (s.pwr.iin * 8) 1000)))
/-- A temperature in units of 0.25 °C as LINEAR11.
Log 28, 117 (DESIGN CHOICE). -/
def tempWord (code : Nat) (t : Option Int) : List Byte := leBytes 2 (t.elim (Config.noTemp code).toNat (linear11 (-2)))
/-- READ_TEMPERATURE_1: the hottest valid digital sensor. -/
def execReadTemperature1 (s : State) : Host.Outcome State Fault Refusal :=
  smbRead s 0x8D (fun s => tempWord 0x8D ((hottest s).map (·.2)))
/-- READ_TEMPERATURE_2: the uncore zone. -/
def execReadTemperature2 (s : State) : Host.Outcome State Fault Refusal := smbRead s 0x8E (fun s => tempWord 0x8E (uncoreTemp s))
/-- READ_PIN: the VIN12 1 ms average. -/
def execReadPin (s : State) : Host.Outcome State Fault Refusal :=
  pageZero s 0x97 (fun s => leBytes 2 (linear11 1 (mantissa 0x97 (meterMw s) 2000)))
/-- PMBUS_REVISION. -/
def execPmbusRevision (s : State) : Host.Outcome State Fault Refusal := smbRead s 0x98 (fun _ => [0x44#8])

/-- The bytes of a text. -/
def textBytes (t : List Nat) : List Byte := t.map (BitVec.ofNat 8)
/-- MFR_ID: "NYMDEX". -/
def execMfrId (s : State) : Host.Outcome State Fault Refusal := smbBlock s 0x99 (fun _ => textBytes [78, 89, 77, 68, 69, 88])
/-- MFR_MODEL: "Y512-P6" or "Y512-P10" by the grade fused. -/
def execMfrModel (s : State) : Host.Outcome State Fault Refusal :=
  smbBlock s 0x9A (fun s => textBytes ([89, 53, 49, 50, 45, 80] ++ (if s.fuses.gradeW = 1000 then [49, 48] else [54])))
/-- MFR_REVISION: "B1". -/
def execMfrRevision (s : State) : Host.Outcome State Fault Refusal := smbBlock s 0x9B (fun _ => textBytes [66, 49])
/-- MFR_SERIAL: SYS.SERIAL. -/
def execMfrSerial (s : State) : Host.Outcome State Fault Refusal := smbBlock s 0x9E (fun s => leBytes 8 s.fuses.serial.toNat)
/-- MFR_DEV_STATUS (Table 21.9). -/
def execMfrDevStatus (s : State) : Host.Outcome State Fault Refusal :=
  smbBlock s 0xD0 (fun s => leBytes 2 (chnFlags s) ++ leBytes 4 (bistCounts s) ++ leBytes 3 (serviceWord s) ++ leBytes 2 (chnStatus s)
    ++ leBytes 2 (hottestNo s) ++ zeros 3)
/-- MFR_BIST_RESULT: bytes 24 to 58 of the summary record (05 Table 5.9). -/
def execMfrBistResult (s : State) : Host.Outcome State Fault Refusal :=
  smbBlock s 0xD1 (fun s => summaryPay s (bistResult s) (bistCounts s) s.bist.essential.toNat)
/-- MFR_REC_PTR: the readout pointer of this path; a region beyond 3 is discarded. -/
def execMfrRecPtr (region : Byte) (index : BitVec 64) (pecOk : Bool) (s : State) : Host.Outcome State Fault Refusal :=
  .next (smbWrite s 0xD2 pecOk (fun s =>
    if region.toNat ≤ 3 then updB2 s (fun b => { b with region := region.toNat, index := index.toNat }) else s))
/-- MFR_REC_READ: the decoding and the slot's bytes; the pointer advances by one. -/
def execMfrRecRead (s : State) : Host.Outcome State Fault Refusal :=
  .next (if s.phase = .off then s
  else
    let r := recSlot s s.smb.region s.smb.index
    let d := leBytes 1 r.2 ++ r.1
    updB2 (smbReply s 0xD3 (leBytes 1 d.length ++ d)) (fun b => { b with index := (b.index + 1) % 2 ^ 64 }))

/-- ALERT_RESPONSE (R732, R734): while SMB_ALERT_L is low the target answers with its address, and the alert is released where no bit
is set that is not still in force.
Log 116 (PRESUMED). -/
def execAlertResponse (s : State) : Host.Outcome State Fault Refusal :=
  .next (if s.phase = .off ∨ !smbAlert s then s
  else
    let a := BitVec.ofNat 8 (2 * smbAddr s)
    releaseAlert { s with out := .smb [a, pec [0x19#8, a]] :: s.out })

end Sys2Proof.Machine
end

