-- ==== Sys2Proof/Machine/HexWork.lean ====
section
/-! DEFINITION. Hexah memory, context, queue, launch, synchronisation and reset instructions (07 Tables 7.6, 7.8, 7.10 to 7.12, R253,
R257 to R262, R269 to R271, R275, R276). -/

namespace Sys2Proof.Machine

/-! ### Memory -/

/-- Run `f` on a memory operand of `n` bytes at `addr`, or end the program with the status of R253.
Log 44 (DEDUCED). -/
def withOper (s : State) (slot : BitVec 6) (p : Prog) (addr : Word64) (n align : Nat) (env : Env) (f : List Byte → State → State) : State :=
  match progRead s p addr n align env with
  | (.ok b, s) => f b s
  | (.bad st, s) => endAt s slot p st

/-- A load of `n` bytes, zero-extended. -/
def hexLoad (n : Nat) (slot : BitVec 6) (rd ra : BitVec 5) (imm : Word32) (env : Env) (s : State) : Host.Outcome State Fault Refusal :=
  .next (onProg s slot (fun p =>
    withOper s slot p (p.reg ra + sext32 imm) n n env (fun b s => retireRd s slot p rd (w64 (leNat b)))))

/-- A store of `n` bytes. -/
def hexStore (n : Nat) (slot : BitVec 6) (ra rb : BitVec 5) (imm : Word32) (s : State) : Host.Outcome State Fault Refusal :=
  .next (onProg s slot (fun p =>
    match progWrite s p (p.reg ra + sext32 imm) (leBytes n (p.reg rb).toNat) n with
    | .ok s => retire s slot p
    | .error st => endAt s slot p st))

/-- LD (Table 7.6, R253). -/
def execLd := hexLoad 8
/-- LW (Table 7.6, R253). -/
def execLw := hexLoad 4
/-- ST (Table 7.6, R253). -/
def execSt := hexStore 8
/-- SW (Table 7.6, R253). -/
def execSw := hexStore 4

/-! ### Contexts and queues -/

/-- CTXSEL (R257): 0 to 255, or 0xFFFF.
Log 43 (DEDUCED). -/
def execCtxsel (slot : BitVec 6) (ra : BitVec 5) (s : State) : Host.Outcome State Fault Refusal :=
  .next (onPriv s slot 1 (fun p =>
    let v := (p.reg ra).toNat % 65536
    if v < 256 ∨ v = 0xFFFF then retire s slot { p with sel := v } else endAt s slot p stMalformed))

/-- Whether a place in the setting registers belongs to a per-context setting of context `c`. -/
def ctxPlace (c k : Nat) : Bool :=
  k % 256 == c && (setRow (k / 0x100000) (k / 0x100 % 0x1000)).elim false (·.perCtx)

/-- A setting register at its reset value; its generation stays (08 "A context is deleted between STAGE and COMMIT").
Log 48 (DEDUCED). -/
def resetCell (s : State) (e : Nat × SetCell) : SetCell :=
  let v := setReset s (e.1 / 0x100000) (e.1 / 0x100 % 0x1000)
  ⟨v, v, e.2.gen⟩

/-- A context is created: zero sync objects, step counter and seed, and every per-context setting at its reset value (24 R793).
Log 48 (DEDUCED). -/
def newCtx (s : State) (c : Nat) (tag : Word32) (fn : Nat) : State :=
  let s := putC s c { Ctx.free with inUse := true, jobTag := tag, fn := fn, energy := ⟨s.gtc, false, false⟩ }
  let s := { s with
    sets := { s.sets with regs := s.sets.regs.map (fun e => if ctxPlace c e.1 then (e.1, resetCell s e) else e) }
    pairs := Tbl.del s.pairs c
    col := { s.col with heads := Tbl.del s.col.heads c, counts := Tbl.del s.col.counts c }
    esp := { s.esp with heads := Tbl.del s.esp.heads c } }
  settleEsp (jot s) false

/-- CTXNEW (Table 7.8, R275). -/
def execCtxnew (slot : BitVec 6) (rd ra rb : BitVec 5) (imm : Word32) (s : State) : Host.Outcome State Fault Refusal :=
  .next (onPriv s slot 1 (fun p =>
    let c := (p.reg ra).toNat
    let f := imm.toNat
    if c > 255 ∨ f > 63 then endAt s slot p stMalformed
    else if (getC s c).inUse then retireRd s slot p rd 1
    else if !partDefined s (partOf c) then retireRd s slot p rd 2
    else if !fnEnabled s f then retireRd s slot p rd 3
    else retireRd (newCtx s c ((p.reg rb).setWidth 32) f) slot p rd 0))

/-- Start a reset for the program in a slot, which waits for it as `w` says of its number; a program whose own context it encloses
ends with OK before the fence is raised (R262).
Log 50 (DEDUCED). -/
def resetFor (s : State) (slot : BitVec 6) (p : Prog) (level target : Nat) (rd : BitVec 5) (w : Nat → WaitOn) : State :=
  let bound := (getQ s p.queue).ctx
  if level ≥ 4 ∨ (bound < 256 ∧ (enclosedCtxs s level target).contains bound) then
    endWith s slot.toNat { p with retired := p.retired + 1 } stOk 0xFFFF (some (level, target))
  else
    let wait := [(slot.toNat, rd.toNat)]
    let r := if level = 1 then killJob s target 0xC000 0xFFFF wait [] else beginReset s level target 0xC000 wait []
    parkOn r.2 slot p (w r.1)

/-- CTXDEL (Table 7.8): a context reset, then the number is free.
Log 50 (DEDUCED). -/
def execCtxdel (slot : BitVec 6) (rd ra : BitVec 5) (s : State) : Host.Outcome State Fault Refusal :=
  .next (onPriv s slot 1 (fun p =>
    let c := (p.reg ra).toNat
    if c > 255 then endAt s slot p stMalformed
    else if !(getC s c).inUse then retireRd s slot p rd 1
    else resetFor s slot p 0 c rd (fun id => .delete id c rd.toNat)))

/-- QCREATE (Table 7.8, 06 R198, R199).
Log 39 (DEDUCED). -/
def execQcreate (slot : BitVec 6) (rd ra rb : BitVec 5) (env : Env) (s : State) : Host.Outcome State Fault Refusal :=
  .next (onPriv s slot 1 (fun p =>
    let q := (p.reg ra).toNat
    if q < 1 ∨ q > 1022 then endAt s slot p stMalformed
    else withOper s slot p (p.reg rb) 48 8 env (fun b s =>
      if (getQ s q).valid then retireRd s slot p rd 1
      else if !imageOk s b then endAt s slot p stMalformed
      else retireRd (createQueue s q b false) slot p rd 0)))

/-- A QCTL on an existing queue (R275). -/
def onQueue (s : State) (slot : BitVec 6) (ra : BitVec 5) (f : Prog → Nat → Queue → State) : State :=
  onPriv s slot 1 (fun p =>
    let q := (p.reg ra).toNat
    if q > 1023 ∨ !(getQ s q).valid then endAt s slot p stMalformed else f p q (getQ s q))

/-- A queue runs from now on, unless its descriptor fails its CRC (06 R236). -/
def enableQueue (s : State) (q : Nat) : State :=
  settleQueue (openQueue s q { getQ s q with enabled := true, stopped := false, ctlAfter := none }) q

/-- QCTL, imm 0: enable. -/
def execQctlEnable (slot : BitVec 6) (rd ra : BitVec 5) (s : State) : Host.Outcome State Fault Refusal :=
  .next (onQueue s slot ra (fun p q _ => retireRd (enableQueue s q) slot p rd 0))

/-- QCTL, imm 1: disable.  On the program's own queue it takes effect after its completion record (R271).
Log 40 (DEDUCED). -/
def execQctlDisable (slot : BitVec 6) (rd ra : BitVec 5) (s : State) : Host.Outcome State Fault Refusal :=
  .next (onQueue s slot ra (fun p q _ =>
    if q = 0 ∨ q = 1023 then retireRd s slot p rd 2
    else if q = p.queue then retireRd (updQ s q (fun d => { d with ctlAfter := some 1 })) slot p rd 0
    else retireRd (disableQueue s q) slot p rd 0))

/-- QCTL, imm 2: stop. -/
def execQctlStop (slot : BitVec 6) (rd ra : BitVec 5) (s : State) : Host.Outcome State Fault Refusal :=
  .next (onQueue s slot ra (fun p q d =>
    if q = p.queue then retireRd (updQ s q (fun d => { d with ctlAfter := some (d.ctlAfter.getD 2) })) slot p rd 0
    else retireRd (if d.enabled then stopQueue s q else s) slot p rd 0))

/-- QCTL, imm 3: destroy.  A queue that is enabled or has a program in a slot is not destroyed; the program's own queue is, after its
completion record, where nothing else would be left to run (R271).
Log 40 (DEDUCED). -/
def execQctlDestroy (slot : BitVec 6) (rd ra : BitVec 5) (s : State) : Host.Outcome State Fault Refusal :=
  .next (onQueue s slot ra (fun p q d =>
    if q = 0 ∨ q = 1023 then retireRd s slot p rd 2
    else if q = p.queue then
      if d.enabled ∧ d.ctlAfter ≠ some 1 ∧ d.ctlAfter ≠ some 3 then retireRd s slot p rd 1
      else retireRd (updQ s q (fun d => { d with ctlAfter := some 3 })) slot p rd 0
    else if d.enabled ∨ d.running.isSome ∨ d.pendRec.isSome then retireRd s slot p rd 1
    else retireRd (destroyQueue s q) slot p rd 0))

/-! ### Instructions on the selected context -/

/-- Run an instruction on the context of Sel: MALFORMED without one (R257, R275), REFUSED_FENCED inside a raised fence (06 R233).
Log 42, 43 (DEDUCED). -/
def onCtx (s : State) (slot : BitVec 6) (f : Prog → Nat → State) : State :=
  onProg s slot (fun p =>
    if p.sel > 255 then endAt s slot p stMalformed
    else if isFenced s p.sel then endAt s slot p stRefusedFenced
    else if !(getC s p.sel).inUse then endAt s slot p stMalformed
    else f p p.sel)

/-- GSEED: the seed of Sel is rb:ra (R259). -/
def execGseed (slot : BitVec 6) (ra rb : BitVec 5) (s : State) : Host.Outcome State Fault Refusal :=
  .next (onCtx s slot (fun p c => retire (updC s c (fun x => { x with seed := (p.reg rb) ++ (p.reg ra) })) slot p))

/-- Whether a launch descriptor keeps Table 7.9 for a context (R258). -/
def launchOk (s : State) (c : Nat) (b : List Byte) : Bool :=
  let f := bytesAt b
  let n := slotCount s (partOf c)
  let cnt := f 18 2
  f 60 4 == (crc32c (b.take 60)).toNat && f 0 8 % 8 == 0 && decide (1 ≤ cnt) && decide (cnt ≤ 512) && decide (f 16 2 + cnt ≤ n)
    && (!(f 21 1).testBit 0 || decide (2 * cnt ≤ n)) && decide (f 20 1 ≠ 0) && decide (f 20 1 < 16) && decide (f 21 1 < 2)
    && decide (f 22 2 ≤ 768) && (decide (f 24 2 < 256) || f 24 2 == 0xFFFF) && ((b.drop 26).take 34).all (· == 0)

/-- The launch that a descriptor describes, as accepted now with a number (R259). -/
def launchFrom (s : State) (c n : Nat) (b : List Byte) : Launch :=
  let f := bytesAt b
  { entry := w64 (f 0 8), arg := w64 (f 8 8), first := f 16 2, count := f 18 2, sheds := BitVec.ofNat 4 (f 20 1),
    twin := (f 21 1).testBit 0, scratch := f 22 2, doneObj := f 24 2, number := n, seed := (getC s c).seed,
    ordered := (liveVal s 4 0x60 c).getLsbD 0, sat := (liveVal s 4 0x62 c).getLsbD 0, order := s.orderCtr, started := false }

/-- A launch is accepted (R259, 09 R307, 11 R403): numbers count from 1. -/
def acceptLaunch (s : State) (c : Nat) (b : List Byte) : Nat × State :=
  let n := (getC s c).launchNo + 1
  let l := launchFrom s c n b
  let s := if hasWork s c then s else watchRestart s c
  let s := updC { s with orderCtr := s.orderCtr + 1 } c (fun x => { x with launchNo := n, launches := x.launches ++ [l] })
  (n, pairLaunch (jot s) c n l.ordered l.sat)

/-- LAUNCH (R258, R259, R276).
Log 43 (DEDUCED). -/
def execLaunch (slot : BitVec 6) (rd ra : BitVec 5) (env : Env) (s : State) : Host.Outcome State Fault Refusal :=
  .next (onCtx s slot (fun p c =>
    withOper s slot p (p.reg ra) 64 8 env (fun b s =>
      if (getC s c).ended ∨ !launchOk s c b then endAt s slot p stMalformed
      else
        let r := acceptLaunch s c b
        retireRd r.2 slot p rd (w64 r.1))))

/-- SCTR (Table 7.10). -/
def execSctr (slot : BitVec 6) (rd : BitVec 5) (s : State) : Host.Outcome State Fault Refusal :=
  .next (onCtx s slot (fun p c => retireRd s slot p rd (getC s c).stepCtr))

/-- SSET (Table 7.10, R260): result 1 while a step is open or a launch is running. -/
def execSset (slot : BitVec 6) (rd ra : BitVec 5) (s : State) : Host.Outcome State Fault Refusal :=
  .next (onCtx s slot (fun p c =>
    if (getC s c).step.isOpen || (getC s c).launches.any (·.started) then retireRd s slot p rd 1
    else retireRd (updC s c (fun x => { x with stepCtr := p.reg ra })) slot p rd 0))

/-- The object that a register names: bits [7:0]. -/
def objOf (v : Word64) : Nat := v.toNat % 256

/-- SYADD (Table 7.10, R269).
Log 43 (DEDUCED). -/
def execSyadd (slot : BitVec 6) (rd ra rb : BitVec 5) (s : State) : Host.Outcome State Fault Refusal :=
  .next (onCtx s slot (fun p c =>
    let o := objOf (p.reg ra)
    let v := syncGet s c o
    retireRd (syncPut s c o (v + p.reg rb)) slot p rd v))

/-- SYSET (Table 7.10). -/
def execSyset (slot : BitVec 6) (ra rb : BitVec 5) (s : State) : Host.Outcome State Fault Refusal :=
  .next (onCtx s slot (fun p c => retire (syncPut s c (objOf (p.reg ra)) (p.reg rb)) slot p))

/-- SYRD (Table 7.10). -/
def execSyrd (slot : BitVec 6) (rd ra : BitVec 5) (s : State) : Host.Outcome State Fault Refusal :=
  .next (onCtx s slot (fun p c => retireRd s slot p rd (syncGet s c (objOf (p.reg ra)))))

/-- WAIT (R261): imm[30:0] is the timeout in microseconds, at least 1; imm[31] makes it soft. -/
def execWait (slot : BitVec 6) (rd ra rb : BitVec 5) (imm : Word32) (s : State) : Host.Outcome State Fault Refusal :=
  .next (onCtx s slot (fun p c =>
    let t := imm.toNat % 2 ^ 31
    let o := objOf (p.reg ra)
    if t = 0 then endAt s slot p stMalformed
    else if (p.reg rb).toNat ≤ (syncGet s c o).toNat then retireRd s slot p rd 0
    else parkOn s slot p (.object c o (p.reg rb) (s.aon + t * 1000) rd.toNat (imm.getLsbD 31))))

/-- The program in a slot, while a Treadle serves it. -/
def held (s : State) (slot : BitVec 6) : Option Prog :=
  match getP s slot.toNat with
  | some p => if serves s p.queue then some p else none
  | none => none

/-- WAIT_WAKE (R261): the condition of a WAIT has become true. -/
def execWaitWake (slot : BitVec 6) (s : State) : Host.Outcome State Fault Refusal :=
  .next (match held s slot with
  | some p => (match p.wait with
    | .object c o v _ rd _ => if v.toNat ≤ (syncGet s c o).toNat then wakeRd s slot.toNat p rd 0 else s
    | _ => s)
  | none => s)

/-- WAIT_TIMEOUT (R261, R270): at the timeout the condition is evaluated once more.
Log 7 (DESIGN CHOICE). -/
def execWaitTimeout (slot : BitVec 6) (s : State) : Host.Outcome State Fault Refusal :=
  .next (match held s slot with
  | some p => (match p.wait with
    | .object c o v d rd soft =>
      if s.aon < d then s
      else if v.toNat ≤ (syncGet s c o).toNat then wakeRd s slot.toNat p rd 0
      else if soft then wakeRd s slot.toNat p rd 1
      else endWith s slot.toNat p stWaitTimeout p.index none
    | _ => s)
  | none => s)

/-- FENCE (Table 7.11): every earlier effect of the program is already visible when its instruction has retired.
Log 60 (DEDUCED). -/
def execFence (slot : BitVec 6) (s : State) : Host.Outcome State Fault Refusal :=
  .next (onProg s slot (fun p => retire s slot p))

/-! ### RESET -/

/-- RESET, imm 0: a context, the bound one for a tenant (Table 7.12). -/
def execResetContext (slot : BitVec 6) (rd ra : BitVec 5) (s : State) : Host.Outcome State Fault Refusal :=
  .next (onProg s slot (fun p =>
    let c := (p.reg ra).toNat
    if p.priv = 0 ∧ c ≠ (getQ s p.queue).ctx then endAt s slot p stPrivilege
    else if c > 255 then endAt s slot p stMalformed
    else if !(getC s c).inUse then retireRd s slot p rd 1
    else resetFor s slot p 0 c rd (fun id => .reset id rd.toNat)))

/-- RESET, imm 1: a job tag (16 R549).
Log 50 (DEDUCED). -/
def execResetJobTag (slot : BitVec 6) (rd ra : BitVec 5) (s : State) : Host.Outcome State Fault Refusal :=
  .next (onPriv s slot 1 (fun p =>
    let t := (p.reg ra).toNat
    if t ≥ 2 ^ 32 then endAt s slot p stMalformed
    else if (enclosedCtxs s 1 t).isEmpty then retireRd s slot p rd 1
    else resetFor s slot p 1 t rd (fun id => .reset id rd.toNat)))

/-- The engines that RESET takes: cluster, router tile, HBM controller, link port, Espalier, memory Shuttle, Reed (Table 7.12). -/
def resetEngineDom (d : Nat) : Bool :=
  decide (d < 512) || (decide (1024 ≤ d) && decide (d ≤ 1099)) || (decide (1102 ≤ d) && decide (d ≤ 1115))

/-- RESET, imm 2: an engine; one that is OFF or FAILED is absent.
Log 50 (DEDUCED). -/
def execResetEngine (slot : BitVec 6) (rd ra : BitVec 5) (s : State) : Host.Outcome State Fault Refusal :=
  .next (onPriv s slot 1 (fun p =>
    let d := (p.reg ra).toNat
    if !resetEngineDom d then endAt s slot p stMalformed
    else if domState s d ≠ 1 then retireRd s slot p rd 1
    else resetFor s slot p 2 d rd (fun id => .reset id rd.toNat)))

/-- RESET, imm 3: a partition; one that is not defined is absent. -/
def execResetPartition (slot : BitVec 6) (rd ra : BitVec 5) (s : State) : Host.Outcome State Fault Refusal :=
  .next (onPriv s slot 1 (fun p =>
    let t := (p.reg ra).toNat
    if t > 7 then endAt s slot p stMalformed
    else if !partDefined s t then retireRd s slot p rd 1
    else resetFor s slot p 3 t rd (fun id => .reset id rd.toNat)))

/-- RESET, imm 4: the chip. -/
def execResetChip (slot : BitVec 6) (rd ra : BitVec 5) (s : State) : Host.Outcome State Fault Refusal :=
  .next (onPriv s slot 1 (fun p =>
    if p.reg ra ≠ 0 then endAt s slot p stMalformed else resetFor s slot p 4 0 rd (fun id => .reset id rd.toNat)))

/-- RESET, imm 5: a power-cycle request, at operator privilege. -/
def execResetPowerCycle (slot : BitVec 6) (rd ra : BitVec 5) (s : State) : Host.Outcome State Fault Refusal :=
  .next (onPriv s slot 2 (fun p =>
    if p.reg ra ≠ 0 then endAt s slot p stMalformed else resetFor s slot p 5 0 rd (fun id => .reset id rd.toNat)))

end Sys2Proof.Machine
end

