-- ==== Sys2Proof/Machine/HexDev.lean ====
section
/-! DEFINITION. Hexah power, thermal, energy, Burling, cluster-state, fuse, log and message instructions (07 Tables 7.13 to 7.15, R263
to R268, R272, R275, R276). -/

namespace Sys2Proof.Machine

/-! ### Power, thermal and energy -/

/-- Whether a domain holds work of a context (R263); while a context is bound, domain 1102 does (19 R643).
Log 20 (DEDUCED). -/
def domBusy (s : State) (d : Nat) : Bool :=
  if d = 1102 then s.esp.bound.isSome
  else if d = 1116 then !s.pci.reads.isEmpty
  else if 512 ≤ d ∧ d < 1024 then !(enclosedCtxs s 2 (d - 512)).isEmpty
  else !(enclosedCtxs s 2 d).isEmpty

/-- Whether a domain is ON, or has been commanded ON.
Log 20 (DEDUCED). -/
def domUp (s : State) (d : Nat) : Bool := Tbl.get (domState s d) s.pwr.domTarget d == 1
/-- Whether a domain is ON and stays ON. -/
def domStays (s : State) (d : Nat) : Bool := domState s d == 1 && domUp s d

/-- Whether a change of domain `d` to state `v` would break a dependency of 03 R92; a coppiced cluster is never powered (05 R176), and
the domains of this instruction come ON only while the device is released.
Log 20 (DEDUCED). -/
def breaksDep (s : State) (d v : Nat) : Bool :=
  if v = 1 then
    decide (s.phase ≠ .run) ||
      (if d < 512 then neverOn s d || !domStays s (512 + d) || !domStays s (1024 + d / 8)
      else if 1094 ≤ d ∧ d ≤ 1099 then !domStays s 1115 else false)
  else if 512 ≤ d ∧ d < 1024 then domUp s (d - 512)
  else if 1024 ≤ d ∧ d < 1088 then (List.range 8).any (fun i => domUp s (8 * (d - 1024) + i))
  else if d = 1115 then (List.range 6).any (fun i => domUp s (1094 + i))
  else false

/-- Whether PWRDOM accepts a domain and a state (R263). -/
def pwrdomOk (d imm : Nat) : Bool :=
  decide (d ≤ 1116) && d != 1100 && d != 1101 && decide (imm ≤ 2) && (imm != 2 || (decide (512 ≤ d) && decide (d < 1024)))

/-- PWRDOM (R263, 03 R92, R93, R123).
Log 20, 42 (DEDUCED). -/
def execPwrdom (slot : BitVec 6) (rd ra : BitVec 5) (imm : Word32) (s : State) : Host.Outcome State Fault Refusal :=
  .next (onPriv s slot 1 (fun p =>
    let d := (p.reg ra).toNat
    let v := imm.toNat
    if !pwrdomOk d v then endAt s slot p stMalformed
    else if domState s d = 3 then retireRd s slot p rd 1
    else if domState s d = v ∧ !Tbl.has s.pwr.domTarget d then retireRd s slot p rd 0
    else if breaksDep s d v || (decide (v ≠ 1) && domBusy s d) then endAt s slot p stPowerDep
    else
      let s := { s with pwr := { s.pwr with domTarget := Tbl.put s.pwr.domTarget d v } }
      parkOn s slot p (.domain d v rd.toNat)))

/-- ACCT (03 R112, R113): a record for Sel, or for every running context.
Log 42, 51 (DEDUCED). -/
def execAcct (slot : BitVec 6) (imm : Word32) (s : State) : Host.Outcome State Fault Refusal :=
  .next (
  if imm = 1 then
    onPriv s slot 1 (fun p => retire ((liveCtxs s).foldl (fun s c => energyRecord s c true false) s) slot p)
  else if imm = 0 then
    onCtx s slot (fun p c => retire (if (getC s c).ended then s else energyRecord s c true false) slot p)
  else onProg s slot (fun p => endAt s slot p stMalformed))

/-- The 2,400 bytes of TSNAP: the last valid readings of the 600 sensors (R264). -/
def tsnapBytes (s : State) : List Byte := (List.range 600).flatMap (fun n => leBytes 4 (thmTemp s n))

/-- TSNAP (R264, R276).
Log 44 (DEDUCED). -/
def execTsnap (slot : BitVec 6) (ra : BitVec 5) (s : State) : Host.Outcome State Fault Refusal :=
  .next (onPriv s slot 1 (fun p =>
    match progWrite s p (p.reg ra) (tsnapBytes s) 4 with
    | .ok s => retire s slot p
    | .error st => endAt s slot p st))

/-! ### Burling, cluster state and fuses -/

/-- The verification of the staging half begins, and the program waits for it (14 R478).
Log 53 (DEDUCED). -/
def beginVerify (s : State) (slot : BitVec 6) (p : Prog) (rd : BitVec 5) : State :=
  parkOn { s with brl := { s.brl with verify := some slot.toNat, stageUe := false } } slot p (.verify rd.toNat)

/-- BINST (14 R475 to R478, 21 R731): one verification at a time.
Log 53 (DEDUCED). -/
def execBinst (slot : BitVec 6) (rd ra rb : BitVec 5) (env : Env) (s : State) : Host.Outcome State Fault Refusal :=
  .next (onPriv s slot 2 (fun p =>
    let n := (p.reg rb).toNat
    if s.brl.verify.isSome then s
    else if n = 0 then beginVerify s slot p rd
    else if n > 4194304 then
      let s := { s with chn := { s.chn with pushId := none, chunks := [] } }
      retireRd (record s 0x5011 2 0x0B (trdIdx s) (packPay s [] 2)) slot p rd 2
    else withOper s slot p (p.reg ra) n 8 env (fun b s =>
      let s := { s with chn := { s.chn with pushId := none, chunks := [] }, brl := { s.brl with staging := b } }
      beginVerify s slot p rd)))

/-- Whether a verification key slot is blank (R265).
Log 15 (DESIGN CHOICE). -/
def keyBlank (s : State) (k : Nat) : Bool :=
  decide (k ≠ 0) && (List.range 24).all (fun w => Tbl.get 0 s.fuses.opKeys (k * 24 + w) == 0)

/-- BKEY (R265). -/
def execBkey (slot : BitVec 6) (imm : Word32) (s : State) : Host.Outcome State Fault Refusal :=
  .next (onPriv s slot 2 (fun p =>
    if imm.toNat > 3 ∨ keyBlank s imm.toNat then endAt s slot p stMalformed
    else retire { s with trd := { s.trd with bkey := imm.toNat } } slot p))

/-- Whether a slice, a deep run or a fuse program is in progress on a cluster (R272, 14 R501).
Log 52 (DEDUCED). -/
def clBusy (s : State) (n : Nat) : Bool :=
  (getB s n).slice.isSome || Tbl.has s.brl.deep n || s.fuses.prog.any (fun f => f.kind != 0 && f.key == n)

/-- BDEEP (14 R498).
Log 83 (DEDUCED). -/
def execBdeep (slot : BitVec 6) (rd ra : BitVec 5) (s : State) : Host.Outcome State Fault Refusal :=
  .next (onPriv s slot 2 (fun p =>
    let n := (p.reg ra).toNat
    if n > 511 then endAt s slot p stMalformed
    else if clState s n ≠ 2 then retireRd s slot p rd 1
    else retireRd (jot { s with deepQ := if s.deepQ.contains n then s.deepQ else s.deepQ ++ [n] }) slot p rd 0))

/-- CSTATE puts a cluster into service, ACTIVE or SUSPECT, with its domains ON (R265, 14 R501).
Log 52 (DEDUCED). -/
def intoService (s : State) (n st : Nat) : State :=
  let v := (liveVal s 7 (0x400 + n) 0).toNat
  let r := if st = 0 then Nat.min 255 (bitsOf v 23 16 + 1) else bitsOf v 23 16
  let s := writeClState s n (w64 (8 * 0x1000000 + r * 0x10000 + st))
  let s := putDom (putDom { s with deepQ := dropNat s.deepQ n } (512 + n) 1) n 1
  let s := updB s n (fun b => if bitsOf v 1 0 < 2 then b else { b with since := s.aon, debt := 0, clean := 0, again := none })
  record s 0x5030 0 0x02 n (brlPay s n 0xFFFF 0 0 0 0 0)

/-- CSTATE withdraws a cluster to QUARANTINED, without a deep run until BDEEP names it (14 R501). -/
def outOfService (s : State) (n : Nat) : State :=
  let v := (liveVal s 7 (0x400 + n) 0).toNat
  let s := writeClState { s with deepQ := dropNat s.deepQ n } n (w64 (8 * 0x1000000 + bitsOf v 23 16 * 0x10000 + 2))
  let s := remapFrom s n
  record s 0x5030 0 0x02 n (brlPay s n 0xFFFF 0 0 0 0 0)

/-- The effect of CSTATE on a cluster and its result: a change to ACTIVE runs the SHORT cluster test first, and so does SUSPECT where
the domains have to come ON; a cluster that fails it becomes COPPICED (R265, 05 R176, 14 Table 14.7).
Log 52 (DEDUCED). -/
def setCluster (s : State) (n st : Nat) (testPass : Bool) : Nat × State :=
  let s := updHist s n (fun h => { h with returns := [] })
  let tested := st == 0 || decide (domState s n ≠ 1) || decide (domState s (512 + n) ≠ 1)
  if clState s n = st then (0, if st = 2 then { s with deepQ := dropNat s.deepQ n } else s)
  else if st = 3 then (0, coppice s n 8)
  else if st = 2 then (0, outOfService s n)
  else if tested ∧ neverOn s n then (2, s)
  else if tested ∧ !testPass then (2, coppice s n (bitsOf (liveVal s 7 (0x400 + n) 0).toNat 31 24))
  else (0, intoService s n st)

/-- CSTATE (R265, R272, 14 R497, R501): applied after any slice, deep run or fuse program of the cluster has ended.
Log 52 (DEDUCED). -/
def execCstate (slot : BitVec 6) (rd ra : BitVec 5) (imm : Word32) (testPass : Bool) (s : State) :
    Host.Outcome State Fault Refusal :=
  .next (onPriv s slot 2 (fun p =>
    let n := (p.reg ra).toNat
    if n > 511 ∨ imm.toNat > 3 then endAt s slot p stMalformed
    else if s.fuses.coppice.contains n then retireRd s slot p rd 1
    else if clBusy s n then s
    else
      let r := setCluster s n imm.toNat testPass
      retireRd r.2 slot p rd (w64 r.1)))

/-- The 32-bit words of a key, little-endian. -/
def keyWords (b : List Byte) : List Word32 := (List.range 24).map (fun i => BitVec.ofNat 32 (bytesAt b (4 * i) 4))

/-- Whether a word from `w` on already holds a value other than blank or its target (R266).
Log 32 (DEDUCED). -/
def keyClash (s : State) (k w : Nat) (l : List Word32) : Bool :=
  (l.zipIdx).any (fun e => let h := Tbl.get 0 s.fuses.opKeys (k * 24 + w + e.2); h != 0 && h != e.1)

/-- FKEY (R266, 04 R150).
Log 32 (DEDUCED). -/
def execFkey (slot : BitVec 6) (rd ra rb : BitVec 5) (imm : Word32) (env : Env) (s : State) : Host.Outcome State Fault Refusal :=
  .next (onPriv s slot 2 (fun p =>
    let k := imm.toNat
    let w := (p.reg rb).toNat
    if k < 1 ∨ k > 3 ∨ w > 23 then endAt s slot p stMalformed
    else withOper s slot p (p.reg ra) 96 8 env (fun b s =>
      let l := (keyWords b).drop w
      if keyClash s k w l then endAt s slot p stMalformed
      else startFuse (parkOn s slot p (.fuse rd.toNat)) ⟨slot.toNat, rd.toNat, 0, k, w, w, l⟩)))

/-- FCOP (R266, R272, 05 R177): COPPICE_LIMIT when 16 clusters are fuse-coppiced, those in progress included.
Log 32 (DEDUCED). -/
def execFcop (slot : BitVec 6) (rd ra : BitVec 5) (s : State) : Host.Outcome State Fault Refusal :=
  .next (onPriv s slot 2 (fun p =>
    let n := (p.reg ra).toNat
    if n > 511 then endAt s slot p stMalformed
    else if clState s n ≠ 3 then retireRd s slot p rd 1
    else if clBusy s n then s
    else if s.fuses.coppice.contains n then retireRd s slot p rd 0
    else if s.fuses.coppice.length + (s.fuses.prog.filter (fun f => f.kind != 0)).length ≥ 16 then endAt s slot p stCoppiceLimit
    else startFuse (parkOn s slot p (.fuse rd.toNat)) ⟨slot.toNat, rd.toNat, 1, n, 0, 0, [1]⟩))

/-! ### Log and messages -/

/-- LOG (R267, 15 R512): a record of the program's queue, with its bound context.
Log 44, 54 (DEDUCED). -/
def execLog (slot : BitVec 6) (ra rb : BitVec 5) (imm : Word32) (env : Env) (s : State) : Host.Outcome State Fault Refusal :=
  .next (onProg s slot (fun p =>
    let code := (p.reg ra).toNat % 65536
    if code < 0xC800 ∨ code > 0xCFFF ∨ imm.toNat > 5 then endAt s slot p stMalformed
    else withOper s slot p (p.reg rb) 32 8 env (fun b s =>
      let c := (getQ s p.queue).ctx
      retire (record s code imm.toNat 0x11 p.queue (padTo 35 (b ++ leBytes 2 (if c < 256 then c else 0xFFFF)))) slot p)))

/-- SEND (R268): the transmit queue holds 16 messages.
Log 44, 54 (DEDUCED). -/
def execSend (slot : BitVec 6) (rd ra rb : BitVec 5) (env : Env) (s : State) : Host.Outcome State Fault Refusal :=
  .next (onPriv s slot 1 (fun p =>
    let n := (p.reg rb).toNat
    if n < 1 ∨ n > 64 then endAt s slot p stMalformed
    else withOper s slot p (p.reg ra) n 1 env (fun b s =>
      if s.chn.txq.length ≥ 16 then retireRd s slot p rd 1
      else if s.chn.selfM || s.chn.cmdM || s.chn.clash then retireRd s slot p rd 2
      else retireRd { s with chn := { s.chn with txq := s.chn.txq ++ [(s.chn.frames, b)] } } slot p rd 0)))

end Sys2Proof.Machine
end

