-- ==== Sys2Proof/Machine/SetWork.lean ====
section
/-! DEFINITION. The setting instructions (07 Table 7.7, R254 to R256) and staged settings (08 R278 to R301): the staged set, the
consistency rules, the commit, hardened refresh, parity, and the immediate settings. -/

namespace Sys2Proof.Machine

/-! ### Naming a setting -/

/-- The setting that a word of format S names in a program, and its index: the encoded index plus rb[11:0] where indexed; none for a
sum above 0xFFF or an unassigned index (R254, 00 R21). -/
def resolve (p : Prog) (x : SetRef) : Option (SetRow × Nat) :=
  let i := x.idx.toNat + (if x.indexed then (p.reg x.rb).toNat % 4096 else 0)
  if i > 0xFFF then none else (setRow x.blk.toNat i).map (fun r => (r, i))

/-- Run a setting instruction on the setting it names, with the context of a per-context setting (0xFFFF for another); Sel at 0xFFFF
ends the program with MALFORMED (R254), and so does an undefined word (R245, R247).
Log 42 (DEDUCED). -/
def onSetting (s : State) (slot : BitVec 6) (x : SetRef) (f : Prog → SetRow → Nat → State) : State :=
  onProg s slot (fun p =>
    if x.blk.toNat > 16 ∨ (!x.indexed ∧ x.rb ≠ 0) then endAt s slot p stMalformed
    else match resolve p x with
      | none => endAt s slot p stSettingUndef
      | some (r, i) => f p r i)

/-- The context under which a setting is accessed: Sel, or 0xFFFF for one that is not per-context. -/
def setCtx (p : Prog) (r : SetRow) : Nat := if r.perCtx then p.sel else 0xFFFF
/-- Whether a per-context setting is accessed without a context. -/
def noSel (p : Prog) (r : SetRow) : Bool := r.perCtx && decide (p.sel > 255)

/-- The entry of a staged set for a setting and context. -/
def stagedOf (l : List Staged) (blk idx ctx : Nat) : Option Staged :=
  l.find? (fun e => e.blk == blk && e.idx == idx && e.ctx == ctx)

/-! ### Reading, staging, writing -/

/-- RDS (Table 7.7, R255, 24 R795); a read of REC:0x017 advances the readout position where autoinc is set (20 R702). -/
def execRds (slot : BitVec 6) (rd : BitVec 5) (x : SetRef) (s : State) : Host.Outcome State Fault Refusal :=
  .next (onSetting s slot x (fun p r i =>
    if noSel p r then endAt s slot p stMalformed
    else
      let v := readSetting s r i (setCtx p r)
      retireRd (if r.blk = 12 ∧ i = 0x17 then readAdvance s else s) slot p rd v))

/-- RDST (Table 7.7): the staged value, else the live value. -/
def execRdst (slot : BitVec 6) (rd : BitVec 5) (x : SetRef) (s : State) : Host.Outcome State Fault Refusal :=
  .next (onSetting s slot x (fun p r i =>
    if noSel p r then endAt s slot p stMalformed
    else match stagedOf p.staged r.blk i (setCtx p r) with
      | some e => retireRd s slot p rd e.val
      | none => retireRd s slot p rd (readSetting s r i (setCtx p r))))

/-- Add a write to a staged set (R280, R281): a later one replaces the value and keeps the generation; beyond 1,024 settings the set
is overfull.
Log 45 (DEDUCED). -/
def stageInto (p : Prog) (e : Staged) : Prog :=
  match stagedOf p.staged e.blk e.idx e.ctx with
  | some o => { p with staged := p.staged.map (fun y => if y = o then { y with val := e.val } else y) }
  | none => if p.staged.length ≥ 1024 then { p with overfull := true } else { p with staged := p.staged ++ [e] }

/-- The place of a setting under a context of 0xFFFF or 0 to 255. -/
def ctxOr0 (c : Nat) : Nat := if c < 256 then c else 0

/-- STAGE (Table 7.7, R280, R281, 24 R795, R796, 14 R502).
Log 45 (DEDUCED). -/
def execStage (slot : BitVec 6) (ra : BitVec 5) (x : SetRef) (s : State) : Host.Outcome State Fault Refusal :=
  .next (onSetting s slot x (fun p r i =>
    if r.blk = 7 ∧ r.cls = .hd ∧ r.priv = 4 then endAt s slot p stPrivilege
    else if !(r.cls == .st || r.cls == .hd) then endAt s slot p stSettingAccess
    else if p.priv < r.priv then endAt s slot p stPrivilege
    else if noSel p r then endAt s slot p stMalformed
    else
      let c := setCtx p r
      retire (jot s) slot (stageInto p ⟨r.blk, i, c, (p.reg ra) &&& w64 r.mask, setGen s r.blk i (ctxOr0 c)⟩)))

/-- A write of CLU.PERF_CTL (09 R312): 1 starts, 2 stops, 3 zeroes the counters of the context. -/
def perfWrite (s : State) (c : Nat) (v : Word64) : State :=
  let b := perfWord s c 0
  let t := perfWord s c 2
  match v.toNat % 4 with
  | 1 => updC s c (fun x => { x with perfOn := true })
  | 2 => updC s c (fun x => if x.perfOn then { x with perfOn := false, beats := b, stall := t } else x)
  | 3 => updC s c (fun x => { x with beats := 0, tileOps := 0, stall := 0 })
  | _ => s

/-- The effect of an immediate write (R297, Table 8.5) and of the write of RST.SERVICE (16 R565). -/
def writeNow (s : State) (r : SetRow) (i c : Nat) (v : Word64) : State :=
  let m := v &&& w64 r.mask
  if r.blk = 4 then putLive (perfWrite s c v) 4 i c m 0
  else if r.blk = 11 then (if v.getLsbD 0 then espRequested s c else s)
  else if r.blk = 12 ∧ i = 8 then writeFreeze s v
  else if r.blk = 12 then { s with rcd := { s.rcd with readPtr := m } }
  else if r.blk = 8 then (if v.getLsbD 0 then clearOos s else s)
  else putLive s r.blk i (ctxOr0 c) m 0

/-- A program writes a setting at once (Table 7.7, 16 R565, 24 R795, R796, 06 R233).
Log 46, 94 (DEDUCED). -/
def wriTo (s : State) (slot : BitVec 6) (p : Prog) (r : SetRow) (i : Nat) (v : Word64) : State :=
  let c := setCtx p r
  if !(r.cls == .im || r.cls == .w1c) then endAt s slot p stSettingAccess
  else if p.priv < Nat.min 2 r.priv ∨ (r.priv = 3 ∧ p.queue ≠ 1023) then endAt s slot p stPrivilege
  else if noSel p r then endAt s slot p stMalformed
  else if r.perCtx ∧ isFenced s c then endAt s slot p stRefusedFenced
  else if r.perCtx ∧ !(getC s c).inUse then endAt s slot p stSettingUndef
  else writeNow (retire (jot s) slot p) r i c v

/-- WRI (Table 7.7). -/
def execWri (slot : BitVec 6) (ra : BitVec 5) (x : SetRef) (s : State) : Host.Outcome State Fault Refusal :=
  .next (onSetting s slot x (fun p r i => wriTo s slot p r i (p.reg ra)))

/-- A WRI of setting `blk:idx` from ra, where the value in ra meets a condition. -/
def wriWhen (cond : Word64 → Bool) (blk idx : Nat) (slot : BitVec 6) (ra : BitVec 5) (s : State) :
    Host.Outcome State Fault Refusal :=
  .next (onProg s slot (fun p =>
    match setRow blk idx with
    | some r => if cond (p.reg ra) then wriTo s slot p r idx (p.reg ra) else s
    | none => s))

/-- FREEZE_START (20 R695): a write of REC.FREEZE with freeze = 1.
Log 112 (DEDUCED). -/
def execFreezeStart := wriWhen (fun v => v.getLsbD 0) 12 8
/-- FREEZE_END (20 R695): a write of REC.FREEZE with freeze = 0. -/
def execFreezeEnd := wriWhen (fun v => !v.getLsbD 0) 12 8
/-- READ_PTR_WRITE (20 R702). -/
def execReadPtrWrite := wriWhen (fun _ => true) 12 9
/-- PERF_START (09 R312). -/
def execPerfStart := wriWhen (fun v => v.toNat % 4 == 1) 4 0x40
/-- PERF_STOP (09 R312). -/
def execPerfStop := wriWhen (fun v => v.toNat % 4 == 2) 4 0x40
/-- PERF_ZERO (09 R312). -/
def execPerfZero := wriWhen (fun v => v.toNat % 4 == 3) 4 0x40
/-- INJECT_ARM (12 R434): CHK.INJECT with armed = 1. -/
def execInjectArm := wriWhen (fun v => v.getLsbD 0) 6 0xF0
/-- INJECT_DISARM (12 R434): CHK.INJECT with armed = 0. -/
def execInjectDisarm := wriWhen (fun v => !v.getLsbD 0) 6 0xF0

/-- ESP_STOP_NOW (19 R671): a program writes 1 to ESP.STOP_NOW of Sel. -/
def execEspStopNow (slot : BitVec 6) (s : State) : Host.Outcome State Fault Refusal :=
  .next (onProg s slot (fun p =>
    match setRow 11 0x30 with
    | some r => wriTo s slot p r 0x30 1
    | none => s))

/-- READ_DATA_AUTOINC (20 R702): a program reads REC:0x017 with autoinc set. -/
def execReadDataAutoinc (slot : BitVec 6) (rd : BitVec 5) (s : State) : Host.Outcome State Fault Refusal :=
  .next (onProg s slot (fun p =>
    if s.rcd.readPtr.getLsbD 61 then retireRd (readAdvance s) slot p rd (readWord s 12 0x17 0) else s))

/-! ### Consistency rules -/

/-- The merged view (R284): the staged value, else the live value. -/
def mergedVal (s : State) (l : List Staged) (blk idx ctx : Nat) : Nat :=
  match stagedOf l blk idx ctx with
  | some e => e.val.toNat
  | none => (liveVal s blk idx (ctxOr0 ctx)).toNat

/-- Whether a value lies in a range, both ends included. -/
def within (v lo hi : Nat) : Bool := decide (lo ≤ v) && decide (v ≤ hi)

/-- The condition of PWR.STATE_REQ (rule 0x0102, 03 R109).
Log 47 (DEDUCED). -/
def stateReqOk (s : State) (v : Nat) : Bool :=
  let cl := bitsOf v 15 7
  let sh := bitsOf v 5 2
  if v % 4 = 3 then
    decide (clState s cl = 0) && s.slots.all (fun e => e.2.ended || decide (e.2.host ≥ 512) || e.2.host == cl) && decide (sh ≤ 11) &&
      domState s (1103 + sh) != 3 && shutOwner s sh == groupOwner s (cl / 8)
  else decide (v % 4 = 2)

/-- Whether an entry's setting passes the rules of its own, given a merged value of the other fields (Table 8.2): the first rule that
fails.
Log 47 (DEDUCED). -/
def entryRules (s : State) (l : List Staged) (e : Staged) : List (Nat × Bool) :=
  let v := e.val.toNat
  let m := mergedVal s l
  match e.blk, e.idx with
  | 1, 0x20 => [(0x0101, within (v % 65536) 150 s.fuses.gradeW)]
  | 1, 1 => [(0x0102, stateReqOk s v)]
  | 2, 0x10 =>
    let t := bitsOf v 7 0
    let f := bitsOf v 15 8
    [(0x0201, within t 70 95 && decide (t + 5 ≤ f) && decide (f ≤ 105))]
  | 2, 0x11 => [(0x0202, within (v % 65536) 550 900)]
  | 3, 0x10 => [(0x0301, within (bitsOf v 29 24) 5 50 && within (bitsOf v 23 0) 100 1000000)]
  | 3, 0x12 => [(0x0302, within (v % 65536) 100 60000)]
  | 3, 0x13 => [(0x0303, within (v % 65536) 10 10000)]
  | 7, 0x10 => [(0x0701, within (v % 65536) 10 500)]
  | 8, 0x10 => [(0x0801, within v 1 600000), (0x0A01, decide (Nat.max 100 (m 10 0x10 e.ctx) < 1000 * v))]
  | 8, 0x11 => [(0x0802, within (v % 65536) 10 10000)]
  | 10, 0x10 => [(0x0A01, decide (Nat.max 100 v < 1000 * m 8 0x10 e.ctx))]
  | 10, 0x11 => [(0x0A02, within v 1024 1048576)]
  | 11, 0x10 =>
    let d := bitsOf v 55 36
    let t := bitsOf v 31 16
    [(0x0B01, within (bitsOf v 7 0) 2 50 && within t 10 500 && within d 1000 1000000), (0x0B02, decide (d ≤ 1000 * t))]
  | 12, 1 => [(0x0C01, within (v % 256) 1 64)]
  | _, _ => []

/-- The first rule of Table 8.2 other than 0x0004 that a staged set fails, in ascending order (R282); 0 where it passes. -/
def firstRule (s : State) (p : Prog) : Nat :=
  let l := p.staged
  if p.overfull then 1
  else if l.any (fun e => setGen s e.blk e.idx (ctxOr0 e.ctx) != e.gen) then 2
  else if l.any (fun e => decide (e.ctx < 256) && !(getC s e.ctx).inUse) then 3
  else ((l.flatMap (entryRules s l)).filter (fun r => !r.2)).foldl (fun m r => if m = 0 then r.1 else Nat.min m r.1) 0

/-- A rule identifier as CHECK and COMMIT report it (R256). -/
def ruleWord (n : Nat) : Word64 := if n = 0 then 0 else w64 (2 ^ 63 + n)

/-- CHECK (Table 7.7, R256, R282). -/
def execCheck (slot : BitVec 6) (rd : BitVec 5) (s : State) : Host.Outcome State Fault Refusal :=
  .next (onProg s slot (fun p => retireRd s slot p rd (ruleWord (if p.staged.isEmpty then 0 else firstRule s p))))

/-- ABANDON (Table 7.7, R281). -/
def execAbandon (slot : BitVec 6) (s : State) : Host.Outcome State Fault Refusal :=
  .next (onProg s slot (fun p => retire (jot s) slot { p with staged := [], overfull := false }))

/-! ### The commit -/

/-- Whether a staged set holds a per-context setting of a fenced context (R286).
Log 46 (DEDUCED). -/
def stagedFenced (s : State) (p : Prog) : Bool := p.staged.any (fun e => decide (e.ctx < 256) && isFenced s e.ctx)
/-- Whether a staged set holds a setting above a privilege (24 R796). -/
def stagedAbove (p : Prog) : Bool := p.staged.any (fun e => (setRow e.blk e.idx).elim false (fun r => decide (p.priv < r.priv)))

/-- COMMIT (Table 7.7, R256, R286, R292): the program waits for the commit token; an empty staged set commits nothing. -/
def execCommit (slot : BitVec 6) (rd : BitVec 5) (imm : Word32) (s : State) : Host.Outcome State Fault Refusal :=
  .next (onProg s slot (fun p =>
    if imm.toNat > 1 then endAt s slot p stMalformed
    else if p.staged.isEmpty then retireRd s slot p rd 0
    else if stagedAbove p then endAt s slot p stPrivilege
    else if stagedFenced s p then endAt s slot p stRefusedFenced
    else
      let s := { s with trd := { s.trd with tokenQ := s.trd.tokenQ ++ [slot.toNat] } }
      parkOn s slot p (.commit rd.toNat (imm == 1))))

/-- What a block does at the commit instant with a setting that has changed from `old` to `new` (03 R109, 09 R303, 15 R534, 17 R590,
R594, 18 R607 to R610, 19 R643, R655, R667). -/
def afterCommit (s : State) (e : Staged) (old : Word64) : State :=
  let new := e.val
  let rose := new.getLsbD 0 && !old.getLsbD 0
  match e.blk, e.idx with
  | 1, 1 =>
    if (new.toNat % 4 = 3 ∧ !(s.pwr.single ∧ old = new)) ∨ (new.toNat % 4 = 2 ∧ s.pwr.single) then
      { s with pwr := { s.pwr with changing := some new.toNat } }
    else s
  | 3, 0x21 => if new.getLsbD 0 then { s with err := { s.err with ringFault := false, ringDue := false } } else s
  | 5, 0x201 => if s.esp.bound = some e.ctx then holdPublish s else s
  | 9, 0x11 => commitAxisCtl s old new
  | 10, 0x20 => commitColQueue s e.ctx rose
  | 11, 1 => settleEsp s true
  | 11, 0x20 => commitEspQueue s e.ctx rose
  | 11, 0x22 => if s.esp.bound = some e.ctx then holdPublish s else s
  | 15, 0x10 => settleTime s
  | 4, _ => settleOwners s
  | 5, _ => settleOwners s
  | 10, i => if 0x100 ≤ i ∧ i ≤ 0x10F then commitGroup s e.ctx (i - 0x100) rose else s
  | _, _ => s

/-- The commit instant (R290, R291, R293): every staged setting becomes live together, with the new sequence number as its
generation; then each block takes its new values. -/
def commitNow (s : State) (l : List Staged) : State :=
  let s := if l.any (fun e => e.blk == 7 && e.idx == 0x10) then (List.range 512).foldl settleDebt s else s
  let seq := s.trd.commitSeq + 1
  let olds := l.map (fun e => (e, liveVal s e.blk e.idx (ctxOr0 e.ctx)))
  let s := l.foldl (fun s e => putLive s e.blk e.idx (ctxOr0 e.ctx) e.val seq.toNat) (jot s)
  let s := { s with trd := { s.trd with commitSeq := seq, lastCommit := s.gtc } }
  olds.foldl (fun s e => afterCommit s e.1 e.2) s

/-- A COMMIT fails a rule (R256): with imm = 1 the program goes on, its staged set intact; with imm = 0 it ends with COMMIT_REFUSED.
Log 47 (DEDUCED). -/
def commitFails (s : State) (n : Nat) (p : Prog) (rd : Nat) (soft : Bool) (rule : Nat) : State :=
  if soft then wakeRd s n p rd (ruleWord rule)
  else endWith s n ({ p with wait := .none }.setReg (BitVec.ofNat 5 rd) (ruleWord rule)) stCommitRefused p.index none

/-- The COMMIT that receives the commit token next (R292): its slot, its program, rd, and whether it is soft. -/
def tokenHead (s : State) : Option (Nat × Prog × Nat × Bool) :=
  match s.trd.tokenQ with
  | [] => none
  | n :: _ => (getP s n).bind (fun p => match p.wait with
    | .commit rd soft => if serves s p.queue then some (n, p, rd, soft) else none
    | _ => none)

/-- The token is released. -/
def dropToken (s : State) : State := { s with trd := { s.trd with tokenQ := s.trd.tokenQ.drop 1 } }

/-- COMMIT_TOKEN_GRANT (R282 to R293, R298, R300): the first waiting COMMIT is judged and performed.  `copiesOk`: every stored copy
of its hardened settings could be written; a failure is recorded with the first of them.
Log 46, 47 (DEDUCED). -/
def execCommitTokenGrant (copiesOk : Bool) (s : State) : Host.Outcome State Fault Refusal :=
  .next (match tokenHead s with
  | none => s
  | some (n, p, rd, soft) =>
    let rule := firstRule s p
    if stagedFenced s p then endWith (dropToken s) n { p with wait := .none } stRefusedFenced p.index none
    else if rule ≠ 0 then commitFails (dropToken s) n p rd soft rule
    else if !copiesOk ∧ p.staged.any (fun e => isHd e.blk e.idx) then
      let e := (p.staged.find? (fun e => isHd e.blk e.idx)).getD ⟨0, 0, 0, 0, 0⟩
      accept s 0xD046 5 0x0C e.blk 0xFFFF 0xFFFF (trdPay s p.queue n 0 e.blk e.idx 0xFFFF 0xFF [])
    else
      let s := commitNow (dropToken s) p.staged
      let p := { p with staged := [], overfull := false, committed := true }
      wakeRd s n p rd s.trd.commitSeq)

/-- COMMIT_PREPARE_TIMEOUT (R299): a touched block that is ON and outside every fence has not acknowledged prepare; the commit fails
rule 0x0004, no setting changes, and the block is handled as an engine hang.  The record names the block of the first staged setting.
Log 47 (DEDUCED). -/
def execCommitPrepareTimeout (domain : BitVec 16) (s : State) : Host.Outcome State Fault Refusal :=
  .next (match tokenHead s with
  | none => s
  | some (n, p, rd, soft) =>
    let d := domain.toNat
    if d > 1120 ∨ domState s d ≠ 1 ∨ isFencedEngine s d ∨ stagedFenced s p ∨ firstRule s p ≠ 0 then s
    else match p.staged.head? with
      | none => s
      | some e =>
        let s := commitFails (jot (dropToken s)) n p rd soft 4
        accept s 0xD044 4 0x0C e.blk 0xFFFF d (trdPay s p.queue n 4 e.blk 0xFFFF d 0xFF []))

/-! ### Hardened storage and parity -/

/-- A copy equal to two of three stored copies. -/
def majority (c : HdCell) : Option Word64 :=
  if c.c0 = c.c1 ∨ c.c0 = c.c2 then some c.c0 else if c.c1 = c.c2 then some c.c1 else none

/-- HARDENED_REFRESH (R296, R300, Table 8.4): one hardened setting is compared and repaired.  `copyOk`: every copy that is to be
rewritten could be written.
Log 49 (DEDUCED). -/
def execHardenedRefresh (blk : BitVec 5) (idx : BitVec 12) (copyOk : Bool) (s : State) : Host.Outcome State Fault Refusal :=
  .next (
  let b := blk.toNat
  let i := idx.toNat
  let c := hdCell s b i
  let own := fun (s : State) => trdPay s 0xFFFF 0xFFFF 0 b i 0xFFFF 0xFF []
  let put := fun (v : Word64) =>
    { s with sets := { s.sets with hard := Tbl.put s.sets.hard (setPlace b i 0) ⟨v, v, v, v, c.gen⟩ } }
  let bump := fun (s : State) => { s with trd := { s.trd with corrCount := satAdd 65535 s.trd.corrCount 1 } }
  if !isHd b i || !s.trd.owner || decide (s.phase ≠ .run) then s
  else if c.c0 = c.c1 ∧ c.c1 = c.c2 ∧ c.golden = c.c0 then s
  else if (c.c0 ≠ c.c1 ∨ c.c1 ≠ c.c2) ∧ !copyOk then
    accept s 0xD046 5 0x0C b 0xFFFF 0xFFFF (own s)
  else match majority c with
    | some v =>
      if c.golden = v then
        let s := bump (put v)
        record s 0xD040 1 0x0C b (own s)
      else
        let s := put v
        let s := { s with trd := { s.trd with fixCount := satAdd 65535 s.trd.fixCount 1 } }
        record s 0xD041 1 0x0C b (own s)
    | none =>
      if c.golden = c.c0 ∨ c.golden = c.c1 ∨ c.golden = c.c2 then
        let s := bump (put c.golden)
        record s 0xD042 1 0x0C b (own s)
      else accept s 0xD043 5 0x0C b 0xFFFF 0xFFFF (own s))

/-- SETTING_PARITY (R279, R301): the register of an ST or IM setting is rewritten from the active Treadle's image; where the image
cannot be read, the Treadle is declared faulty.
Log 49 (DEDUCED). -/
def execSettingParity (blk : BitVec 5) (idx : BitVec 12) (ctx : BitVec 8) (imageOk : Bool) (s : State) :
    Host.Outcome State Fault Refusal :=
  .next (
  let b := blk.toNat
  let i := idx.toNat
  match setRow b i with
  | none => s
  | some r =>
    let c := if r.perCtx then ctx.toNat else 0
    if !(r.cls == .st || r.cls == .im) || !s.trd.owner || decide (s.phase ≠ .run) then s
    else if !imageOk then declareFaulty s (if s.trd.activeB then .b else .a) none
    else
      let x := setCell s b i c
      let s := { s with sets := { s.sets with regs := Tbl.put s.sets.regs (setPlace b i c) { x with val := x.image } } }
      record s 0xD045 1 0x0C b (trdPay s 0xFFFF 0xFFFF 0 b i 0xFFFF 0xFF []))

end Sys2Proof.Machine
end

