-- ==== Sys2Proof/Machine/Dispatch.lean ====
section
/-! DEFINITION. The meaning of every command: one arm per row of the table, one direct call each. -/

namespace Sys2Proof.Machine

def exec (i : Instr) (s : State) : Host.Outcome State Fault Refusal :=
  match i with
  | .vaux33Rise straps tbRef => Sys2Proof.Machine.execVaux33Rise straps tbRef s
  | .keepAliveReached fails nvReadable => Sys2Proof.Machine.execKeepAliveReached fails nvReadable s
  | .vaux33Loss => Sys2Proof.Machine.execVaux33Loss s
  | .pwrEnAssert railsOk => Sys2Proof.Machine.execPwrEnAssert railsOk s
  | .thermalWaitEnd => Sys2Proof.Machine.execThermalWaitEnd s
  | .pwrEnDeassert => Sys2Proof.Machine.execPwrEnDeassert s
  | .pwrWarn => Sys2Proof.Machine.execPwrWarn s
  | .pwrWarnCleared => Sys2Proof.Machine.execPwrWarnCleared s
  | .vin12Undervoltage => Sys2Proof.Machine.execVin12Undervoltage s
  | .railFault rail => Sys2Proof.Machine.execRailFault rail s
  | .capMeterSample mV mA => Sys2Proof.Machine.execCapMeterSample mV mA s
  | .domainSwitchComplete domain testPass => Sys2Proof.Machine.execDomainSwitchComplete domain testPass s
  | .domainSwitchFail domain => Sys2Proof.Machine.execDomainSwitchFail domain s
  | .stateChange => Sys2Proof.Machine.execStateChange s
  | .naturalIdleCalibration group => Sys2Proof.Machine.execNaturalIdleCalibration group s
  | .forcedQuietWindow => Sys2Proof.Machine.execForcedQuietWindow s
  | .quietWindowEnd => Sys2Proof.Machine.execQuietWindowEnd s
  | .estimateStale group => Sys2Proof.Machine.execEstimateStale group s
  | .sensorMeasure zone readings => Sys2Proof.Machine.execSensorMeasure zone readings s
  | .sensorConversionTimeout sensor => Sys2Proof.Machine.execSensorConversionTimeout sensor s
  | .sensorReferenceCheck sensor pass => Sys2Proof.Machine.execSensorReferenceCheck sensor pass s
  | .fastCadenceEnd zone => Sys2Proof.Machine.execFastCadenceEnd zone s
  | .tripVote voter => Sys2Proof.Machine.execTripVote voter s
  | .tripVoterBroken voter => Sys2Proof.Machine.execTripVoterBroken voter s
  | .thermalBlockFault => Sys2Proof.Machine.execThermalBlockFault s
  | .tbRefLost => Sys2Proof.Machine.execTbRefLost s
  | .bypassOpenFail axis => Sys2Proof.Machine.execBypassOpenFail axis s
  | .bypassCloseFail axis => Sys2Proof.Machine.execBypassCloseFail axis s
  | .extestEnter axis => Sys2Proof.Machine.execExtestEnter axis s
  | .extestExit axis => Sys2Proof.Machine.execExtestExit axis s
  | .scanReq => Sys2Proof.Machine.execScanReq s
  | .scanEnabled => Sys2Proof.Machine.execScanEnabled s
  | .bistPhaseEnd fails repaired => Sys2Proof.Machine.execBistPhaseEnd fails repaired s
  | .bistPhaseTimeout domain => Sys2Proof.Machine.execBistPhaseTimeout domain s
  | .startUpTestEnd micros => Sys2Proof.Machine.execStartUpTestEnd micros s
  | .bistReportRepeat => Sys2Proof.Machine.execBistReportRepeat s
  | .fuseWordComplete => Sys2Proof.Machine.execFuseWordComplete s
  | .commandDoorbell fn queue width value => Sys2Proof.Machine.execCommandDoorbell fn queue width value s
  | .completionDoorbell fn queue width value => Sys2Proof.Machine.execCompletionDoorbell fn queue width value s
  | .entryFetch queue env => Sys2Proof.Machine.execEntryFetch queue env s
  | .programStart slot queue => Sys2Proof.Machine.execProgramStart slot queue s
  | .programBudget slot => Sys2Proof.Machine.execProgramBudget slot s
  | .completionRecordIssue queue => Sys2Proof.Machine.execCompletionRecordIssue queue s
  | .trdLockstepMismatch t => Sys2Proof.Machine.execTrdLockstepMismatch t s
  | .trdHeartbeatLost t => Sys2Proof.Machine.execTrdHeartbeatLost t s
  | .treadleMemoryUe t => Sys2Proof.Machine.execTreadleMemoryUe t s
  | .standbyLost => Sys2Proof.Machine.execStandbyLost s
  | .standbyHot crcMatch => Sys2Proof.Machine.execStandbyHot crcMatch s
  | .treadleRecoveryTestEnd pass => Sys2Proof.Machine.execTreadleRecoveryTestEnd pass s
  | .treadleCheckpoint => Sys2Proof.Machine.execTreadleCheckpoint s
  | .commitTokenGrant copiesOk => Sys2Proof.Machine.execCommitTokenGrant copiesOk s
  | .commitPrepareTimeout domain => Sys2Proof.Machine.execCommitPrepareTimeout domain s
  | .hardenedRefresh blk idx copiesOk => Sys2Proof.Machine.execHardenedRefresh blk idx copiesOk s
  | .settingParity blk idx ctx imageOk => Sys2Proof.Machine.execSettingParity blk idx ctx imageOk s
  | .add slot rd ra rb => Sys2Proof.Machine.execAdd slot rd ra rb s
  | .sub slot rd ra rb => Sys2Proof.Machine.execSub slot rd ra rb s
  | .mul slot rd ra rb => Sys2Proof.Machine.execMul slot rd ra rb s
  | .mulhu slot rd ra rb => Sys2Proof.Machine.execMulhu slot rd ra rb s
  | .divu slot rd ra rb => Sys2Proof.Machine.execDivu slot rd ra rb s
  | .remu slot rd ra rb => Sys2Proof.Machine.execRemu slot rd ra rb s
  | .and slot rd ra rb => Sys2Proof.Machine.execAnd slot rd ra rb s
  | .or slot rd ra rb => Sys2Proof.Machine.execOr slot rd ra rb s
  | .xor slot rd ra rb => Sys2Proof.Machine.execXor slot rd ra rb s
  | .shl slot rd ra rb => Sys2Proof.Machine.execShl slot rd ra rb s
  | .shr slot rd ra rb => Sys2Proof.Machine.execShr slot rd ra rb s
  | .sar slot rd ra rb => Sys2Proof.Machine.execSar slot rd ra rb s
  | .slt slot rd ra rb => Sys2Proof.Machine.execSlt slot rd ra rb s
  | .sltu slot rd ra rb => Sys2Proof.Machine.execSltu slot rd ra rb s
  | .seq slot rd ra rb => Sys2Proof.Machine.execSeq slot rd ra rb s
  | .addi slot rd ra imm => Sys2Proof.Machine.execAddi slot rd ra imm s
  | .andi slot rd ra imm => Sys2Proof.Machine.execAndi slot rd ra imm s
  | .ori slot rd ra imm => Sys2Proof.Machine.execOri slot rd ra imm s
  | .xori slot rd ra imm => Sys2Proof.Machine.execXori slot rd ra imm s
  | .shli slot rd ra imm => Sys2Proof.Machine.execShli slot rd ra imm s
  | .shri slot rd ra imm => Sys2Proof.Machine.execShri slot rd ra imm s
  | .sari slot rd ra imm => Sys2Proof.Machine.execSari slot rd ra imm s
  | .movi slot rd imm => Sys2Proof.Machine.execMovi slot rd imm s
  | .ldih slot rd ra imm => Sys2Proof.Machine.execLdih slot rd ra imm s
  | .gtc slot rd => Sys2Proof.Machine.execGtc slot rd s
  | .beq slot ra rb off => Sys2Proof.Machine.execBeq slot ra rb off s
  | .bne slot ra rb off => Sys2Proof.Machine.execBne slot ra rb off s
  | .blt slot ra rb off => Sys2Proof.Machine.execBlt slot ra rb off s
  | .bge slot ra rb off => Sys2Proof.Machine.execBge slot ra rb off s
  | .bltu slot ra rb off => Sys2Proof.Machine.execBltu slot ra rb off s
  | .bgeu slot ra rb off => Sys2Proof.Machine.execBgeu slot ra rb off s
  | .jal slot rd off => Sys2Proof.Machine.execJal slot rd off s
  | .jr slot rd ra => Sys2Proof.Machine.execJr slot rd ra s
  | .endProg slot => Sys2Proof.Machine.execEndProg slot s
  | .ld slot rd ra imm env => Sys2Proof.Machine.execLd slot rd ra imm env s
  | .lw slot rd ra imm env => Sys2Proof.Machine.execLw slot rd ra imm env s
  | .st slot ra rb imm => Sys2Proof.Machine.execSt slot ra rb imm s
  | .sw slot ra rb imm => Sys2Proof.Machine.execSw slot ra rb imm s
  | .rds slot rd set => Sys2Proof.Machine.execRds slot rd set s
  | .rdst slot rd set => Sys2Proof.Machine.execRdst slot rd set s
  | .stage slot ra set => Sys2Proof.Machine.execStage slot ra set s
  | .wri slot ra set => Sys2Proof.Machine.execWri slot ra set s
  | .check slot rd => Sys2Proof.Machine.execCheck slot rd s
  | .commit slot rd imm => Sys2Proof.Machine.execCommit slot rd imm s
  | .abandon slot => Sys2Proof.Machine.execAbandon slot s
  | .ctxsel slot ra => Sys2Proof.Machine.execCtxsel slot ra s
  | .ctxnew slot rd ra rb imm => Sys2Proof.Machine.execCtxnew slot rd ra rb imm s
  | .ctxdel slot rd ra => Sys2Proof.Machine.execCtxdel slot rd ra s
  | .qcreate slot rd ra rb env => Sys2Proof.Machine.execQcreate slot rd ra rb env s
  | .qctlEnable slot rd ra => Sys2Proof.Machine.execQctlEnable slot rd ra s
  | .qctlDisable slot rd ra => Sys2Proof.Machine.execQctlDisable slot rd ra s
  | .qctlStop slot rd ra => Sys2Proof.Machine.execQctlStop slot rd ra s
  | .qctlDestroy slot rd ra => Sys2Proof.Machine.execQctlDestroy slot rd ra s
  | .gseed slot ra rb => Sys2Proof.Machine.execGseed slot ra rb s
  | .launch slot rd ra env => Sys2Proof.Machine.execLaunch slot rd ra env s
  | .sctr slot rd => Sys2Proof.Machine.execSctr slot rd s
  | .sset slot rd ra => Sys2Proof.Machine.execSset slot rd ra s
  | .syadd slot rd ra rb => Sys2Proof.Machine.execSyadd slot rd ra rb s
  | .syset slot ra rb => Sys2Proof.Machine.execSyset slot ra rb s
  | .syrd slot rd ra => Sys2Proof.Machine.execSyrd slot rd ra s
  | .wait slot rd ra rb imm => Sys2Proof.Machine.execWait slot rd ra rb imm s
  | .waitWake slot => Sys2Proof.Machine.execWaitWake slot s
  | .waitTimeout slot => Sys2Proof.Machine.execWaitTimeout slot s
  | .fence slot => Sys2Proof.Machine.execFence slot s
  | .resetContext slot rd ra => Sys2Proof.Machine.execResetContext slot rd ra s
  | .resetJobTag slot rd ra => Sys2Proof.Machine.execResetJobTag slot rd ra s
  | .resetEngine slot rd ra => Sys2Proof.Machine.execResetEngine slot rd ra s
  | .resetPartition slot rd ra => Sys2Proof.Machine.execResetPartition slot rd ra s
  | .resetChip slot rd ra => Sys2Proof.Machine.execResetChip slot rd ra s
  | .resetPowerCycle slot rd ra => Sys2Proof.Machine.execResetPowerCycle slot rd ra s
  | .pwrdom slot rd ra imm => Sys2Proof.Machine.execPwrdom slot rd ra imm s
  | .acct slot imm => Sys2Proof.Machine.execAcct slot imm s
  | .tsnap slot ra => Sys2Proof.Machine.execTsnap slot ra s
  | .binst slot rd ra rb env => Sys2Proof.Machine.execBinst slot rd ra rb env s
  | .bkey slot imm => Sys2Proof.Machine.execBkey slot imm s
  | .bdeep slot rd ra => Sys2Proof.Machine.execBdeep slot rd ra s
  | .cstate slot rd ra imm testPass => Sys2Proof.Machine.execCstate slot rd ra imm testPass s
  | .fkey slot rd ra rb imm env => Sys2Proof.Machine.execFkey slot rd ra rb imm env s
  | .fcop slot rd ra => Sys2Proof.Machine.execFcop slot rd ra s
  | .log slot ra rb imm env => Sys2Proof.Machine.execLog slot ra rb imm env s
  | .send slot rd ra rb env => Sys2Proof.Machine.execSend slot rd ra rb env s
  | .launchStart ctx => Sys2Proof.Machine.execLaunchStart ctx s
  | .slotSwitch cluster toPart toSlot => Sys2Proof.Machine.execSlotSwitch cluster toPart toSlot s
  | .stepCommitPoint ctx => Sys2Proof.Machine.execStepCommitPoint ctx s
  | .xlatDone ctx => Sys2Proof.Machine.execXlatDone ctx s
  | .threadEnd w f => Sys2Proof.Machine.execThreadEnd w f s
  | .nop w f => Sys2Proof.Machine.execNop w f s
  | .bars w f => Sys2Proof.Machine.execBars w f s
  | .threadAdd w f => Sys2Proof.Machine.execThreadAdd w f s
  | .threadSub w f => Sys2Proof.Machine.execThreadSub w f s
  | .threadMul w f => Sys2Proof.Machine.execThreadMul w f s
  | .threadMulhu w f => Sys2Proof.Machine.execThreadMulhu w f s
  | .threadDivu w f => Sys2Proof.Machine.execThreadDivu w f s
  | .threadRemu w f => Sys2Proof.Machine.execThreadRemu w f s
  | .threadAnd w f => Sys2Proof.Machine.execThreadAnd w f s
  | .threadOr w f => Sys2Proof.Machine.execThreadOr w f s
  | .threadXor w f => Sys2Proof.Machine.execThreadXor w f s
  | .threadShl w f => Sys2Proof.Machine.execThreadShl w f s
  | .threadShr w f => Sys2Proof.Machine.execThreadShr w f s
  | .threadSar w f => Sys2Proof.Machine.execThreadSar w f s
  | .min w f => Sys2Proof.Machine.execMin w f s
  | .max w f => Sys2Proof.Machine.execMax w f s
  | .minu w f => Sys2Proof.Machine.execMinu w f s
  | .maxu w f => Sys2Proof.Machine.execMaxu w f s
  | .threadAddi w f => Sys2Proof.Machine.execThreadAddi w f s
  | .threadAndi w f => Sys2Proof.Machine.execThreadAndi w f s
  | .threadOri w f => Sys2Proof.Machine.execThreadOri w f s
  | .threadXori w f => Sys2Proof.Machine.execThreadXori w f s
  | .threadShli w f => Sys2Proof.Machine.execThreadShli w f s
  | .threadShri w f => Sys2Proof.Machine.execThreadShri w f s
  | .threadSari w f => Sys2Proof.Machine.execThreadSari w f s
  | .threadMovi w f => Sys2Proof.Machine.execThreadMovi w f s
  | .threadLdih w f => Sys2Proof.Machine.execThreadLdih w f s
  | .sel w f => Sys2Proof.Machine.execSel w f s
  | .setp w f => Sys2Proof.Machine.execSetp w f s
  | .pand w f => Sys2Proof.Machine.execPand w f s
  | .por w f => Sys2Proof.Machine.execPor w f s
  | .pxor w f => Sys2Proof.Machine.execPxor w f s
  | .pnot w f => Sys2Proof.Machine.execPnot w f s
  | .pmov w f => Sys2Proof.Machine.execPmov w f s
  | .mif w f => Sys2Proof.Machine.execMif w f s
  | .melse w f => Sys2Proof.Machine.execMelse w f s
  | .mend w f => Sys2Proof.Machine.execMend w f s
  | .mbrk w f => Sys2Proof.Machine.execMbrk w f s
  | .mget w f => Sys2Proof.Machine.execMget w f s
  | .br w f => Sys2Proof.Machine.execBr w f s
  | .bany w f => Sys2Proof.Machine.execBany w f s
  | .ball w f => Sys2Proof.Machine.execBall w f s
  | .bnone w f => Sys2Proof.Machine.execBnone w f s
  | .call w f => Sys2Proof.Machine.execCall w f s
  | .ret w f => Sys2Proof.Machine.execRet w f s
  | .ldB w f env => Sys2Proof.Machine.execLdB w f env s
  | .ldH w f env => Sys2Proof.Machine.execLdH w f env s
  | .ldW w f env => Sys2Proof.Machine.execLdW w f env s
  | .ldD w f env => Sys2Proof.Machine.execLdD w f env s
  | .ldQ w f env => Sys2Proof.Machine.execLdQ w f env s
  | .stB w f env => Sys2Proof.Machine.execStB w f env s
  | .stH w f env => Sys2Proof.Machine.execStH w f env s
  | .stW w f env => Sys2Proof.Machine.execStW w f env s
  | .stD w f env => Sys2Proof.Machine.execStD w f env s
  | .stQ w f env => Sys2Proof.Machine.execStQ w f env s
  | .atom w f env => Sys2Proof.Machine.execAtom w f env s
  | .atomf w f env => Sys2Proof.Machine.execAtomf w f env s
  | .threadFence w f => Sys2Proof.Machine.execThreadFence w f s
  | .vadd w f => Sys2Proof.Machine.execVadd w f s
  | .vsub w f => Sys2Proof.Machine.execVsub w f s
  | .vmul w f => Sys2Proof.Machine.execVmul w f s
  | .vfma w f => Sys2Proof.Machine.execVfma w f s
  | .vmin w f => Sys2Proof.Machine.execVmin w f s
  | .vmax w f => Sys2Proof.Machine.execVmax w f s
  | .vabs w f => Sys2Proof.Machine.execVabs w f s
  | .vneg w f => Sys2Proof.Machine.execVneg w f s
  | .vcvt w f => Sys2Proof.Machine.execVcvt w f s
  | .viadd w f => Sys2Proof.Machine.execViadd w f s
  | .vimul w f => Sys2Proof.Machine.execVimul w f s
  | .vimad w f => Sys2Proof.Machine.execVimad w f s
  | .vand w f => Sys2Proof.Machine.execVand w f s
  | .vor w f => Sys2Proof.Machine.execVor w f s
  | .vxor w f => Sys2Proof.Machine.execVxor w f s
  | .tld w f env => Sys2Proof.Machine.execTld w f env s
  | .tst w f env => Sys2Proof.Machine.execTst w f env s
  | .tmma w f => Sys2Proof.Machine.execTmma w f s
  | .tzero w f => Sys2Proof.Machine.execTzero w f s
  | .stepBegin w f env => Sys2Proof.Machine.execStepBegin w f env s
  | .stepCommit w f => Sys2Proof.Machine.execStepCommit w f s
  | .stepCtr w f => Sys2Proof.Machine.execStepCtr w f s
  | .ckassert w f => Sys2Proof.Machine.execCkassert w f s
  | .ckstat w f => Sys2Proof.Machine.execCkstat w f s
  | .rng w f => Sys2Proof.Machine.execRng w f s
  | .syAdd w f => Sys2Proof.Machine.execSyAdd w f s
  | .syRd w f => Sys2Proof.Machine.execSyRd w f s
  | .syWait w f => Sys2Proof.Machine.execSyWait w f s
  | .syWaitRelease w => Sys2Proof.Machine.execSyWaitRelease w s
  | .trigArm w f env => Sys2Proof.Machine.execTrigArm w f env s
  | .triggeredOpComplete engine env => Sys2Proof.Machine.execTriggeredOpComplete engine env s
  | .tileCheckComplete cluster prodErrs sumFault residueFault accFault accAgain => Sys2Proof.Machine.execTileCheckComplete cluster prodErrs sumFault residueFault accFault accAgain s
  | .arbiterResult cluster crcOk sumsOk qErrs ownCheckOk => Sys2Proof.Machine.execArbiterResult cluster crcOk sumsOk qErrs ownCheckOk s
  | .repeatResult cluster p2Errs => Sys2Proof.Machine.execRepeatResult cluster p2Errs s
  | .patrolScrubRead stack cls writeOk => Sys2Proof.Machine.execPatrolScrubRead stack cls writeOk s
  | .scrubLate stack => Sys2Proof.Machine.execScrubLate stack s
  | .scrubWindowExpiry stack => Sys2Proof.Machine.execScrubWindowExpiry stack s
  | .scratchpadScrub cluster granule cls => Sys2Proof.Machine.execScratchpadScrub cluster granule cls s
  | .burlingOffer cluster => Sys2Proof.Machine.execBurlingOffer cluster s
  | .itemEnd cluster crc => Sys2Proof.Machine.execItemEnd cluster crc s
  | .sliceEnd cluster => Sys2Proof.Machine.execSliceEnd cluster s
  | .itemSkipped cluster => Sys2Proof.Machine.execItemSkipped cluster s
  | .shareShortfall cluster => Sys2Proof.Machine.execShareShortfall cluster s
  | .deepRunStart => Sys2Proof.Machine.execDeepRunStart s
  | .deepRunEnd cluster pass shortPass => Sys2Proof.Machine.execDeepRunEnd cluster pass shortPass s
  | .packVerifyEnd => Sys2Proof.Machine.execPackVerifyEnd s
  | .burlingStoreUe installedHalf => Sys2Proof.Machine.execBurlingStoreUe installedHalf s
  | .errorAccept e => Sys2Proof.Machine.execErrorAccept e s
  | .entryTaken => Sys2Proof.Machine.execEntryTaken s
  | .errHandlingTimeout handler => Sys2Proof.Machine.execErrHandlingTimeout handler s
  | .errQueueFault => Sys2Proof.Machine.execErrQueueFault s
  | .ctxWatchdog ctx => Sys2Proof.Machine.execCtxWatchdog ctx s
  | .engineHang domain => Sys2Proof.Machine.execEngineHang domain s
  | .collectiveTimeout ctx group => Sys2Proof.Machine.execCollectiveTimeout ctx group s
  | .drainBudgetExpiry id => Sys2Proof.Machine.execDrainBudgetExpiry id s
  | .resetOverrun id => Sys2Proof.Machine.execResetOverrun id s
  | .resetComplete id dossierOk => Sys2Proof.Machine.execResetComplete id dossierOk s
  | .oosClear slot => Sys2Proof.Machine.execOosClear slot s
  | .flitGroupReceive port fg => Sys2Proof.Machine.execFlitGroupReceive port fg s
  | .replayTimeout port => Sys2Proof.Machine.execReplayTimeout port s
  | .alignSend port => Sys2Proof.Machine.execAlignSend port s
  | .timeFlitSend port => Sys2Proof.Machine.execTimeFlitSend port s
  | .timeFlitReceive port t => Sys2Proof.Machine.execTimeFlitReceive port t s
  | .timeBoundExpiry => Sys2Proof.Machine.execTimeBoundExpiry s
  | .linkTrainStart port => Sys2Proof.Machine.execLinkTrainStart port s
  | .linkTrained port nbr => Sys2Proof.Machine.execLinkTrained port nbr s
  | .linkTrainTimeout port => Sys2Proof.Machine.execLinkTrainTimeout port s
  | .linkTrainRetry port => Sys2Proof.Machine.execLinkTrainRetry port s
  | .linkDown port cause => Sys2Proof.Machine.execLinkDown port cause s
  | .linkKeepExpiry port => Sys2Proof.Machine.execLinkKeepExpiry port s
  | .linkOpReceive port m env => Sys2Proof.Machine.execLinkOpReceive port m env s
  | .linkOpReplyReceive port id accepted => Sys2Proof.Machine.execLinkOpReplyReceive port id accepted s
  | .pair h dsig stepCtr => Sys2Proof.Machine.execPair h dsig stepCtr s
  | .digest h stepCtr step slots => Sys2Proof.Machine.execDigest h stepCtr step slots s
  | .locate h slot digests => Sys2Proof.Machine.execLocate h slot digests s
  | .pairEnd h => Sys2Proof.Machine.execPairEnd h s
  | .pleachPeerLost ctx => Sys2Proof.Machine.execPleachPeerLost ctx s
  | .formSend ctx group => Sys2Proof.Machine.execFormSend ctx group s
  | .form port m => Sys2Proof.Machine.execForm port m s
  | .collectiveFetch ctx env => Sys2Proof.Machine.execCollectiveFetch ctx env s
  | .collectiveGrant h axis first => Sys2Proof.Machine.execCollectiveGrant h axis first s
  | .pieceReceive h d => Sys2Proof.Machine.execPieceReceive h d s
  | .chunkReceive h d => Sys2Proof.Machine.execChunkReceive h d s
  | .abort h cause => Sys2Proof.Machine.execAbort h cause s
  | .barrierRelease ctx group => Sys2Proof.Machine.execBarrierRelease ctx group s
  | .collectiveEnd ctx group env => Sys2Proof.Machine.execCollectiveEnd ctx group env s
  | .espCommandFetch env => Sys2Proof.Machine.execEspCommandFetch env s
  | .model env => Sys2Proof.Machine.execModel env s
  | .library env => Sys2Proof.Machine.execLibrary env s
  | .map env => Sys2Proof.Machine.execMap env s
  | .epochSwap => Sys2Proof.Machine.execEpochSwap s
  | .stop env => Sys2Proof.Machine.execStop env s
  | .cycleOpen => Sys2Proof.Machine.execCycleOpen s
  | .batch env => Sys2Proof.Machine.execBatch env s
  | .batchComplete results => Sys2Proof.Machine.execBatchComplete results s
  | .doubleCheckComplete second third => Sys2Proof.Machine.execDoubleCheckComplete second third s
  | .cycleClose => Sys2Proof.Machine.execCycleClose s
  | .stopValidationComplete half0 half1 third lane => Sys2Proof.Machine.execStopValidationComplete half0 half1 third lane s
  | .planningDeadline => Sys2Proof.Machine.execPlanningDeadline s
  | .epochExpiry => Sys2Proof.Machine.execEpochExpiry s
  | .espStopNow slot => Sys2Proof.Machine.execEspStopNow slot s
  | .recordProgramStep retries ok => Sys2Proof.Machine.execRecordProgramStep retries ok s
  | .eraseComplete block ok => Sys2Proof.Machine.execEraseComplete block ok s
  | .rateWindowClose code => Sys2Proof.Machine.execRateWindowClose code s
  | .powerOnSecondsStore => Sys2Proof.Machine.execPowerOnSecondsStore s
  | .freezeStart slot ra => Sys2Proof.Machine.execFreezeStart slot ra s
  | .freezeEnd slot ra => Sys2Proof.Machine.execFreezeEnd slot ra s
  | .freezeLimitExpiry => Sys2Proof.Machine.execFreezeLimitExpiry s
  | .readPtrWrite slot ra => Sys2Proof.Machine.execReadPtrWrite slot ra s
  | .readDataAutoinc slot rd => Sys2Proof.Machine.execReadDataAutoinc slot rd s
  | .perfStart slot ra => Sys2Proof.Machine.execPerfStart slot ra s
  | .perfStop slot ra => Sys2Proof.Machine.execPerfStop slot ra s
  | .perfZero slot ra => Sys2Proof.Machine.execPerfZero slot ra s
  | .injectArm slot ra => Sys2Proof.Machine.execInjectArm slot ra s
  | .injectDisarm slot ra => Sys2Proof.Machine.execInjectDisarm slot ra s
  | .beacon b => Sys2Proof.Machine.execBeacon b s
  | .deviceSlot collided => Sys2Proof.Machine.execDeviceSlot collided s
  | .programSeg h progId seg nseg data => Sys2Proof.Machine.execProgramSeg h progId seg nseg data s
  | .programAssemblyTimeout => Sys2Proof.Machine.execProgramAssemblyTimeout s
  | .grant h queue action => Sys2Proof.Machine.execGrant h queue action s
  | .readSetting h blk idx words => Sys2Proof.Machine.execReadSetting h blk idx words s
  | .recRead h region index => Sys2Proof.Machine.execRecRead h region index s
  | .packData h chunk pushId data => Sys2Proof.Machine.execPackData h chunk pushId data s
  | .packQuery h pushId => Sys2Proof.Machine.execPackQuery h pushId s
  | .holdReport => Sys2Proof.Machine.execHoldReport s
  | .page write pecOk => Sys2Proof.Machine.execPage write pecOk s
  | .clearFaults pecOk => Sys2Proof.Machine.execClearFaults pecOk s
  | .capability => Sys2Proof.Machine.execCapability s
  | .statusByte => Sys2Proof.Machine.execStatusByte s
  | .statusWord => Sys2Proof.Machine.execStatusWord s
  | .statusInput => Sys2Proof.Machine.execStatusInput s
  | .statusTemperature => Sys2Proof.Machine.execStatusTemperature s
  | .statusCml => Sys2Proof.Machine.execStatusCml s
  | .readVin mV => Sys2Proof.Machine.execReadVin mV s
  | .readIin => Sys2Proof.Machine.execReadIin s
  | .readTemperature1 => Sys2Proof.Machine.execReadTemperature1 s
  | .readTemperature2 => Sys2Proof.Machine.execReadTemperature2 s
  | .readPin => Sys2Proof.Machine.execReadPin s
  | .pmbusRevision => Sys2Proof.Machine.execPmbusRevision s
  | .mfrId => Sys2Proof.Machine.execMfrId s
  | .mfrModel => Sys2Proof.Machine.execMfrModel s
  | .mfrRevision => Sys2Proof.Machine.execMfrRevision s
  | .mfrSerial => Sys2Proof.Machine.execMfrSerial s
  | .mfrDevStatus => Sys2Proof.Machine.execMfrDevStatus s
  | .mfrBistResult => Sys2Proof.Machine.execMfrBistResult s
  | .mfrRecPtr region index pecOk => Sys2Proof.Machine.execMfrRecPtr region index pecOk s
  | .mfrRecRead => Sys2Proof.Machine.execMfrRecRead s
  | .alertResponse => Sys2Proof.Machine.execAlertResponse s
  | .perstLAssert => Sys2Proof.Machine.execPerstLAssert s
  | .perstLDeassert => Sys2Proof.Machine.execPerstLDeassert s
  | .flrVf fn => Sys2Proof.Machine.execFlrVf fn s
  | .flrPf => Sys2Proof.Machine.execFlrPf s
  | .hotReset => Sys2Proof.Machine.execHotReset s
  | .linkDisable => Sys2Proof.Machine.execLinkDisable s
  | .pcieLinkDown => Sys2Proof.Machine.execPcieLinkDown s
  | .pcieLinkUp speed width flit => Sys2Proof.Machine.execPcieLinkUp speed width flit s
  | .pcieTrainRetry => Sys2Proof.Machine.execPcieTrainRetry s
  | .q0Create => Sys2Proof.Machine.execQ0Create s
  | .q0Reenable => Sys2Proof.Machine.execQ0Reenable s
  | .barWrite fn bar offset data ep => Sys2Proof.Machine.execBarWrite fn bar offset data ep s
  | .hostReadCompletion tag d => Sys2Proof.Machine.execHostReadCompletion tag d s
  | .hostCompletionTimeout tag => Sys2Proof.Machine.execHostCompletionTimeout tag s
  | .pcieUncorrectable aerBit ur => Sys2Proof.Machine.execPcieUncorrectable aerBit ur s
  | .msixUnmask fn vector => Sys2Proof.Machine.execMsixUnmask fn vector s
  | .heartbeatMailboxRefresh => Sys2Proof.Machine.execHeartbeatMailboxRefresh s
  | .vin12Loss => Sys2Proof.Machine.execVin12Loss s
  | .powerCycleMark => Sys2Proof.Machine.execPowerCycleMark s
  | .railsInRange => Sys2Proof.Machine.execRailsInRange s
  | .tripVoteCleared voter => Sys2Proof.Machine.execTripVoteCleared voter s
  | .takeoverComplete => Sys2Proof.Machine.execTakeoverComplete s
  | .configurationWrite fn c => Sys2Proof.Machine.execConfigurationWrite fn c s
  | .pcieCorrected aerBit => Sys2Proof.Machine.execPcieCorrected aerBit s
  | .undefinedInstruction slot word => Sys2Proof.Machine.execUndefinedInstruction slot word s
  | .illegalInstr w word => Sys2Proof.Machine.execIllegalInstr w word s

end Sys2Proof.Machine
end

