-- ==== Sys2Proof/Machine/Tick.lean ====
section
/-! DEFINITION. The passing of time: one nanosecond of the always-on clock and of the GTC (17 R594, R595, R598, 20 R682). -/

namespace Sys2Proof.Machine

/-- One nanosecond of correction, in units of 1e-10 ns. -/
def wholeNs : Int := 10000000000

/-- How far the GTC goes in one nanosecond, and the correction not yet applied (17 R598): it never runs backward.
Log 3 (DESIGN CHOICE). -/
def gtcStep (t : TimeSync) : Nat × Int :=
  let a := t.slew + t.rate
  if wholeNs ≤ a then (2, a - wholeNs) else if a ≤ -wholeNs then (0, a + wholeNs) else (1, a)

/-- A nanosecond passes while VAUX33 is present.
Log 3, 19 (DESIGN CHOICE). -/
def tick (s : State) : State :=
  if s.phase = .off then s
  else { s with aon := s.aon + 1, gtc := s.gtc + (gtcStep s.time).1, time := { s.time with slew := (gtcStep s.time).2 } }

end Sys2Proof.Machine
end

