-- ==== Sys2Proof/Safety.lean ====
section
/-! DEFINITION. What counts as a safe run of the block, and the words in which the claims speak of its state. -/

namespace Sys2Proof.Machine

/-! ### Running on -/

/-- The step of a state goes on: it ends in no fault and no refusal. -/
def doesNotStop (s : State) : Prop := ∃ t, step s = .next t

/-- The memory list is in its canonical form: rising addresses, no byte listed that an unlisted one reads as, and the poisoned
granules listed once each in rising order. -/
def memCanonical (s : State) : Prop := Mem.wf s.mem.cells = true ∧ s.mem.poison.Pairwise (· < ·)

/-- Every byte of device memory, and the poison of every granule, read the same in two states. -/
def sameMem (s t : State) : Prop := (∀ a, memGet t a = memGet s a) ∧ ∀ a, isPoison t a = isPoison s a

/-! ### Hexah programs -/

/-- The program of a slot issues its next instruction: it waits for nothing and a Treadle serves its queue. -/
def issues (s : State) (slot : BitVec 6) (p : Prog) : Prop := running s slot = some p

/-- The word after the one at the program's index lies in the program. -/
def hasNext (p : Prog) : Prop := p.index + 1 < p.words

/-- The program with its instruction retired and its index at `n`. -/
def gone (p : Prog) (n : Nat) : Prog := { p with retired := p.retired + 1, index := n }

/-- The program with its instruction retired, at the next word. -/
def onward (p : Prog) : Prog := gone p (p.index + 1)

/-- The register file after a write: h0 stays as it is. -/
def wrote (p : Prog) (rd : BitVec 5) (v : Word64) : Prog := p.setReg rd v

/-- The state once the instruction of a slot has written rd and retired into the next word. -/
def retired (s : State) (slot : BitVec 6) (p : Prog) (rd : BitVec 5) (v : Word64) : State :=
  putP s slot.toNat (onward (wrote p rd v))

/-- The state once the program of a slot has ended at the instruction it was at. -/
def ended (s : State) (slot : BitVec 6) (p : Prog) (status : Nat) : State := endWith s slot.toNat p status p.index none

/-- A setting at which the block it belongs to takes no action of its own at the commit instant: none but its value changes. -/
def plainSetting (blk idx : Nat) : Prop :=
  ¬ ((blk = 1 ∧ idx = 1) ∨ (blk = 3 ∧ idx = 0x21) ∨ blk = 4 ∨ blk = 5 ∨ (blk = 7 ∧ idx = 0x10) ∨ (blk = 9 ∧ idx = 0x11) ∨ blk = 10 ∨
    blk = 11 ∨ (blk = 15 ∧ idx = 0x10))

/-- Espalier is not commanded: no context is bound, and ESP.CTL is disabled. -/
def espOff (s : State) : Prop := s.esp.bound = none ∧ (liveVal s 11 1 0).getLsbD 0 = false

/-! ### Records and errors -/

/-- The host error ring is disabled and owes nothing: a record goes to the volatile ring and to Chorno alone. -/
def ringOff (s : State) : Prop := (liveVal s 3 0x21 0).toNat % 2 = 0 ∧ s.err.ringDue = false

/-- The pipeline holds no entry and handles none, and the device is not in the safe state. -/
def pipelineEmpty (s : State) : Prop :=
  s.err.q0 = [] ∧ s.err.q1 = [] ∧ s.err.q2 = [] ∧ s.err.q3 = [] ∧ s.err.handlers = [] ∧ s.err.safe = false

/-- The volatile ring takes records: no freeze, and a slot is free for any severity. -/
def ringOpen (s : State) : Prop := s.rcd.frozen = false ∧ s.rcd.ring.length < 16320

/-- The state in which an event is recorded and accepted without a side effect of the pipeline's own. -/
def calm (s : State) : Prop := ringOff s ∧ pipelineEmpty s ∧ ringOpen s

/-- The last record of the volatile ring has this code, severity and source. -/
def lastRecord (s : State) (code sev cls idx : Nat) : Prop :=
  ∃ r, s.rcd.ring.getLast? = some r ∧ r.body.code = code ∧ r.body.sev = sev ∧ r.body.srcClass = cls ∧ r.body.srcIndex = idx

/-- An error of this code and severity is held in the pipeline, in the queue of its severity and code. -/
def inPipeline (s : State) (code sev : Nat) : Prop :=
  ∃ e ∈ entriesOf s.err (queueOf code sev), e.code = code ∧ e.sev = sev

/-- State `t` is `x` with one more record, a direct one: the volatile ring and Chorno have taken it, and nothing else has changed. -/
def recorded (x t : State) (code sev cls idx : Nat) : Prop :=
  lastRecord t code sev cls idx ∧
  t = { x with rcd := { x.rcd with seq := t.rcd.seq, ring := t.rcd.ring }, err := { x.err with direct := t.err.direct },
               chn := { x.chn with dropped := t.chn.dropped } }

/-- State `t` is `x` with one more error in the pipeline and its record, and nothing else has changed. -/
def accepted (x t : State) (code sev : Nat) : Prop := inPipeline t code sev ∧ t = { x with rcd := t.rcd, err := t.err }

/-! ### Threads -/

/-- The shed that an instruction names issues it: nothing holds it back and its execution mask is not zero. -/
def shedIssues (s : State) (w : ShedRef) (tileVec : Bool) (r : Run) : Prop := runnable s w tileVec = some r ∧ r.h.exec ≠ 0

/-- A guard is defined and no executing lane's bit of it is poisoned. -/
def guardClean (h : Shed) (g : BitVec 4) : Prop := g ≠ 8 ∧ h.exec &&& h.pp (g.toNat % 8) = 0

/-- Shed `h'` is `h` at the next word, with register `rd` of every lane of a mask as given and no other register changed. -/
def wroteLanes (h h' : Shed) (m : Half) (rd : BitVec 6) (v : Nat → Word64) (po : Nat → Bool) : Prop :=
  h' = { h with pc := h.pc + 8, regs := h'.regs, regP := h'.regP } ∧
  ∀ l, l < 16 → ∀ x : BitVec 6,
    h'.g l x = (if m.getLsbD l ∧ x = rd ∧ rd ≠ 0 then v l else h.g l x) ∧
    h'.gp l x = (if m.getLsbD l ∧ x = rd ∧ rd ≠ 0 then po l else h.gp l x)

/-- The same for the register pair that `rd`, an even number, names: the low half in `rd`, the high half in the next. -/
def wrotePair (h h' : Shed) (m : Half) (rd : BitVec 6) (v : Nat → Nat) (po : Nat → Bool) : Prop :=
  h' = { h with pc := h.pc + 8, regs := h'.regs, regP := h'.regP } ∧
  ∀ l, l < 16 → ∀ x : BitVec 6,
    h'.g l x = (if m.getLsbD l ∧ x = rd ∧ rd ≠ 0 then BitVec.ofNat 64 (v l)
      else if m.getLsbD l ∧ x = rd + 1 then BitVec.ofNat 64 (v l / 2 ^ 64) else h.g l x) ∧
    h'.gp l x = (if m.getLsbD l ∧ (x = rd ∧ rd ≠ 0 ∨ x = rd + 1) then po l else h.gp l x)

/-- Shed `h'` is `h` at the next word, with predicate `pd` of every lane of a mask as given and no other predicate changed. -/
def wrotePred (h h' : Shed) (m : Half) (pd : Nat) (v po : Nat → Bool) : Prop :=
  h' = { h with pc := h.pc + 8, preds := h'.preds, predP := h'.predP } ∧
  ∀ l, l < 16 → ∀ x, x < 8 →
    (h'.p x).getLsbD l = (if m.getLsbD l ∧ x = pd ∧ pd ≠ 0 then v l else (h.p x).getLsbD l) ∧
    (h'.pp x).getLsbD l = (if m.getLsbD l ∧ x = pd ∧ pd ≠ 0 then po l else (h.pp x).getLsbD l)

/-- The context of a run has faulted with a status, recorded with what the thread was at, and nothing else has changed but the
recorder and the pipeline. -/
def faulted (s t : State) (r : Run) (status addr lane : Nat) (isIndex : Bool) : Prop :=
  getC t r.ctx = { getC s r.ctx with fault := status, faultAt := ⟨addr, r.no, r.shed, lane, r.slot.host, isIndex⟩ } ∧
  (∀ d, d ≠ r.ctx → getC t d = getC s d) ∧ inPipeline t (if status = 0x0113 then 0x4010 else 0x4020) 3 ∧
  t = { s with ctxs := t.ctxs, rcd := t.rcd, err := t.err }

/-- A write of a thread takes effect at once: its context has no open step, and it is the primary copy. -/
def writesNow (s : State) (r : Run) : Prop := (getC s r.ctx).step.isOpen = false ∧ r.slot.twinOf = none

/-- The address of a thread's access is that of a byte of device memory, and no other context's open step holds it. -/
def reaches (s : State) (r : Run) (va : Nat) (a : Access) (env : Env) (pa : Nat) : Prop :=
  slotXlat s r.key r.slot va a env = (.ok (.hbm pa), s) ∧ writeHeld s r va = false

/-! ### Espalier -/

/-- Espalier serves a command of kind `n` of the context it is bound to: nothing holds it back. -/
def espServes (s : State) (c : Nat) (k : EspCmd) (n : Nat) : Prop :=
  s.esp.bound = some c ∧ s.esp.cmd = some k ∧ k.kind = n ∧ s.esp.due = none ∧ isFencedEngine s 1102 = false ∧ isFenced s c = false ∧
  (getC s c).fault = 0 ∧ s.phase = .run ∧ s.err.safe = false

/-- The status word of a command lies in a page of HBM that no open step holds, and its object is one without a trigger. -/
def espReports (s : State) (c : Nat) (k : EspCmd) (pa : Nat) : Prop :=
  k.va % 64 = 0 ∧ xlat s c (k.va + 48) .write none = .ok (.hbm pa) ∧ stepHolder s 0xFFFF (.hbm pa) = none ∧ k.done < 256 ∧
  (getC s c).inUse = true ∧ (getC s c).ended = false ∧ (getC s c).trigs = [] ∧ (getC s c).step.isOpen = false

/-- State `t` is `x` once a command has ended: its status word stands at `pa`, its object has risen by one, Espalier is free for the next
command, and nothing else has changed but the pipeline and the recorder. -/
def espEnded (x t : State) (c : Nat) (k : EspCmd) (pa word : Nat) : Prop :=
  memGets t pa 8 = leBytes 8 word ∧ (∀ a, a < pa ∨ pa + 8 ≤ a → memGet t a = memGet x a) ∧
  syncGet t c k.done = syncGet x c k.done + 1 ∧ (∀ o, o ≠ k.done → syncGet t c o = syncGet x c o) ∧
  t = { x with mem := t.mem, ctxs := t.ctxs, esp := { x.esp with cmd := none }, err := t.err, rcd := t.rcd, chn := t.chn }

/-- The status word of a command: status, the index it names (0xFFFF: none), the epoch it took and whether that is stale (19 R656). -/
def espWord (status idx epoch : Nat) (stale : Bool) : Nat := epoch * 2 ^ 48 + idx * 2 ^ 32 + (if stale then 65536 else 0) + status

end Sys2Proof.Machine
end

