-- ==== Sys2Proof/Certificates/Slice0/Obligations.lean ====
section
/-! DEFINITION. The statements about the model: each docstring names the rule or section of spec/ that it formalises, or says that
it is the model's own choice and names the log entry. -/

open Sys2Proof
open Sys2Proof.Machine

/-! ### The block -/

/-- A step takes the command at the front of the queue and answers what exec answers with the queue's rest (the model's form of a
step of a block). -/
def Obligations.StepRunsFrontCommand : Prop :=
  ∀ (c : Instr) (q : List Instr) (s : State), s.pending = c :: q → step s = exec c { s with pending := q }

/-- (1) On an empty queue a nanosecond passes while VAUX33 is present: the always-on clock goes on by one, the GTC by 0, 1 or 2, never
backward, with the rest of the correction kept (17 R598), and nothing else changes.  The unit of a step is the model's choice (log 3).
(2) No command ends in a fault or a refusal, in any state.
Where the spec leaves a point open it rests on the model's choices: log 3, 18. -/
def Obligations.EveryStepGoesOn : Prop :=
  (∀ s : State, s.pending = [] →
     (s.phase = .off → step s = .next s) ∧
     (s.phase ≠ .off → ∃ t, step s = .next t ∧ t.aon = s.aon + 1 ∧ s.gtc ≤ t.gtc ∧ t.gtc ≤ s.gtc + 2 ∧
       wholeNs * ((t.gtc : Int) - s.gtc - 1) + t.time.slew = s.time.slew + s.time.rate ∧
       t = { s with aon := t.aon, gtc := t.gtc, time := { s.time with slew := t.time.slew } })) ∧
  (∀ (c : Instr) (s : State), ∃ t, exec c s = .next t)

/-- (1) What the release leaves, as the spec gives it: Treadle A active with the standby SYNCING (06 R193), queue 1023 the one queue and
enabled at operator privilege (06 R197), no program, no context, an empty error pipeline (15 R537), every memory-protection count
zero (13), every link down (17 R587), no time parent (17 R597), Chorno UNSYNC (21 R717), and no command waiting.
(2) Memory reads zero after the FULL test, in its canonical form (05 R160; what an unlisted byte reads as is log 2).
Where the spec leaves a point open it rests on the model's choices: log 1, 2, 4. -/
def Obligations.ResetLeavesTheSpecifiedState : Prop :=
  (State.reset.pending = [] ∧
   State.reset.trd.owner = true ∧ State.reset.trd.activeB = false ∧ State.reset.trd.standby = 1 ∧
   (∀ q, (getQ State.reset q).valid = decide (q = 1023)) ∧
   (getQ State.reset 1023).enabled = true ∧ (getQ State.reset 1023).priv = 2 ∧
   (∀ n, getP State.reset n = none) ∧ (∀ c, (getC State.reset c).inUse = false) ∧
   pipelineEmpty State.reset ∧ State.reset.rcd.ring = [] ∧
   (∀ k, (getE State.reset k).ue = 0 ∧ (getE State.reset k).chk = 0 ∧ (getE State.reset k).cor = 0) ∧
   (∀ p, (getL State.reset p).up = false) ∧ State.reset.time.parent = 7 ∧ State.reset.chn.sync = false ∧
   (∀ f, (getF State.reset f).bme = false)) ∧
  (memCanonical State.reset ∧ (∀ a, memGet State.reset a = 0) ∧ ∀ a, isPoison State.reset a = false)

/-- Every step keeps the memory list in its canonical form: rising addresses, no byte listed that an unlisted one reads as, each
poisoned granule listed once.
Where the spec leaves a point open it rests on the model's choices: log 2. -/
def Obligations.EveryStepKeepsMemoryCanonical : Prop :=
  ∀ s t : State, memCanonical s → step s = .next t → memCanonical t

/-! ### Instruction words -/

/-- (1) For every well-formed Hexah instruction the word that encodes it decodes to it: no field is dropped or doubled (07 R244 to
R247).
(2) A Hexah word has one meaning: a word that decodes is the word that encodes what it decodes to, so every bit of it counts. -/
def Obligations.HexahWordsRoundTrip : Prop :=
  (∀ (i : Instr) (w : Word64), Instr.wf i = true → encodeHexah i = some w →
     ∃ slot env test, decodeHexah slot env test w = some i) ∧
  (∀ (slot : BitVec 6) (env : Env) (test : Bool) (w : Word64) (i : Instr), decodeHexah slot env test w = some i →
     Instr.wf i = true ∧ encodeHexah i = some w)

/-- (1) For every well-formed thread instruction the word that encodes it decodes to it (10 R342 to R345).
(2) A thread word has one meaning: a word that decodes is the word that encodes what it decodes to.
Where the spec leaves a point open it rests on the model's choices: log 66. -/
def Obligations.ThreadWordsRoundTrip : Prop :=
  (∀ (i : Instr) (w : Word64), Instr.wf i = true → encodeThread i = some w →
     ∃ r env, decodeThread r env w = some i) ∧
  (∀ (r : ShedRef) (env : Env) (w : Word64) (i : Instr), decodeThread r env w = some i →
     Instr.wf i = true ∧ encodeThread i = some w)

/-- Words written out from the spec's encodings: NOP, the STAGE of 07's example, the TMMA of 10's example, a zero word, and a word
with a bit set in a field that is shown as 0 (07 R245, R250, 10 R344). -/
def Obligations.WrittenOutWordsDecode : Prop :=
  (∀ slot env test, decodeHexah slot env test 0x1700000000000000 = some (.or slot 0 0 0)) ∧
  (∀ slot env test, decodeHexah slot env test 0x5200802010000000 = some (.stage slot 2 ⟨2, 0x010, false, 0⟩)) ∧
  (∀ r env, decodeThread r env 0x7208085000000000 = some (.tmma r ⟨4, 0, 1, 20, 0, 0⟩)) ∧
  (∀ slot env test, decodeHexah slot env test 0 = none) ∧
  (∀ slot env test, decodeHexah slot env test 0x1700000000000001 = none) ∧
  (∀ r env, decodeThread r env 0 = none)

/-! ### Hexah programs -/

/-- (1) Every three-register instruction of Table 7.4 writes its result to rd, retires, and changes nothing else: arithmetic wraps
modulo 2^64 and never faults (07 R250); division by zero gives all ones and the dividend.
(2) h0 reads zero and a write to it is discarded; a write to another register is what it reads afterwards, and every other register
reads as before (07 R242).
Where the spec leaves a point open it rests on the model's choices: log 12. -/
def Obligations.HexahRegisterInstructionsWriteRd : Prop :=
  (∀ (s : State) (slot : BitVec 6) (rd ra rb : BitVec 5) (p : Prog), issues s slot p → hasNext p →
     let a := p.reg ra
     let b := p.reg rb
     let n := b.toNat % 64
     let go : Word64 → Host.Outcome State Fault Refusal := fun v => .next (putP s slot.toNat (onward (wrote p rd v)))
     exec (.add slot rd ra rb) s = go (a + b) ∧
     exec (.sub slot rd ra rb) s = go (a - b) ∧
     exec (.mul slot rd ra rb) s = go (a * b) ∧
     exec (.mulhu slot rd ra rb) s = go (BitVec.ofNat 64 (a.toNat * b.toNat / 2 ^ 64)) ∧
     exec (.divu slot rd ra rb) s = go (if b = 0 then BitVec.allOnes 64 else BitVec.ofNat 64 (a.toNat / b.toNat)) ∧
     exec (.remu slot rd ra rb) s = go (if b = 0 then a else BitVec.ofNat 64 (a.toNat % b.toNat)) ∧
     exec (.and slot rd ra rb) s = go (a &&& b) ∧
     exec (.or slot rd ra rb) s = go (a ||| b) ∧
     exec (.xor slot rd ra rb) s = go (a ^^^ b) ∧
     exec (.shl slot rd ra rb) s = go (a <<< n) ∧
     exec (.shr slot rd ra rb) s = go (a >>> n) ∧
     exec (.sar slot rd ra rb) s = go (a.sshiftRight n) ∧
     exec (.slt slot rd ra rb) s = go (if a.toInt < b.toInt then 1 else 0) ∧
     exec (.sltu slot rd ra rb) s = go (if a.toNat < b.toNat then 1 else 0) ∧
     exec (.seq slot rd ra rb) s = go (if a = b then 1 else 0)) ∧
  (∀ (p : Prog) (v : Word64),
     p.reg 0 = 0 ∧ wrote p 0 v = p ∧
     ∀ rd : BitVec 5, rd ≠ 0 → (wrote p rd v).reg rd = v ∧ ∀ r : BitVec 5, r ≠ rd → (wrote p rd v).reg r = p.reg r)

/-- (1) Every immediate instruction of Table 7.4, and GTC, write their result to rd, retire, and change nothing else; the immediate is
sign-extended, but in LDIH, where it becomes bits [63:32], and in a shift, where 0 to 63 is the amount (07 R246).
(2) A shift by an immediate outside 0 to 63 is undefined and ends the program with MALFORMED, fault_at at the word (07 R245).
Where the spec leaves a point open it rests on the model's choices: log 12. -/
def Obligations.HexahImmediateInstructionsWriteRd : Prop :=
  (∀ (s : State) (slot : BitVec 6) (rd ra : BitVec 5) (imm : Word32) (p : Prog), issues s slot p → hasNext p →
     let a := p.reg ra
     let i : Word64 := imm.signExtend 64
     let go : Word64 → Host.Outcome State Fault Refusal := fun v => .next (putP s slot.toNat (onward (wrote p rd v)))
     exec (.addi slot rd ra imm) s = go (a + i) ∧
     exec (.andi slot rd ra imm) s = go (a &&& i) ∧
     exec (.ori slot rd ra imm) s = go (a ||| i) ∧
     exec (.xori slot rd ra imm) s = go (a ^^^ i) ∧
     exec (.movi slot rd imm) s = go i ∧
     exec (.ldih slot rd ra imm) s = go (imm ++ a.setWidth 32) ∧
     exec (.gtc slot rd) s = go (BitVec.ofNat 64 s.gtc) ∧
     (imm.toNat < 64 →
       exec (.shli slot rd ra imm) s = go (a <<< imm.toNat) ∧
       exec (.shri slot rd ra imm) s = go (a >>> imm.toNat) ∧
       exec (.sari slot rd ra imm) s = go (a.sshiftRight imm.toNat))) ∧
  (∀ (s : State) (slot : BitVec 6) (rd ra : BitVec 5) (imm : Word32) (p : Prog), issues s slot p → 64 ≤ imm.toNat →
     ∀ f ∈ [Instr.shli, Instr.shri, Instr.sari],
       exec (f slot rd ra imm) s = .next (endWith s slot.toNat p 0x0002 p.index none))

/-- (1) A branch that is taken goes to its index plus the signed offset, one that is not to the next word; JAL and JR write index + 1
and jump, JR to the index it has read before writing.  Nothing else changes while the target lies in the program (07 R246, R251,
Table 7.5).
(2) A target outside the program, and the word after the last one, end the program with MALFORMED, fault_at at the instruction just
executed, which has retired (06 R241, 07 R251). -/
def Obligations.HexahControlTransfersKeepToTheProgram : Prop :=
  (∀ (s : State) (slot : BitVec 6) (rd ra rb : BitVec 5) (off : Word32) (p : Prog) (n : Nat),
     issues s slot p → n < p.words →
     let a := p.reg ra
     let b := p.reg rb
     let go : Prog → Host.Outcome State Fault Refusal := fun p => .next (putP s slot.toNat (gone p n))
     let taken : Bool → Prop := fun c => (n : Int) = if c then (p.index : Int) + off.toInt else (p.index : Int) + 1
     (taken (decide (a = b)) → exec (.beq slot ra rb off) s = go p) ∧
     (taken (decide (a ≠ b)) → exec (.bne slot ra rb off) s = go p) ∧
     (taken (decide (a.toInt < b.toInt)) → exec (.blt slot ra rb off) s = go p) ∧
     (taken (decide (b.toInt ≤ a.toInt)) → exec (.bge slot ra rb off) s = go p) ∧
     (taken (decide (a.toNat < b.toNat)) → exec (.bltu slot ra rb off) s = go p) ∧
     (taken (decide (b.toNat ≤ a.toNat)) → exec (.bgeu slot ra rb off) s = go p) ∧
     (taken true → exec (.jal slot rd off) s = go (wrote p rd (BitVec.ofNat 64 (p.index + 1)))) ∧
     (a.toNat = n → exec (.jr slot rd ra) s = go (wrote p rd (BitVec.ofNat 64 (p.index + 1))))) ∧
  (∀ (s : State) (slot : BitVec 6) (rd ra rb : BitVec 5) (off : Word32) (p : Prog), issues s slot p →
     let out : Prog → Host.Outcome State Fault Refusal :=
       fun q => .next (endWith s slot.toNat { q with retired := p.retired + 1 } 0x0002 p.index none)
     let far : Int := (p.index : Int) + off.toInt
     (far < 0 ∨ (p.words : Int) ≤ far →
       exec (.jal slot rd off) s = out (wrote p rd (BitVec.ofNat 64 (p.index + 1))) ∧
       (p.reg ra = p.reg rb → exec (.beq slot ra rb off) s = out p) ∧
       (p.reg ra ≠ p.reg rb → exec (.bne slot ra rb off) s = out p) ∧
       ((p.reg ra).toInt < (p.reg rb).toInt → exec (.blt slot ra rb off) s = out p) ∧
       ((p.reg rb).toInt ≤ (p.reg ra).toInt → exec (.bge slot ra rb off) s = out p) ∧
       ((p.reg ra).toNat < (p.reg rb).toNat → exec (.bltu slot ra rb off) s = out p) ∧
       ((p.reg rb).toNat ≤ (p.reg ra).toNat → exec (.bgeu slot ra rb off) s = out p)) ∧
     (p.words ≤ (p.reg ra).toNat → exec (.jr slot rd ra) s = out (wrote p rd (BitVec.ofNat 64 (p.index + 1)))) ∧
     (p.words ≤ p.index + 1 →
       exec (.add slot rd ra rb) s = out (wrote p rd (p.reg ra + p.reg rb)) ∧
       exec (.fence slot) s = out p ∧ exec (.abandon slot) s = .next (endWith (jot s) slot.toNat
         { p with staged := [], overfull := false, retired := p.retired + 1 } 0x0002 p.index none)))

/-- (1) A load writes the zero-extended bytes of its operand to rd, ends the program with the status of an operand that cannot be read,
and changes only what the read itself changes (07 R253, Table 7.6).
(2) A store writes its bytes, little-endian, at its address and changes no other byte of memory and no register; one whose address
cannot be written ends the program with MEMORY_FAULT (07 R253, Table 7.6).  Stated for device memory of a queue with its rings inside
the device, and for every address that cannot be written; a step of another context that holds the range does not stand open.
(3) END retires and ends the program with OK: the slot is free, the queue has no running program, and its completion record holds
the tag, status OK, h1 as the result, the count of retired instructions and fault_at 0xFFFF; the staged set is gone with the program,
and memory, contexts and settings are as they were (06 R208, 07 R252, Table 6.5).
Where the spec leaves a point open it rests on the model's choices: log 12, 35, 44, 62. -/
def Obligations.HexahMemoryInstructions : Prop :=
  (∀ (s s' : State) (slot : BitVec 6) (rd ra : BitVec 5) (imm : Word32) (env : Env) (p : Prog) (b : List Byte) (st : Nat),
     issues s slot p → hasNext p →
     let addr := p.reg ra + imm.signExtend 64
     let go : Host.Outcome State Fault Refusal := .next (putP s' slot.toNat (onward (wrote p rd (BitVec.ofNat 64 (leNat b)))))
     let bad : Host.Outcome State Fault Refusal := .next (endWith s' slot.toNat p st p.index none)
     (progRead s p addr 8 8 env = (.ok b, s') → exec (.ld slot rd ra imm env) s = go) ∧
     (progRead s p addr 4 4 env = (.ok b, s') → exec (.lw slot rd ra imm env) s = go) ∧
     (progRead s p addr 8 8 env = (.bad st, s') → exec (.ld slot rd ra imm env) s = bad) ∧
     (progRead s p addr 4 4 env = (.bad st, s') → exec (.lw slot rd ra imm env) s = bad)) ∧
  (∀ (s : State) (slot : BitVec 6) (ra rb : BitVec 5) (imm : Word32) (p : Prog) (n : Nat) (i : Instr),
     issues s slot p → hasNext p →
     (n = 8 ∧ i = .st slot ra rb imm ∨ n = 4 ∧ i = .sw slot ra rb imm) →
     let addr := (p.reg ra + imm.signExtend 64).toNat
     (addr % n ≠ 0 → exec i s = .next (endWith s slot.toNat p 0x000D p.index none)) ∧
     (addr % n = 0 → queuePlaces s (getQ s p.queue) Env.quiet (n / 4096 + 2) addr n = none →
       exec i s = .next (endWith s slot.toNat p 0x000D p.index none)) ∧
     (addr % n = 0 → (getQ s p.queue).devMem = true → (getQ s p.queue).priv ≠ 0 → addr + n ≤ hbmSize → hbmUp s addr = true →
       (∀ c, (getC s c).step.isOpen = false) →
       ∃ t, exec i s = .next t ∧ memGets t addr n = leBytes n (p.reg rb).toNat ∧
         (∀ a, a < addr ∨ addr + n ≤ a → memGet t a = memGet s a) ∧
         t = { putP s slot.toNat (onward p) with mem := t.mem })) ∧
  (∀ (s : State) (slot : BitVec 6) (p : Prog), issues s slot p →
     ∃ t, exec (.endProg slot) s = .next t ∧ getP t slot.toNat = none ∧
       (∀ n, n ≠ slot.toNat → getP t n = getP s n) ∧
       (getQ t p.queue).running = none ∧
       (∃ r, (getQ t p.queue).pendRec = some r ∧ r.tag = p.tag ∧ r.status = 0 ∧ r.gtcEnd = s.gtc ∧ r.result = p.reg 1 ∧
         r.retired = BitVec.ofNat 32 (p.retired + 1) ∧ r.faultAt = 0xFFFF ∧ r.commit = p.committed) ∧
       (∀ q, q ≠ p.queue → getQ t q = getQ s q) ∧
       t = { s with progs := t.progs, queues := t.queues, trd := t.trd, rst := t.rst, fuses := t.fuses })

/-! ### Settings -/

/-- (1) An instruction above the privilege of its program ends it with PRIVILEGE and leaves everything else as it was (06 R212).
(2) RDS writes the live value of the setting it names to rd, RDST the staged value, or the live value where none is staged, and
nothing else changes; a read of REC:0x017 moves the readout position, and is stated of READ_DATA_AUTOINC (07 R254, R255).
(3) A setting instruction that names no setting ends its program with SETTING_UNDEF; one on a per-context setting without a selected
context with MALFORMED; STAGE of a setting that is neither ST nor HD, and WRI of one that is neither IM nor W1C, with SETTING_ACCESS
(07 R254, Table 7.7).
Where the spec leaves a point open it rests on the model's choices: log 42, 43, 126. -/
def Obligations.SettingAccessesKeepToTheirRules : Prop :=
  (∀ (s : State) (slot : BitVec 6) (rd ra rb : BitVec 5) (imm : Word32) (env : Env) (test : Bool) (p : Prog), issues s slot p →
     ∀ e ∈ [(Instr.ctxsel slot ra, 1), (.ctxnew slot rd ra rb imm, 1), (.ctxdel slot rd ra, 1), (.qcreate slot rd ra rb env, 1),
         (.qctlEnable slot rd ra, 1), (.qctlDisable slot rd ra, 1), (.qctlStop slot rd ra, 1), (.qctlDestroy slot rd ra, 1),
         (.resetJobTag slot rd ra, 1), (.resetEngine slot rd ra, 1), (.resetPartition slot rd ra, 1), (.resetChip slot rd ra, 1),
         (.resetPowerCycle slot rd ra, 2), (.pwrdom slot rd ra imm, 1), (.acct slot 1, 1), (.tsnap slot ra, 1),
         (.binst slot rd ra rb env, 2), (.bkey slot imm, 2), (.bdeep slot rd ra, 2), (.cstate slot rd ra imm test, 2),
         (.fkey slot rd ra rb imm env, 2), (.fcop slot rd ra, 2), (.send slot rd ra rb env, 1)],
       p.priv < e.2 → exec e.1 s = .next (ended s slot p 0x0001)) ∧
  (∀ (s : State) (slot : BitVec 6) (rd : BitVec 5) (x : SetRef) (p : Prog) (r : SetRow) (i : Nat),
     issues s slot p → hasNext p → SetRef.ok x = true → resolve p x = some (r, i) → (r.perCtx = true → p.sel < 256) →
     (¬ (r.blk = 12 ∧ i = 0x17) → exec (.rds slot rd x) s = .next (retired s slot p rd (readSetting s r i (setCtx p r)))) ∧
     (∀ e, stagedOf p.staged r.blk i (setCtx p r) = some e → exec (.rdst slot rd x) s = .next (retired s slot p rd e.val)) ∧
     (stagedOf p.staged r.blk i (setCtx p r) = none →
       exec (.rdst slot rd x) s = .next (retired s slot p rd (readSetting s r i (setCtx p r))))) ∧
  (∀ (s : State) (slot : BitVec 6) (rd ra : BitVec 5) (x : SetRef) (p : Prog), issues s slot p → SetRef.ok x = true →
     (resolve p x = none →
       ∀ e ∈ [Instr.rds slot rd x, .rdst slot rd x, .stage slot ra x, .wri slot ra x], exec e s = .next (ended s slot p 0x0004)) ∧
     (∀ r i, resolve p x = some (r, i) →
       (r.perCtx = true ∧ 256 ≤ p.sel → exec (.rds slot rd x) s = .next (ended s slot p 0x0002) ∧
         exec (.rdst slot rd x) s = .next (ended s slot p 0x0002)) ∧
       (r.cls ≠ .im ∧ r.cls ≠ .w1c → exec (.wri slot ra x) s = .next (ended s slot p 0x0003)) ∧
       (r.cls ≠ .st ∧ r.cls ≠ .hd → exec (.stage slot ra x) s = .next (ended s slot p 0x0003))))

/-- (1) STAGE of an ST or HD setting that the program may write adds it to the staged set, reserved bits clear, under its generation; a
later STAGE replaces the value and keeps the generation; beyond 1,024 settings the set is overfull.  Nothing is live before the
commit: only the program, and the journal of the standby, change (07 R254, 08 R280, R281).
(2) CHECK reports the first rule of Table 8.2 that the staged set fails, bit 63 set above its number, and 0 for a set that passes or
is empty; ABANDON drops the staged set (07 R256, 08 R281, R282).
(3) WRI of an IM setting without an action of its own writes the setting at once: its live value is the value in ra with the reserved
bits clear (07 Table 7.7, 08 R297).
Where the spec leaves a point open it rests on the model's choices: log 45. -/
def Obligations.StagingAndImmediateWrites : Prop :=
  (∀ (s : State) (slot : BitVec 6) (ra : BitVec 5) (x : SetRef) (p : Prog) (r : SetRow) (i : Nat),
     issues s slot p → hasNext p → SetRef.ok x = true → resolve p x = some (r, i) → (r.perCtx = true → p.sel < 256) →
     (r.cls = .st ∨ r.cls = .hd) → r.priv ≤ p.priv → ¬ (r.blk = 7 ∧ r.cls = .hd ∧ r.priv = 4) →
     let c := setCtx p r
     let v := p.reg ra &&& BitVec.ofNat 64 r.mask
     ∃ t q, exec (.stage slot ra x) s = .next t ∧ getP t slot.toNat = some (onward q) ∧ t = putP (jot s) slot.toNat (onward q) ∧
       q = { p with staged := q.staged, overfull := q.overfull } ∧
       (stagedOf p.staged r.blk i c = none → p.staged.length < 1024 → q.overfull = p.overfull ∧
         q.staged = p.staged ++ [⟨r.blk, i, c, v, setGen s r.blk i (if c < 256 then c else 0)⟩]) ∧
       (stagedOf p.staged r.blk i c = none → 1024 ≤ p.staged.length → q.overfull = true ∧ q.staged = p.staged) ∧
       (∀ o, stagedOf p.staged r.blk i c = some o → q.staged.length = p.staged.length ∧
         { o with val := v } ∈ q.staged)) ∧
  (∀ (s : State) (slot : BitVec 6) (rd : BitVec 5) (p : Prog), issues s slot p → hasNext p →
     (p.staged = [] ∨ firstRule s p = 0 → exec (.check slot rd) s = .next (retired s slot p rd 0)) ∧
     (p.staged ≠ [] → firstRule s p ≠ 0 →
       exec (.check slot rd) s = .next (retired s slot p rd (BitVec.ofNat 64 (2 ^ 63 + firstRule s p)))) ∧
     exec (.abandon slot) s = .next (putP (jot s) slot.toNat (onward { p with staged := [], overfull := false }))) ∧
  (∀ (s : State) (slot : BitVec 6) (ra : BitVec 5) (x : SetRef) (p : Prog) (r : SetRow) (i : Nat),
     issues s slot p → hasNext p → SetRef.ok x = true → resolve p x = some (r, i) → r.cls = .im → Nat.min 2 r.priv ≤ p.priv →
     r.priv ≠ 3 → r.blk ≠ 4 → r.blk ≠ 11 → r.blk ≠ 12 →
     (r.perCtx = true → p.sel < 256 ∧ isFenced s p.sel = false ∧ (getC s p.sel).inUse = true) →
     ∃ t, exec (.wri slot ra x) s = .next t ∧
       liveVal t r.blk i (if r.perCtx then p.sel else 0) = p.reg ra &&& BitVec.ofNat 64 r.mask ∧
       getP t slot.toNat = some (onward p) ∧ t = { putP (jot s) slot.toNat (onward p) with sets := t.sets })

/-- (1) FREEZE_START freezes the volatile ring for limit_s seconds, 60 for 0 and at most 3,600, and a write during a freeze restarts the
limit and keeps the counts (20 R695); READ_PTR_WRITE sets the readout position, and READ_DATA_AUTOINC reads REC.READ_DATA and moves
the position by one (20 R702).
(2) PERF_START starts the counters of the selected context, PERF_STOP stops them where they stand, PERF_ZERO zeroes them (09 R312);
INJECT_ARM and INJECT_DISARM leave CHK.INJECT with the value written (12 R434).
Where the spec leaves a point open it rests on the model's choices: log 112. -/
def Obligations.RecorderPerfAndInjectWrites : Prop :=
  (∀ (s : State) (slot : BitVec 6) (ra rd : BitVec 5) (p : Prog), issues s slot p → hasNext p →
     let v := p.reg ra
     let n := v.toNat / 2 ^ 8 % 2 ^ 16
     (1 ≤ p.priv → v.getLsbD 0 = true →
       ∃ t, exec (.freezeStart slot ra) s = .next t ∧ getP t slot.toNat = some (onward p) ∧ t.rcd.frozen = true ∧
         t.rcd.frzEnd = s.aon + 1000000000 * (if n = 0 then 60 else Nat.min 3600 n) ∧
         (s.rcd.frozen = true → t.rcd.frzCounts = s.rcd.frzCounts ∧ t.rcd.frzStart = s.rcd.frzStart) ∧
         (s.rcd.frozen = false → t.rcd.frzCounts = [0, 0, 0, 0, 0, 0] ∧ t.rcd.frzStart = s.gtc) ∧
         t = { putP (jot s) slot.toNat (onward p) with rcd := t.rcd }) ∧
     (1 ≤ p.priv → v.getLsbD 0 = false → s.rcd.frozen = false → ringOff s →
       ∃ t, exec (.freezeEnd slot ra) s = .next t ∧ getP t slot.toNat = some (onward p) ∧ t.rcd.frozen = false) ∧
     (1 ≤ p.priv → v.getLsbD 0 = false → s.rcd.frozen = true → ringOff s → s.rcd.ring.length < 16320 →
       ∃ t, exec (.freezeEnd slot ra) s = .next t ∧ getP t slot.toNat = some (onward p) ∧ t.rcd.frozen = false ∧
         t.rcd.frzCounts = [0, 0, 0, 0, 0, 0] ∧ lastRecord t 0xA003 0 0x0D 0) ∧
     (1 ≤ p.priv →
       exec (.readPtrWrite slot ra) s = .next { putP (jot s) slot.toNat (onward p) with
         rcd := { s.rcd with readPtr := v &&& 0xE000FFFFFFFFFFFF } }) ∧
     (s.rcd.readPtr.getLsbD 61 = true →
       ∃ t, exec (.readDataAutoinc slot rd) s = .next t ∧
         getP t slot.toNat = some (onward (wrote p rd (readWord s 12 0x17 0))) ∧
         t.rcd.readPtr.toNat = s.rcd.readPtr.toNat / 2 ^ 48 * 2 ^ 48 + (s.rcd.readPtr.toNat % 2 ^ 48 + 1) % 2 ^ 48 ∧
         t = { retired s slot p rd (readWord s 12 0x17 0) with rcd := { s.rcd with readPtr := t.rcd.readPtr } })) ∧
  (∀ (s : State) (slot : BitVec 6) (ra : BitVec 5) (p : Prog), issues s slot p → hasNext p →
     let v := p.reg ra
     (p.sel < 256 → isFenced s p.sel = false → (getC s p.sel).inUse = true →
       (v.toNat % 4 = 1 → ∃ t, exec (.perfStart slot ra) s = .next t ∧ getP t slot.toNat = some (onward p) ∧
         getC t p.sel = { getC s p.sel with perfOn := true } ∧ liveVal t 4 0x40 p.sel = 1) ∧
       (v.toNat % 4 = 2 → ∃ t, exec (.perfStop slot ra) s = .next t ∧ getP t slot.toNat = some (onward p) ∧
         (getC t p.sel).perfOn = false ∧ liveVal t 4 0x40 p.sel = 2 ∧ ∀ k, perfWord t p.sel k = perfWord s p.sel k) ∧
       (v.toNat % 4 = 3 → ∃ t, exec (.perfZero slot ra) s = .next t ∧ getP t slot.toNat = some (onward p) ∧
         getC t p.sel = { getC s p.sel with beats := 0, tileOps := 0, stall := 0 } ∧ liveVal t 4 0x40 p.sel = 3)) ∧
     (2 ≤ p.priv → v.getLsbD 0 = true → ∃ t, exec (.injectArm slot ra) s = .next t ∧ getP t slot.toNat = some (onward p) ∧
       liveVal t 6 0xF0 0 = v &&& 0xFFFFFFFF01 ∧ t = { putP (jot s) slot.toNat (onward p) with sets := t.sets }) ∧
     (2 ≤ p.priv → v.getLsbD 0 = false → ∃ t, exec (.injectDisarm slot ra) s = .next t ∧ getP t slot.toNat = some (onward p) ∧
       liveVal t 6 0xF0 0 = v &&& 0xFFFFFFFF01 ∧ (liveVal t 6 0xF0 0).getLsbD 0 = false ∧
       t = { putP (jot s) slot.toNat (onward p) with sets := t.sets }))

/-! ### The commit -/

/-- (1) COMMIT of an empty set writes 0; of another it queues for the one commit token and waits; a set above the program's privilege, or
with a setting of a fenced context, ends the program (07 R256, 08 R286, R292, 24 R796).
(2) The commit instant: with the token, a staged set that passes every rule becomes live together, every setting with the value
staged and the new TRD.COMMIT_SEQ as its generation, which counts up by one and is the result; no other setting changes.  Stated for
settings at which no block takes an action of its own (08 R290 to R293).
Where the spec leaves a point open it rests on the model's choices: log 42, 46, 47. -/
def Obligations.CommitsGoLiveTogether : Prop :=
  (∀ (s : State) (slot : BitVec 6) (rd : BitVec 5) (imm : Word32) (p : Prog), issues s slot p → imm.toNat ≤ 1 →
     (p.staged = [] → hasNext p → exec (.commit slot rd imm) s = .next (retired s slot p rd 0)) ∧
     (p.staged ≠ [] → stagedAbove p = true → exec (.commit slot rd imm) s = .next (ended s slot p 0x0001)) ∧
     (p.staged ≠ [] → stagedAbove p = false → stagedFenced s p = true → exec (.commit slot rd imm) s = .next (ended s slot p 0x000B)) ∧
     (p.staged ≠ [] → stagedAbove p = false → stagedFenced s p = false →
       exec (.commit slot rd imm) s = .next (putP { s with trd := { s.trd with tokenQ := s.trd.tokenQ ++ [slot.toNat] } } slot.toNat
         { p with wait := .commit rd.toNat (imm == 1) }))) ∧
  (∀ (s : State) (slot : BitVec 6) (p : Prog) (rd : Nat) (soft : Bool),
     tokenHead s = some (slot.toNat, p, rd, soft) → hasNext p → p.staged ≠ [] → stagedFenced s p = false → firstRule s p = 0 →
     (∀ e ∈ p.staged, plainSetting e.blk e.idx ∧ e.idx < 4096 ∧
       ∃ r, setRow e.blk e.idx = some r ∧ e.val &&& BitVec.ofNat 64 r.mask = e.val) →
     (p.staged.map (fun e => setPlace e.blk e.idx (if isHd e.blk e.idx then 0 else ctxOr0 e.ctx))).Nodup →
     ∃ t, exec (.commitTokenGrant true) s = .next t ∧
       t.trd.commitSeq = s.trd.commitSeq + 1 ∧ t.trd.lastCommit = s.gtc ∧ t.trd.tokenQ = s.trd.tokenQ.drop 1 ∧
       getP t slot.toNat = some (onward (wrote { p with staged := [], overfull := false, committed := true, wait := .none }
         (BitVec.ofNat 5 rd) (s.trd.commitSeq + 1))) ∧
       (∀ e ∈ p.staged, liveVal t e.blk e.idx (ctxOr0 e.ctx) = e.val ∧
         setGen t e.blk e.idx (ctxOr0 e.ctx) = (s.trd.commitSeq + 1).toNat) ∧
       (∀ blk idx ctx, idx < 4096 → ctx < 256 → (∀ e ∈ p.staged, ¬ (e.blk = blk ∧ e.idx = idx)) → liveVal t blk idx ctx = liveVal s blk idx ctx) ∧
       t = { s with progs := t.progs, trd := t.trd, sets := t.sets })

/-- (1) A commit that fails a rule changes no setting: with imm = 1 the program goes on with the rule in rd and its staged set intact, with
imm = 0 it ends with COMMIT_REFUSED; a hardened setting whose copies cannot all be written is HARDENED_WRITE_FAIL and no commit (08
R282, R300, 07 R256).
(2) A block that does not acknowledge prepare fails the commit with rule 0x0004: no setting changes, and the block is accepted as an
engine hang, recorded with the block of the first staged setting (08 R299).
Where the spec leaves a point open it rests on the model's choices: log 47. -/
def Obligations.FailedCommitsChangeNoSetting : Prop :=
  (∀ (s : State) (slot : BitVec 6) (p : Prog) (rd : Nat) (soft copiesOk : Bool),
     tokenHead s = some (slot.toNat, p, rd, soft) → hasNext p → stagedFenced s p = false →
     (firstRule s p ≠ 0 →
       let v := BitVec.ofNat 64 (2 ^ 63 + firstRule s p)
       let d := { s with trd := { s.trd with tokenQ := s.trd.tokenQ.drop 1 } }
       exec (.commitTokenGrant copiesOk) s = .next (if soft
         then putP d slot.toNat (onward (wrote { p with wait := .none } (BitVec.ofNat 5 rd) v))
         else endWith d slot.toNat (wrote { p with wait := .none } (BitVec.ofNat 5 rd) v) 0x0005 p.index none)) ∧
     (firstRule s p = 0 → (∃ e ∈ p.staged, isHd e.blk e.idx = true) → calm s →
       ∃ t, exec (.commitTokenGrant false) s = .next t ∧ t.sets = s.sets ∧ t.progs = s.progs ∧ t.trd = s.trd ∧
         (∃ e ∈ p.staged, isHd e.blk e.idx = true ∧ lastRecord t 0xD046 5 0x0C e.blk) ∧ inPipeline t 0xD046 5)) ∧
  (∀ (s : State) (slot : BitVec 6) (p : Prog) (rd : Nat) (domain : BitVec 16) (e : Staged),
     tokenHead s = some (slot.toNat, p, rd, true) → p.staged.head? = some e → hasNext p → stagedFenced s p = false → firstRule s p = 0 →
     domain.toNat ≤ 1120 → domState s domain.toNat = 1 → isFencedEngine s domain.toNat = false → calm s →
     ∃ t, exec (.commitPrepareTimeout domain) s = .next t ∧ t.sets = s.sets ∧ t.trd.commitSeq = s.trd.commitSeq ∧
       t.trd.tokenQ = s.trd.tokenQ.drop 1 ∧
       getP t slot.toNat = some (onward (wrote { p with wait := .none } (BitVec.ofNat 5 rd) (BitVec.ofNat 64 (2 ^ 63 + 4)))) ∧
       lastRecord t 0xD044 4 0x0C e.blk ∧ inPipeline t 0xD044 4 ∧
       t = { s with progs := t.progs, trd := t.trd, rcd := t.rcd, err := t.err })

/-- (1) The refresh of a hardened setting repairs the copy that differs from two others (0xD040), a differing golden copy (0xD041), and,
where the three stored copies all differ, takes the golden copy that equals one of them (0xD042); the live value is the majority, or the
golden copy; all four copies are equal afterwards, and no other setting changes (08 R296, Table 8.4).
(2) A parity error in an ST or IM setting rewrites the register from the active Treadle's image and is recorded; nothing else changes
(08 R301).
Where the spec leaves a point open it rests on the model's choices: log 49. -/
def Obligations.StoredSettingsAreRepaired : Prop :=
  (∀ (s : State) (blk : BitVec 5) (idx : BitVec 12), isHd blk.toNat idx.toNat = true → s.trd.owner = true → s.phase = .run →
     ringOff s → ringOpen s →
     let c := hdCell s blk.toNat idx.toNat
     let done : Word64 → Nat → Prop := fun v code => ∃ t, exec (.hardenedRefresh blk idx true) s = .next t ∧
       hdCell t blk.toNat idx.toNat = ⟨v, v, v, v, c.gen⟩ ∧ liveVal t blk.toNat idx.toNat 0 = v ∧
       lastRecord t code 1 0x0C blk.toNat ∧ t.sets.regs = s.sets.regs ∧ t.mem = s.mem ∧ t.progs = s.progs
     (c.c0 = c.c1 ∧ c.c1 = c.c2 ∧ c.golden = c.c0 → exec (.hardenedRefresh blk idx true) s = .next s) ∧
     (∀ v, majority c = some v → c.golden = v → ¬ (c.c0 = c.c1 ∧ c.c1 = c.c2) → done v 0xD040) ∧
     (∀ v, majority c = some v → c.golden ≠ v → done v 0xD041) ∧
     (majority c = none → c.golden = c.c0 ∨ c.golden = c.c1 ∨ c.golden = c.c2 → done c.golden 0xD042)) ∧
  (∀ (s : State) (blk : BitVec 5) (idx : BitVec 12) (ctx : BitVec 8) (r : SetRow), setRow blk.toNat idx.toNat = some r →
     (r.cls = .st ∨ r.cls = .im) → s.trd.owner = true → s.phase = .run → ringOff s → ringOpen s →
     (setCell s 3 0x21 0).image.toNat % 2 = 0 →
     let c := if r.perCtx then ctx.toNat else 0
     ∃ t, exec (.settingParity blk idx ctx true) s = .next t ∧
       setCell t blk.toNat idx.toNat c = { setCell s blk.toNat idx.toNat c with val := (setCell s blk.toNat idx.toNat c).image } ∧
       lastRecord t 0xD045 1 0x0C blk.toNat ∧ t.sets.hard = s.sets.hard ∧ t.progs = s.progs ∧ t.trd = s.trd ∧ t.mem = s.mem)

/-! ### Contexts, queues, launches and synchronisation -/

/-- (1) CTXSEL selects a context from 0 to 255, or none with 0xFFFF; another value is MALFORMED.  CTXNEW answers 1 for a context in use,
2 for an undefined partition, 3 for a function that is not enabled, else it creates the context with zero sync objects, step counter
and seed and every per-context setting at its reset value; GSEED writes the seed of the selected context (07 R257, R259, R275, 24
R793).  The creation is stated while Espalier is not commanded.
(2) QCREATE makes a queue of 1 to 1,022 from its 48-byte image, disabled; it answers 1 for a queue that exists and is MALFORMED for an
image that breaks Table 6.3.  QCTL enables, disables (every waiting entry is flushed), stops and destroys; on the program's own queue
it takes effect after its completion record; queues 0 and 1023 are neither disabled nor destroyed; a queue whose descriptor fails its CRC
is stopped when it is enabled (07 R271, R275, 06 R198, R199, R236).
(3) An instruction on the selected context is MALFORMED without one or with one that is not allocated, and REFUSED_FENCED inside a
raised fence (07 R257, 06 R233).
Where the spec leaves a point open it rests on the model's choices: log 39, 40, 42, 43, 48. -/
def Obligations.ContextsAndQueuesAreCreated : Prop :=
  (∀ (s : State) (slot : BitVec 6) (rd ra rb : BitVec 5) (imm : Word32) (p : Prog), issues s slot p → hasNext p →
     let a := (p.reg ra).toNat
     (1 ≤ p.priv →
       (a % 65536 < 256 ∨ a % 65536 = 0xFFFF →
         exec (.ctxsel slot ra) s = .next (putP s slot.toNat (onward { p with sel := a % 65536 }))) ∧
       (256 ≤ a % 65536 → a % 65536 ≠ 0xFFFF → exec (.ctxsel slot ra) s = .next (ended s slot p 0x0002)) ∧
       (a ≤ 255 → imm.toNat ≤ 63 →
         ((getC s a).inUse = true → exec (.ctxnew slot rd ra rb imm) s = .next (retired s slot p rd 1)) ∧
         ((getC s a).inUse = false → partDefined s (partOf a) = false →
           exec (.ctxnew slot rd ra rb imm) s = .next (retired s slot p rd 2)) ∧
         ((getC s a).inUse = false → partDefined s (partOf a) = true → fnEnabled s imm.toNat = false →
           exec (.ctxnew slot rd ra rb imm) s = .next (retired s slot p rd 3)) ∧
         ((getC s a).inUse = false → partDefined s (partOf a) = true → fnEnabled s imm.toNat = true → espOff s →
           ∃ t, exec (.ctxnew slot rd ra rb imm) s = .next t ∧ getP t slot.toNat = some (onward (wrote p rd 0)) ∧
             getC t a = { Ctx.free with inUse := true, jobTag := (p.reg rb).setWidth 32, fn := imm.toNat, energy := ⟨s.gtc, false, false⟩ } ∧
             (∀ c, c ≠ a → getC t c = getC s c) ∧
             (∀ blk idx r, setRow blk idx = some r → idx < 4096 → r.perCtx = true → r.cls ≠ .hd →
               liveVal t blk idx a = setReset s blk idx) ∧
             t.mem = s.mem ∧ t.queues = s.queues))) ∧
     (p.sel < 256 → isFenced s p.sel = false → (getC s p.sel).inUse = true →
       exec (.gseed slot ra rb) s =
         .next (putP (putC s p.sel { getC s p.sel with seed := p.reg rb ++ p.reg ra }) slot.toNat (onward p)))) ∧
  (∀ (s s' : State) (slot : BitVec 6) (rd ra rb : BitVec 5) (env : Env) (b : List Byte) (p : Prog), issues s slot p → hasNext p →
     1 ≤ p.priv →
     let q := (p.reg ra).toNat
     (1 ≤ q → q ≤ 1022 → progRead s p (p.reg rb) 48 8 env = (.ok b, s') →
       ((getQ s' q).valid = true → exec (.qcreate slot rd ra rb env) s = .next (retired s' slot p rd 1)) ∧
       ((getQ s' q).valid = false → imageOk s' b = false → exec (.qcreate slot rd ra rb env) s = .next (ended s' slot p 0x0002)) ∧
       ((getQ s' q).valid = false → imageOk s' b = true →
         ∃ t, exec (.qcreate slot rd ra rb env) s = .next t ∧ getP t slot.toNat = some (onward (wrote p rd 0)) ∧
           getQ t q = { imageQueue b with enabled := false, crc := (getQ t q).crc } ∧ (∀ k, k ≠ q → getQ t k = getQ s' k) ∧
           t = { s' with queues := t.queues, progs := t.progs, trd := t.trd })) ∧
     (q ≤ 1023 → (getQ s q).valid = true →
       (badDescriptor s q = true → calm s → ∃ t, exec (.qctlEnable slot rd ra) s = .next t ∧ getP t slot.toNat = some (onward (wrote p rd 0)) ∧
         (getQ t q).stopped = true ∧ inPipeline t 0xD022 2 ∧ ∀ k, k ≠ q → getQ t k = getQ s k) ∧
       (badDescriptor s q = false → ringOff s → ∃ t, exec (.qctlEnable slot rd ra) s = .next t ∧ getP t slot.toNat = some (onward (wrote p rd 0)) ∧
         (getQ t q).enabled = true ∧ ((getQ s q).entries = [] → (getQ t q).stopped = false) ∧ ∀ k, k ≠ q → getQ t k = getQ s k) ∧
       (q = 0 ∨ q = 1023 → exec (.qctlDisable slot rd ra) s = .next (retired s slot p rd 2) ∧
         exec (.qctlDestroy slot rd ra) s = .next (retired s slot p rd 2)) ∧
       (q ≠ 0 → q ≠ 1023 → q = p.queue →
         exec (.qctlDisable slot rd ra) s = .next (retired (putQ s q { getQ s q with ctlAfter := some 1 }) slot p rd 0)) ∧
       (q ≠ 0 → q ≠ 1023 → q ≠ p.queue →
         ∃ t, exec (.qctlDisable slot rd ra) s = .next t ∧ getP t slot.toNat = some (onward (wrote p rd 0)) ∧
           (getQ t q).enabled = false ∧ (∀ e ∈ (getQ t q).entries, e.bad = 0x000F) ∧ (∀ k, k ≠ q → getQ t k = getQ s k) ∧
           t = { s with queues := t.queues, progs := t.progs, trd := t.trd }) ∧
       (q ≠ p.queue → (getQ s q).enabled = true →
         ∃ t, exec (.qctlStop slot rd ra) s = .next t ∧ getP t slot.toNat = some (onward (wrote p rd 0)) ∧
           getQ t q = { getQ s q with stopped := true } ∧ (∀ k, k ≠ q → getQ t k = getQ s k) ∧
           t = { s with queues := t.queues, progs := t.progs, trd := t.trd }) ∧
       (q ≠ 0 → q ≠ 1023 → q ≠ p.queue → (getQ s q).enabled = true ∨ (getQ s q).running ≠ none ∨ (getQ s q).pendRec ≠ none →
         exec (.qctlDestroy slot rd ra) s = .next (retired s slot p rd 1)) ∧
       (q ≠ 0 → q ≠ 1023 → q ≠ p.queue → (getQ s q).enabled = false → (getQ s q).running = none → (getQ s q).pendRec = none →
         ∃ t, exec (.qctlDestroy slot rd ra) s = .next t ∧ getP t slot.toNat = some (onward (wrote p rd 0)) ∧
           getQ t q = Queue.absent ∧ (∀ k, k ≠ q → getQ t k = getQ s k) ∧
           t = { s with queues := t.queues, progs := t.progs, trd := t.trd }))) ∧
  (∀ (s : State) (slot : BitVec 6) (rd ra rb : BitVec 5) (imm : Word32) (env : Env) (p : Prog), issues s slot p →
     ∀ i ∈ [Instr.gseed slot ra rb, .launch slot rd ra env, .sctr slot rd, .sset slot rd ra, .syadd slot rd ra rb,
         .syset slot ra rb, .syrd slot rd ra, .wait slot rd ra rb imm, .acct slot 0],
       (256 ≤ p.sel → exec i s = .next (ended s slot p 0x0002)) ∧
       (p.sel < 256 → isFenced s p.sel = true → exec i s = .next (ended s slot p 0x000B)) ∧
       (p.sel < 256 → isFenced s p.sel = false → (getC s p.sel).inUse = false → exec i s = .next (ended s slot p 0x0002)))

/-- (1) SCTR reads the step counter; SSET writes it, and answers 1 while a step is open or a launch runs; SYRD, SYADD and SYSET read, add
to (answering the old value) and set a sync object of the context, leaving every other object as it was; FENCE only retires (07 R260,
R269, Tables 7.10 and 7.11).
(2) WAIT on a condition that holds writes 0 and goes on, else it keeps its slot with a deadline of imm[30:0] microseconds; a timeout
of 0 is MALFORMED.  WAIT_WAKE completes it with 0 once the object has reached the value; WAIT_TIMEOUT at the deadline tests once more,
then writes 1 for a soft wait and ends the program with WAIT_TIMEOUT for another (07 R261, R270).
(3) LAUNCH reads its 64-byte descriptor and is MALFORMED for one that breaks Table 7.9; an accepted launch takes the next number of the
context, counting from 1, which is the result, and stands behind the context's earlier launches with the seed and settings in effect
(07 R258, R259).  Stated for a context that is not paired.
Where the spec leaves a point open it rests on the model's choices: log 43, 57. -/
def Obligations.ObjectsWaitsAndLaunches : Prop :=
  (∀ (s : State) (slot : BitVec 6) (rd ra rb : BitVec 5) (p : Prog), issues s slot p → hasNext p →
     exec (.fence slot) s = .next (putP s slot.toNat (onward p)) ∧
     (p.sel < 256 → isFenced s p.sel = false → (getC s p.sel).inUse = true →
       let c := p.sel
       let o := (p.reg ra).toNat % 256
       let busy := (getC s c).step.isOpen = true ∨ ∃ l ∈ (getC s c).launches, l.started = true
       let puts : Instr → Prog → Word64 → Prop := fun i q v => ∃ t, exec i s = .next t ∧ getP t slot.toNat = some (onward q) ∧
         syncGet t c o = v ∧ (∀ x, x ≠ o → syncGet t c x = syncGet s c x) ∧ (∀ d, d ≠ c → getC t d = getC s d) ∧
         t = { s with progs := t.progs, ctxs := t.ctxs, shut := t.shut, pci := t.pci }
       exec (.sctr slot rd) s = .next (retired s slot p rd (getC s c).stepCtr) ∧
       exec (.syrd slot rd ra) s = .next (retired s slot p rd (syncGet s c o)) ∧
       (busy → exec (.sset slot rd ra) s = .next (retired s slot p rd 1)) ∧
       (¬ busy → exec (.sset slot rd ra) s = .next (retired (putC s c { getC s c with stepCtr := p.reg ra }) slot p rd 0)) ∧
       puts (.syadd slot rd ra rb) (wrote p rd (syncGet s c o)) (syncGet s c o + p.reg rb) ∧
       puts (.syset slot ra rb) p (p.reg rb))) ∧
  (∀ (s : State) (slot : BitVec 6) (rd ra rb : BitVec 5) (imm : Word32) (p : Prog), hasNext p →
     (issues s slot p → p.sel < 256 → isFenced s p.sel = false → (getC s p.sel).inUse = true →
       let c := p.sel
       let o := (p.reg ra).toNat % 256
       let n := imm.toNat % 2 ^ 31
       (n = 0 → exec (.wait slot rd ra rb imm) s = .next (ended s slot p 0x0002)) ∧
       (n ≠ 0 → (p.reg rb).toNat ≤ (syncGet s c o).toNat → exec (.wait slot rd ra rb imm) s = .next (retired s slot p rd 0)) ∧
       (n ≠ 0 → (syncGet s c o).toNat < (p.reg rb).toNat →
         exec (.wait slot rd ra rb imm) s = .next (putP s slot.toNat
           { p with wait := .object c o (p.reg rb) (s.aon + n * 1000) rd.toNat (imm.getLsbD 31) }))) ∧
     (∀ c o v d soft, getP s slot.toNat = some p → serves s p.queue = true → p.wait = .object c o v d rd.toNat soft →
       let q := { p with wait := .none }
       (v.toNat ≤ (syncGet s c o).toNat → exec (.waitWake slot) s = .next (retired s slot q rd 0)) ∧
       ((syncGet s c o).toNat < v.toNat → exec (.waitWake slot) s = .next s) ∧
       (s.aon < d → exec (.waitTimeout slot) s = .next s) ∧
       (d ≤ s.aon → v.toNat ≤ (syncGet s c o).toNat → exec (.waitTimeout slot) s = .next (retired s slot q rd 0)) ∧
       (d ≤ s.aon → (syncGet s c o).toNat < v.toNat → soft = true → exec (.waitTimeout slot) s = .next (retired s slot q rd 1)) ∧
       (d ≤ s.aon → (syncGet s c o).toNat < v.toNat → soft = false →
         exec (.waitTimeout slot) s = .next (endWith s slot.toNat p 0x0010 p.index none)))) ∧
  (∀ (s s' : State) (slot : BitVec 6) (rd ra : BitVec 5) (env : Env) (b : List Byte) (p : Prog), issues s slot p → hasNext p →
     p.sel < 256 → isFenced s p.sel = false → (getC s p.sel).inUse = true → progRead s p (p.reg ra) 64 8 env = (.ok b, s') →
     ((getC s' p.sel).ended = true ∨ launchOk s' p.sel b = false → exec (.launch slot rd ra env) s = .next (ended s' slot p 0x0002)) ∧
     ((getC s' p.sel).ended = false → launchOk s' p.sel b = true → isPaired s' p.sel = false →
       let n := (getC s' p.sel).launchNo + 1
       ∃ t, exec (.launch slot rd ra env) s = .next t ∧ getP t slot.toNat = some (onward (wrote p rd (BitVec.ofNat 64 n))) ∧
         getC t p.sel = { getC s' p.sel with launchNo := n, launches := (getC s' p.sel).launches ++ [launchFrom s' p.sel n b] } ∧
         (∀ c, c ≠ p.sel → getC t c = getC s' c) ∧ t.mem = s'.mem ∧ t.orderCtr = s'.orderCtr + 1))

/-! ### Device instructions -/

/-- RESET and CTXDEL answer 1 where their target is absent; a reset that encloses the program's own context, and one of the chip or
above, first ends the program with OK, with the reset pending behind its completion record; every other one raises its fence at once
around what Table 16.4 encloses, and the program waits for it (07 R262, Table 7.12, 16 R547, R553).  The raise is stated with no other
reset in progress.
Where the spec leaves a point open it rests on the model's choices: log 50, 87. -/
def Obligations.ResetInstructionsRaiseTheirFence : Prop :=
  ∀ (s : State) (slot : BitVec 6) (rd ra : BitVec 5) (p : Prog), issues s slot p → hasNext p →
    let a := (p.reg ra).toNat
    let own := (getQ s p.queue).ctx
    let inside : Nat → Prop := fun level => own < 256 ∧ own ∈ enclosedCtxs s level a
    let out : Nat → Nat → State := fun level target =>
      endWith s slot.toNat { p with retired := p.retired + 1 } 0 0xFFFF (some (level, target))
    let raised : Instr → Nat → WaitOn → Prop := fun i level w => ∃ t r, exec i s = .next t ∧
      getP t slot.toNat = some { p with wait := w } ∧ t.rst.runs = [(s.rst.nextId, r)] ∧ r.level = level ∧ r.target = a ∧
      r.ctxs = enclosedCtxs s level a ∧ r.engines = enclosedEngines s level a ∧ r.raised = s.gtc ∧
      r.waiters = [(slot.toNat, rd.toNat)] ∧ t.mem = s.mem ∧ t.ctxs = s.ctxs ∧ t.sets = s.sets
    let id := s.rst.nextId
    ((p.priv = 0 → a = own) → a ≤ 255 →
      ((getC s a).inUse = false → exec (.resetContext slot rd ra) s = .next (retired s slot p rd 1)) ∧
      ((getC s a).inUse = true → inside 0 → exec (.resetContext slot rd ra) s = .next (out 0 a)) ∧
      ((getC s a).inUse = true → ¬ inside 0 → s.rst.runs = [] → ringOff s → raised (.resetContext slot rd ra) 0 (.reset id rd.toNat))) ∧
    (p.priv = 0 → a ≠ own → exec (.resetContext slot rd ra) s = .next (ended s slot p 0x0001)) ∧
    (1 ≤ p.priv →
      (a ≤ 255 →
        ((getC s a).inUse = false → exec (.ctxdel slot rd ra) s = .next (retired s slot p rd 1)) ∧
        ((getC s a).inUse = true → inside 0 → exec (.ctxdel slot rd ra) s = .next (out 0 a)) ∧
        ((getC s a).inUse = true → ¬ inside 0 → s.rst.runs = [] → ringOff s → raised (.ctxdel slot rd ra) 0 (.delete id a rd.toNat))) ∧
      (a < 2 ^ 32 →
        (enclosedCtxs s 1 a = [] → exec (.resetJobTag slot rd ra) s = .next (retired s slot p rd 1)) ∧
        (enclosedCtxs s 1 a ≠ [] → inside 1 → exec (.resetJobTag slot rd ra) s = .next (out 1 a)) ∧
        (enclosedCtxs s 1 a ≠ [] → ¬ inside 1 → s.rst.runs = [] → ringOff s →
          raised (.resetJobTag slot rd ra) 1 (.reset id rd.toNat))) ∧
      (resetEngineDom a = true →
        (domState s a ≠ 1 → exec (.resetEngine slot rd ra) s = .next (retired s slot p rd 1)) ∧
        (domState s a = 1 → inside 2 → exec (.resetEngine slot rd ra) s = .next (out 2 a)) ∧
        (domState s a = 1 → ¬ inside 2 → s.rst.runs = [] → ringOff s → raised (.resetEngine slot rd ra) 2 (.reset id rd.toNat))) ∧
      (a ≤ 7 →
        (partDefined s a = false → exec (.resetPartition slot rd ra) s = .next (retired s slot p rd 1)) ∧
        (partDefined s a = true → inside 3 → exec (.resetPartition slot rd ra) s = .next (out 3 a)) ∧
        (partDefined s a = true → ¬ inside 3 → s.rst.runs = [] → ringOff s →
          raised (.resetPartition slot rd ra) 3 (.reset id rd.toNat))) ∧
      (p.reg ra = 0 → exec (.resetChip slot rd ra) s = .next (out 4 0)) ∧
      (p.reg ra = 0 → 2 ≤ p.priv → exec (.resetPowerCycle slot rd ra) s = .next (out 5 0)))

/-- (1) PWRDOM is MALFORMED outside its domains and states, answers 1 for a FAILED domain and 0 for one already there, ends the program
with POWER_DEPENDENCY where a dependency would break or work be lost, and else commands the domain and waits for it (07 R263, 03 R92,
R93).
(2) ACCT writes a partial energy record of the selected context, or of every running context, and starts its interval anew; TSNAP
writes the 2,400 bytes of the last valid readings (03 R112, R113, 07 R264).  ACCT is stated for contexts without an accounting ring:
the record itself has free energies.
(3) BINST takes the pack at its operand, or with length 0 the pack pushed by Chorno, into the staging half and waits for its
verification; a longer one than 4,194,304 bytes is PACK_REFUSED with result 2; BKEY selects a key that is not blank; BDEEP queues a
quarantined cluster for a deep run, once (07 R265, 14 R475 to R478, R498).
(4) CSTATE moves a cluster that is not busy and not fuse-coppiced to the state it names, records it, and answers 0: to ACTIVE after
the SHORT test passes, with its domains ON, to QUARANTINED, or to COPPICED for good; a fuse-coppiced cluster answers 1 (07 R265, R272,
14 R497, R501).  Stated for a cluster that hosts no slot.
(5) LOG records an event of 0xC800 to 0xCFFF with a severity of 0 to 5 under the program's queue, and is MALFORMED for another; SEND
queues a message of 1 to 64 bytes for the tray, answering 1 when 16 wait and 2 while the device is muted (07 R267, R268).
Where the spec leaves a point open it rests on the model's choices: log 20, 44, 51, 52, 53, 54, 83. -/
def Obligations.DeviceInstructionsTakeEffect : Prop :=
  (∀ (s : State) (slot : BitVec 6) (rd ra : BitVec 5) (imm : Word32) (p : Prog), issues s slot p → hasNext p → 1 ≤ p.priv →
     let d := (p.reg ra).toNat
     let v := imm.toNat
     let there := domState s d = v ∧ Tbl.has s.pwr.domTarget d = false
     let bad := breaksDep s d v = true ∨ (v ≠ 1 ∧ domBusy s d = true)
     (pwrdomOk d v = false → exec (.pwrdom slot rd ra imm) s = .next (ended s slot p 0x0002)) ∧
     (pwrdomOk d v = true → domState s d = 3 → exec (.pwrdom slot rd ra imm) s = .next (retired s slot p rd 1)) ∧
     (pwrdomOk d v = true → domState s d ≠ 3 → there → exec (.pwrdom slot rd ra imm) s = .next (retired s slot p rd 0)) ∧
     (pwrdomOk d v = true → domState s d ≠ 3 → ¬ there → bad → exec (.pwrdom slot rd ra imm) s = .next (ended s slot p 0x0006)) ∧
     (pwrdomOk d v = true → domState s d ≠ 3 → ¬ there → ¬ bad →
       exec (.pwrdom slot rd ra imm) s = .next (putP { s with pwr := { s.pwr with domTarget := Tbl.put s.pwr.domTarget d v } }
         slot.toNat { p with wait := .domain d v rd.toNat }))) ∧
  (∀ (s : State) (slot : BitVec 6) (ra : BitVec 5) (p : Prog), issues s slot p → hasNext p →
     (p.sel < 256 → isFenced s p.sel = false → (getC s p.sel).inUse = true → (getC s p.sel).ended = false → acctQueue s p.sel = none →
       ∃ t, exec (.acct slot 0) s = .next t ∧ getP t slot.toNat = some (onward p) ∧
         getC t p.sel = { getC s p.sel with energy := ⟨s.gtc, false, false⟩ } ∧ (∀ c, c ≠ p.sel → getC t c = getC s c) ∧
         t = { s with progs := t.progs, ctxs := t.ctxs, freeCtr := t.freeCtr }) ∧
     (1 ≤ p.priv → (∀ c, acctQueue s c = none) →
       ∃ t, exec (.acct slot 1) s = .next t ∧ getP t slot.toNat = some (onward p) ∧
         (∀ c ∈ liveCtxs s, getC t c = { getC s c with energy := ⟨s.gtc, false, false⟩ }) ∧
         (∀ c, c ∉ liveCtxs s → getC t c = getC s c) ∧ t = { s with progs := t.progs, ctxs := t.ctxs, freeCtr := t.freeCtr }) ∧
     (1 ≤ p.priv →
       (∀ s', progWrite s p (p.reg ra) ((List.range 600).flatMap (fun n => leBytes 4 (thmTemp s n))) 4 = .ok s' →
         exec (.tsnap slot ra) s = .next (retire s' slot p)) ∧
       (∀ st, progWrite s p (p.reg ra) ((List.range 600).flatMap (fun n => leBytes 4 (thmTemp s n))) 4 = .error st →
         exec (.tsnap slot ra) s = .next (ended s slot p st)))) ∧
  (∀ (s s' : State) (slot : BitVec 6) (rd ra rb : BitVec 5) (imm : Word32) (env : Env) (b : List Byte) (p : Prog), issues s slot p →
     hasNext p → 2 ≤ p.priv →
     let n := (p.reg rb).toNat
     let cl := (p.reg ra).toNat
     let waits : State → State := fun u => putP { u with brl := { u.brl with verify := some slot.toNat, stageUe := false } } slot.toNat
       { p with wait := .verify rd.toNat }
     (s.brl.verify = none →
       (n = 0 → exec (.binst slot rd ra rb env) s = .next (waits s)) ∧
       (n ≠ 0 → n ≤ 4194304 → progRead s p (p.reg ra) n 8 env = (.ok b, s') →
         exec (.binst slot rd ra rb env) s =
           .next (waits { s' with chn := { s'.chn with pushId := none, chunks := [] }, brl := { s'.brl with staging := b } })) ∧
       (4194304 < n → ringOff s → ringOpen s →
         ∃ t, exec (.binst slot rd ra rb env) s = .next t ∧ getP t slot.toNat = some (onward (wrote p rd 2)) ∧
           lastRecord t 0x5011 2 0x0B (trdIdx s) ∧ t.brl = s.brl ∧ t.chn.pushId = none)) ∧
     (imm.toNat ≤ 3 → keyBlank s imm.toNat = false →
       exec (.bkey slot imm) s = .next (putP { s with trd := { s.trd with bkey := imm.toNat } } slot.toNat (onward p))) ∧
     (3 < imm.toNat ∨ keyBlank s imm.toNat = true → exec (.bkey slot imm) s = .next (ended s slot p 0x0002)) ∧
     (cl ≤ 511 →
       (clState s cl ≠ 2 → exec (.bdeep slot rd ra) s = .next (retired s slot p rd 1)) ∧
       (clState s cl = 2 → ∃ t, exec (.bdeep slot rd ra) s = .next t ∧ getP t slot.toNat = some (onward (wrote p rd 0)) ∧
         t.deepQ = (if cl ∈ s.deepQ then s.deepQ else s.deepQ ++ [cl]) ∧
         t = { s with progs := t.progs, deepQ := t.deepQ, trd := t.trd }))) ∧
  (∀ (s : State) (slot : BitVec 6) (rd ra : BitVec 5) (imm : Word32) (test : Bool) (p : Prog), issues s slot p → hasNext p → 2 ≤ p.priv →
     let n := (p.reg ra).toNat
     n ≤ 511 → imm.toNat ≤ 3 →
     (s.fuses.coppice.contains n = true → exec (.cstate slot rd ra imm test) s = .next (retired s slot p rd 1)) ∧
     (s.fuses.coppice.contains n = false → clBusy s n = true → exec (.cstate slot rd ra imm test) s = .next s) ∧
     (s.fuses.coppice.contains n = false → clBusy s n = false → (∀ e ∈ s.slots, e.2.host ≠ n) → ringOff s → ringOpen s →
       clState s n ≠ imm.toNat → (insertNat s.bist.excluded n).length ≠ 16 → (imm.toNat < 2 → test = true ∧ neverOn s n = false) →
       ∃ t, exec (.cstate slot rd ra imm test) s = .next t ∧ getP t slot.toNat = some (onward (wrote p rd 0)) ∧
         clState t n = imm.toNat ∧ lastRecord t 0x5030 0 0x02 n ∧ n ∉ t.deepQ ∧
         (imm.toNat < 2 → domState t n = 1 ∧ domState t (512 + n) = 1) ∧
         (imm.toNat = 3 → n ∈ t.bist.excluded ∧ domState t n ≠ 1) ∧ t.mem = s.mem ∧ t.ctxs = s.ctxs)) ∧
  (∀ (s s' : State) (slot : BitVec 6) (rd ra rb : BitVec 5) (imm : Word32) (env : Env) (b : List Byte) (p : Prog), issues s slot p →
     hasNext p →
     let code := (p.reg ra).toNat % 65536
     let n := (p.reg rb).toNat
     let muted := (s'.chn.selfM || s'.chn.cmdM || s'.chn.clash)
     (code < 0xC800 ∨ 0xCFFF < code ∨ 5 < imm.toNat → exec (.log slot ra rb imm env) s = .next (ended s slot p 0x0002)) ∧
     (0xC800 ≤ code → code ≤ 0xCFFF → imm.toNat ≤ 5 → progRead s p (p.reg rb) 32 8 env = (.ok b, s') → ringOff s' → ringOpen s' →
       ∃ t, exec (.log slot ra rb imm env) s = .next t ∧ getP t slot.toNat = some (onward p) ∧
         lastRecord t code imm.toNat 0x11 p.queue ∧ t.mem = s'.mem ∧ t.ctxs = s'.ctxs ∧ t.sets = s'.sets ∧ t.queues = s'.queues) ∧
     (1 ≤ p.priv → n < 1 ∨ 64 < n → exec (.send slot rd ra rb env) s = .next (ended s slot p 0x0002)) ∧
     (1 ≤ p.priv → 1 ≤ n → n ≤ 64 → progRead s p (p.reg ra) n 1 env = (.ok b, s') →
       (16 ≤ s'.chn.txq.length → exec (.send slot rd ra rb env) s = .next (retired s' slot p rd 1)) ∧
       (s'.chn.txq.length < 16 → muted = true → exec (.send slot rd ra rb env) s = .next (retired s' slot p rd 2)) ∧
       (s'.chn.txq.length < 16 → muted = false → exec (.send slot rd ra rb env) s = .next
         (retired { s' with chn := { s'.chn with txq := s'.chn.txq ++ [(s'.chn.frames, b)] } } slot p rd 0))))

/-- (1) FKEY and FCOP are MALFORMED outside their ranges; FKEY also for a word already programmed to another value; FCOP answers 1 for a
cluster that is not COPPICED, 0 for one already fused, ends the program with COPPICE_LIMIT at 16, and else programs the mark; both
wait for their words (07 R266, R272, 05 R177).  The first word starts where no other fuse program is in progress and the temperature
window is open (04 R150).
(2) An undefined word ends its program with MALFORMED, fault_at at the word (07 R245); a defined one is no undefined instruction.  The
write of RST.SERVICE clears the out-of-service state from queue 1023 alone and ends another's program with PRIVILEGE (06 R213, 16
R565); a write of 1 to ESP.STOP_NOW of a context that is not bound only retires (19 R671).
Where the spec leaves a point open it rests on the model's choices: log 27, 32, 94. -/
def Obligations.FusesUndefinedWordsAndService : Prop :=
  (∀ (s s' : State) (slot : BitVec 6) (rd ra rb : BitVec 5) (imm : Word32) (env : Env) (b : List Byte) (p : Prog), issues s slot p →
     hasNext p → 2 ≤ p.priv →
     let n := (p.reg ra).toNat
     let k := imm.toNat
     let w := (p.reg rb).toNat
     (k < 1 ∨ 3 < k ∨ 23 < w → exec (.fkey slot rd ra rb imm env) s = .next (ended s slot p 0x0002)) ∧
     (1 ≤ k → k ≤ 3 → w ≤ 23 → progRead s p (p.reg ra) 96 8 env = (.ok b, s') →
       (keyClash s' k w ((keyWords b).drop w) = true → exec (.fkey slot rd ra rb imm env) s = .next (ended s' slot p 0x0002)) ∧
       (keyClash s' k w ((keyWords b).drop w) = false →
         (s'.fuses.prog ≠ [] ∨ fuseWindow s' = true ∧ Tbl.get 0 s'.fuses.opKeys (k * 24 + w) ≠ ((keyWords b).drop w).headD 0) →
         ∃ t, exec (.fkey slot rd ra rb imm env) s = .next t ∧ getP t slot.toNat = some { p with wait := .fuse rd.toNat } ∧
           t.fuses.prog = s'.fuses.prog ++ [⟨slot.toNat, rd.toNat, 0, k, w, w, (keyWords b).drop w⟩] ∧
           t = { s' with progs := t.progs, fuses := { s'.fuses with prog := t.fuses.prog } })) ∧
     (n ≤ 511 →
       (clState s n ≠ 3 → exec (.fcop slot rd ra) s = .next (retired s slot p rd 1)) ∧
       (clState s n = 3 → clBusy s n = false → s.fuses.coppice.contains n = true →
         exec (.fcop slot rd ra) s = .next (retired s slot p rd 0)) ∧
       (clState s n = 3 → clBusy s n = false → s.fuses.coppice.contains n = false →
         16 ≤ s.fuses.coppice.length + (s.fuses.prog.filter (fun f => f.kind != 0)).length →
         exec (.fcop slot rd ra) s = .next (ended s slot p 0x0008)) ∧
       (clState s n = 3 → clBusy s n = false → s.fuses.coppice.contains n = false → s.fuses.coppice.length < 16 → s.fuses.prog = [] →
         fuseWindow s = true →
         exec (.fcop slot rd ra) s = .next (putP { s with fuses := { s.fuses with prog := [⟨slot.toNat, rd.toNat, 1, n, 0, 0, [1]⟩] } }
           slot.toNat { p with wait := .fuse rd.toNat })))) ∧
  (∀ (s : State) (slot : BitVec 6) (w : Word64) (p : Prog), issues s slot p →
     (decodeHexah slot Env.quiet true w = none → exec (.undefinedInstruction slot w) s = .next (ended s slot p 0x0002)) ∧
     (p.queue ≠ 1023 → exec (.oosClear slot) s = .next (ended s slot p 0x0001)) ∧
     (p.queue = 1023 → hasNext p → s.rst.oos = false → exec (.oosClear slot) s = .next (putP (jot s) slot.toNat (onward p))) ∧
     (p.queue = 1023 → hasNext p → s.rst.oos = true → s.rst.runs = [] → ringOff s → ringOpen s → s.esp.bound = none →
       ∃ t r, exec (.oosClear slot) s = .next t ∧ getP t slot.toNat = some (onward p) ∧ t.rst.oos = false ∧ t.rst.history = [] ∧
         t.rst.runs = [(s.rst.nextId, r)] ∧ r.level = 4 ∧ r.counts = false) ∧
     (hasNext p → p.sel < 256 → isFenced s p.sel = false → (getC s p.sel).inUse = true → s.esp.bound ≠ some p.sel →
       exec (.espStopNow slot) s = .next (putP (jot s) slot.toNat (onward p))))

/-! ### Threads -/

/-- (1) A scalar instruction of three registers writes rd in every lane that the execution mask and the guard admit, poisoned where an
operand is, and changes nothing else but the shed's index: register 0 discards the write (10 Table 10.11, R338, R341, R343, R346).
(2) A scalar instruction with an immediate likewise: sign-extended, but in LDIH, where it becomes bits [63:32], and in a shift, where
0 to 63 is the amount; MOVI uses no register (10 Table 10.11, 07 Table 7.4).
Where the spec leaves a point open it rests on the model's choices: log 12. -/
def Obligations.ThreadInstructionsWriteRd : Prop :=
  (∀ (s : State) (w : ShedRef) (f : T3) (r : Run), shedIssues s w false r → guardClean r.h f.guard → f.rc = 0 → f.mod = 0 →
     ∀ e ∈ ([(Instr.threadAdd, fun a b => a + b), (Instr.threadSub, fun a b => a - b), (Instr.threadMul, fun a b => a * b),
         (Instr.threadMulhu, fun a b => BitVec.ofNat 64 (a.toNat * b.toNat / 2 ^ 64)),
         (Instr.threadDivu, fun a b => if b = 0 then BitVec.allOnes 64 else BitVec.ofNat 64 (a.toNat / b.toNat)),
         (Instr.threadRemu, fun a b => if b = 0 then a else BitVec.ofNat 64 (a.toNat % b.toNat)),
         (Instr.threadAnd, fun a b => a &&& b), (Instr.threadOr, fun a b => a ||| b), (Instr.threadXor, fun a b => a ^^^ b),
         (Instr.threadShl, fun a b => a <<< (b.toNat % 64)), (Instr.threadShr, fun a b => a >>> (b.toNat % 64)),
         (Instr.threadSar, fun a b => a.sshiftRight (b.toNat % 64)),
         (Instr.min, fun a b => if a.toInt < b.toInt then a else b), (Instr.max, fun a b => if a.toInt < b.toInt then b else a),
         (Instr.minu, fun a b => if a.toNat < b.toNat then a else b), (Instr.maxu, fun a b => if a.toNat < b.toNat then b else a)] :
         List ((ShedRef → T3 → Instr) × (Word64 → Word64 → Word64))),
       ∃ h, exec (e.1 w f) s = .next (putShed s r h) ∧
         wroteLanes r.h h (guardMask r.h f.guard) f.rd (fun l => e.2 (r.h.g l f.ra) (r.h.g l f.rb))
           (fun l => r.h.gp l f.ra || r.h.gp l f.rb)) ∧
  (∀ (s : State) (w : ShedRef) (f : TI) (r : Run), shedIssues s w false r → guardClean r.h f.guard → f.mod = 0 →
     let i : Word64 := f.imm.signExtend 64
     let does : Instr → (Word64 → Word64) → Prop := fun c op => ∃ h, exec c s = .next (putShed s r h) ∧
       wroteLanes r.h h (guardMask r.h f.guard) f.rd (fun l => op (r.h.g l f.ra)) (fun l => r.h.gp l f.ra)
     does (.threadAddi w f) (fun a => a + i) ∧ does (.threadAndi w f) (fun a => a &&& i) ∧ does (.threadOri w f) (fun a => a ||| i) ∧
     does (.threadXori w f) (fun a => a ^^^ i) ∧ does (.threadLdih w f) (fun a => f.imm ++ a.setWidth 32) ∧
     (f.ra = 0 → does (.threadMovi w f) (fun _ => i)) ∧
     (f.imm.toNat < 64 →
       does (.threadShli w f) (fun a => a <<< f.imm.toNat) ∧ does (.threadShri w f) (fun a => a >>> f.imm.toNat) ∧
       does (.threadSari w f) (fun a => a.sshiftRight f.imm.toNat)))

/-- The predicate instructions write one predicate in every admitted lane; SETP compares by the code in mod, SEL chooses a register by
a predicate, and both consume a poisoned operand where the others hand it on (10 R339, R341, R347, Table 10.11).
Where the spec leaves a point open it rests on the model's choices: log 66, 67. -/
def Obligations.PredicateInstructionsWriteTheirPredicate : Prop :=
  ∀ (s : State) (w : ShedRef) (f : T3) (r : Run), shedIssues s w false r → guardClean r.h f.guard →
    let m := guardMask r.h f.guard
    let pd := f.rd.toNat
    let bit : Nat → Nat → Bool := fun l p => (r.h.p p).getLsbD l
    let poi : Nat → Nat → Bool := fun l p => (r.h.pp p).getLsbD l
    let sets : Instr → (Nat → Bool) → (Nat → Bool) → Prop := fun c v po => ∃ h, exec c s = .next (putShed s r h) ∧
      wrotePred r.h h m pd v po
    let two : Instr → (Bool → Bool → Bool) → Prop := fun c op =>
      sets c (fun l => op (bit l f.ra.toNat) (bit l f.rb.toNat)) (fun l => poi l f.ra.toNat || poi l f.rb.toNat)
    (pd < 8 → f.ra.toNat < 8 → f.rb.toNat < 8 → f.rc = 0 → f.mod = 0 →
      two (.pand w f) (fun a b => a && b) ∧ two (.por w f) (fun a b => a || b) ∧ two (.pxor w f) (fun a b => a ^^ b)) ∧
    (pd < 8 → f.ra.toNat < 8 → f.rb = 0 → f.rc = 0 → f.mod = 0 →
      sets (.pnot w f) (fun l => !bit l f.ra.toNat) (fun l => poi l f.ra.toNat)) ∧
    (pd < 8 → f.rb = 0 → f.rc = 0 → f.mod = 0 → sets (.pmov w f) (fun l => (r.h.g l f.ra).getLsbD 0) (fun l => r.h.gp l f.ra)) ∧
    ((∀ l, m.getLsbD l → r.h.gp l f.ra = false ∧ r.h.gp l f.rb = false) → pd < 8 → f.rc = 0 → f.mod.toNat < 6 →
      sets (.setp w f) (fun l =>
        let a := r.h.g l f.ra
        let b := r.h.g l f.rb
        match f.mod.toNat with
        | 0 => decide (a = b)
        | 1 => decide (a ≠ b)
        | 2 => decide (a.toInt < b.toInt)
        | 3 => decide (b.toInt ≤ a.toInt)
        | 4 => decide (a.toNat < b.toNat)
        | _ => decide (b.toNat ≤ a.toNat)) (fun _ => false)) ∧
    ((∀ l, m.getLsbD l → r.h.gp l f.ra = false ∧ r.h.gp l f.rb = false ∧ poi l f.rc.toNat = false) → f.mod = 0 → f.rc.toNat < 8 →
      ∃ h, exec (.sel w f) s = .next (putShed s r h) ∧
        wroteLanes r.h h m f.rd (fun l => if bit l f.rc.toNat then r.h.g l f.ra else r.h.g l f.rb) (fun _ => false))

/-- (1) MIF pushes the execution mask and narrows it, MELSE takes the other lanes of the top of the stack, MEND pops it, MBRK takes lanes
out; ended threads stay out, and MGET copies the mask into a predicate.  A stack of 32 masks is full, an empty one holds none to
take: both end the context with STACK_OVERFLOW (10 Table 10.3, R348, R349).
(2) A branch moves the whole shed by its signed offset in words when any, all or none of the executing lanes have the predicate; CALL
keeps the next index on a stack of 16, RET goes back to it (10 Table 10.3, R345, R348).
Where the spec leaves a point open it rests on the model's choices: log 65. -/
def Obligations.MasksAndBranchesMoveSheds : Prop :=
  (∀ (s : State) (w : ShedRef) (f : T3) (r : Run), runnable s w false = some r → f.guard = 0 → f.rb = 0 → f.rc = 0 →
     let h := r.h
     let p := h.p f.ra.toNat
     let go : Shed → Host.Outcome State Fault Refusal := fun h' => .next (putShed s r { h' with pc := h.pc + 8 })
     let stack : Instr → Prop := fun c => calm s → ∃ t, exec c s = .next t ∧ faulted s t r 0x010A (instrIndex s r) 0xFF true
     (f.rd = 0 → f.ra.toNat < 8 → h.exec &&& h.pp f.ra.toNat = 0 →
       (f.mod.toNat < 2 → h.masks.length < 32 →
         exec (.mif w f) s = go { h with masks := h.exec :: h.masks, exec := h.exec &&& (if f.mod = 1 then ~~~p else p) }) ∧
       (f.mod.toNat < 2 → 32 ≤ h.masks.length → stack (.mif w f)) ∧
       (f.mod = 0 → exec (.mbrk w f) s = go { h with exec := h.exec &&& ~~~p })) ∧
     (f.rd = 0 → f.ra = 0 → f.mod = 0 →
       (∀ t rest, h.masks = t :: rest →
         exec (.melse w f) s = go { h with exec := t &&& ~~~h.exec &&& ~~~h.ended } ∧
         exec (.mend w f) s = go { h with exec := t &&& ~~~h.ended, masks := rest }) ∧
       (h.masks = [] → stack (.melse w f) ∧ stack (.mend w f))) ∧
     (f.rd.toNat < 8 → f.ra = 0 → f.mod = 0 → h.exec ≠ 0 →
       ∃ h', exec (.mget w f) s = .next (putShed s r h') ∧
         wrotePred h h' (BitVec.allOnes 16) f.rd.toNat (fun l => h.exec.getLsbD l) (fun _ => false))) ∧
  (∀ (s : State) (w : ShedRef) (f : TB) (r : Run), shedIssues s w false r →
     let h := r.h
     let far : Word64 := h.pc + f.off.signExtend 64 * 8
     let on := h.exec &&& h.p f.pk.toNat
     let go : Word64 → Host.Outcome State Fault Refusal := fun pc => .next (putShed s r { h with pc := pc })
     let stack : Instr → Prop := fun c => calm s → ∃ t, exec c s = .next t ∧ faulted s t r 0x010A (instrIndex s r) 0xFF true
     (h.exec &&& h.pp f.pk.toNat = 0 →
       exec (.bany w f) s = go (if on ≠ 0 then far else h.pc + 8) ∧
       exec (.ball w f) s = go (if on = h.exec then far else h.pc + 8) ∧
       exec (.bnone w f) s = go (if on = 0 then far else h.pc + 8)) ∧
     (f.pk = 0 →
       exec (.br w f) s = go far ∧
       (h.calls.length < 16 → exec (.call w f) s = .next (putShed s r { h with pc := far, calls := (h.pc + 8) :: h.calls })) ∧
       (16 ≤ h.calls.length → stack (.call w f)) ∧
       (f.off = 0 →
         (∀ t rest, h.calls = t :: rest → exec (.ret w f) s = .next (putShed s r { h with pc := t, calls := rest })) ∧
         (h.calls = [] → stack (.ret w f)))))

/-- (1) NOP and FENCE only go on; BARS holds the shed until every started shed of its slot that has not ended has reached one, and then
they all go on (10 Table 10.11, R352).
(2) A shed whose execution mask is zero passes over every other instruction (10 R311), and an undefined guard or field, and an
undefined word, end the context with ILLEGAL_INSTR at the instruction's index (10 R343, R344, R372).
Where the spec leaves a point open it rests on the model's choices: log 60, 65, 66. -/
def Obligations.BarriersEmptyMasksAndUndefinedWords : Prop :=
  (∀ (s : State) (w : ShedRef) (f : T3) (r : Run), shedIssues s w false r → f.rd = 0 → f.ra = 0 → f.rb = 0 → f.rc = 0 →
     let live : Slot → List (Nat × Shed) := fun x => x.sheds.filter (fun e => e.2.started && e.2.ended != BitVec.allOnes 16)
     let x : Slot := { r.slot with sheds := Tbl.put r.slot.sheds r.shed { r.h with wait := .bars } }
     (guardClean r.h f.guard → f.mod = 0 → exec (.nop w f) s = .next (putShed s r { r.h with pc := r.h.pc + 8 })) ∧
     (guardClean r.h f.guard → f.mod.toNat < 3 → exec (.threadFence w f) s = .next (putShed s r { r.h with pc := r.h.pc + 8 })) ∧
     (f.guard = 0 → f.mod = 0 →
       ((∃ e ∈ live x, e.2.wait ≠ .bars) → exec (.bars w f) s = .next (putShed s r { r.h with wait := .bars })) ∧
       ((∀ e ∈ live x, e.2.wait = .bars) → ∃ t, exec (.bars w f) s = .next t ∧ t = { s with slots := t.slots } ∧
         (∀ k, k ≠ r.key → getS t k = getS s k) ∧
         (∀ e ∈ (getS t r.key).sheds, e.2.wait ≠ .bars) ∧
         Tbl.get Shed.idle (getS t r.key).sheds r.shed = { r.h with pc := r.h.pc + 8 }))) ∧
  (∀ (s : State) (w : ShedRef) (f : T3) (g : TI) (b : TB) (env : Env) (word : Word64) (r : Run), runnable s w false = some r →
     (r.h.exec = 0 → ∀ c ∈ [Instr.threadAdd w f, .setp w f, .sel w f, .bars w f, .stepCtr w f, .threadFence w f, .syAdd w f,
         .threadEnd w f, .threadAddi w g, .ldD w g env, .stD w g env, .br w b, .ckassert w f, .stepBegin w f env, .atom w f env],
       exec c s = .next (putShed s r { r.h with pc := r.h.pc + 8 })) ∧
     (r.h.exec ≠ 0 → calm s →
       let ends : Instr → Prop := fun c => ∃ t, exec c s = .next t ∧ faulted s t r 0x0109 (instrIndex s r) 0xFF true
       (f.guard = 8 ∨ f.rc ≠ 0 ∨ f.mod ≠ 0 → ends (.threadAdd w f)) ∧ (g.guard = 8 ∨ 64 ≤ g.imm.toNat → ends (.threadShli w g)) ∧
       (f.guard ≠ 0 → ends (.bars w f))) ∧
     (calm s → decodeThread w Env.quiet word = none →
       ∃ t, exec (.illegalInstr w word) s = .next t ∧ faulted s t r 0x0109 (instrIndex s r) 0xFF true))

/-- (1) A load reads its bytes lane by lane at ra + imm and writes them to rd, sign- or zero-extended, LD.Q to a register pair; poisoned
data poisons the destination; an address that is not aligned ends the context with ALIGN_FAULT, and a poisoned one with
POISON_CONSUMED (10 R350, R341, 13 R454, R458).
(2) A store of one lane writes rd, little-endian, at ra + imm: at once outside a step, in the slot's held writes inside one, where
memory stays as it was; no other byte and no register changes (10 R350, 09 R329, R359).  ST.Q stores a register pair.
(3) An atomic of one lane outside a step returns the old value, zero-extended, and leaves the value of its operation in memory; inside
a step it is held for the commit point and may return no value (10 R351, 09 R324, R331).
Where the spec leaves a point open it rests on the model's choices: log 61, 62, 67, 69. -/
def Obligations.ThreadMemoryInstructions : Prop :=
  (∀ (s : State) (w : ShedRef) (f : TI) (env : Env) (r : Run) (b : Nat → Marked), shedIssues s w false r → guardClean r.h f.guard →
     memMod true f.mod = true →
     let m := guardMask r.h f.guard
     let v := fun l => leNat ((b l).map (·.1))
     let po := fun l => (b l).any (·.2)
     let reads : Nat → Prop := fun n => ∀ l, m.getLsbD l → r.h.gp l f.ra = false ∧ memAddr r.h l f % n = 0 ∧
       slotRead r.key 2 (memAddr r.h l f) n env [] s = (.ok (b l, env), s)
     let ext : Nat → Nat → Word64 := fun n v =>
       if f.mod.getLsbD 0 ∧ 2 ^ (8 * n - 1) ≤ v then BitVec.ofInt 64 ((v : Int) - 2 ^ (8 * n)) else BitVec.ofNat 64 v
     (∀ e ∈ [(Instr.ldB, 1), (Instr.ldH, 2), (Instr.ldW, 4), (Instr.ldD, 8)],
       (reads e.2 → (∀ l, m.getLsbD l → (b l).length = e.2) → ∃ h, exec (e.1 w f env) s = .next (putShed s r h) ∧
         wroteLanes r.h h m f.rd (fun l => ext e.2 (v l)) po) ∧
       (∀ l rest, lanesOf m = l :: rest → calm s →
         (r.h.gp l f.ra = true → ∃ t, exec (e.1 w f env) s = .next t ∧ faulted s t r 0x0113 (instrIndex s r) l true) ∧
         (r.h.gp l f.ra = false → memAddr r.h l f % e.2 ≠ 0 →
           ∃ t, exec (e.1 w f env) s = .next t ∧ faulted s t r 0x0102 (memAddr r.h l f) l false))) ∧
     (f.rd.toNat % 2 = 0 → reads 16 → ∃ h, exec (.ldQ w f env) s = .next (putShed s r h) ∧ wrotePair r.h h m f.rd v po)) ∧
  (∀ (s : State) (w : ShedRef) (f : TI) (env : Env) (r : Run) (l pa : Nat), shedIssues s w false r → guardClean r.h f.guard →
     memMod false f.mod = true → lanesOf (guardMask r.h f.guard) = [l] → r.h.gp l f.ra = false →
     let va := memAddr r.h l f
     reaches s r va .write env pa →
     ∀ e ∈ [(Instr.stB, 1), (Instr.stH, 2), (Instr.stW, 4), (Instr.stD, 8), (Instr.stQ, 16)], (e.2 = 16 → f.rd.toNat % 2 = 0) →
       let n := e.2
       let v := (r.h.g l f.rd).toNat + (if n = 16 then (r.h.g l (f.rd + 1)).toNat * 2 ^ 64 else 0)
       let po := r.h.gp l f.rd || (n == 16 && r.h.gp l (f.rd + 1))
       va % n = 0 →
       (writesNow s r → ∃ t, exec (e.1 w f env) s = .next t ∧ memGets t pa n = leBytes n v ∧
         (∀ a, a < pa ∨ pa + n ≤ a → memGet t a = memGet s a) ∧ (po = true → pa % 32 + n ≤ 32 → isPoison t pa = true) ∧
         t = { putShed s r { r.h with pc := r.h.pc + 8 } with mem := t.mem }) ∧
       ((getC s r.ctx).step.isOpen = true → r.h.begun = true → inStepRange s r.ctx (.hbm pa) = false →
         let x := { holdBytes r.slot (.hbm pa) ((leBytes n v).map (fun b => (b, po))) r.shed l r.slot.seq with seq := r.slot.seq + 1 }
         holdEntries s r.key x ≤ 8192 →
         exec (e.1 w f env) s = .next (putShed (putS s r.key x) r { r.h with pc := r.h.pc + 8 })) ∧
       (calm s → (getC s r.ctx).step.isOpen = true → r.h.begun = false →
         ∃ t, exec (e.1 w f env) s = .next t ∧ faulted s t r 0x010B (instrIndex s r) 0xFF true) ∧
       (calm s → (getC s r.ctx).step.isOpen = true → r.h.begun = true → inStepRange s r.ctx (.hbm pa) = true →
         ∃ t, exec (e.1 w f env) s = .next t ∧ faulted s t r 0x0104 va l false)) ∧
  (∀ (s : State) (w : ShedRef) (f : T3) (r : Run) (l pa n k : Nat), shedIssues s w false r → guardClean r.h f.guard →
     lanesOf (guardMask r.h f.guard) = [l] → r.h.gp l f.ra = false → r.h.gp l f.rb = false → r.h.gp l f.rc = false →
     let va := (r.h.g l f.ra).toNat
     reaches s r va .atomic Env.quiet pa → va % n = 0 → pa % n = 0 →
     let z := 2 ^ (8 * n)
     let old := leNat (memGets s pa n)
     let b := (r.h.g l f.rb).toNat % z
     let cmp := (r.h.g l f.rc).toNat % z
     let sg : Nat → Int := fun v => if v < z / 2 then (v : Int) else (v : Int) - z
     let fl : (Fl → Fl → Fl) → Nat := fun op => encodeF fmtFp32 none (op (decodeF fmtFp32 old) (decodeF fmtFp32 b))
     let does : Instr → Nat → Prop := fun c new =>
       (writesNow s r → isPoison s pa = false → ∃ t h, exec c s = .next t ∧
         memGets t pa n = leBytes n new ∧ (∀ a, a < pa ∨ pa + n ≤ a → memGet t a = memGet s a) ∧
         t = { putShed s r h with mem := t.mem } ∧
         wroteLanes r.h h (guardMask r.h f.guard) f.rd (fun _ => BitVec.ofNat 64 old) (fun _ => false)) ∧
       ((getC s r.ctx).step.isOpen = true → r.h.begun = true →
         (f.rd ≠ 0 → calm s → ∃ t, exec c s = .next t ∧ faulted s t r 0x0105 (instrIndex s r) 0xFF true) ∧
         (f.rd = 0 → inStepRange s r.ctx (.hbm pa) = false → holdEntries s r.key r.slot < 8192 → ∃ t, exec c s = .next t ∧ t.mem = s.mem ∧
           (getS t r.key).atomics.length = r.slot.atomics.length + 1 ∧ (getS t r.key).held = r.slot.held))
     (n = 4 ∧ f.mod.toNat = k ∨ n = 8 ∧ f.mod.toNat = k + 16 → (k = 9 ∨ f.rc = 0) →
       (k = 0 → does (.atom w f Env.quiet) ((old + b) % z)) ∧
       (k = 1 → does (.atom w f Env.quiet) (if sg old ≤ sg b then old else b)) ∧
       (k = 2 → does (.atom w f Env.quiet) (if sg old ≤ sg b then b else old)) ∧
       (k = 3 → does (.atom w f Env.quiet) (Nat.min old b)) ∧ (k = 4 → does (.atom w f Env.quiet) (Nat.max old b)) ∧
       (k = 5 → does (.atom w f Env.quiet) (old &&& b)) ∧ (k = 6 → does (.atom w f Env.quiet) (old ||| b)) ∧
       (k = 7 → does (.atom w f Env.quiet) (old ^^^ b)) ∧ (k = 8 → does (.atom w f Env.quiet) b) ∧
       (k = 9 → does (.atom w f Env.quiet) (if old = cmp then b else old))) ∧
     (n = 4 → f.rc = 0 →
       (f.mod = 0 → does (.atomf w f Env.quiet) (fl flAdd)) ∧ (f.mod = 1 → does (.atomf w f Env.quiet) (fl flMin)) ∧
       (f.mod = 2 → does (.atomf w f Env.quiet) (fl flMax))))

/-! ### Vectors and tiles -/

/-- (1) A float or integer vector instruction writes the 128-bit result of its elements to an even register pair in every admitted lane,
poisoned where an operand is, and changes nothing else: add, subtract, multiply and fused multiply-add rounded once, minimum and
maximum, sign changes on the sign bit alone, INT32 modulo 2^32 (10 Table 10.11, R368; 11 R385, R386).
(2) VCVT converts the elements of the source in order; an element that the spec gives no value keeps none: it is free (10 R368, 11
R384; the free elements are the model's, log 16).
Where the spec leaves a point open it rests on the model's choices: log 16, 66, 74. -/
def Obligations.VectorInstructionsWriteTheirPair : Prop :=
  (∀ (s : State) (w : ShedRef) (f : T3) (r : Run), shedIssues s w true r → guardClean r.h f.guard →
     f.rd.toNat % 2 = 0 → f.ra.toNat % 2 = 0 → f.rb.toNat % 2 = 0 → f.rc.toNat % 2 = 0 →
     let a := fun l => vecGet r.h l f.ra
     let b := fun l => vecGet r.h l f.rb
     let c := fun l => vecGet r.h l f.rc
     let p2 := fun l => vecPois r.h l f.ra || vecPois r.h l f.rb
     let k := f.mod.toNat
     let does : Instr → (Nat → Nat) → (Nat → Bool) → Prop := fun i v po => ∃ h, exec i s = .next (putShed s r h) ∧
       wrotePair r.h h (guardMask r.h f.guard) f.rd v po
     let el : Nat → Nat → Nat := fun v i => v / 2 ^ (vecBits k * i) % 2 ^ vecBits k
     let each : (Nat → Nat → Nat → Nat) → Nat → Nat := fun op l =>
       (List.range (128 / vecBits k)).foldr (fun i t => op (el (a l) i) (el (b l) i) (el (c l) i) % 2 ^ vecBits k + 2 ^ vecBits k * t) 0
     (∀ t, vecFmt k = some t →
       let fl : (Fl → Fl → Fl → Fl) → Nat → Nat := fun op =>
         each (fun x y z => encodeF t none (op (decodeF t x) (decodeF t y) (decodeF t z)))
       (f.rc = 0 → does (.vadd w f) (fl (fun x y _ => flAdd x y)) p2 ∧ does (.vsub w f) (fl (fun x y _ => flAdd x (flNeg y))) p2 ∧
         does (.vmul w f) (fl (fun x y _ => flMul x y)) p2 ∧ does (.vmin w f) (fl (fun x y _ => flMin x y)) p2 ∧
         does (.vmax w f) (fl (fun x y _ => flMax x y)) p2) ∧
       does (.vfma w f) (fl (fun x y z => flAdd (flMul x y) z)) (fun l => p2 l || vecPois r.h l f.rc) ∧
       (f.rb = 0 → f.rc = 0 →
         let top := 2 ^ (vecBits k - 1)
         does (.vabs w f) (each (fun x _ _ => x % top)) (fun l => vecPois r.h l f.ra) ∧
         does (.vneg w f) (each (fun x _ _ => if x < top then x + top else x - top)) (fun l => vecPois r.h l f.ra))) ∧
     (k = 4 → (f.rc = 0 → does (.viadd w f) (each (fun x y _ => x + y)) p2 ∧ does (.vimul w f) (each (fun x y _ => x * y)) p2) ∧
       does (.vimad w f) (each (fun x y z => x * y + z)) (fun l => p2 l || vecPois r.h l f.rc)) ∧
     (k < 5 → f.rc = 0 →
       does (.vand w f) (fun l => a l &&& b l) p2 ∧ does (.vor w f) (fun l => a l ||| b l) p2 ∧
       does (.vxor w f) (fun l => a l ^^^ b l) p2)) ∧
  (∀ (s : State) (w : ShedRef) (f : T3) (r : Run), shedIssues s w true r → guardClean r.h f.guard →
     f.rd.toNat % 2 = 0 → f.ra.toNat % 2 = 0 → f.rb = 0 → f.rc = 0 →
     let k := f.mod.toNat % 8
     let d := f.mod.toNat / 8
     k < 5 → d < 5 →
     ∃ (h : Shed) (n : Nat) (v : Nat → Nat), exec (.vcvt w f) s = .next (putShed { s with freeCtr := n } r h) ∧
       wrotePair r.h h (guardMask r.h f.guard) f.rd v (fun l => vecPois r.h l f.ra) ∧
       ∀ l, (guardMask r.h f.guard).getLsbD l → ∀ i x y, i < 128 / vecBits d → (vecElems k (vecGet r.h l f.ra))[i]? = some x →
         vecConvert k d ((r.launch s).elim false (·.sat)) x = some y →
         v l / 2 ^ (vecBits d * i) % 2 ^ vecBits d = y % 2 ^ vecBits d)

/-- (1) TLD fills a tile with the 64 rows that start at ga, gb apart, in the format of mod, transposed where bit 4 says so, and poisoned
where any of the data is; it waits while a product for the tile is not settled.  A row that is not aligned ends the context with
ALIGN_FAULT, and a poisoned address with POISON_CONSUMED (10 R353, R354, R357, Table 10.5, 13 R454).
(2) TST writes the 64 rows of an accumulator in an output format that its tag admits, one after another, poisoned where the tile is; an
output format that it does not admit ends the context with TILE_FORMAT and nothing is written (10 R355, R373, Table 10.5, 11 R384).
Stated for rows whose writes wait for no step of another context.
(3) TZERO makes a tile an accumulator of zeros, integer or float; TMMA puts copies of its operands, with the index from ga, into the
tile hold of the host's checker, whence md takes its result when the check has settled it; a third unchecked product of the cluster
waits, and tags that do not meet end the context with TILE_FORMAT (10 R355 to R357, 12 R422).  Stated with no injection armed.
Where the spec leaves a point open it rests on the model's choices: log 66, 67, 68, 79. -/
def Obligations.TileInstructions : Prop :=
  (∀ (s s' : State) (w : ShedRef) (f : TM) (env : Env) (r : Run) (va stride : Nat) (rows : List (List Byte)) (po : Bool),
     shedIssues s w true r → f.ma = 0 → f.mb = 0 →
     let t := f.mod.toNat % 16
     let l := (lanesOf r.h.exec).headD 0
     t < 9 → f.mod.toNat < 32 →
     (tileAddr r f = some (va, stride) → tileBusy s r.key f.md.toNat = true → exec (.tld w f env) s = .next s) ∧
     (tileAddr r f = some (va, stride) → tileBusy s r.key f.md.toNat = false → tileAligned t va stride = true →
       readRows r.key stride (rowBytes t) 64 va env [] false s = (.ok (rows, po), s') → getS s' r.key = r.slot →
       ∃ u, exec (.tld w f env) s = .next u ∧ (getTile (getS u r.key) f.md.toNat).tag = t ∧
         (getTile (getS u r.key) f.md.toNat).poison = po ∧
         (∀ i j, i < 64 → j < 64 → Tbl.get 0 (getTile (getS u r.key) f.md.toNat).elems (64 * i + j) =
           BitVec.ofNat 64 (if f.mod.getLsbD 4 then rowElem t (rows.getD j []) i else rowElem t (rows.getD i []) j)) ∧
         (∀ m, m ≠ f.md.toNat → getTile (getS u r.key) m = getTile r.slot m) ∧
         Tbl.get Shed.idle (getS u r.key).sheds r.shed = { r.h with pc := r.h.pc + 8 } ∧
         (∀ k, k ≠ r.key → getS u k = getS s' k) ∧ u = { s' with slots := u.slots }) ∧
     (tileAddr r f = some (va, stride) → tileBusy s r.key f.md.toNat = false → tileAligned t va stride = false → calm s →
       ∃ u, exec (.tld w f env) s = .next u ∧ faulted s u r 0x0102 va l false) ∧
     (tileAddr r f = none → calm s → ∃ u, exec (.tld w f env) s = .next u ∧ faulted s u r 0x0113 (instrIndex s r) l true)) ∧
  (∀ (s u : State) (w : ShedRef) (f : TM) (env : Env) (r : Run) (va stride : Nat), shedIssues s w true r → f.md = 0 → f.mb = 0 →
     let t := f.mod.toNat
     let x := getTile r.slot f.ma.toNat
     let l := (lanesOf r.h.exec).headD 0
     2 ≤ t → t < 9 → tileAddr r f = some (va, stride) → tileBusy s r.key f.ma.toNat = false → tileAligned t va stride = true →
     let row : Nat → Marked := fun i => (outRow x t ((r.launch s).elim false (·.sat)) i).map (fun b => (b, x.poison))
     ((x.tag = 8 ∧ (t = 2 ∨ t = 8)) ∨ (x.tag = 7 ∧ 3 ≤ t ∧ t ≤ 7) → mayWrite s r = true → (∀ a, writeHeld s r a = false) →
       (List.range 64).foldlM (fun v i => threadWrites r l env 2 (va + i * stride) (row i) v) s = .ok u →
       exec (.tst w f env) s = .next (putShed u r { r.h with pc := r.h.pc + 8 })) ∧
     (x.tag = 8 ∧ t ≠ 2 ∧ t ≠ 8 ∨ x.tag = 7 ∧ (t = 2 ∨ t = 8) ∨ x.tag < 7 → calm s →
       ∃ v, exec (.tst w f env) s = .next v ∧ faulted s v r 0x010C (instrIndex s r) l true)) ∧
  (∀ (s : State) (w : ShedRef) (f : TM) (r : Run), shedIssues s w true r →
     let l := (lanesOf r.h.exec).headD 0
     let n := r.slot.host
     let a := getTile r.slot f.ma.toNat
     let b := getTile r.slot f.mb.toNat
     let d := getTile r.slot f.md.toNat
     let idx := (r.h.g l f.ga).toNat
     let met := (a.tag = b.tag ∧ (a.tag = 0 ∨ a.tag = 2) ∧ d.tag = 8) ∨ (a.tag = b.tag ∧ (a.tag = 1 ∨ a.tag = 5 ∨ a.tag = 6) ∧ d.tag = 7) ∨
       ((a.tag = 3 ∨ a.tag = 4) ∧ (b.tag = 3 ∨ b.tag = 4) ∧ d.tag = 7)
     (f.mod.toNat < 2 → f.ma = 0 → f.mb = 0 → f.ga = 0 → f.gb = 0 →
       (tileBusy s r.key f.md.toNat = true → exec (.tzero w f) s = .next s) ∧
       (tileBusy s r.key f.md.toNat = false → ∃ t, exec (.tzero w f) s = .next t ∧
         getTile (getS t r.key) f.md.toNat = { tag := if f.mod = 1 then 7 else 8, elems := [], poison := false } ∧
         (∀ m, m ≠ f.md.toNat → getTile (getS t r.key) m = getTile r.slot m) ∧
         Tbl.get Shed.idle (getS t r.key).sheds r.shed = { r.h with pc := r.h.pc + 8 } ∧
         (∀ k, k ≠ r.key → getS t k = getS s k) ∧ t = { s with slots := t.slots })) ∧
     (f.mod = 0 → f.gb = 0 →
       (met → idx < 2 ^ 48 → 2 ≤ ((getCk s n).jobs.filter (fun j => j.stage == 0)).length → exec (.tmma w f) s = .next s) ∧
       (met → idx < 2 ^ 48 → ((getCk s n).jobs.filter (fun j => j.stage == 0)).length < 2 → injection s n = none →
         ∃ t j, exec (.tmma w f) s = .next t ∧ (getCk t n).jobs = (getCk s n).jobs ++ [j] ∧ j.slot = r.key ∧ j.ctx = r.ctx ∧
           j.md = f.md.toNat ∧ j.tileA = a ∧ j.tileB = b ∧ j.index = idx ∧ j.stage = 0 ∧ j.stale = false ∧
           (∀ k, k ≠ n → getCk t k = getCk s k) ∧
           (getC t r.ctx).tileOps = (getC s r.ctx).tileOps + (if (getC s r.ctx).perfOn then 1 else 0) ∧
           getS t r.key = { r.slot with sheds := (getS t r.key).sheds } ∧
           Tbl.get Shed.idle (getS t r.key).sheds r.shed = { r.h with pc := r.h.pc + 8 } ∧ t.mem = s.mem) ∧
       (¬ met ∨ 2 ^ 48 ≤ idx → calm s → ∃ t, exec (.tmma w f) s = .next t ∧ faulted s t r 0x010C (instrIndex s r) l true)))

/-! ### Steps and synchronisation of threads -/

/-- (1) STEP.CTR and CKSTAT give a count to every executing or admitted lane: the step counter, and the slot's checked and replayed tile
operations, arbitrations and re-runs since the launch started; CKSTAT of another selector gives a free value (10 R360, Table 10.7; the
free value is the model's, log 16).
(2) RNG gives every admitted lane the generator's output for its counter, the thread's number in the launch and the step counter among
it, under the seed of the launch, in an even register pair; a poisoned operand is consumed (10 R362, R363, Table 10.8).
(3) SY.RD reads a sync object in every admitted lane; SY.ADD of one lane adds to one, answering the old value, at once also inside a
step, and leaves every other object as it was; SY.WAIT goes on where its objects have reached their values, else it waits, and
SY_WAIT_RELEASE lets it go on once they have (10 R364, R371, R375, Table 10.9).  SY.ADD is stated for a slot that is not twinned.
(4) SY_WAIT_RELEASE: a waiting shed goes on once every object it waits for has reached its value, and not before (10 R364, R375).
Where the spec leaves a point open it rests on the model's choices: log 16, 71. -/
def Obligations.CountersGeneratorObjectsAndWaits : Prop :=
  (∀ (s : State) (w : ShedRef) (f : T3) (g : TI) (r : Run), shedIssues s w false r →
     let ctr := if (getC s r.ctx).step.isOpen then (getC s r.ctx).step.ctr else (getC s r.ctx).stepCtr
     let stat : Nat → Word64 → Prop := fun n v => g.imm.toNat = n → ∃ h, exec (.ckstat w g) s = .next (putShed s r h) ∧
       wroteLanes r.h h (guardMask r.h g.guard) g.rd (fun _ => v) (fun _ => false)
     (f.guard = 0 → f.ra = 0 → f.rb = 0 → f.rc = 0 → f.mod = 0 →
       ∃ h, exec (.stepCtr w f) s = .next (putShed s r h) ∧ wroteLanes r.h h r.h.exec f.rd (fun _ => ctr) (fun _ => false)) ∧
     (guardClean r.h g.guard → g.ra = 0 → g.mod = 0 →
       stat 0 r.slot.checked ∧ stat 1 r.slot.replayed ∧ stat 2 r.slot.arbs ∧ stat 3 r.slot.reruns ∧
       (4 ≤ g.imm.toNat → ∃ h v, exec (.ckstat w g) s = .next (putShed { s with freeCtr := s.freeCtr + 1 } r h) ∧
         wroteLanes r.h h (guardMask r.h g.guard) g.rd (fun _ => v) (fun _ => false)))) ∧
  (∀ (s : State) (w : ShedRef) (f : T3) (r : Run), shedIssues s w true r → guardClean r.h f.guard → f.rc = 0 → f.mod = 0 →
     f.rd.toNat % 2 = 0 →
     let m := guardMask r.h f.guard
     let x := getC s r.ctx
     let ctr := if x.step.isOpen then x.step.ctr else x.stepCtr
     let seed := (r.launch s).elim 0 (·.seed)
     ((∀ l, m.getLsbD l → r.h.gp l f.ra = false ∧ r.h.gp l f.rb = false) →
       ∃ h, exec (.rng w f) s = .next (putShed s r h) ∧ wrotePair r.h h m f.rd (fun l =>
         (generator seed (BitVec.ofNat 128 (ctr.toNat % 2 ^ 48 * 2 ^ 80 + (r.h.g l f.ra).toNat % 2 ^ 48 * 2 ^ 32 +
           (16 * r.shed + l) * 2 ^ 26 + (r.h.g l f.rb).toNat % 2 ^ 26))).toNat) (fun _ => false)) ∧
     (∀ l rest, lanesOf m = l :: rest → r.h.gp l f.ra = true → calm s →
       ∃ t, exec (.rng w f) s = .next t ∧ faulted s t r 0x0113 (instrIndex s r) l true)) ∧
  (∀ (s : State) (w : ShedRef) (f : T3) (r : Run), shedIssues s w false r → guardClean r.h f.guard → f.rc = 0 → f.mod = 0 →
     let m := guardMask r.h f.guard
     let o := fun l => (r.h.g l f.ra).toNat % 256
     let clean := ∀ l, m.getLsbD l → r.h.gp l f.ra = false ∧ r.h.gp l f.rb = false
     let want := (lanesOf m).map (fun l => (o l, r.h.g l f.rb))
     let there := ∀ l, m.getLsbD l → (r.h.g l f.rb).toNat ≤ (syncGet s r.ctx (o l)).toNat
     clean →
     (f.rb = 0 → ∃ h, exec (.syRd w f) s = .next (putShed s r h) ∧
       wroteLanes r.h h m f.rd (fun l => syncGet s r.ctx (o l)) (fun _ => false)) ∧
     (∀ l, lanesOf m = [l] → r.slot.twinOf = none → hasTwin s r.key = false →
       ∃ t h, exec (.syAdd w f) s = .next t ∧ getS t r.key = getS (putShed s r h) r.key ∧
         wroteLanes r.h h m f.rd (fun _ => syncGet s r.ctx (o l)) (fun _ => false) ∧
         syncGet t r.ctx (o l) = syncGet s r.ctx (o l) + r.h.g l f.rb ∧ (∀ x, x ≠ o l → syncGet t r.ctx x = syncGet s r.ctx x) ∧
         (∀ d, d ≠ r.ctx → getC t d = getC s d) ∧ t = { s with slots := t.slots, ctxs := t.ctxs, shut := t.shut, pci := t.pci }) ∧
     (f.rd = 0 →
       (there → exec (.syWait w f) s = .next (putShed s r { r.h with pc := r.h.pc + 8 })) ∧
       (¬ there → exec (.syWait w f) s = .next (putShed s r { r.h with wait := .object want })))) ∧
  (∀ (s : State) (w : ShedRef) (l : List (Nat × Word64)),
     let k := slotKey w.part.toNat w.slot.toNat
     let x := getS s k
     let h := Tbl.get Shed.idle x.sheds w.shed.toNat
     h.wait = .object l → x.ended = false → (getC s x.ctx).fault = 0 → isFenced s x.ctx = false →
     ((∀ e ∈ l, e.2.toNat ≤ (syncGet s x.ctx e.1).toNat) →
       exec (.syWaitRelease w) s =
         .next (putS s k { x with sheds := Tbl.put x.sheds w.shed.toNat { h with wait := .none, pc := h.pc + 8 } })) ∧
     ((∃ e ∈ l, (syncGet s x.ctx e.1).toNat < e.2.toNat) → exec (.syWaitRelease w) s = .next s))

/-- (1) The first STEP.BEGIN of a slot reads the step's input ranges and opens the step of its context with the step counter; the shed is in
the step from then on, and its state is kept for a re-run.  STEP.COMMIT holds the shed for the commit point.  Each outside its place
ends the context with STEP_SEQUENCE (10 R358, R359, R361, 09 R326, R327).
(2) CKASSERT goes on where the operands agree in every admitted lane; where they differ it records SW_CHECK_MISMATCH, and the slot waits
for the re-run of its part of the step; outside a step it ends the context with STEP_SEQUENCE (10 R361).
(3) The commit point of a step makes the held bytes of its slots visible, the last of each place, raises the step counter by one, closes
the step, and lets its sheds go on behind STEP.COMMIT with nothing held (09 R326, R329, R330, 10 R360).  Before every shed has come to
its STEP.COMMIT nothing happens.  Stated for a step that is neither twinned nor paired, holds device memory alone, and has no atomics,
triggers or transfers of its own.
Where the spec leaves a point open it rests on the model's choices: log 60, 63, 68, 71. -/
def Obligations.StepsAndSoftwareChecks : Prop :=
  (∀ (s : State) (w : ShedRef) (f : T3) (env : Env) (r : Run) (b : Marked) (l : List (Nat × Nat)), shedIssues s w false r → f.guard = 0 →
     f.rd = 0 → f.rb = 0 → f.rc = 0 → f.mod = 0 →
     let lane := (lanesOf r.h.exec).headD 0
     let va := (r.h.g lane f.ra).toNat
     (r.h.begun = false → r.h.gp lane f.ra = false → r.slot.snap = [] → unchecked s r.key = false → r.slot.descRead = false →
       (getC s r.ctx).step.isOpen = false → slotRead r.key 2 va 64 env [] s = (.ok (b, env), s) → (∀ x ∈ b, x.2 = false) →
       (stepRanges (b.map (·.1)) = some l →
         ∃ t, exec (.stepBegin w f env) s = .next t ∧
           getC t r.ctx = { getC s r.ctx with step := { Step.closed with isOpen := true, ctr := (getC s r.ctx).stepCtr, ranges := l } } ∧
           (∀ d, d ≠ r.ctx → getC t d = getC s d) ∧ (getS t r.key).descRead = true ∧
           Tbl.get Shed.idle (getS t r.key).sheds r.shed = { r.h with begun := true, closed := false, pc := r.h.pc + 8 } ∧
           Tbl.get Shed.idle (getS t r.key).snap r.shed = r.h ∧ (getS t r.key).snapT = r.slot.tiles ∧
           (∀ k, k ≠ r.key → getS t k = getS s k) ∧ t = { s with slots := t.slots, ctxs := t.ctxs }) ∧
       (stepRanges (b.map (·.1)) = none → calm s →
         ∃ t, exec (.stepBegin w f env) s = .next t ∧ faulted s t r 0x0107 va lane false)) ∧
     (r.h.begun = true → r.h.gp lane f.ra = false → calm s →
       ∃ t, exec (.stepBegin w f env) s = .next t ∧ faulted s t r 0x010B (instrIndex s r) 0xFF true) ∧
     (f.ra = 0 → r.h.begun = true → isPaired s r.ctx = false →
       exec (.stepCommit w f) s = .next (putShed s r { r.h with closed := true, wait := .commit })) ∧
     (f.ra = 0 → r.h.begun = false → calm s →
       ∃ t, exec (.stepCommit w f) s = .next t ∧ faulted s t r 0x010B (instrIndex s r) 0xFF true)) ∧
  (∀ (s : State) (w : ShedRef) (f : T3) (r : Run), shedIssues s w false r → guardClean r.h f.guard → f.rd = 0 → f.mod = 0 →
     let m := guardMask r.h f.guard
     ((getC s r.ctx).step.isOpen = false → calm s →
       ∃ t, exec (.ckassert w f) s = .next t ∧ faulted s t r 0x010B (instrIndex s r) 0xFF true) ∧
     ((getC s r.ctx).step.isOpen = true →
       (∀ l, m.getLsbD l → r.h.gp l f.ra = false ∧ r.h.gp l f.rb = false ∧ r.h.gp l f.rc = false) →
       ((∀ l, m.getLsbD l → r.h.g l f.ra = r.h.g l f.rb) → exec (.ckassert w f) s = .next (putShed s r { r.h with pc := r.h.pc + 8 })) ∧
       ((∃ l, l < 16 ∧ m.getLsbD l ∧ r.h.g l f.ra ≠ r.h.g l f.rb) → calm s →
         ∃ t, exec (.ckassert w f) s = .next t ∧ inPipeline t 0x3040 2 ∧
           getS t r.key = { r.slot with mismatch := r.slot.mismatch + 1, reRunAt := some (r.slot.mismatch + 1) } ∧
           (∀ k, k ≠ r.key → getS t k = getS s k) ∧ t = { s with slots := t.slots, rcd := t.rcd, err := t.err }))) ∧
  (∀ (s : State) (ctx : BitVec 8) (l : Launch) (rest : List Launch),
     let c := ctx.toNat
     let sl := launchSlots s c l.number
     (getC s c).launches = l :: rest →
     (commitReady s c l.number = false → exec (.stepCommitPoint ctx) s = .next s) ∧
     (l.started = true → commitReady s c l.number = true → isPaired s c = false → s.shut = [] →
       (getC s c).step.waiting = [] → (getC s c).step.firing = [] → (∀ d, d ≠ c → (getC s d).step.isOpen = false) →
       (∀ e ∈ s.slots, e.2.twinOf = none) → (∀ e ∈ sl, e.2.atomics = [] ∧ ∀ b ∈ e.2.held, b.poison = false ∧ ∃ pa, b.place = .hbm pa) →
       ∃ t, exec (.stepCommitPoint ctx) s = .next t ∧
         getC t c = { getC s c with step := Step.closed, stepCtr := (getC s c).stepCtr + 1 } ∧ (∀ d, d ≠ c → getC t d = getC s d) ∧
         (∀ e ∈ finalBytes sl, memGet t e.1 = e.2.1.byte) ∧ (∀ a, a ∉ (finalBytes sl).map (·.1) → memGet t a = memGet s a) ∧
         (∀ e ∈ launchSlots t c l.number, e.2.held = [] ∧ e.2.descRead = false ∧
           ∀ h ∈ e.2.sheds, h.2.started = true → h.2.closed = false ∧ h.2.wait = .none)))

/-- (1) TRIG.ARM of one lane arms a trigger and answers 0, to fire when its object reaches its threshold; with 256 armed it answers 1 and
arms nothing; a descriptor that breaks a rule ends the context with TRIGGER_DESCRIPTOR (10 R365 to R367, Table 10.9).  Stated for a slot that
is not twinned.
(2) A memory Shuttle's operation at the front of its engine copies its bytes from its source to its destination in device memory, and
then its done object rises by one and the engine goes on to its next operation (10 R366, R371, Table 10.10).  Stated for a copy within a
page each, of clean data, that has no done object and starts no host read behind it.
(3) XLAT_DONE: MEM.XLAT_DONE takes the value of MEM.XLAT_EPOCH of a context in use (09 R319).
Where the spec leaves a point open it rests on the model's choices: log 59, 62, 70. -/
def Obligations.TriggersAndShuttles : Prop :=
  (∀ (s : State) (w : ShedRef) (f : T3) (env : Env) (r : Run) (l : Nat) (b : Marked), shedIssues s w false r → guardClean r.h f.guard →
     f.rb = 0 → f.rc = 0 → f.mod = 0 → lanesOf (guardMask r.h f.guard) = [l] → r.slot.twinOf = none → hasTwin s r.key = false →
     r.h.gp l f.ra = false →
     let va := (r.h.g l f.ra).toNat
     let x := getC s r.ctx
     let t0 := trigOf (b.map (·.1)) s.orderCtr none
     slotRead r.key 3 va 64 env [] s = (.ok (b, env), s) → (∀ e ∈ b, e.2 = false) →
     let does : Nat → Ctx → Prop := fun res y => ∃ t h, exec (.trigArm w f env) s = .next t ∧
       wroteLanes r.h h (guardMask r.h f.guard) f.rd (fun _ => BitVec.ofNat 64 res) (fun _ => false) ∧
       getS t r.key = getS (putShed s r h) r.key ∧ getC t r.ctx = y ∧ (∀ d, d ≠ r.ctx → getC t d = getC s d) ∧
       t = { s with slots := t.slots, ctxs := t.ctxs, orderCtr := s.orderCtr + 1 }
     (trigValid s r.ctx (b.map (·.1)) = true →
       (256 ≤ x.trigs.length → does 1 x) ∧
       (x.trigs.length < 256 → t0.object < 256 → (syncGet s r.ctx t0.object).toNat < t0.thresh.toNat →
         does 0 { x with trigs := x.trigs ++ [t0] })) ∧
     (trigValid s r.ctx (b.map (·.1)) = false → calm s →
       ∃ t, exec (.trigArm w f env) s = .next t ∧ faulted s t r 0x010E va l false)) ∧
  (∀ (s : State) (e src dst : Nat) (x : Xfer), engineQ s e = [x] → e < 12 → engineRuns s e = true → x.tag = none → x.data = none →
     x.trig.kind = 1 → x.trig.done = 0xFFFF → x.trig.inStep = none → isFenced s x.ctx = false → (getC s x.ctx).fault = 0 → destHeld s x = false →
     x.ctx < 256 → 0 < x.trig.len → x.trig.src % 4096 + x.trig.len ≤ 4096 → x.trig.dst % 4096 + x.trig.len ≤ 4096 →
     xlat s x.ctx x.trig.src .read none = .ok (.hbm src) → xlat s x.ctx x.trig.dst .write none = .ok (.hbm dst) →
     anyPoison s src x.trig.len = false →
     ∃ t, exec (.triggeredOpComplete e Env.quiet) s = .next t ∧ memGets t dst x.trig.len = memGets s src x.trig.len ∧
       (∀ a, a < dst ∨ dst + x.trig.len ≤ a → memGet t a = memGet s a) ∧ engineQ t e = [] ∧
       (∀ d, d ≠ e → engineQ t d = engineQ s d) ∧ t = { s with mem := t.mem, shut := t.shut, rst := t.rst }) ∧
  (∀ (s : State) (ctx : BitVec 8),
     ((getC s ctx.toNat).inUse = false → exec (.xlatDone ctx) s = .next s) ∧
     ((getC s ctx.toNat).inUse = true → exec (.xlatDone ctx) s =
       .next (putC s ctx.toNat { getC s ctx.toNat with xlatDone := (liveVal s 5 0x201 ctx.toNat).setWidth 32 })))

/-! ### Launches -/

/-- (1) LAUNCH_START starts the next launch of a context when it may start: its slot is occupied on its host, and every thread of it begins
at the entry address with its argument, slot, thread and launch number in g1 to g4 and every other register zero (09 R306, R307, R309).
Stated for a launch of one slot without a twin; LAUNCH_START of a launch that may not start does nothing.
(2) END takes the admitted lanes out of the shed; the END of the last lane of the last shed ends the launch: its slot is free and the
context's next launch may start.  A shed that ends between STEP.BEGIN and STEP.COMMIT ends the context with STEP_SEQUENCE (09 R309, 10
R349, R359).  The end of a launch is stated for one slot and no done object.
(3) SLOT_SWITCH saves the slot that a cluster runs, its scratchpad into its save entry, and runs the other slot it hosts (09 R305,
R308).  Stated for a slot at its home cluster, another that has not been saved, and a save entry in device memory that can be reached;
a switch to a slot that the cluster does not host does nothing.
Where the spec leaves a point open it rests on the model's choices: log 56, 57, 58. -/
def Obligations.LaunchesThreadsAndSlots : Prop :=
  (∀ (s : State) (ctx : BitVec 8) (l : Launch), waitingLaunch s ctx.toNat = some l →
     let c := ctx.toNat
     let k := slotKey (partOf c) l.first
     let host := (placement s (partOf c)).getD l.first 0xFFFF
     (mayStart s c l = false → exec (.launchStart ctx) s = .next s) ∧
     (mayStart s c l = true → l.count = 1 → l.twin = false → l.sheds ≠ 0 → host ≠ 0xFFFF →
       (∀ e ∈ s.slots, (e.2.ctx = c ∧ e.2.launch = l.number → e.2.ended = true)) →
       ∃ t, exec (.launchStart ctx) s = .next t ∧
         (getS t k).ctx = c ∧ (getS t k).launch = l.number ∧ (getS t k).host = host ∧ (getS t k).ended = false ∧ (getS t k).tiles = [] ∧
         (∀ i, l.sheds.getLsbD i → i < 4 →
           let h := Tbl.get Shed.idle (getS t k).sheds i
           h.started = true ∧ h.exec = BitVec.allOnes 16 ∧ h.ended = 0 ∧ h.pc = l.entry ∧ h.masks = [] ∧ h.calls = [] ∧
           ∀ ln, ln < 16 → ∀ g : BitVec 6, h.gp ln g = false ∧
             h.g ln g = (if g = 1 then l.arg else if g = 2 then BitVec.ofNat 64 l.first
               else if g = 3 then BitVec.ofNat 64 (16 * i + ln) else if g = 4 then BitVec.ofNat 64 l.number else 0)) ∧
         (getC t c).launches = (getC s c).launches.map (fun m => if m.number = l.number then { m with started := true } else m) ∧
         (∀ j, j ≠ k → getS t j = getS s j) ∧ (∀ d, d ≠ c → getC t d = getC s d) ∧
         (∀ a, a < padBase (partOf c) l.first ∨ padBase (partOf c) l.first + 0xC0000 ≤ a → memGet t a = memGet s a) ∧
         t = { s with slots := t.slots, ctxs := t.ctxs, mem := t.mem })) ∧
  (∀ (s : State) (w : ShedRef) (f : T3) (r : Run), shedIssues s w false r → guardClean r.h f.guard →
     f.rd = 0 → f.ra = 0 → f.rb = 0 → f.rc = 0 → f.mod = 0 →
     let m := guardMask r.h f.guard
     let h := { r.h with ended := r.h.ended ||| m, exec := r.h.exec &&& ~~~m }
     let sheds := Tbl.put r.slot.sheds r.shed { h with pc := h.pc + 8 }
     (h.ended ≠ BitVec.allOnes 16 → exec (.threadEnd w f) s = .next (putShed s r { h with pc := h.pc + 8 })) ∧
     (h.ended = BitVec.allOnes 16 → h.begun = true → h.closed = false → calm s →
       ∃ t, exec (.threadEnd w f) s = .next t ∧ faulted s t r 0x010B (instrIndex s r) 0xFF true) ∧
     (h.ended = BitVec.allOnes 16 → h.begun = false →
       (∀ e ∈ sheds, e.2.started = true → e.2.ended = BitVec.allOnes 16) →
       (launchSlots s r.ctx r.slot.launch).map (·.1) = [r.key] →
       (r.launch s).elim 0xFFFF (·.doneObj) = 0xFFFF → r.ctx < 256 →
       ∃ t, exec (.threadEnd w f) s = .next t ∧ (getS t r.key).ended = true ∧ (getS t r.key).active = false ∧
         (∀ k, k ≠ r.key → getS t k = getS s k) ∧
         getC t r.ctx = { getC s r.ctx with launches := (getC s r.ctx).launches.filter (fun l => l.number != r.slot.launch) } ∧
         (∀ d, d ≠ r.ctx → getC t d = getC s d) ∧ t.mem = s.mem ∧ t.err = s.err)) ∧
  (∀ (s : State) (cluster : BitVec 9) (p : BitVec 3) (sl : BitVec 9) (k0 : Nat),
     let n := cluster.toNat
     let k := slotKey p.toNat sl.toNat
     let e0 := saveEntry s (k0 / 512) (k0 % 512)
     ((getS s k).host ≠ n → exec (.slotSwitch cluster p sl) s = .next s) ∧
     ((getS s k).ended = false → (getS s k).host = n → (getS s k).active = false → (getS s k).saved = false →
       clInService s n = true → s.phase = .run →
       s.slots.filter (fun e => !e.2.ended && e.2.active && e.2.host == n) = [(k0, getS s k0)] → k0 ≠ k →
       homeOf s (k0 / 512) (k0 % 512) = n → hbmUp s e0 = true → e0 + 0x180000 ≤ hbmSize → memCanonical s →
       ∃ t, exec (.slotSwitch cluster p sl) s = .next t ∧ (getS t k).active = true ∧ getS t k0 = { getS s k0 with saved := true, active := false } ∧
         (∀ j, j ≠ k → j ≠ k0 → getS t j = getS s j) ∧
         (∀ i, i < 0xC0000 → memGet t (e0 + i) = memGet s (padBase (k0 / 512) (k0 % 512) + i)) ∧
         (∀ a, a < e0 → memGet t a = memGet s a) ∧ t = { s with slots := t.slots, mem := t.mem }))

/-! ### Queues and doorbells -/

/-- (1) A doorbell write of the queue's own function at 32 bits is captured when its index lies where Table 6.3 lets it: the tail from the
last one up to a ring's size beyond done, cpl_head from the last one up to done; another value stops the queue and is recorded.  A
write of another width, a foreign one and one during a reset of its function change no queue (06 R203 to R205, 22 R749, R764).
(2) A Treadle fetches the next entry of a queue that is enabled, not stopped, not fenced and at most three entries ahead; one that
breaks Table 6.4 completes with MALFORMED without running, and one with a failed CRC or a length out of range stops its queue too (06
R200, R202, R206, R237).  Stated for an empty list of fetched entries.
Where the spec leaves a point open it rests on the model's choices: log 36, 37, 38. -/
def Obligations.DoorbellsAndEntries : Prop :=
  (∀ (s : State) (fn : BitVec 6) (qn : BitVec 10) (width : Nat) (value : Word32), calm s →
     let f := fn.toNat
     let q := qn.toNat
     let d := getQ s q
     let v := value.toNat
     let own := q ≠ 1023 ∧ d.valid = true ∧ d.fn = f
     let tailOk := idxSub d.tail d.done ≤ idxSub v d.done ∧ idxSub v d.done ≤ 2 ^ d.cmdLog2
     let headOk := idxSub d.done v ≤ idxSub d.done d.cplHead
     let stopped : State → Prop := fun t => (getQ t q) = { d with stopped := true } ∧ (∀ k, k ≠ q → getQ t k = getQ s k) ∧
       inPipeline t 0xD020 2 ∧ t = { s with queues := t.queues, trd := t.trd, rcd := t.rcd, err := t.err }
     ∀ i ∈ [Instr.commandDoorbell fn qn width value, .completionDoorbell fn qn width value],
       (barOk s f = false → exec i s = .next s) ∧
       (barOk s f = true → width ≠ 32 → ∃ t, exec i s = .next t ∧
         recorded { s with pci := { s.pci with cntWidth := satAdd 65535 s.pci.cntWidth 1 } } t 0xC015 1 0x0A f) ∧
       (barOk s f = true → width = 32 → (getF s f).inReset = true →
         exec i s = .next { s with pci := { s.pci with cntFor := satAdd 65535 s.pci.cntFor 1 } }) ∧
       (barOk s f = true → width = 32 → (getF s f).inReset = false → ¬ own → ∃ t, exec i s = .next t ∧
         accepted { s with pci := { s.pci with cntFor := satAdd 65535 s.pci.cntFor 1 } } t 0xC016 2) ∧
       (barOk s f = true → width = 32 → (getF s f).inReset = false → own →
         (tailOk → exec (.commandDoorbell fn qn width value) s = .next (putQ s q { d with tail := v })) ∧
         (headOk → exec (.completionDoorbell fn qn width value) s = .next (putQ s q { d with cplHead := v })) ∧
         (¬ tailOk → d.enabled = true → ∃ t, exec (.commandDoorbell fn qn width value) s = .next t ∧ stopped t) ∧
         (¬ headOk → d.enabled = true → ∃ t, exec (.completionDoorbell fn qn width value) s = .next t ∧ stopped t))) ∧
  (∀ (s : State) (qn : BitVec 10) (env : Env) (b : List Byte),
     let q := qn.toNat
     let d := getQ s q
     let e := parseEntry b
     let got := { d with fetch := (d.fetch + 1) % 0x100000000 }
     (d.enabled = false ∨ d.stopped = true ∨ d.fetch = d.tail ∨ 4 ≤ idxSub d.fetch d.done ∨ isFenced s d.ctx = true →
       exec (.entryFetch qn env) s = .next s) ∧
     (q ≠ 1023 → d.valid = true → d.enabled = true → d.stopped = false → serves s q = true → isFenced s d.ctx = false →
       idxSub d.fetch d.done < 4 → d.fetch ≠ d.tail → s.pci.up = true → d.entries = [] → d.running = none → d.pendRec = none → ctxGone s d = false →
       queueRead d 4 2 (d.cmdBase.toNat + 64 * (d.fetch % 2 ^ d.cmdLog2)) 64 env [] s = (.ok b, s) →
       (e.bad = 0 → exec (.entryFetch qn env) s = .next (putQ s q { got with entries := [e] })) ∧
       (e.bad ≠ 0 → e.stops = false → exec (.entryFetch qn env) s =
         .next (jot (putQ s q { got with pendRec := some (CplRec.unrun s e 0x0002) }))) ∧
       (e.bad ≠ 0 → e.stops = true → ringOff s → ringOpen s →
         ∃ t, exec (.entryFetch qn env) s = .next t ∧ getQ t q = { got with pendRec := some (CplRec.unrun s e 0x0002), stopped := true } ∧
           (∀ k, k ≠ q → getQ t k = getQ s k) ∧ lastRecord t 0xD021 2 0x11 q ∧ t.mem = s.mem ∧ t.progs = s.progs)))

/-- (1) A fetched program takes a free slot with its four arguments in h1 to h4, every other register zero, its index at 0, no staged
setting and, for a tenant, the queue's context selected; slots 0 to 7 take no tenant program, and a queue whose completion ring is full
starts none (06 R206, R207, R214, R217, 07 R242, R243).
(2) A program whose running time is spent ends with BUDGET_EXCEEDED at the instruction it is at; one that waits does not (06 R215, 07
R277).
(3) A completion record that waits is written into the next slot of its ring, 32 bytes with the phase of the ring's pass, and done
goes on by one; a full ring and a queue that holds its record keep it (06 R201, R207 to R209, Table 6.5).  Stated for a host ring that
can be reached, without a vector, a stop, a control or a reset behind the record.
Where the spec leaves a point open it rests on the model's choices: log 35, 124, 125. -/
def Obligations.ProgramsStartAndComplete : Prop :=
  (∀ (s : State) (slot : BitVec 6) (qn : BitVec 10) (e : CmdEntry) (rest : List CmdEntry),
     let q := qn.toNat
     let d := getQ s q
     let priv := if q = 1023 ∨ s.trd.grants.contains q then 2 else d.priv
     d.entries = e :: rest →
     (d.valid = false ∨ d.enabled = false ∨ d.stopped = true ∨ d.running ≠ none ∨ (getP s slot.toNat) ≠ none ∨
         (slot.toNat < 8 ∧ priv = 0) ∨ (q ≠ 1023 ∧ 2 ^ d.cplLog2 ≤ idxSub d.done d.cplHead) → exec (.programStart slot qn) s = .next s) ∧
     (d.valid = true → d.enabled = true → d.stopped = false → serves s q = true → isFenced s d.ctx = false → ctxGone s d = false →
       d.running = none → d.pendRec = none → e.bad = 0 → getP s slot.toNat = none → (slot.toNat < 8 → priv ≠ 0) →
       (q = 1023 ∨ idxSub d.done d.cplHead < 2 ^ d.cplLog2) →
       ∃ t p, exec (.programStart slot qn) s = .next t ∧ getP t slot.toNat = some p ∧ p.queue = q ∧ p.priv = priv ∧ p.index = 0 ∧
         p.words = e.progLen / 8 ∧ p.retired = 0 ∧ p.staged = [] ∧ p.wait = .none ∧ p.tag = e.tag ∧
         p.sel = (if priv = 0 then d.ctx else 0xFFFF) ∧
         (∀ n : BitVec 5, p.reg n = if 1 ≤ n.toNat ∧ n.toNat ≤ 4 then e.args.getD (n.toNat - 1) 0 else 0) ∧
         getQ t q = { d with entries := rest, running := some slot.toNat } ∧ (∀ k, k ≠ q → getQ t k = getQ s k) ∧
         (∀ n, n ≠ slot.toNat → getP t n = getP s n) ∧
         t = { s with progs := t.progs, queues := t.queues, trd := t.trd, rst := t.rst })) ∧
  (∀ (s : State) (slot : BitVec 6) (p : Prog),
     (issues s slot p → exec (.programBudget slot) s = .next (ended s slot p 0x0009)) ∧
     (getP s slot.toNat = some p → p.wait ≠ .none → exec (.programBudget slot) s = .next s)) ∧
  (∀ (s : State) (qn : BitVec 10) (r : CplRec),
     let q := qn.toNat
     let d := getQ s q
     let addr := d.cplBase.toNat + 32 * (d.done % 2 ^ d.cplLog2)
     d.pendRec = some r → q ≠ 1023 →
     (d.held = true ∨ 2 ^ d.cplLog2 ≤ idxSub d.done d.cplHead → exec (.completionRecordIssue qn) s = .next s) ∧
     (d.valid = true → s.trd.owner = true → d.held = false → idxSub d.done d.cplHead < 2 ^ d.cplLog2 → d.priv ≠ 0 → d.devMem = false →
       hostOk s d.fn = true → (r.irq = false ∨ d.msix = 0xFFFF) → (r.stopOn = false ∨ r.status = 0) → d.ctlAfter = none → r.reset = none →
       d.entries = [] → d.ctx = 0xFFFF → (∀ c, (getC s c).step.isOpen = false) →
       ∃ ph, ph = (d.done / 2 ^ d.cplLog2 + 1) % 2 ∧
         exec (.completionRecordIssue qn) s = .next { putQ s q { d with pendRec := none, done := (d.done + 1) % 0x100000000 } with
           out := .hostWrite d.fn addr (leBytes 4 r.tag.toNat ++ leBytes 2 r.status ++ leBytes 2 q ++ leBytes 8 r.gtcEnd ++
             leBytes 8 r.result.toNat ++ leBytes 4 r.retired.toNat ++ leBytes 2 r.faultAt ++
             leBytes 1 (ph + (if r.cold then 2 else 0) + (if r.commit then 4 else 0)) ++ leBytes 1 0) d.cplClass false :: s.out }))

/-! ### The Treadles -/

/-- (1) A fault of the active Treadle takes the device from it: with a HOT standby a hot takeover follows, with a SYNCING one a cold one;
without a standby, or with a fault of the standby in a takeover, the chip is reset.  A faulty standby is lost: after three failed
attempts it is FAILED (06 R194, R195, R218, R221, R222, R226, R234).  Stated for at most one takeover in the hour before.
(2) A recovery test that passes starts the full-state copy, SYNCING; one that fails is recorded and counted; a copy that matches makes
the standby HOT, and one that does not starts again (06 R219, R220, R226).  TREADLE_CHECKPOINT forms the checkpoint record, which waits
for its region as the latest (06 R225).
(3) A takeover ends with the other Treadle active and the device its own, no standby, and one failover more.  Hot: the programs in
flight end with TREADLE_FAILOVER at their instruction.  Cold: no program is left, grants and the key selection are gone, and every
setting image is the live value (06 R221 to R224, R228, Tables 6.9 to 6.11).  Stated with no fuse program and no reset in progress, and
cold with no checkpoint and no queue but 1023.
Where the spec leaves a point open it rests on the model's choices: log 16, 33, 34. -/
def Obligations.TreadlesTakeOver : Prop :=
  (∀ (s : State) (t : Treadle), calm s → s.phase = .run → s.trd.owner = true → s.trd.takeover = 0 →
     let isB := decide (t = .b)
     let recent := s.trd.takeovers.filter (fun x => decide (s.aon < x + 3600000000000))
     let lost : State := { s with trd := { s.trd with owner := false, takeover := if s.trd.standby = 2 then 1 else 2,
                                                      takeovers := s.aon :: recent } }
     let src := if t = .b then 1 else 0
     (isB = s.trd.activeB → (s.trd.standby = 1 ∨ s.trd.standby = 2) → recent.length < 2 →
       (∃ u, exec (.trdLockstepMismatch t) s = .next u ∧ recorded lost u 0xD005 4 0x0B src) ∧
       (∃ u, exec (.trdHeartbeatLost t) s = .next u ∧ recorded lost u 0xD006 4 0x0B src) ∧
       exec (.treadleMemoryUe t) s = .next lost) ∧
     (isB ≠ s.trd.activeB → s.trd.standby = 2 → s.trd.attempts < 3 →
       ∀ i ∈ [Instr.trdLockstepMismatch t, .trdHeartbeatLost t, .treadleMemoryUe t, .standbyLost],
         ∃ u, exec i s = .next u ∧ inPipeline u 0xD003 2 ∧ u.trd = { s.trd with standby := 0 } ∧
           u = { s with trd := u.trd, rcd := u.rcd, err := u.err, chn := u.chn }) ∧
     (s.trd.standby = 1 → ∃ u, exec .standbyLost s = .next u ∧ inPipeline u 0xD003 2 ∧
       u.trd.standby = (if 2 ≤ s.trd.attempts then 3 else 0) ∧ u.trd.attempts = Nat.min 3 (s.trd.attempts + 1) ∧
       u = { s with trd := u.trd, rcd := u.rcd, err := u.err }) ∧
     (s.trd.standby = 0 ∨ s.trd.standby = 3 → exec .standbyLost s = .next s)) ∧
  (∀ (s : State), ringOff s → ringOpen s → s.phase = .run → s.trd.owner = true →
     (s.trd.standby = 0 →
       exec (.treadleRecoveryTestEnd true) s = .next { s with trd := { s.trd with standby := 1 } } ∧
       (s.trd.attempts < 2 → ∃ t, exec (.treadleRecoveryTestEnd false) s = .next t ∧
         recorded { s with trd := { s.trd with attempts := s.trd.attempts + 1 } } t 0xD007 2 0x0B (if s.trd.activeB then 1 else 0)) ∧
       (s.trd.attempts = 2 → ∃ t, exec (.treadleRecoveryTestEnd false) s = .next t ∧ t.trd.standby = 3 ∧
         (if s.trd.activeB then t.trd.aFailed = true else t.trd.bFailed = true))) ∧
     (s.trd.standby = 1 →
       exec (.standbyHot false) s = .next s ∧
       ∃ t, exec (.standbyHot true) s = .next t ∧
         recorded { s with trd := { s.trd with standby := 2 } } t 0xD004 0 0x0B (if s.trd.activeB then 1 else 0)) ∧
     (∃ t r, exec .treadleCheckpoint s = .next t ∧ t.rcd = { s.rcd with seq := (s.rcd.seq + 1) % 65536, ckptWait := some r } ∧
       r.code = 0xD010 ∧ r.sev = 0 ∧ r.seq = s.rcd.seq ∧ bytesAt r.payload 0 8 = s.trd.commitSeq.toNat ∧
       t = { s with rcd := t.rcd, err := { s.err with direct := t.err.direct }, chn := { s.chn with dropped := t.chn.dropped } })) ∧
  (∀ (s : State) (k : Nat) (p : Prog), calm s → s.trd.owner = false → s.fuses.prog = [] → s.rst.runs = [] → s.pci.q0Wait = none →
     let now : Nat → Trd := fun kind =>
       { s.trd with activeB := !s.trd.activeB, owner := true, takeover := 0, standby := 0, lastKind := kind,
                    failovers := Nat.min 255 (s.trd.failovers + 1), tokenQ := [] }
     let src := if s.trd.activeB then 0 else 1
     (s.trd.takeover = 0 → exec .takeoverComplete s = .next s) ∧
     (s.trd.takeover = 1 → s.progs = [] → ∃ t, exec .takeoverComplete s = .next t ∧ t.trd = now 1 ∧ lastRecord t 0xD001 5 0x0B src ∧
       t.sets = s.sets ∧ t.mem = s.mem ∧ t.queues = s.queues) ∧
     (s.trd.takeover = 1 → s.progs = [(k, p)] → p.queue ≠ 1023 →
       2 ^ (getQ s p.queue).cplLog2 ≤ idxSub (getQ s p.queue).done (getQ s p.queue).cplHead →
       ∃ t r, exec .takeoverComplete s = .next t ∧ getP t k = none ∧ (getQ t p.queue).pendRec = some r ∧ r.status = 0x000A ∧ r.tag = p.tag ∧
         r.faultAt = p.index ∧ t.trd = now 1 ∧ t.sets = s.sets ∧ t.mem = s.mem) ∧
     (s.trd.takeover = 2 → s.queues = [(1023, getQ s 1023)] → s.chn.ids = [] → s.rcd.ckptWait = none → s.rcd.ckpts = [] →
       ∃ t, exec .takeoverComplete s = .next t ∧ t.progs = [] ∧ t.trd = { now 2 with grants := [], bkey := 0 } ∧
         lastRecord t 0xD002 5 0x0B src ∧ (∀ e ∈ t.sets.regs, e.2.image = e.2.val) ∧ (∀ n, n < 512 → (getB t n).defer = 16) ∧ t.mem = s.mem))

/-! ### Power -/

/-- (1) VAUX33 rising starts the always-on logic: the straps are sampled, the clocks are 0, power-on seconds resume 60 above the stored
value, the fuses and the nonvolatile log are as they were and the keep-alive phase begins; a reserved profile holds the device with
STRAP_INVALID.  VAUX33 lost: everything volatile is gone, the ring with it, and a power cycle is marked (03 R94, R126, 02 R62, R79, 20
R682).
(2) The keep-alive phase ends, and the device waits for PWR_EN: a block that failed in it is recorded and kept, the timebase among them where
it had no reference; a service log that cannot be read sets OUT_OF_SERVICE.  PWR_EN asserted with the rails in range starts the power-up: the FULL test from Phase 1, or the wait while the
device is hot; with a failed keep-alive block the device stays in reset.  The rails coming into range, and the end of the wait, do the
same (03 R94, R95, 02 R80, R82, 04 R145, 05 R170, R173, 16 R575).
(3) PWR_EN deasserted powers the device down into KEEP-ALIVE: contexts, programs and memory are gone, only the keep-alive domains stay ON,
and POWER_DOWN is recorded; in the thermal wait it ends the wait, in keep-alive it is only noted (03 R99, Table 3.7).  VIN12 lost
powers down without a record and keeps the ring (03 R101).  Stated for a device in which no context is left.
Where the spec leaves a point open it rests on the model's choices: log 41, 55, 130. -/
def Obligations.AlwaysOnPowerUpAndPowerDown : Prop :=
  (∀ (s : State) (straps : Straps) (tbRef : Bool),
     (s.phase ≠ .off → exec (.vaux33Rise straps tbRef) s = .next s) ∧
     (s.phase = .off → ∃ t, exec (.vaux33Rise straps tbRef) s = .next t ∧ t.straps = straps ∧ t.gtc = 0 ∧ t.aon = 0 ∧
       t.rcd.posBase = s.rcd.ctrStored + 60 ∧ t.rcd.log = s.rcd.log ∧ t.fuses = { s.fuses with prog := [] } ∧ t.sets = State.reset.sets ∧
       t.bist.kaFailed = (if tbRef then 0 else 8) ∧ t.ctxs = [] ∧ t.progs = [] ∧ t.pending = s.pending ∧ (∀ a, memGet t a = 0) ∧
       (∀ d, d ≤ 1120 → domState t d = if d = 1100 ∨ 1117 ≤ d then 1 else 0) ∧
       (straps.profile.toNat < 2 → t.phase = .kaTest ∧ t.rcd.ring = []) ∧
       (2 ≤ straps.profile.toNat → t.phase = .strapBad ∧ lastRecord t 0xE021 5 0x0F 0xFFFF)) ∧
     (s.phase = .off → exec .vaux33Loss s = .next s) ∧
     (s.phase ≠ .off → s.rcd.op = none → ∃ t, exec .vaux33Loss s = .next t ∧ t.phase = .off ∧ t.pwr.vaux33 = false ∧ t.rcd.ring = [] ∧
       t.rcd.pcMarked = true ∧ t.rcd.log = s.rcd.log ∧ t.ctxs = [] ∧ t.progs = [] ∧ t.slots = [] ∧ t.sets = State.reset.sets ∧
       t.fuses = s.fuses ∧ (∀ a, memGet t a = 0) ∧ (∀ d, d ≤ 1120 → domState t d = 0) ∧ t.pending = s.pending)) ∧
  (∀ (s : State), ringOff s → ringOpen s →
     (s.phase ≠ .kaTest → ∀ fails nv, exec (.keepAliveReached fails nv) s = .next s) ∧
     (s.phase = .kaTest → s.pwr.pwrEn = false → s.bist.failed = [] →
       let up : State := { s with phase := .keepAlive, trd := { s.trd with aFailed := false },
                                  bist := { s.bist with kaFailed := 0, secret := !s.bist.senseOff } }
       let lost : State → Nat → BitVec 7 → Prop := fun t d bit => t.phase = .keepAlive ∧ t.bist.failed = [d] ∧ t.bist.kaFailed = bit ∧
         t.bist.firstFail = d ∧ lastRecord t 0xE002 4 0x0F d ∧ t.sets = s.sets ∧ t.pwr = s.pwr
       (s.bist.kaFailed = 0 → exec (.keepAliveReached [] true) s = .next up ∧
         (pipelineEmpty s → ∃ t, exec (.keepAliveReached [] false) s = .next t ∧
           accepted { up with rst := { up.rst with oos := true } } t 0xA030 2)) ∧
       (s.bist.kaFailed = 8 → ∃ t, exec (.keepAliveReached [] true) s = .next t ∧ lost t 1118 8) ∧
       (s.bist.kaFailed = 0 → ∀ (d : Nat) (o x : Word64), d = 1100 ∨ d = 1117 ∨ d = 1118 ∨ d = 1119 ∨ d = 1120 →
         ∃ t, exec (.keepAliveReached [⟨d, .signature o x⟩] true) s = .next t ∧ t.bist.obsSig = o ∧ t.bist.expSig = x ∧
           lost t d (if d = 1100 then 1 else if d = 1118 then 8 else if d = 1119 then 16 else if d = 1117 then 32 else 64))) ∧
     (∀ i, (i = .pwrEnAssert true ∧ s.pwr.pwrEn = false ∧ s.phase = .keepAlive) ∨ (i = .railsInRange ∧ s.pwr.pwrEn = true ∧ s.phase = .keepAlive) ∨
         (i = .thermalWaitEnd ∧ s.pwr.pwrEn = true ∧ s.pwr.railsOk = true ∧ s.phase = .thermWait) → s.pwr.warnBlock = false →
       (thermalClear s = false → ∃ t, exec i s = .next t ∧ t.phase = .thermWait ∧ t = { s with phase := t.phase, pwr := t.pwr }) ∧
       (thermalClear s = true → s.bist.kaFailed = 0 → ∃ t, exec i s = .next t ∧ t.phase = .test ∧ t.bist.depth = 1 ∧ t.bist.phase = 1 ∧
         t.pwr.pwrGood = true ∧ lastRecord t 0x1001 0 0x00 0xFFFF ∧
         t.rcd.pcc = (if s.rcd.pcMarked then Nat.min 0xFFFFFF (s.rcd.pcc + 1) else s.rcd.pcc) ∧ t.rcd.pcMarked = false) ∧
       (thermalClear s = true → s.bist.kaFailed ≠ 0 → ∃ t, exec i s = .next t ∧ t.phase = .stay ∧ t.bist.essential = s.bist.kaFailed ∧
         lastRecord t 0xE004 5 0x0F 0xFFFF)) ∧
     (s.phase = .off ∨ s.pwr.pwrEn = true → exec (.pwrEnAssert true) s = .next s) ∧
     (s.phase ≠ .thermWait → exec .thermalWaitEnd s = .next s)) ∧
  (∀ (s : State), s.pwr.pwrEn = true →
     let low : State → Prop := fun t => t.phase = .keepAlive ∧ t.pwr.pwrGood = false ∧ t.ctxs = [] ∧ t.progs = [] ∧ t.slots = [] ∧
       (∀ a, memGet t a = 0) ∧ (∀ d, d ≤ 1120 → domState t d = if d = 1100 ∨ 1117 ≤ d then 1 else 0) ∧
       (∀ q, q ≠ 1023 → (getQ t q).valid = false) ∧ (getQ t 1023).enabled = true ∧ t.fuses = s.fuses ∧ t.sets = s.sets
     let main := s.phase ∈ [Phase.run, .reset, .test, .stay, .oosHold, .pcHeld]
     (main → ringOff s → ringOpen s → liveCtxs s = [] → s.esp.bound = none →
       ∃ t, exec .pwrEnDeassert s = .next t ∧ low t ∧ t.pwr.pwrEn = false ∧ lastRecord t 0x1002 0 0x00 0xFFFF ∧
         t.rcd.ctrStored = powerOnSec s) ∧
     (s.phase = .thermWait → exec .pwrEnDeassert s = .next { s with phase := .keepAlive, pwr := { s.pwr with pwrEn := false } }) ∧
     (s.phase ∈ [Phase.kaTest, .keepAlive, .latched, .scan, .strapBad] →
       exec .pwrEnDeassert s = .next { s with pwr := { s.pwr with pwrEn := false } }) ∧
     (s.phase = .off → exec .pwrEnDeassert s = .next s) ∧
     (main ∨ s.phase = .scan → ∃ t, exec .vin12Loss s = .next t ∧ low t ∧ t.pwr.vin12 = false ∧ t.rcd = s.rcd ∧ t.smb.vinUv = true))

/-- (1) A power warning stops issue: every open command of an axis is withdrawn, power-on seconds are stored, and the drain turns to the
warning's record and the two oldest of the highest severity; VIN12 undervoltage does the same under its own code and is latched for the
SMBus.  In the thermal wait a warning ends the power-up, in keep-alive it is only recorded (03 R100, R119, R122, Table 3.8, 20 R691).
When it clears, issue resumes and the axes reopen (03 R102).  Stated for an unbound Espalier.
(2) VIN12 below range for 10 ms marks a power cycle and clears the shutdown latch (20 R683, 04 R144).  A rail fault takes PWR_GOOD low: an
island's takes its group's eight clusters OFF and out of service, Espalier's its domain OFF, and any other is an error whose handling
resets the chip (03 R121).
(3) The cap meter keeps the last 100 samples; above a limit the cap target goes down by 5 mV to no less than 550 mV, then duty gating
applies and is recorded, then the cap is exceeded; below every limit gating ends and the target goes up again, to no more than 900 mV
(03 R105, R106, R124).
Where the spec leaves a point open it rests on the model's choices: log 21, 24. -/
def Obligations.PowerEventsLimitIssue : Prop :=
  (∀ (s : State), ringOff s → ringOpen s → s.esp.bound = none →
     let top := s.rcd.ring.foldl (fun m r => Nat.max m r.body.sev) 0
     let two := ((s.rcd.ring.filter (fun r => r.body.sev == top)).take 2).map (·.body)
     let held : State → Nat → Prop := fun t code => t.pwr.warn = true ∧ lastRecord t code 2 0x00 0xFFFF ∧
       (∀ a, (Tbl.get Axis.init t.axes a).cmd = false) ∧ (∃ r, t.rcd.warnDrain = r :: two ∧ r.code = code) ∧
       t.rcd.ctrStored = powerOnSec s ∧ t.phase = s.phase ∧ t.mem = s.mem ∧ t.ctxs = s.ctxs ∧ t.sets = s.sets
     let main := s.phase ∈ [Phase.run, .reset, .stay, .oosHold, .pcHeld, .scan]
     (s.pwr.warn = true ∨ s.phase = .off → exec .pwrWarn s = .next s) ∧
     (s.pwr.warn = false → main → ∃ t, exec .pwrWarn s = .next t ∧ held t 0x1010) ∧
     (s.pwr.warn = false → s.phase = .thermWait →
       exec .pwrWarn s = .next { s with phase := .keepAlive, pwr := { s.pwr with warn := true, warnBlock := true } }) ∧
     (s.pwr.warn = false → s.phase = .keepAlive → ∃ t, exec .pwrWarn s = .next t ∧
       recorded { s with pwr := { s.pwr with warn := true } } t 0x1010 2 0x00 0xFFFF) ∧
     (s.pwr.pwrEn = true → s.phase ≠ .off → s.pwr.warn = true →
       exec .vin12Undervoltage s = .next { s with smb := { s.smb with vinUv := true, inUv := true } }) ∧
     (s.pwr.pwrEn = true → s.pwr.warn = false → main →
       ∃ t, exec .vin12Undervoltage s = .next t ∧ held t 0x1021 ∧ t.smb.vinUv = true ∧ t.smb.inUv = true) ∧
     (s.pwr.warn = false ∨ s.phase = .off → exec .pwrWarnCleared s = .next s) ∧
     (s.pwr.warn = true → s.phase = .run → s.bist.failed = [] →
       (∀ a, a < 3 → (Tbl.get Axis.init s.axes a).failed = false ∧ (Tbl.get Axis.init s.axes a).openFail = false ∧
         (Tbl.get Axis.init s.axes a).closeFail = false) →
       ∃ t, exec .pwrWarnCleared s = .next t ∧ t.pwr.warn = false ∧ t.rcd.warnDrain = [] ∧ lastRecord t 0x1011 0 0x00 0xFFFF ∧
         (∀ a, a < 3 → axisState t a = 0) ∧ t.mem = s.mem ∧ t.ctxs = s.ctxs)) ∧
  (∀ (s : State), 
     (s.phase ≠ .off → s.pwr.vin12 = false → exec .powerCycleMark s =
       .next { s with rcd := { s.rcd with pcMarked := true }, phase := if s.phase = .latched then .keepAlive else s.phase }) ∧
     (s.phase = .off ∨ s.pwr.vin12 = true → exec .powerCycleMark s = .next s) ∧
     (s.pwr.pwrGood = false → ∀ r, exec (.railFault r) s = .next s) ∧
     (s.pwr.pwrGood = true → calm s →
       let low : State := { s with pwr := { s.pwr with pwrGood := false } }
       (∀ r ∈ [Rail.vunc, .vtrd, .vphy, .vsp, .hbm], ∃ t, exec (.railFault r) s = .next t ∧ accepted low t 0x1020 5) ∧
       (s.esp.bound = none → ∃ t, exec (.railFault .vesp) s = .next t ∧ accepted (putDom low 1102 0) t 0x1020 4) ∧
       (∀ g, g < 64 → s.rcd.ring.length < 16000 → ∃ t, exec (.railFault (.group g)) s = .next t ∧ inPipeline t 0x1020 4 ∧ t.pwr.pwrGood = false ∧
         (∀ i, i < 8 → domState t (8 * g + i) ≠ 1 ∧ 2 ≤ clState t (8 * g + i)) ∧ t.mem = s.mem))) ∧
  (∀ (s : State) (mV mA : Nat), s.pwr.pwrGood = true → calm s →
     let m := (mV * mA / 1000 :: s.pwr.meter).take 100
     let cap := (liveVal s 1 0x20 0).toNat * 1000
     let avg : Nat → Nat := fun n => (m.take n).foldl (· + ·) 0 / n
     let hot := avg 100 > cap ∨ avg 10 * 10 > cap * 11 ∨ avg 2 * 4 > s.fuses.gradeW * 1000 * 5
     let now : State := { s with pwr := { s.pwr with meter := m, iin := mA } }
     (hot → 550 < s.pwr.capTarget → exec (.capMeterSample mV mA) s =
       .next { now with pwr := { now.pwr with capTarget := Nat.max 550 (s.pwr.capTarget - 5) } }) ∧
     (hot → s.pwr.capTarget ≤ 550 → s.pwr.gating = false → ∃ t, exec (.capMeterSample mV mA) s = .next t ∧
       lastRecord t 0x1030 0 0x00 0xFFFF ∧ t.pwr = { now.pwr with gating := true } ∧
       (∀ e ∈ t.ctxs, e.2.energy.gated = true) ∧ t.mem = s.mem ∧ t.sets = s.sets) ∧
     (hot → s.pwr.capTarget ≤ 550 → s.pwr.gating = true → s.pwr.exceeded = false → ∃ t, exec (.capMeterSample mV mA) s = .next t ∧
       accepted { now with pwr := { now.pwr with exceeded := true } } t 0x1031 2) ∧
     (hot → s.pwr.capTarget ≤ 550 → s.pwr.gating = true → s.pwr.exceeded = true → exec (.capMeterSample mV mA) s = .next now) ∧
     (¬ hot → exec (.capMeterSample mV mA) s =
       .next { now with pwr := { now.pwr with gating := false, exceeded := false, capTarget := Nat.min 900 (s.pwr.capTarget + 5) } }))

/-- (1) A commanded domain reaches its state and the program that waits for it goes on with 0; an array switched OFF loses its scratchpads;
no more than 8 cluster domains come ON within 50 µs, and a cluster whose test fails is boot-coppiced.  A domain that fails is FAILED,
an error of severity 5 for an essential block, else 4 (03 R93, R123, Table 3.4, 05 R159, R176).
(2) The requested change of the power state completes: SINGLE-CLUSTER keeps one cluster with its array, its router tile, its Shuttle and the
essential domains, and loses HBM contents unless they are kept; the return to FULL has every domain ON but coppiced clusters, those behind
a failed router tile, failed
domains and Espalier's (03 R109 to R111, Table 3.9).
(3) A natural idle of a group, and the end of its forced quiet window, calibrate it: its stale mark clears with ESTIMATE_FRESH.  A window
goes to the next group in rotation that has had no calibration and no window for 10 s, one at a time; a group in twin mode or in a pair is
refused.  A group without a calibration for 120 s is stale (03 R115 to R118).
(4) A bypass switch that fails to open leaves its axis closed until the next chip reset; one that fails to close holds FAULT_L low; an
axis in EXTEST is open for the duration of the test (02 R77, R84, R85).
Where the spec leaves a point open it rests on the model's choices: log 13, 20, 122. -/
def Obligations.DomainsAndPowerStates : Prop :=
  (∀ (s : State) (d v : Nat), s.pwr.domTarget.find? (fun e => e.1 == d) = some (d, v) → d ≠ 1102 →
     let recent := s.pwr.onTimes.filter (fun x => decide (s.aon < x + 50000))
     let there : State := { putDom s d v with pwr := { (putDom s d v).pwr with domTarget := Tbl.del s.pwr.domTarget d } }
     let plain := ¬ (512 ≤ d ∧ d < 1024 ∧ v = 0)
     (¬ (d < 512 ∧ v = 1) → plain → s.progs = [] → exec (.domainSwitchComplete d true) s = .next there) ∧
     (¬ (d < 512 ∧ v = 1) → plain → ∀ (k : Nat) (p : Prog) (rd : BitVec 5), k < 64 → s.progs = [(k, p)] → p.wait = .domain d v rd.toNat → hasNext p →
       exec (.domainSwitchComplete d true) s = .next (putP there k (onward (wrote { p with wait := .none } rd 0)))) ∧
     (512 ≤ d → d < 1024 → v = 0 → s.progs = [] → ∃ t, exec (.domainSwitchComplete d true) s = .next t ∧ domState t d = 0 ∧
       (∀ e ∈ s.slots, e.2.host = d - 512 → ∀ a, padBase 0 e.1 ≤ a → a < padBase 0 e.1 + 0x100000 → memGet t a = 0 ∧ isPoison t a = false) ∧
       (∀ a, a < hbmSize → memGet t a = memGet s a) ∧ t = { there with mem := t.mem }) ∧
     (d < 512 → v = 1 → 8 ≤ recent.length → ∀ ok, exec (.domainSwitchComplete d ok) s = .next s) ∧
     (d < 512 → v = 1 → recent.length < 8 → s.progs = [] →
       (exec (.domainSwitchComplete d true) s = .next { there with pwr := { there.pwr with onTimes := s.aon :: recent } }) ∧
       (ringOff s → ringOpen s → ∃ t, exec (.domainSwitchComplete d false) s = .next t ∧ domState t d = 3 ∧ d ∈ t.bist.bootCop ∧
         d ∈ t.bist.excluded ∧ lastRecord t 0xE002 4 0x0F d)) ∧
     (1024 ≤ d → s.progs = [] → calm s → ∃ t, exec (.domainSwitchFail d) s = .next t ∧
       accepted { putDom s d 3 with pwr := { (putDom s d 3).pwr with domTarget := Tbl.del s.pwr.domTarget d } } t 0x1050
         (if d = 1100 ∨ d = 1101 ∨ (1116 ≤ d ∧ d ≤ 1120) then 5 else 4)) ∧
     (d < 512 → s.progs = [] → calm s → ∃ t, exec (.domainSwitchFail d) s = .next t ∧ inPipeline t 0x1050 4 ∧ domState t d = 3 ∧ 2 ≤ clState t d)) ∧
  (∀ (s : State) (r : Nat), ringOff s → ringOpen s →
     (s.pwr.changing = none → exec .stateChange s = .next s) ∧
     (s.pwr.changing = some r → r % 4 = 3 →
       ∃ t, exec .stateChange s = .next t ∧ t.pwr.single = true ∧ t.pwr.changing = none ∧ lastRecord t 0x1060 0 0x00 0xFFFF ∧
         (∀ d, d ≤ 1120 → domState s d ≠ 3 → domState t d =
           if d = r / 128 % 512 ∨ d = 512 + r / 128 % 512 ∨ d = 1024 + r / 128 % 512 / 8 ∨ d = 1100 ∨ d = 1103 + r / 4 % 16 ∨ 1116 ≤ d then 1
           else 0) ∧
         (∀ a, (Tbl.get Axis.init t.axes a).cmd = false) ∧ (r / 64 % 2 = 1 → t.mem = s.mem) ∧
         (r / 64 % 2 = 0 → (∀ a, a < hbmSize → memGet t a = 0) ∧ ∀ a, hbmSize ≤ a → memGet t a = memGet s a) ∧ t.ctxs = s.ctxs) ∧
     (s.pwr.changing = some r → r % 4 ≠ 3 → s.rcd.ring.length < 16000 → Tbl.rising s.pwr.domains = true →
       ∃ t, exec .stateChange s = .next t ∧ t.pwr.single = false ∧ t.pwr.changing = none ∧ lastRecord t 0x1060 0 0x00 0xFFFF ∧
         (∀ d, d < 1024 → domState t d = if domState s d = 3 then 3 else
           if d % 512 ∈ s.fuses.coppice ∨ d % 512 ∈ s.bist.bootCop ∨ domState s (1024 + d % 512 / 8) = 3 then 0 else 1) ∧
         (∀ d, 1024 ≤ d → d ≠ 1102 → domState t d = if domState s d = 3 then 3 else 1) ∧ t.mem = s.mem ∧ t.ctxs = s.ctxs)) ∧
  (∀ (s : State) (g : BitVec 6), ringOff s → ringOpen s →
     let n := g.toNat
     let cal : State → State := fun u => { u with pwr := { u.pwr with calib := Tbl.put u.pwr.calib n u.aon } }
     let fresh : State → Instr → Prop := fun u i =>
       (n ∉ s.pwr.stale → exec i s = .next (cal u)) ∧
       (n ∈ s.pwr.stale → ∃ t, exec i s = .next t ∧
         recorded { cal u with pwr := { (cal u).pwr with stale := dropNat s.pwr.stale n } } t 0x1041 0 0x00 (8 * n))
     (s.phase = .run → fresh s (.naturalIdleCalibration g)) ∧ (s.phase ≠ .run → exec (.naturalIdleCalibration g) s = .next s) ∧
     (s.pwr.quiet = none → exec .quietWindowEnd s = .next s) ∧
     (∀ t0, s.pwr.quiet = some (n, t0) → ∃ e : Word64,
       fresh { s with freeCtr := s.freeCtr + 1, pwr := { s.pwr with quiet := none, overheadE := e } } .quietWindowEnd) ∧
     (s.phase = .run → s.pwr.quiet = none → s.pwr.warn = false → s.trd.owner = true →
       let due : Nat → Prop := fun k => Tbl.get 0 s.pwr.calib k + 10000000000 ≤ s.aon ∧
         (Tbl.has s.pwr.forcedAt k = false ∨ Tbl.get 0 s.pwr.forcedAt k + 10000000000 ≤ s.aon)
       let given : Nat → State := fun k =>
         { s with pwr := { s.pwr with rotation := (k + 1) % 64, forcedAt := Tbl.put s.pwr.forcedAt k s.aon } }
       ((∀ k, k < 64 → ¬ due k) → exec .forcedQuietWindow s = .next s) ∧
       (∀ j, j < 64 → (∀ i, i < j → ¬ due ((s.pwr.rotation + i) % 64)) → due ((s.pwr.rotation + j) % 64) →
         let k := (s.pwr.rotation + j) % 64
         (lockstepGroup s k = false → exec .forcedQuietWindow s =
           .next { given k with pwr := { (given k).pwr with quiet := some (k, s.aon) } }) ∧
         (lockstepGroup s k = true → ∃ t, exec .forcedQuietWindow s = .next t ∧ recorded (given k) t 0x1042 0 0x00 (8 * k)))) ∧
     (s.phase ≠ .run ∨ s.pwr.quiet ≠ none ∨ s.pwr.warn = true → exec .forcedQuietWindow s = .next s) ∧
     (s.aon < Tbl.get 0 s.pwr.calib n + 120000000000 ∨ n ∈ s.pwr.stale → exec (.estimateStale g) s = .next s) ∧
     (Tbl.get 0 s.pwr.calib n + 120000000000 ≤ s.aon → n ∉ s.pwr.stale → ∃ t, exec (.estimateStale g) s = .next t ∧
       n ∈ t.pwr.stale ∧ (∀ e ∈ t.ctxs, e.2.energy.stale = true) ∧ lastRecord t 0x1040 0 0x00 (8 * n) ∧ t.mem = s.mem)) ∧
  (∀ (s : State) (axis : BitVec 2),
     let a := axis.toNat
     let x := Tbl.get Axis.init s.axes a
     (a < 3 → exec (.extestEnter axis) s = .next { s with axes := Tbl.put s.axes a { x with extest := true } } ∧
       exec (.extestExit axis) s = .next { s with axes := Tbl.put s.axes a { x with extest := false } }) ∧
     (a < 3 → axisState s a = 0 → calm s → ∃ t, exec (.bypassOpenFail axis) s = .next t ∧ axisState t a = 3 ∧
       accepted { s with axes := Tbl.put s.axes a { x with cmd := false, openFail := true } } t 0x7041 4) ∧
     (axisState s a ≠ 0 → exec (.bypassOpenFail axis) s = .next s) ∧
     (a < 3 → axisState s a ≠ 0 → x.closeFail = false → s.phase ≠ .off → calm s → ∃ t, exec (.bypassCloseFail axis) s = .next t ∧
       faultLow t = true ∧ accepted { s with axes := Tbl.put s.axes a { x with closeFail := true } } t 0x7042 4) ∧
     (axisState s a = 0 → exec (.bypassCloseFail axis) s = .next s))

/-! ### Temperature -/

/-- (1) A measurement enters its sensor, and the island's target follows the throttle law: the full voltage up to t_throttle, the floor from
t_floor on, a straight line between, in steps of 5 mV, raised by no more than 5 mV at a time; a reading outside −40 to 150 °C breaks the
sensor, and then the island goes to its floor (04 R130 to R133, R138 to R140).  Stated for one reading of a group zone whose sensors have
not been read before, so that no rate of rise is known.
(2) A sensor whose conversion does not end, or whose reference check fails, is broken, which is recorded; a zone without a fast condition
for 10 ms goes back to the slow cadence (04 R130, R132, R133).  Stated for the timebase sensor, which has no island.
(3) One vote for shutdown, or one broken voter, is recorded; two enter the shutdown latch: every VIN12 rail is off, no context, program or
byte of memory is left, and THERM_TRIP is recorded.  A vote that goes away is not kept, a broken voter counts until chip reset; a
thermal block fault takes every island to its floor (04 R134, R142, R143, R156, R157).
Where the spec leaves a point open it rests on the model's choices: log 25, 26, 27. -/
def Obligations.TemperaturesSetTargets : Prop :=
  (∀ (s : State) (z n : Nat) (r : BitVec 16), z < 64 → n ∈ zoneSensors z → s.phase ≠ .off → calm s →
     (getSensor s n).broken = false → (∀ m ∈ zoneSensors z, (getSensor s m).hist = [] ∧ (getSensor s m).rorFor = 0) →
     (getZone s z).pre = false → validOf s (zoneSensors 64) ≠ [] →
     let full : Int := (liveVal s 2 0x11 0).toNat
     let lim := (liveVal s 2 0x10 0).toNat
     let tt : Int := 4 * ((lim % 256 : Nat) : Int)
     let tf : Int := 4 * ((lim / 256 % 256 : Nat) : Int)
     let law : Int → Nat := fun t => if t ≤ tt then (full / 5 * 5).toNat else if tf ≤ t then 550
       else ((full * (tf - tt) - (full - 550) * (t - tt)) / (tf - tt) / 5 * 5).toNat
     let follows : State → Nat → Prop := fun t want =>
       thmTarget t z = (if thmTarget s z < want then Nat.min want (thmTarget s z + 5) else want) ∧
       ∀ k, k ≠ z → thmTarget t k = thmTarget s k
     (-160 ≤ r.toInt → r.toInt ≤ 600 → ∃ t, exec (.sensorMeasure z [(n, r)]) s = .next t ∧
       getSensor t n = { getSensor s n with temp := r, outline := 0, hist := [r] } ∧ (∀ m, m ≠ n → getSensor t m = getSensor s m) ∧
       (∀ T, zoneTemp t z = some T → follows t (law T)) ∧ (zoneTemp t z = none → follows t 550) ∧ t.mem = s.mem ∧ t.ctxs = s.ctxs) ∧
     (r.toInt < -160 ∨ 600 < r.toInt → ∃ t, exec (.sensorMeasure z [(n, r)]) s = .next t ∧ (getSensor t n).broken = true ∧
       inPipeline t 0x2020 2 ∧ follows t 550 ∧ (∀ m, m ≠ n → getSensor t m = getSensor s m) ∧ t.mem = s.mem)) ∧
  (∀ (s : State) (z : Nat), 
     (calm s → s.phase ≠ .off → (getSensor s 596).broken = false → validOf s (zoneSensors 64) ≠ [] →
       let x : State := putSensor s 596 { getSensor s 596 with broken := true, rorFor := 0 }
       (∃ t, exec (.sensorConversionTimeout 596) s = .next t ∧ accepted x t 0x2020 2) ∧
       (∃ t, exec (.sensorReferenceCheck 596 false) s = .next t ∧ accepted x t 0x2020 2)) ∧
     (∀ n, exec (.sensorReferenceCheck n true) s = .next s) ∧
     (∀ n, (getSensor s n).broken = true → exec (.sensorConversionTimeout n) s = .next s ∧ exec (.sensorReferenceCheck n false) s = .next s) ∧
     ((getZone s z).fast = true → 10000 ≤ (getZone s z).calm →
       exec (.fastCadenceEnd z) s = .next (putZone s z { getZone s z with fast := false, fastN := 0 })) ∧
     ((getZone s z).fast = false ∨ (getZone s z).calm < 10000 → exec (.fastCadenceEnd z) s = .next s)) ∧
  (∀ (s : State) (v : BitVec 2),
     let n := v.toNat
     let mask : BitVec 3 := 1#3 <<< n
     let all := s.thm.votes ||| s.thm.brokenV
     let two := voteCount { s with thm := { s.thm with votes := s.thm.votes ||| mask } } ≥ 2
     let down : State → Prop := fun t => t.phase = .latched ∧ t.thm.latched = true ∧ t.pwr.pwrGood = false ∧ t.ctxs = [] ∧ t.progs = [] ∧
       (∀ a, memGet t a = 0) ∧ lastRecord t 0x2031 5 0x01 (597 + n)
     (n < 3 → exec (.tripVoteCleared v) s = .next { s with thm := { s.thm with votes := s.thm.votes &&& ~~~mask } }) ∧
     (all.getLsbD n = true → exec (.tripVote v) s = .next s) ∧ (s.thm.brokenV.getLsbD n = true → exec (.tripVoterBroken v) s = .next s) ∧
     (n < 3 → calm s → s.phase ≠ .off → s.phase ≠ .latched → all.getLsbD n = false →
       (¬ two → (∃ t, exec (.tripVote v) s = .next t ∧ accepted { s with thm := { s.thm with votes := s.thm.votes ||| mask } } t 0x2030 2) ∧
         ∃ t, exec (.tripVoterBroken v) s = .next t ∧ accepted { s with thm := { s.thm with brokenV := s.thm.brokenV ||| mask } } t 0x2021 2) ∧
       (two → (∃ t, exec (.tripVote v) s = .next t ∧ down t) ∧ ∃ t, exec (.tripVoterBroken v) s = .next t ∧ down t)) ∧
     (s.phase ≠ .run → exec .thermalBlockFault s = .next s) ∧
     (s.phase = .run → calm s → ∃ t, exec .thermalBlockFault s = .next t ∧ inPipeline t 0x2052 5 ∧
       (∀ g, g < 64 → thmTarget t g = 550) ∧ thmTarget t 64 = 600 ∧
       t = { s with thm := { s.thm with targets := t.thm.targets }, rcd := t.rcd, err := t.err }))

/-! ### Start-up test, scan and fuses -/

/-- (1) A phase of start-up test ends: the FULL test's Phase 3 zero-fills HBM, a block that failed is FAILED and recorded with its signatures,
the first of them kept, and takes OFF the array of a failed cluster or the clusters and arrays behind a failed router tile; a block that
does not end in time fails too, and a coppiced cluster or one behind a failed router tile is not tested (03 R92, 05 R160 to R162, R164,
R166, R170, R176).
(2) Phase 5 decides: the device is released with every setting at its reset value, no context, no queue but 1023, Treadle A active with a
standby that starts its copy, and its axes open; a failed essential block, or more than 16 excluded clusters, keep it in reset; an
out-of-service device is held, and so is one that has requested a power cycle (05 R170 to R175, R179, 16 R564, R574).
(3) Outside its place each event of a test does nothing; in the stay-in-reset state the report is due again (05 R170, R180).
(4) A scan request is refused where the scan_lock fuse is blown, waits for the end of a test or a reset, and else enters scan: contexts and
the device secret are gone, memories and settings zeroed, the switches closed.  SCAN_ENABLED is recorded once it can be made durable (05
R183, R184, R187, Table 5.11).  The entry is stated for a device in which no context is left.
(5) A fuse word is programmed: a key's program goes on with its next word while the temperature window is open, or ends with
FUSE_TEMP_WINDOW and the count in h1; after the last word its program goes on with the count.  A coppice mark is recorded as COPPICE_FUSED
(04 R150, 05 R177, 07 R266).
Where the spec leaves a point open it rests on the model's choices: log 29, 31, 32. -/
def Obligations.StartupTestScanAndFuses : Prop :=
  (∀ (s : State) (d : Nat) (o x : Word64), s.phase = .test → 1 ≤ s.bist.phase → s.bist.phase ≤ 4 → s.pwr.warn = false →
     let ph := s.bist.phase
     let b := if 512 ≤ d ∧ d < 1024 then d - 512 else d
     let next : State := { s with bist := { s.bist with phase := ph + 1 } }
     let failed : State → Prop := fun t => (if b = 1100 ∨ b = 1101 ∨ (1116 ≤ b ∧ b ≤ 1120) then domState t b = domState s b else domState t b = 3) ∧ b ∈ t.bist.failed ∧ lastRecord t 0xE002 4 0x0F b ∧
       (∀ e, e ≠ b → domState t e = if domState s e ≠ 3 ∧ ((b < 512 ∧ e = 512 + b) ∨
         (1024 ≤ b ∧ b < 1088 ∧ e < 1024 ∧ e % 512 / 8 = b - 1024)) then 0 else domState s e) ∧ t.ctxs = s.ctxs ∧ t.sets = s.sets
     let left : Prop := b < 512 ∧ (b ∈ s.fuses.coppice ∨ b ∈ s.bist.bootCop ∨ 1024 + b / 8 ∈ s.bist.failed)
     (¬ (ph = 3 ∧ s.bist.depth = 1) → exec (.bistPhaseEnd [] []) s = .next next) ∧
     (ph = 3 → s.bist.depth = 1 → exec (.bistPhaseEnd [] []) s = .next (memWipe next 0 hbmSize)) ∧
     (ringOff s → ringOpen s → phaseOfDomain d = ph → b ∉ s.bist.failed → ¬ left →
       (∃ t, exec (.bistPhaseEnd [⟨d, .signature o x⟩] []) s = .next t ∧ failed t ∧ t.bist.phase = ph + 1 ∧
         (s.bist.failed = [] → t.bist.firstFail = b ∧ t.bist.obsSig = o ∧ t.bist.expSig = x)) ∧
       (s.rcd.ring.length < 16000 → d ≤ 1120 → ∃ t, exec (.bistPhaseTimeout d) s = .next t ∧ failed t ∧ t.bist.phase = ph)) ∧
     (phaseOfDomain d ≠ ph ∨ b ∈ s.bist.failed ∨ left → exec (.bistPhaseTimeout d) s = .next s)) ∧
  (∀ (s : State) (micros : Word32), s.phase = .test → s.bist.phase = 5 → s.pwr.warn = false → s.bist.scanPend = false → ringOff s → ringOpen s →
     let out := excludedAfter s
     (s.bist.failed = [] → out.length ≤ 16 → s.rst.oos = false → s.rst.pcReq = false →
       (∀ a, (Tbl.get Axis.init s.axes a).closeFail = false) →
       ∃ t, exec (.startUpTestEnd micros) s = .next t ∧ t.phase = .run ∧ t.ctxs = [] ∧ t.progs = [] ∧ t.slots = [] ∧ t.trd = Trd.released ∧
         (∀ q, (getQ t q).valid = decide (q = 1023)) ∧ (∀ a, a < 3 → axisState t a = 0) ∧ domState t 1102 = (if isFleet s then 1 else 0) ∧
         pipelineEmpty t ∧ t.bist.micros = micros ∧ t.bist.excluded = out ∧ t.time.parent = 7 ∧
         (∀ blk idx r, setRow blk idx = some r → idx < 4096 → r.cls ≠ .hd → liveVal t blk idx 0 = setReset t blk idx)) ∧
     (16 < out.length ∨ essentialBits s ≠ 0 → ∃ t, exec (.startUpTestEnd micros) s = .next t ∧ t.phase = .stay ∧ t.bist.stay = true ∧
       t.bist.repeatDue = true ∧ lastRecord t 0xE004 5 0x0F 0xFFFF) ∧
     (s.bist.failed = [] → out.length ≤ 16 → (s.rst.oos = true → ∃ t, exec (.startUpTestEnd micros) s = .next t ∧ t.phase = .oosHold) ∧
       (s.rst.oos = false → s.rst.pcReq = true → ∃ t, exec (.startUpTestEnd micros) s = .next t ∧ t.phase = .pcHeld))) ∧
  (∀ (s : State) (micros : Word32) (d : Nat) (l : List BistFail) (m : List Nat),
     (s.phase ≠ .test → exec (.startUpTestEnd micros) s = .next s ∧ exec (.bistPhaseEnd l m) s = .next s ∧
       exec (.bistPhaseTimeout d) s = .next s) ∧
     (s.phase = .stay → exec .bistReportRepeat s = .next { s with bist := { s.bist with repeatDue := true } }) ∧
     (s.phase ≠ .stay → exec .bistReportRepeat s = .next s)) ∧
  (∀ (s : State), ringOff s → ringOpen s →
     (s.phase ≠ .off → s.phase ≠ .scan → s.bist.scanLock = true → ∃ t, exec .scanReq s = .next t ∧
       recorded { s with bist := { s.bist with scanRef := true } } t 0xE032 2 0x0F 0xFFFF) ∧
     (s.phase ∈ [Phase.test, .reset, .kaTest] → s.bist.scanLock = false →
       exec .scanReq s = .next { s with bist := { s.bist with scanPend := true } }) ∧
     (s.phase ∈ [Phase.run, .stay, .keepAlive, .oosHold, .pcHeld] → s.bist.scanLock = false → liveCtxs s = [] →
       ∃ t, exec .scanReq s = .next t ∧ t.phase = .scan ∧ (∀ a, memGet t a = 0) ∧ t.slots = [] ∧ t.progs = [] ∧ t.sets = State.reset.sets ∧
         (∀ c, (getC t c).seed = 0) ∧ t.bist.secret = false ∧ t.bist.scanPend = true ∧
         (∀ a, (Tbl.get Axis.init t.axes a).cmd = false) ∧ lastRecord t 0xE030 2 0x0F 0xFFFF) ∧
     (s.phase ≠ .scan ∨ s.bist.scanOn = true → exec .scanEnabled s = .next s) ∧
     (s.phase = .scan → s.bist.scanOn = false → s.thm.nvOpen = false →
       exec .scanEnabled s = .next { s with bist := { s.bist with scanWait := true } }) ∧
     (s.phase = .scan → s.bist.scanOn = false → s.thm.nvOpen = true → ∃ t, exec .scanEnabled s = .next t ∧
       recorded { s with bist := { s.bist with scanPend := false, scanOn := true, scanWait := false } } t 0xE031 5 0x0F 0xFFFF)) ∧
  (∀ (s : State) (f : FuseProg) (p : Prog) (x y : Word32) (rd : BitVec 5), s.fuses.prog = [f] → f.exec < 64 → getP s f.exec = some p →
     f.rd = rd.toNat → hasNext p →
     let set := Tbl.put s.fuses.opKeys (f.key * 24 + f.word) x
     let with_ : List FuseProg → State := fun l => { s with fuses := { s.fuses with opKeys := set, prog := l } }
     let q := { p with wait := .none }
     (f.kind = 0 → f.words = [x] →
       exec .fuseWordComplete s = .next (putP (with_ []) f.exec (onward (wrote q rd (BitVec.ofNat 64 (f.done + 1)))))) ∧
     (f.kind = 0 → f.words = [x, y] → Tbl.get 0 set (f.key * 24 + f.word + 1) ≠ y →
       (fuseWindow s = true → exec .fuseWordComplete s = .next (with_ [{ f with word := f.word + 1, done := f.done + 1, words := [y] }])) ∧
       (fuseWindow s = false → exec .fuseWordComplete s =
         .next (endWith (with_ []) f.exec (wrote q 1 (BitVec.ofNat 64 (f.done + 1))) 0x0007 p.index none))) ∧
     (f.kind = 1 → f.words = [x] → ringOff s → ringOpen s → ∃ t, exec .fuseWordComplete s = .next t ∧ f.key ∈ t.fuses.coppice ∧
       getP t f.exec = some (onward (wrote q rd 0)) ∧ t.fuses.prog = [] ∧ lastRecord t 0xE010 0 0x0F f.key ∧ t.mem = s.mem))

/-! ### Checking -/

/-- (1) A tile product whose comparison passes is counted and settles md, each element its old value plus the product's, unless its slot runs
again: then nothing is delivered (12 R414 to R425, 10 R370, 11 R379 to R383).  Stated without an injection.
(2) A product with a detected deviation is disputed: CHECK_MISMATCH enters the pipeline, the TMMA awaits its arbitration, and md is as it
was.  In an exact format one deviating element is always detected (12 R415, R418, R425).
(3) A residue check that fails alone is recorded and charged, and the product is delivered; a mismatch of the accumulate that its repeat
clears likewise, with its own error; one that stays is UNRESOLVED and poisons md (12 R416, R420, R425).  The charge is stated for a
cluster without an earlier one.
Where the spec leaves a point open it rests on the model's choices: log 75, 77, 78, 79. -/
def Obligations.ProductsAreChecked : Prop :=
  (∀ (s : State) (cluster : BitVec 9) (j : TmmaJob) (rest : List TmmaJob),
     let n := cluster.toNat
     (getCk s n).jobs = j :: rest → j.stage = 0 → j.perr = [] → j.inj = 0 → j.inf = false →
     ∃ t, exec (.tileCheckComplete cluster [] false false false false) s = .next t ∧ (getCk t n).jobs = rest ∧
       t.chk.tiles = s.chk.tiles + 1 ∧ t.chk.fails = s.chk.fails ∧ t.err = s.err ∧ t.rcd = s.rcd ∧
       let x := getS s j.slot
       let y := getS t j.slot
       (j.stale = true ∨ x.ended = true ∨ x.ctx ≠ j.ctx → t.slots = s.slots) ∧
       (j.stale = false → x.ended = false → x.ctx = j.ctx →
         y.checked = x.checked + 1 ∧ (getTile y j.md).tag = (getTile x j.md).tag ∧
         (getTile y j.md).poison = ((getTile x j.md).poison || j.tileA.poison || j.tileB.poison) ∧
         (∀ i c, i < 64 → c < 64 → Tbl.get 0 (getTile y j.md).elems (64 * i + c) =
           BitVec.ofNat 64 (let old := (Tbl.get 0 (getTile x j.md).elems (64 * i + c)).toNat
             if (getTile x j.md).tag = 7 then accFloat old (dotAt j.tileA j.tileB i c) 0 else accInt old (dotAt j.tileA j.tileB i c) 0)) ∧
         (∀ m, m ≠ j.md → getTile y m = getTile x m) ∧ y.sheds = x.sheds ∧ ∀ k, k ≠ j.slot → getS t k = getS s k)) ∧
  ((∀ (s : State) (cluster : BitVec 9) (j : TmmaJob) (rest : List TmmaJob) (errs : List TileErr), calm s →
     let n := cluster.toNat
     (getCk s n).jobs = j :: rest → j.stage = 0 → j.perr = [] → j.inj = 0 → j.inf = false → detected j errs = true →
     ((getHist s n).storms.filter (fun t => decide (s.aon < t + 1000000000))).length < 16 →
     ∃ t, exec (.tileCheckComplete cluster errs false false false false) s = .next t ∧ inPipeline t 0x3001 2 ∧
       (getCk t n).jobs = { j with perr := errs, stage := 1, entry := s.err.nextId } :: rest ∧ t.chk.tiles = s.chk.tiles + 1 ∧
       t.chk.fails = s.chk.fails + 1 ∧ t.slots = s.slots ∧ t.mem = s.mem) ∧
   ∀ (j : TmmaJob) (r c : BitVec 6) (d : Int), j.inf = false → tileWide j.tileA.tag = false → d ≠ 0 → detected j [⟨r, c, d⟩] = true) ∧
  (∀ (s : State) (cluster : BitVec 9) (j : TmmaJob) (rest : List TmmaJob), calm s → s.rcd.ring.length < 16000 →
     let n := cluster.toNat
     (getCk s n).jobs = j :: rest → j.stage = 0 → j.perr = [] → j.inj = 0 → j.inf = false → j.stale = false →
     (getS s j.slot).ended = false → (getS s j.slot).ctx = j.ctx → (getHist s n).transients = [] →
     let res : State → Option (List TileErr) → Prop := fun t r =>
       (getCk t n).jobs = rest ∧ getTile (getS t j.slot) j.md = addProduct j (getTile (getS s j.slot) j.md) r
     (∃ t, exec (.tileCheckComplete cluster [] false true false false) s = .next t ∧ res t (some []) ∧
       (getCk t n).residue = satAdd 65535 (getCk s n).residue 1 ∧ (getHist t n).transients = [s.aon]) ∧
     (∃ t, exec (.tileCheckComplete cluster [] false false true true) s = .next t ∧ res t (some []) ∧ inPipeline t 0x3031 2 ∧
       (getHist t n).transients = [s.aon]) ∧
     (clState s n < 2 → (getC s j.ctx).step.isOpen = false → (getHist s n).returns = [] →
       ∃ t, exec (.tileCheckComplete cluster [] false false true false) s = .next t ∧
         (getTile (getS t j.slot) j.md).poison = true ∧ t.chk.unres = s.chk.unres + 1 ∧ clState t n = 2 ∧ n ∈ t.deepQ))

/-- (1) An arbitration ends: a failed operand CRC poisons md; a Q that equals P settles md with the product as a CHECKER_FAULT; one that
differs from a P that failed its check is a PRODUCT_FAULT, and the tile awaits its repeat; without an arbiter the repeat takes its place
(12 R426 to R431, R441, Table 12.2).  Stated for a job without an injection, whose slot is alive.
(2) The repeat of a disputed tile settles it with Q, and classes the fault: transient where the repeat equals Q, permanent where it equals
P, else intermittent; nothing happens while none is awaited (12 R430, R431, R433, Table 12.4).
Where the spec leaves a point open it rests on the model's choices: log 76, 77. -/
def Obligations.DisputesAreArbitratedAndClassed : Prop :=
  (∀ (s : State) (cluster : BitVec 9) (j : TmmaJob) (rest : List TmmaJob) (q : List TileErr), ringOff s → ringOpen s →
     s.rcd.ring.length < 16000 →
     let n := cluster.toNat
     (getCk s n).jobs = j :: rest → j.inj = 0 → j.inf = false → j.stale = false → (getS s j.slot).ended = false →
     (getS s j.slot).ctx = j.ctx →
     let done : State → Prop := fun t => inHandling t.err j.entry = false ∧ t.chk.arbs = s.chk.arbs + 1
     (j.stage ≠ 1 ∨ inHandling s.err j.entry = false → exec (.arbiterResult cluster true true q true) s = .next s) ∧
     (j.stage = 1 → inHandling s.err j.entry = true →
       (∃ t, exec (.arbiterResult cluster false true q true) s = .next t ∧ done t ∧ (getCk t n).jobs = rest ∧ lastRecord t 0x3004 2 0x02 n ∧
         (getTile (getS t j.slot) j.md).poison = true) ∧
       (pickArbiter s n = none → ∃ t, exec (.arbiterResult cluster true true q true) s = .next t ∧ lastRecord t 0x3024 2 0x02 n ∧
         (getCk t n).jobs = { j with stage := 2, noArb := true, sums := true } :: rest ∧ t.slots = s.slots) ∧
       (∀ a, pickArbiter s n = some a →
         (errTbl q = errTbl j.perr → detected j j.perr = false → (getCk s n).classed = some (j.ctx, j.ctr, 0) →
           ∃ t, exec (.arbiterResult cluster true true q true) s = .next t ∧ done t ∧ (getCk t n).jobs = rest ∧ t.chk.rotate = a ∧
             (getCk t n).checker = satAdd 65535 (getCk s n).checker 1 ∧ lastRecord t 0x3003 2 0x02 n ∧
             getTile (getS t j.slot) j.md = addProduct j (getTile (getS s j.slot) j.md) (some j.perr)) ∧
         (errTbl q ≠ errTbl j.perr → detected j j.perr = true →
           ∃ t, exec (.arbiterResult cluster true true q true) s = .next t ∧ t.chk.arbs = s.chk.arbs + 1 ∧ t.chk.rotate = a ∧
             (getCk t n).product = satAdd 65535 (getCk s n).product 1 ∧ lastRecord t 0x3002 2 0x02 n ∧
             (getCk t n).jobs = { j with stage := 2, qerr := q, arb := a } :: rest)))) ∧
  (∀ (s : State) (cluster : BitVec 9) (j : TmmaJob) (rest : List TmmaJob) (p2 : List TileErr), ringOff s → ringOpen s →
     s.rcd.ring.length < 16000 →
     let n := cluster.toNat
     (getCk s n).jobs = j :: rest →
     (j.stage ≠ 2 → exec (.repeatResult cluster p2) s = .next s) ∧
     (j.stage = 2 → j.noArb = false → j.inj = 0 → j.stale = false → (getS s j.slot).ended = false → (getS s j.slot).ctx = j.ctx →
       (getCk s n).classed ≠ some (j.ctx, j.ctr, 0) → clState s n = 0 → (getHist s n).returns = [] → (getHist s n).transients = [] →
       (getC s j.ctx).step.isOpen = false → Tbl.rising s.slots = true →
       let cls := if errTbl p2 = errTbl j.qerr then 1 else if errTbl p2 = errTbl j.perr then 2 else 3
       ∃ t, exec (.repeatResult cluster p2) s = .next t ∧ (getCk t n).jobs = rest ∧ (getCk t n).last = cls ∧
         (getS t j.slot).replayed = (getS s j.slot).replayed + 1 ∧ inHandling t.err j.entry = false ∧
         getTile (getS t j.slot) j.md = addProduct j (getTile (getS s j.slot) j.md) (some j.qerr) ∧
         clState t n = (if cls = 1 then 1 else 2) ∧ (cls ≠ 1 → n ∈ t.deepQ)))

/-! ### Memory protection -/

/-- (1) A patrol read goes to the next granule of its stack, and after the last one a pass is counted: a clean or poisoned granule stays as it
is, an uncorrectable one is poisoned, counted and an error, and a corrected one is counted and recorded (13 R447 to R450, R462).
(2) A pass that is an hour late is recorded once and goes on; corrections that leave the hour lower the rate, and escalated scrub ends at
120 or fewer; a scratchpad word of an array in use by no slice is checked the same way (13 R463 to R465).
Where the spec leaves a point open it rests on the model's choices: log 80. -/
def Obligations.ScrubbersReadEveryGranule : Prop :=
  (∀ (s : State) (stack : BitVec 3),
     let k := stack.toNat
     let e := getE s k
     let g := k * stackGranules + e.next
     let on := k < 6 ∧ domState s (1088 + k) = 1 ∧ s.phase = .run
     let moved : StackEcc → StackEcc := fun e =>
       if e.next + 1 = stackGranules then { e with next := 0, passes := e.passes + 1, late := false } else { e with next := e.next + 1 }
     (¬ on → ∀ c w, exec (.patrolScrubRead stack c w) s = .next s) ∧
     (on → ∀ c w, c ∈ [SynClass.clean, .poison] → ∃ n, exec (.patrolScrubRead stack c w) s = .next { updE s k moved with freeCtr := n }) ∧
     (on → calm s → e.recent.length < 60 → ∃ t, exec (.patrolScrubRead stack .uncorrectable true) s = .next t ∧
       isPoison t (g * 32) = true ∧ inPipeline t 0x4003 2 ∧ (getE t k).ue = satAdd 65535 e.ue 1 ∧ (getE t k).next = (moved e).next ∧
       (∀ a, memGet t a = memGet s a) ∧ (∀ a, a / 32 ≠ g → isPoison t a = isPoison s a)) ∧
     (on → ringOff s → ringOpen s → s.rcd.ring.length < 16000 → isPoison s (g * 32) = false →
       ∃ t, exec (.patrolScrubRead stack .data true) s = .next t ∧ (getE t k).cor = satAdd 0xFFFFFFFF e.cor 1 ∧
         (∃ l ∈ (getE t k).table, l.granule = g ∧ s.aon ∈ l.times) ∧ (getE t k).next = (moved e).next ∧ t.mem = s.mem ∧ t.ctxs = s.ctxs)) ∧
  (∀ (s : State) (stack : BitVec 3) (cluster : BitVec 9) (g : Nat),
     let k := stack.toNat
     let n := cluster.toNat
     let gone : State := updE s k (fun e => { e with window := e.window.filter (fun t => decide (s.aon < t + 3600000000000)) })
     (k < 6 → domState s (1088 + k) = 1 → (getE s k).late = false → calm s → ∃ t, exec (.scrubLate stack) s = .next t ∧
       accepted (updE s k (fun e => { e with late := true })) t 0x4032 2) ∧
     ((getE s k).late = true → exec (.scrubLate stack) s = .next s) ∧
     (k < 6 → (getE s k).esc = false → (getE gone k).window.length ≤ 240 → exec (.scrubWindowExpiry stack) s = .next gone) ∧
     (k < 6 → (getE s k).esc = true → (getE gone k).window.length ≤ 120 → ringOff s → ringOpen s →
       ∃ t, exec (.scrubWindowExpiry stack) s = .next t ∧ recorded (updE gone k (fun e => { e with esc := false })) t 0x4031 0 0x04 k) ∧
     (domState s (512 + n) ≠ 1 → ∀ c, exec (.scratchpadScrub cluster g c) s = .next s) ∧
     (domState s (512 + n) = 1 → (getB s n).slice = none →
       (exec (.scratchpadScrub cluster g .clean) s = .next { s with freeCtr := s.freeCtr + 1 }) ∧
       (ringOff s → ringOpen s → ∃ t, exec (.scratchpadScrub cluster g .check) s = .next t ∧
         recorded { s with freeCtr := s.freeCtr + 1, ecc := { s.ecc with spChk := satAdd 65535 s.ecc.spChk 1 } } t 0x4002 1 0x03 n)))

/-! ### Burling -/

/-- (1) A due slice starts on a cluster that may run one: the slot it runs is saved, and the first item of the class starts; a context that
defers slices puts one off up to 16 times; a cluster that may not run one is left alone (14 R480 to R482, R486 to R489).  The start is
stated for a cluster that runs no slot and has no repeat to make.
(2) An item that passes moves the cluster's position past it, and the next one starts while the window has time; one that fails is an
error and is repeated first in the next slice (14 R482, R483, R495).
(3) The repeat of a failed item classes the cluster: a pass is a transient and charges it, the same wrong value a permanent fault that
quarantines it, another an intermittent one that does too (14 R495, Table 14.6).
(4) A slice whose window has closed ends: its duration is taken from the debt.  A shared item that does not start in time is skipped and
recorded, and the cursor goes to the next cluster.  A debt held at its limit is an error once a minute (14 R480, R484, R486, R506).
Where the spec leaves a point open it rests on the model's choices: log 82, 84. -/
def Obligations.BurlingSlicesTestClusters : Prop :=
  (∀ (s : State) (cluster : BitVec 9),
     let n := cluster.toNat
     let b := getB s n
     (sliceAllowed s n = false → exec (.burlingOffer cluster) s = .next s) ∧
     (sliceAllowed s n = true → b.pack = s.brl.packNo → b.again = none →
       (debtNow s n < 1800000000 → (runningSlot s n = none ∨ b.noSlice ≠ runningSlot s n) →
         exec (.burlingOffer cluster) s = .next (updB s n (fun b => { b with debt := debtNow s n, since := s.aon, defer := 0 }))) ∧
       (1800000000 ≤ debtNow s n → ∀ k, runningSlot s n = some k → b.noSlice ≠ some k → b.defer < 16 →
         (liveVal s 7 0x20 (getS s k).ctx).getLsbD 0 = true →
         exec (.burlingOffer cluster) s = .next (updB s n (fun b => { b with debt := debtNow s n, since := s.aon, defer := b.defer + 1 }))) ∧
       (1800000000 ≤ debtNow s n → runningSlot s n = none → b.defer < 16 → b.count % 3 ≠ 2 →
         ∃ t x, exec (.burlingOffer cluster) s = .next t ∧ (getB t n).slice = some x ∧ x.start = s.aon ∧ x.sweep = false ∧ x.slot = none ∧
           (getB t n).count = b.count + 1 ∧ (∀ i, fromPos (itemsOf (packBytes s) 0) b.nextFast = some i →
             (itemNeeds (packBytes s) i).testBit 0 = false → x.isOpen = true ∧ x.item = i) ∧ t.mem = s.mem ∧ t.slots = s.slots))) ∧
  (∀ (s : State) (cluster : BitVec 9) (crc : BitVec 64) (x : BrlSlice),
     let n := cluster.toNat
     let b := getB s n
     (b.slice = none → exec (.itemEnd cluster crc) s = .next s) ∧
     (b.slice = some x → x.isOpen = false → exec (.itemEnd cluster crc) s = .next s) ∧
     (b.slice = some x → x.isOpen = true → x.shared = false → b.again = none →
       (x.sweep = true → crc.toNat = itemExpected (slicePack x) x.item → ∃ t, exec (.itemEnd cluster crc) s = .next t ∧
         (getB t n).nextSweep = x.item + 1 ∧ Tbl.get 0 (getB t n).passes x.item = s.gtc ∧ (getB t n).again = none ∧
         (x.start + 132000 < s.aon → ∃ y, (getB t n).slice = some y ∧ y.isOpen = false) ∧ t.mem = s.mem ∧ t.err = s.err) ∧
       (crc.toNat ≠ itemExpected (slicePack x) x.item → x.sweep = true → calm s → ∃ t, exec (.itemEnd cluster crc) s = .next t ∧
         inPipeline t 0x5001 2 ∧ (getB t n).again = some (x.item, crc) ∧ (getB t n).nextSweep = x.item + 1 ∧ t.mem = s.mem))) ∧
  (∀ (s : State) (cluster : BitVec 9) (crc old : BitVec 64) (x : BrlSlice), ringOff s → ringOpen s → s.rcd.ring.length < 16000 →
     let n := cluster.toNat
     let b := getB s n
     let exp := itemExpected (slicePack x) x.item
     b.slice = some x → x.isOpen = true → b.again = some (x.item, old) → clState s n = 0 → (getHist s n).returns = [] →
     (getHist s n).transients = [] → s.brl.blame = [] → old.toNat ≠ exp →
     ∃ t, exec (.itemEnd cluster crc) s = .next t ∧ (getB t n).again = none ∧
       (crc.toNat = exp → clState t n = 1 ∧ lastRecord t 0x5002 1 0x02 n) ∧
       (crc = old → clState t n = 2 ∧ n ∈ t.deepQ ∧ lastRecord t 0x5003 2 0x02 n) ∧
       (crc.toNat ≠ exp → crc ≠ old → clState t n = 2 ∧ n ∈ t.deepQ ∧ lastRecord t 0x5004 2 0x02 n) ∧ t.mem = s.mem) ∧
  (∀ (s : State) (cluster : BitVec 9) (x : BrlSlice),
     let n := cluster.toNat
     let b := getB s n
     let d := debtNow s n - 10000 * (s.aon - x.start)
     (b.slice = none → exec (.sliceEnd cluster) s = .next s ∧ exec (.itemSkipped cluster) s = .next s) ∧
     (b.slice = some x → x.isOpen = true → exec (.sliceEnd cluster) s = .next s) ∧
     (b.slice = some x → x.isOpen = false → x.slot = none → ∃ t, exec (.sliceEnd cluster) s = .next t ∧ (getB t n).slice = none ∧
       (getB t n).debt = d ∧ (getB t n).since = s.aon ∧ (d < 1800000000 → (getB t n).defer = 0) ∧ (∀ m, m ≠ n → getB t m = getB s m) ∧
       t = { s with brl := t.brl }) ∧
     (b.slice = some x → x.isOpen = true → x.shared = true → ringOff s → ringOpen s → s.brl.pack = x.bytes →
       ∃ t, exec (.itemSkipped cluster) s = .next t ∧ lastRecord t 0x5022 0 0x02 n ∧ t.brl.curCl = nextCluster s s.brl.curCl ∧
         t.brl.curItem = x.item ∧ (∃ y, (getB t n).slice = some y ∧ y.shared = false) ∧ t.mem = s.mem) ∧
     (clInService s n = false ∨ debtNow s n < 57600000000 → exec (.shareShortfall cluster) s = .next s) ∧
     (clInService s n = true → debtNow s n = 57600000000 → b.short = 0 → calm s → ∃ t, exec (.shareShortfall cluster) s = .next t ∧
       accepted (updB s n (fun b => { b with short := s.aon })) t 0x5023 2))

/-- (1) The first queued cluster that may run starts its deep run, at most four at once; a run that fails coppices its cluster, three clean
passes return it to ACTIVE when the SHORT test passes, and one held for a permanent cause stays QUARANTINED and OFF (14 R498 to R500,
Table 14.7).
(2) A verified pack becomes the installed one at one instant, at item 0, or is refused with its result, and the program that waits for it
goes on; a fault in the installed half brings the resident pack, one in the staging half refuses the pack in it (14 R475 to R478,
R508).
Where the spec leaves a point open it rests on the model's choices: log 15, 17, 52, 53, 83. -/
def Obligations.DeepRunsAndPacks : Prop :=
  (∀ (s : State) (cluster : BitVec 9), 
     let n := cluster.toNat
     let v := (liveVal s 7 (0x400 + n) 0).toNat
     let may : Nat → Bool := fun m => clState s m == 2 && !neverOn s m && (getB s m).slice.isNone && !isFencedEngine s m
     (s.phase ≠ .run ∨ 4 ≤ s.brl.deep.length ∨ (∀ m ∈ s.deepQ, may m = false) → exec .deepRunStart s = .next s) ∧
     (∀ m, s.phase = .run → s.brl.deep.length < 4 → s.trd.owner = true → s.deepQ.find? may = some m →
       ∃ t, exec .deepRunStart s = .next t ∧ domState t m = 1 ∧ domState t (512 + m) = 1 ∧ m ∉ t.deepQ ∧ Tbl.get 0 t.brl.deep m = s.aon ∧
         t = { s with pwr := { s.pwr with domains := t.pwr.domains }, deepQ := t.deepQ, brl := { s.brl with deep := t.brl.deep } }) ∧
     (Tbl.has s.brl.deep n = false ∨ clState s n ≠ 2 → ∀ p q, exec (.deepRunEnd cluster p q) s = .next s) ∧
     (Tbl.has s.brl.deep n = true → clState s n = 2 → calm s → s.rcd.ring.length < 16000 →
       (∃ t, exec (.deepRunEnd cluster false true) s = .next t ∧ inPipeline t 0x5032 2 ∧ clState t n = 3 ∧ n ∈ t.bist.excluded ∧
         domState t n ≠ 1) ∧
       (v / 2 ^ 24 % 256 = 2 → ∃ t, exec (.deepRunEnd cluster true true) s = .next t ∧ clState t n = 2 ∧
         (liveVal t 7 (0x400 + n) 0).getLsbD 3 = true ∧ domState t n ≠ 1 ∧ lastRecord t 0x5033 2 0x02 n) ∧
       (v / 2 ^ 24 % 256 ≠ 2 → (getHist s n).returns = [] → ∃ t, exec (.deepRunEnd cluster true true) s = .next t ∧ clState t n = 0 ∧
         (getHist t n).returns = [s.aon] ∧ (getB t n).debt = 0 ∧ lastRecord t 0x5030 0 0x02 n))) ∧
  (∀ (s : State) (k : Nat) (p : Prog) (rd : BitVec 5) (slot : Nat), ringOff s → ringOpen s → k < 64 → s.progs = [(k, p)] → hasNext p →
     let r := packResult s
     (s.brl.verify = none → exec .packVerifyEnd s = .next s) ∧
     (s.brl.verify = some slot → p.wait = .verify rd.toNat → ∃ t, exec .packVerifyEnd s = .next t ∧ t.brl.verify = none ∧
       getP t k = some (onward (wrote { p with wait := .none } rd (BitVec.ofNat 64 r))) ∧ t.mem = s.mem ∧
       (r = 0 → t.brl.pack = some (s.brl.staging.take (bytesAt s.brl.staging 32 4)) ∧ t.brl.packNo = s.brl.packNo + 1 ∧ t.brl.curItem = 0 ∧
         lastRecord t 0x5010 0 0x0B (if s.trd.activeB then 1 else 0)) ∧
       (r ≠ 0 → t.brl.pack = s.brl.pack ∧ lastRecord t 0x5011 2 0x0B (if s.trd.activeB then 1 else 0))) ∧
     (∃ t, exec (.burlingStoreUe true) s = .next t ∧ t.brl.pack = none ∧ t.brl.packNo = s.brl.packNo + 1 ∧ t.brl.blame = [] ∧
       lastRecord t 0x5012 0 0x0B (if s.trd.activeB then 1 else 0) ∧ t.mem = s.mem ∧ t.progs = s.progs) ∧
     (s.brl.verify ≠ none → exec (.burlingStoreUe false) s = .next { s with brl := { s.brl with stageUe := true } }) ∧
     (s.brl.verify = none → exec (.burlingStoreUe false) s = .next s))

/-! ### Errors, watchdogs and resets -/

/-- (1) A detected error takes the way of its event: a direct record, an entry of the pipeline with its record, or an entry that is complete
at acceptance.  A second arrival of an entry that waits is counted in it; an entry that finds its queue full brings the safe state (15
R510, R516 to R519, R527, R529).
(2) The active Treadle's handlers take the entries: a record-only entry is complete, a fault of a context raises a reset of level 0 of
that context and its fence, an entry of severity 5 a chip reset.  Without an active Treadle, or with no entry, nothing is taken (15 R520,
R521, 16 R547, R553).  Stated for one entry, with no reset in progress and no slice running.
(3) The watchdog of a context with work enters CTX_WATCHDOG, that of an engine ENGINE_HANG, unless a fence holds it; hangs of Espalier
are remembered (16 R542 to R545, 19 R677).
Where the spec leaves a point open it rests on the model's choices: log 85, 86, 88, 90. -/
def Obligations.ErrorsTakeTheirWay : Prop :=
  (∀ (s : State) (e : ErrEvent),
     let c := e.code.toNat
     let k := e.srcClass.toNat
     let i := e.srcIndex.toNat
     (evInfo c = none → exec (.errorAccept e) s = .next s) ∧
     ∀ sev kind, evInfo c = some (sev, kind) →
       let q := queueOf c sev
       (calm s → kind = 1 → ∃ t, exec (.errorAccept e) s = .next t ∧ accepted s t c sev ∧ lastRecord t c sev k i) ∧
       (ringOff s → ringOpen s → kind ≠ 1 → kind ≠ 5 → ∃ t, exec (.errorAccept e) s = .next t ∧ recorded s t c sev k i) ∧
       (calm s → kind = 5 → ∃ t, exec (.errorAccept e) s = .next t ∧ pipelineEmpty t ∧ lastRecord t c sev k i ∧
         t = { s with rcd := t.rcd, err := t.err }) ∧
       (ringOff s → ringOpen s → kind = 1 → s.err.safe = false → s.err.handlers = [] →
         (∀ x, entriesOf s.err q = [x] → x.code = c → x.srcClass = k → x.srcIndex = i → x.ctx = e.ctx.toNat →
           ∃ t, exec (.errorAccept e) s = .next t ∧ entriesOf t.err q = [{ x with arrivals := x.arrivals + 1 }] ∧
             t = { s with rcd := t.rcd, err := t.err }) ∧
         (64 ≤ (entriesOf s.err q).length → (∀ x ∈ entriesOf s.err q, x.code ≠ c) →
           ∃ t, exec (.errorAccept e) s = .next t ∧ t.err.safe = true))) ∧
  (∀ (s : State) (e : Entry),
     (s.trd.owner = false ∨ (s.phase ≠ .run ∧ s.phase ≠ .keepAlive ∧ s.phase ≠ .oosHold) → exec .entryTaken s = .next s) ∧
     (pipelineEmpty s → exec .entryTaken s = .next s) ∧
     (s.trd.owner = true → s.phase = .run → s.err.handlers = [] → s.err.safe = false → s.rst.runs = [] → s.err.ringDue = false →
       (∀ b ∈ s.brl.cls, b.2.slice = none) → s.err.q1 = [] →
       let id := s.rst.nextId
       (s.err.q0 = [] → s.err.q2 = [] → s.err.q3 = [e] → e.sev ≠ 5 →
         e.code ∉ [0x3001, 0x3040, 0x3050, 0x3061, 0x4010, 0x4020, 0x6001, 0x6010, 0xD044, 0xC004, 0xC005] →
         exec .entryTaken s = .next { s with err := { s.err with q3 := [] } }) ∧
       (s.err.q0 = [] → s.err.q2 = [e] → e.sev = 3 → e.code = 0x4020 ∨ e.code = 0x4010 → e.ctx ∈ liveCtxs s → ctxRemoved s e.ctx = false →
         ∃ t r, exec .entryTaken s = .next t ∧ t.rst.runs = [(id, r)] ∧ r.level = 0 ∧ r.target = e.ctx ∧ r.cause = e.code ∧
           e.ctx ∈ r.ctxs ∧ (∀ d ∈ r.ctxs, d = e.ctx) ∧ r.raised = s.gtc ∧ r.handlers = [1] ∧ isFenced t e.ctx = true ∧
           t.err.handlers = [(1, ⟨e.id, 2, e.key, 3, 0, s.aon, some id⟩)] ∧
           t = { s with err := { s.err with handlers := t.err.handlers },
                        rst := { s.rst with runs := t.rst.runs, nextId := id + 1, seq := s.rst.seq + 1 } }) ∧
       (s.err.q0 = [e] → e.sev = 5 → e.ctx = 0xFFFF → s.rcd.frozen = false → s.esp.bound = none →
         ∃ t r, exec .entryTaken s = .next t ∧ t.phase = .reset ∧ t.rst.runs = [(id, r)] ∧ r.level = 4 ∧ r.cause = e.code ∧
           t.err.handlers = [(0, ⟨e.id, 0, e.key, 5, 4, s.aon, some id⟩)] ∧ t.ctxs = s.ctxs ∧ t.mem = s.mem))) ∧
  (∀ (s : State) (ctx : BitVec 8) (domain : BitVec 16),
     let c := ctx.toNat
     let x := getC s c
     let d := domain.toNat
     (x.inUse = false ∨ x.ended = true ∨ hasWork s c = false ∨ isFenced s c = true → exec (.ctxWatchdog ctx) s = .next s) ∧
     (calm s → x.inUse = true → x.ended = false → hasWork s c = true → isFenced s c = false →
       ∃ t, exec (.ctxWatchdog ctx) s = .next t ∧ accepted s t 0x6001 3 ∧ lastRecord t 0x6001 3 0x10 c) ∧
     (watchedEngine d = false ∨ domState s d ≠ 1 ∨ isFencedEngine s d = true ∨ s.phase ≠ .run → exec (.engineHang domain) s = .next s) ∧
     (calm s → watchedEngine d = true → domState s d = 1 → isFencedEngine s d = false → s.phase = .run →
       (d ≠ 1102 → ∃ t, exec (.engineHang domain) s = .next t ∧ accepted s t 0x6010 4 ∧ lastRecord t 0x6010 4 0x10 d) ∧
       (d = 1102 → s.esp.hangs = [] → ∃ t, exec (.engineHang domain) s = .next t ∧
         accepted { s with esp := { s.esp with hangs := [s.aon] } } t 0x6010 4)))

/-- (1) An entry in handling for 1 s goes on at the next level: one of a context that had no reset at level 0, one at level 3 at chip level.
A fault of the queues themselves brings the safe state and the chip reset (15 R526, R539, Table 15.7).
(2) The drain of a reset ends once: what enclosed contexts had outstanding is given up, a program that waits on one of their objects
ends with ABORTED_FENCED.  A reset of level 3 that does not lower its fence in time goes on at chip level, with what waits for it (16
R552, R553, R561, R562, Table 16.5).  Stated for one reset in progress.
(3) A reset completes: at level 0 its context ends with the status of its fault or RESET_CONTEXT, its work is gone and RESET_DONE is
recorded; at chip level the start-up test begins with no context, slot, program or entry left and the contents of HBM kept, and the third
counting reset within an hour sets the device out of service (16 R557, R558, R560, R563, R564, Tables 16.8, 16.10, 16.12).  Stated for a
reset that owes no dossier, no waiter and no entry, with its drain ended.
Where the spec leaves a point open it rests on the model's choices: log 89, 91, 92, 93. -/
def Obligations.ResetsDrainAndComplete : Prop :=
  (∀ (s : State) (handler : BitVec 4), ringOff s → ringOpen s → (∀ b ∈ s.brl.cls, b.2.slice = none) →
     let h := handler.toNat
     let id := s.rst.nextId
     ((∀ x ∈ s.err.handlers, x.1 ≠ h) → exec (.errHandlingTimeout handler) s = .next s) ∧
     (∀ x e, s.err.handlers = [(h, x)] → x.reset = none → entriesOf s.err x.queue = [e] → e.id = x.entry → e.ctx < 256 →
       e.ctx ∈ liveCtxs s → s.rst.runs = [] →
       ∃ t r, exec (.errHandlingTimeout handler) s = .next t ∧ t.rst.runs = [(id, r)] ∧ r.level = 0 ∧ r.target = e.ctx ∧
         r.escalated = true ∧ r.handlers = [h] ∧ t.err.handlers = [(h, { x with level := 0, taken := s.aon, reset := some id })] ∧
         lastRecord t 0xD054 2 0x0B (trdIdx s) ∧ isFenced t e.ctx = true ∧ t.ctxs = s.ctxs ∧ t.mem = s.mem) ∧
     (∀ x n r, s.err.handlers = [(h, x)] → x.reset = some n → s.rst.runs = [(n, r)] → r.level = 3 → s.phase = .run →
       ∃ t r', exec (.errHandlingTimeout handler) s = .next t ∧ t.phase = .reset ∧ t.rst.runs = [(id, r')] ∧ r'.level = 4 ∧
         r'.escalated = true ∧ t.err.handlers = [(h, { x with level := 4, taken := s.aon, reset := some id })]) ∧
     (s.phase ≠ .run → exec .errQueueFault s = .next s) ∧
     (s.phase = .run → s.esp.bound = none → s.rst.runs = [] → s.err.safe = false →
       ∃ t r, exec .errQueueFault s = .next t ∧ t.phase = .reset ∧ t.err.safe = true ∧ t.err.q1 = [] ∧ t.err.q2 = [] ∧ t.err.q3 = [] ∧
         t.rst.runs = [(id, r)] ∧ r.level = 4 ∧ r.cause = 0xD055 ∧ lastRecord t 0xD055 5 0x0B (trdIdx s))) ∧
  (∀ (s : State) (id : Nat),
     ((∀ x ∈ s.rst.runs, x.1 ≠ id) → exec (.drainBudgetExpiry id) s = .next s ∧ exec (.resetOverrun id) s = .next s) ∧
     ∀ r, s.rst.runs = [(id, r)] →
       (r.drainEnd ≠ none → exec (.drainBudgetExpiry id) s = .next s) ∧
       (r.drainEnd = none → s.shut = [] →
         ((∀ x ∈ s.progs, x.2.wait = .none) → ∃ t r', exec (.drainBudgetExpiry id) s = .next t ∧ t.rst.runs = [(id, r')] ∧
           r' = { r with drainEnd := some s.gtc, snapshot := r'.snapshot } ∧ (∀ x ∈ t.pci.reads, x.2.ctx ∉ r.ctxs) ∧
           t = { s with rst := { s.rst with runs := t.rst.runs }, pci := { s.pci with reads := t.pci.reads } }) ∧
         ∀ n p c o v d rd soft, s.progs = [(n, p)] → p.wait = .object c o v d rd soft → c ∈ r.ctxs →
           ∃ t q, exec (.drainBudgetExpiry id) s = .next t ∧ getP t n = none ∧ (getQ t p.queue).pendRec = some q ∧
             q.status = 0x000C ∧ q.tag = p.tag ∧ t.mem = s.mem) ∧
       (5 ≤ r.level → exec (.resetOverrun id) s = .next s) ∧
       (r.level = 3 → r.fn = none → s.phase = .run → ringOff s → ringOpen s → (∀ b ∈ s.brl.cls, b.2.slice = none) → s.esp.bound = none →
         ∃ t r', exec (.resetOverrun id) s = .next t ∧ t.phase = .reset ∧ t.rst.runs = [(s.rst.nextId, r')] ∧ r'.level = 4 ∧
           r'.cause = r.cause ∧ r'.escalated = true ∧ r'.overrun = true ∧ r'.waiters = r.waiters ∧ r'.handlers = r.handlers ∧
           lastRecord t 0x6021 4 0x10 0xFFFF ∧ t.mem = s.mem)) ∧
  (∀ (s : State) (id : Nat) (ok : Bool), ringOff s → ringOpen s → s.rcd.ring.length < 16000 →
     ((∀ x ∈ s.rst.runs, x.1 ≠ id) → exec (.resetComplete id ok) s = .next s) ∧
     ∀ r, s.rst.runs = [(id, r)] → r.drainEnd ≠ none → r.fn = none → r.handlers = [] → r.waiters = [] → (liveVal s 8 0x20 0).toNat % 2 = 0 →
       (∀ c l, r.level = 0 → r.target = c → r.ctxs = [c] → r.snapshot = [(c, l)] → r.counts = false → c < 256 → c ∈ liveCtxs s →
         (getC s c).inUse = true → (getC s c).ended = false → (getC s c).fault ≠ 0x0113 → (getC s c).step.waiting = [] →
         s.esp.bound ≠ some c → isPaired s c = false → (∀ g, g < 16 → (getG s c g).ops = []) →
         (∀ q ∈ s.queues, q.2.ctx ≠ c) → (∀ x ∈ s.progs, x.2.wait = .none) →
         ∃ t, exec (.resetComplete id ok) s = .next t ∧ (getC t c).ended = true ∧ (getC t c).inUse = true ∧
           (getC t c).status = (if (getC s c).fault ≠ 0 then (getC s c).fault else 0x0114) ∧ (getC t c).launches = [] ∧
           (∀ x ∈ t.slots, x.2.ctx ≠ c) ∧ (∀ d, d ≠ c → getC t d = getC s d) ∧ t.rst.runs = [] ∧ lastRecord t 0x6020 0 0x10 c ∧
           t.mem = s.mem) ∧
       (∀ l, r.level = 4 → r.ctxs = [] → r.snapshot = [(0xFFFF, l)] → s.phase = .reset →
         (r.counts = false ∨ s.rst.history = [] →
           ∃ t, exec (.resetComplete id ok) s = .next t ∧ t.phase = .test ∧ t.bist.depth = 2 ∧ t.bist.phase = 1 ∧ t.ctxs = [] ∧
             t.slots = [] ∧ t.progs = [] ∧ t.links = [] ∧ t.err.handlers = [] ∧ t.err.q0 = [] ∧ t.err.q3 = [] ∧ t.pci.up = false ∧
             (∀ a, a < hbmSize → memGet t a = memGet s a) ∧ lastRecord t 0x6020 0 0x10 0xFFFF ∧ t.rst.oos = s.rst.oos ∧
             t.rst.history = if r.counts then powerOnSec s :: s.rst.history else s.rst.history) ∧
         (r.counts = true → s.rst.oos = false → 2 ≤ countHour s →
           ∃ t, exec (.resetComplete id ok) s = .next t ∧ t.phase = .test ∧ t.rst.oos = true)))

/-! ### Links and time -/

/-- (1) A port that trains: it begins when its axis is open and its link down, is tried again at once twice, and after the third failure is
recorded and retried every second (17 R587, R589).
(2) A trained link comes up with the receiver's credits: 128 buffers of VC0 and 32 of VC1.  A neighbour at the wrong port, or one past
two excluded devices, is refused and recorded; the same neighbour back within 100 ms finds the link operations kept (17 R583, R587, R588,
R592).  Stated without coordinates where the link comes up.
(3) A link that goes down is recorded, and what is in progress on it is kept with its neighbour's identity; after 100 ms it is given up,
and a kept operation is recorded as aborted (17 R591, R592).
Where the spec leaves a point open it rests on the model's choices: log 98, 99. -/
def Obligations.LinksTrainAndFall : Prop :=
  (∀ (s : State) (port : BitVec 3),
     let p := port.toNat
     let l := getL s p
     let begun := updL s p (fun l => { l with training := true, trainings := satAdd 65535 l.trainings 1 })
     (mayTrain s p = true → l.slow = false → exec (.linkTrainStart port) s = .next begun ∧ exec (.linkTrainRetry port) s = .next s) ∧
     (mayTrain s p = true → l.slow = true → exec (.linkTrainRetry port) s = .next begun ∧ exec (.linkTrainStart port) s = .next s) ∧
     (mayTrain s p = false → exec (.linkTrainStart port) s = .next s ∧ exec (.linkTrainRetry port) s = .next s) ∧
     (l.training = false → exec (.linkTrainTimeout port) s = .next s) ∧
     (p < 6 → l.training = true →
       (l.slow = true → exec (.linkTrainTimeout port) s = .next (updL s p (fun l => { l with training := false }))) ∧
       (l.slow = false → l.fails < 2 → ∃ t, exec (.linkTrainTimeout port) s = .next t ∧
         getL t p = { l with fails := l.fails + 1, trainings := satAdd 65535 l.trainings 1 } ∧ (∀ k, k ≠ p → getL t k = getL s k) ∧
         t = { s with links := t.links }) ∧
       (l.slow = false → 2 ≤ l.fails → calm s → ∃ t, exec (.linkTrainTimeout port) s = .next t ∧
         accepted (updL s p (fun l => { l with training := false, fails := 0, slow := true })) t 0x7003 2))) ∧
  (∀ (s : State) (port : BitVec 3) (nbr : NeighbourId),
     let p := port.toNat
     let l := getL s p
     let mine := liveVal s 9 0x20 0
     let idle := updL s p (fun l => { l with training := false })
     (l.training = false ∨ 6 ≤ p → exec (.linkTrained port nbr) s = .next s) ∧
     (p < 6 → l.training = true → axisState s (p / 2) = 0 →
       (calm s → portRight mine nbr.coord p nbr = false → ∃ t, exec (.linkTrained port nbr) s = .next t ∧ accepted idle t 0x7005 2) ∧
       (calm s → portRight mine nbr.coord p nbr = true → skipOf mine nbr.coord p ≠ 15 → 1 < skipOf mine nbr.coord p →
         ∃ t, exec (.linkTrained port nbr) s = .next t ∧ accepted idle t 0x7004 2) ∧
       (ringOff s → ringOpen s → nbr.port.toNat = (if p % 2 = 0 then p + 1 else p - 1) → coordValid mine = false →
         let up : LinkPort := { l with up := true, training := false, fails := 0, slow := false, serial := nbr.serial, coord := nbr.coord,
                                       skip := 15, kept := false, keptSerial := nbr.serial, keptCoord := nbr.coord, cred0 := 128,
                                       cred1 := 32, sinceAlign := 0, replay := [], wait0 := [], wait1 := [] }
         (l.kept = false → l.keptSerial = 0 → l.ops = [] → ∃ t, exec (.linkTrained port nbr) s = .next t ∧
           getL t p = { up with msg0 := [], msg1 := [], seqTx := 1, seqRx := 0, rounds := 0, nak := false } ∧
           (∀ k, k ≠ p → getL t k = getL s k) ∧ lastRecord t 0x7001 0 0x07 p ∧ t.mem = s.mem ∧ t.ctxs = s.ctxs) ∧
         (l.kept = true → l.keptSerial = nbr.serial → l.keptCoord = nbr.coord → s.aon ≤ l.away + 100000000 → l.replay = [] →
           l.wait0 = [] → l.wait1 = [] → ∃ t, exec (.linkTrained port nbr) s = .next t ∧ getL t p = up ∧
           (∀ k, k ≠ p → getL t k = getL s k) ∧ lastRecord t 0x7001 0 0x07 p)))) ∧
  (∀ (s : State) (port : BitVec 3) (cause : BitVec 4),
     let p := port.toNat
     let l := getL s p
     let c := cause.toNat
     (6 ≤ p ∨ c = 0 ∨ 5 < c ∨ (l.up = false ∧ l.training = false) → exec (.linkDown port cause) s = .next s) ∧
     (p < 6 → 1 ≤ c → c ≤ 5 → l.up = true → calm s → s.col.groups = [] → ∃ t, exec (.linkDown port cause) s = .next t ∧
       inPipeline t 0x7002 2 ∧ (getL t p).up = false ∧ (getL t p).training = false ∧ (getL t p).cause = c ∧ (getL t p).kept = true ∧
       (getL t p).keptSerial = l.serial ∧ (getL t p).keptCoord = l.coord ∧ (getL t p).away = s.aon ∧ (getL t p).ops = l.ops ∧
       (getL t p).replay = l.replay ∧ (∀ k, k ≠ p → getL t k = getL s k) ∧ t.mem = s.mem ∧ t.ctxs = s.ctxs) ∧
     (6 ≤ p ∨ l.up = true ∨ l.kept = false → exec (.linkKeepExpiry port) s = .next s) ∧
     (p < 6 → l.up = false → l.kept = true →
       let dropped := updL s p (fun l => { l with replay := [], wait0 := [], wait1 := [], ops := [], msg0 := [], msg1 := [], kept := false,
                                                  seqTx := 1, seqRx := 0, rounds := 0, nak := false })
       (l.ops = [] → exec (.linkKeepExpiry port) s = .next dropped) ∧
       (∀ o, l.ops = [o] → calm s → ∃ t, exec (.linkKeepExpiry port) s = .next t ∧ accepted dropped t 0x7030 2)))

/-- (1) A received flit-group in sequence is accepted, its credits and its buffer's are counted, and its payload joins its message; one
ahead of its turn is naked once per gap and one behind it discarded; an ack frees the replay buffer; one that fails its CRC is discarded,
counted and naked, and a storm of those takes the link down (17 R579 to R583, R603).  Stated with nothing of the port's own waiting.
(2) The replay timeout resends every unacknowledged flit-group, or takes the link down after 16 rounds without ack progress; ALIGN goes
out after 4,095 flit-groups; TIME carries the root, the hops and the bound (17 R580, R582, R596).
(3) A link operation that arrives is written in place, its object rises and a completion goes back; one with the wrong context or job
tag is recorded and rejected, one for a fenced context rejected.  At its sender a completion raises the done object, and a rejection is
recorded (17 R585, 16 Table 16.5).  Stated for data within one page of HBM and an object without a trigger.
Where the spec leaves a point open it rests on the model's choices: log 14, 95, 96, 97, 100. -/
def Obligations.FlitGroupsAndLinkOperations : Prop :=
  (∀ (s : State) (port : BitVec 3) (fg : FlitGroup),
     let p := port.toNat
     let l := getL s p
     let k := fg.kind.toNat
     let want := (l.seqRx + 1) % 65536
     let join : List (List Byte) → List (List Byte) := fun m =>
       if fg.flags.getLsbD 2 then [] else if fg.flags.getLsbD 1 then [fg.payload] else m ++ [fg.payload]
     let naked : State → Prop := fun t => t.out = .link p 2 (flitBytes 2 8 0 l.seqRx (Nat.min 255 l.owed0) (Nat.min 255 l.owed1) 0 []) :: s.out ∧
       (getL t p).nak = true ∧ (getL t p).seqRx = l.seqRx ∧ ∀ m, m ≠ p → getL t m = getL s m
     (6 ≤ p ∨ l.up = false → exec (.flitGroupReceive port fg) s = .next s) ∧
     (p < 6 → l.up = true → l.wait0 = [] → l.wait1 = [] →
       (fg.crcOk = true → k = 6 → exec (.flitGroupReceive port fg) s = .next s) ∧
       (fg.crcOk = true → k = 1 ∨ k = 3 → l.replay = [] → fg.flags.getLsbD 3 = false →
         (fg.seq.toNat = want → ∃ t, exec (.flitGroupReceive port fg) s = .next t ∧
           getL t p = (let m : LinkPort := { l with seqRx := want, nak := false, cred0 := l.cred0 + fg.credit0.toNat,
                                                    cred1 := l.cred1 + fg.credit1.toNat }
             if fg.flags.getLsbD 0 then { m with owed1 := l.owed1 + 1, msg1 := join l.msg1 }
             else { m with owed0 := l.owed0 + 1, msg0 := join l.msg0 }) ∧
           (∀ m, m ≠ p → getL t m = getL s m) ∧ t = { s with links := t.links }) ∧
         (fg.seq.toNat ≠ want → (fg.seq.toNat + 65536 - want) % 65536 < 32768 → l.nak = false →
           ∃ t, exec (.flitGroupReceive port fg) s = .next t ∧ naked t) ∧
         (32768 ≤ (fg.seq.toNat + 65536 - want) % 65536 → ∃ t, exec (.flitGroupReceive port fg) s = .next t ∧ t.out = s.out ∧
           (getL t p).seqRx = l.seqRx ∧ (getL t p).msg0 = l.msg0 ∧ (getL t p).msg1 = l.msg1)) ∧
       (∀ f g, fg.crcOk = true → k = 2 → l.replay = [f, g] → f.seq = fg.ack.toNat → fg.flags.getLsbD 3 = false →
         ∃ t, exec (.flitGroupReceive port fg) s = .next t ∧ (getL t p).replay = [g] ∧ (getL t p).rounds = 0 ∧ t.out = s.out) ∧
       (fg.crcOk = false ∨ k = 0 ∨ 6 < k →
         (l.crcTimes.length < 1000 → l.nak = false → ∃ t, exec (.flitGroupReceive port fg) s = .next t ∧ naked t ∧
           (getL t p).crcFails = satAdd 65535 l.crcFails 1 ∧ (getL t p).msg0 = l.msg0 ∧ (getL t p).msg1 = l.msg1) ∧
         (1000 ≤ (l.crcTimes.filter (fun u => decide (s.aon < u + 1000000000))).length → calm s → s.col.groups = [] →
           ∃ t, exec (.flitGroupReceive port fg) s = .next t ∧ inPipeline t 0x7011 2 ∧ inPipeline t 0x7002 2 ∧ (getL t p).up = false ∧
             (getL t p).stormed = true ∧ (getL t p).heldDown = l.stormed)))) ∧
  (∀ (s : State) (port : BitVec 3),
     let p := port.toNat
     let l := getL s p
     let sent : State → Nat → Nat → Nat → Nat → List Byte → Prop := fun t kind flags seq pois b =>
       t.out = .link p kind (flitBytes kind flags seq l.seqRx (Nat.min 255 l.owed0) (Nat.min 255 l.owed1) pois b) :: s.out
     (6 ≤ p ∨ l.up = false → exec (.replayTimeout port) s = .next s ∧ exec (.alignSend port) s = .next s ∧
       exec (.timeFlitSend port) s = .next s) ∧
     (p < 6 → l.up = true →
       (l.replay = [] → exec (.replayTimeout port) s = .next s) ∧
       (∀ f, l.replay = [f] → l.rounds < 16 → ∃ t, exec (.replayTimeout port) s = .next t ∧ (getL t p).replay = [f] ∧
         (getL t p).rounds = l.rounds + 1 ∧ (getL t p).resends = satAdd 0xFFFFFFFF l.resends 1 ∧
         sent t (if f.vc = 0 then 1 else 3) (f.vc + 2 * b2n f.first + 4 * b2n f.last) f.seq f.poison f.payload) ∧
       (l.replay ≠ [] → 16 ≤ l.rounds → calm s → s.col.groups = [] → ∃ t, exec (.replayTimeout port) s = .next t ∧
         inPipeline t 0x7002 2 ∧ (getL t p).up = false ∧ (getL t p).cause = 2 ∧ (getL t p).replay = l.replay) ∧
       (l.sinceAlign < 4095 → exec (.alignSend port) s = .next s) ∧
       (4095 ≤ l.sinceAlign → ∃ t, exec (.alignSend port) s = .next t ∧ (getL t p).sinceAlign = 0 ∧ sent t 5 0 0 0 []) ∧
       (∃ t, exec (.timeFlitSend port) s = .next t ∧ t.mem = s.mem ∧ t.gtc = s.gtc ∧
         sent t 4 0 0 0 ((List.range 256).map (Config.linkByte 4
           [rootSerial s, advertised s, timeBound s, (BitVec.ofInt 64 l.lastT).toNat, (BitVec.ofInt 64 l.lastA).toNat]))))) ∧
  (∀ (s : State) (port : BitVec 3) (m : LinkOpMsg) (pa : Nat),
     let p := port.toNat
     let l := getL s p
     let c := m.remoteCtx.toNat
     let x := getC s c
     let n := m.data.length
     let o := m.remoteObject.toNat
     let answered : State → Nat → Prop := fun t kind =>
       (getL t p).replay = l.replay ++ [⟨l.seqTx, 1, true, true, 0, (List.range 256).map (Config.linkByte kind [m.id.toNat])⟩]
     let ready := p < 6 ∧ l.up = true ∧ l.wait0 = [] ∧ l.wait1 = [] ∧ 0 < l.cred1 ∧ l.replay.length < 512
     (6 ≤ p ∨ l.up = false → exec (.linkOpReceive port m Env.quiet) s = .next s) ∧
     (ready → calm s → 256 ≤ c ∨ x.inUse = false ∨ x.ended = true ∨ x.jobTag ≠ m.jobTag →
       ∃ t, exec (.linkOpReceive port m Env.quiet) s = .next t ∧ inPipeline t 0x7031 2 ∧ answered t 3 ∧ t.mem = s.mem ∧ t.ctxs = s.ctxs) ∧
     (ready → c < 256 → x.inUse = true → x.ended = false → x.jobTag = m.jobTag →
       (isFenced s c = true → ∃ t, exec (.linkOpReceive port m Env.quiet) s = .next t ∧ answered t 3 ∧ t.mem = s.mem ∧ t.ctxs = s.ctxs ∧
         t.err = s.err) ∧
       (isFenced s c = false → 0 < n → m.dst.toNat % 4096 + n ≤ 4096 → xlat s c m.dst.toNat .write none = .ok (.hbm pa) → m.poison = [] →
         m.e2e = false → stepHolder s 0xFFFF (.hbm pa) = none → o < 256 → x.trigs = [] → x.step.isOpen = false →
         ∃ t, exec (.linkOpReceive port m Env.quiet) s = .next t ∧ (∀ i, i < n → memGet t (pa + i) = m.data.getD i 0) ∧
           (∀ a, a < pa ∨ pa + n ≤ a → memGet t a = memGet s a) ∧ syncGet t c o = syncGet s c o + 1 ∧
           (∀ d, d ≠ o → syncGet t c d = syncGet s c d) ∧ answered t 2 ∧ t.err = s.err)) ∧
     ∀ (id : BitVec 32) (r : LinkOpTx),
       ((∀ y ∈ l.ops, y.id ≠ id.toNat) → exec (.linkOpReplyReceive port id true) s = .next s ∧ exec (.linkOpReplyReceive port id false) s = .next s) ∧
       (l.ops = [r] → r.id = id.toNat →
         let gone := updL s p (fun l => { l with ops := [] })
         (calm s → ∃ t, exec (.linkOpReplyReceive port id false) s = .next t ∧ accepted gone t 0x7030 2) ∧
         (r.done < 256 → (getC s r.ctx).inUse = true → (getC s r.ctx).ended = false → (getC s r.ctx).trigs = [] →
           ∃ t, exec (.linkOpReplyReceive port id true) s = .next t ∧ syncGet t r.ctx r.done = syncGet s r.ctx r.done + 1 ∧
             (getL t p).ops = [] ∧ t.mem = s.mem ∧ t.err = s.err)))

/-- (1) The device follows the neighbour that advertises a root: the exchange gives the port's delay and the offset; a new parent more than
1 µs away sets the GTC while no context exists, a smaller offset corrects the rate by at most 0.1 ppm and never beyond 200 ppm (17 R596 to
R601).  The exact correction within that is a free value, log 16.
(2) A device without a parent loses its synchronisation when its bound has grown past 4 ns, and the loss of the timebase reference ends
it at once; both are recorded (02 R83, 17 R600, R601, R605).
Where the spec leaves a point open it rests on the model's choices: log 16, 22, 101, 102. -/
def Obligations.TimeFollowsItsParent : Prop :=
  (∀ (s : State) (port : BitVec 3) (x : TimeFlit),
     let p := port.toNat
     let off : Int := (x.t2 - x.t1) - (x.t4 - x.t3)
     let heard : State → Prop := fun t => (getL t p).delay = ((x.t2 - x.t1) + (x.t4 - x.t3)) / 2 ∧
       (getL t p).advSerial = x.rootSerial.toNat ∧ (getL t p).advHops = x.hops.toNat ∧ ∀ k, k ≠ p → getL t k = getL s k
     (6 ≤ p ∨ (getL s p).up = false → exec (.timeFlitReceive port x) s = .next s) ∧
     (p < 6 → (getL s p).up = true →
       (timOn s = false → s.time.state = 0 → ∃ t, exec (.timeFlitReceive port x) s = .next t ∧ heard t ∧ t.gtc = s.gtc ∧
         t.time = { s.time with parent := 7, conflict := false } ∧ t.err = s.err) ∧
       (timOn s = true → timRoot s = false → s.time.lost = false → s.time.state = 0 → s.time.parent = 7 → x.hops.toNat < 24 → ringOff s →
         (∀ k, k < 6 → k ≠ p → (getL s k).up = false) →
         let synced : State → Prop := fun t => t.time.state = 2 ∧ t.time.parent = p ∧ t.time.hops = x.hops.toNat + 1 ∧ t.time.last = s.aon
         ((∀ c ∈ s.ctxs, c.2.inUse = false) → 32000 < off.natAbs → ∃ t, exec (.timeFlitReceive port x) s = .next t ∧ heard t ∧ synced t ∧
           t.gtc = ((s.gtc : Int) + off / 32).toNat ∧ t.time.rate = s.time.rate) ∧
         (off.natAbs ≤ 32000 → -2000000 ≤ s.time.rate → s.time.rate ≤ 2000000 →
           ∃ t, exec (.timeFlitReceive port x) s = .next t ∧ heard t ∧ synced t ∧ t.gtc = s.gtc ∧ -2000000 ≤ t.time.rate ∧
             t.time.rate ≤ 2000000 ∧ (t.time.rate - s.time.rate).natAbs ≤ 1000 ∧ (0 < off → s.time.rate ≤ t.time.rate) ∧
             (off < 0 → t.time.rate ≤ s.time.rate) ∧ (off = 0 → t.time.rate = s.time.rate))))) ∧
  (∀ (s : State),
     (timOn s = true → timRoot s = false → s.time.lost = false → s.time.parent = 7 → s.time.hops ≠ 0 → s.time.conflict = false →
       (400000000 < rawBound s → s.time.state ≠ 0 → calm s → ∃ t, exec .timeBoundExpiry s = .next t ∧
         accepted { s with time := { s.time with state := 0, hops := 255 } } t 0x7053 2) ∧
       (rawBound s ≤ 400000000 → s.time.state = 3 → exec .timeBoundExpiry s = .next s)) ∧
     ((s.phase ≠ .run ∧ s.phase ≠ .reset) ∨ s.time.lost = true → exec .tbRefLost s = .next s) ∧
     (s.phase = .run ∨ s.phase = .reset → s.time.lost = false → calm s → ∃ t, exec .tbRefLost s = .next t ∧ inPipeline t 0x7050 2 ∧
       t.time.lost = true ∧ t.time.state = 0 ∧ t.time.parent = 7 ∧ (s.time.state ≠ 0 → inPipeline t 0x7053 2) ∧ t.gtc = s.gtc ∧
       t.mem = s.mem ∧ t.ctxs = s.ctxs))

/-! ### Pleached pairs -/

/-- (1) A message for no paired context is discarded.  PAIR is kept until the own launch comes; with the same signature and step counter the
pair has formed, with another signature the context ends.  LOCATE is kept, PAIR_END ends the context, and so does a peer that stays away
while the step waits for it (11 R402 to R404, R408, Table 11.9).
(2) The peer's digest of a step is kept, and compared once the own digest is there: equal digests let the step go on; a first
difference of a gated pair has the step run again and is recorded as PLEACH_DIVERGED with the first slot that differs; a second one ends
the context (11 R404 to R406).
Where the spec leaves a point open it rests on the model's choices: log 14, 72, 73. -/
def Obligations.PairsCompareDigests : Prop :=
  (∀ (s : State) (h : PairHdr) (dsig ctr : Word64) (slot : BitVec 9) (ds : List (BitVec 48 × BitVec 128)) (step : BitVec 128)
     (sl : List (BitVec 128)) (ctx : BitVec 8),
     let faults : State → Nat → Nat → Prop := fun t c status =>
       getC t c = { getC s c with fault := status, faultAt := ⟨0, 0xFFFF, 0xFF, 0xFF, 0xFFFF, true⟩ } ∧ inPipeline t 0x4020 3 ∧
       (∀ d, d ≠ c → getC t d = getC s d) ∧ t.mem = s.mem ∧ t.slots = s.slots
     let alive := fun (c : Nat) => (getC s c).inUse = true ∧ (getC s c).ended = false ∧ (getC s c).fault = 0
     (pairFor s h = none → exec (.pair h dsig ctr) s = .next s ∧ exec (.digest h ctr step sl) s = .next s ∧
       exec (.locate h slot ds) s = .next s ∧ exec (.pairEnd h) s = .next s) ∧
     (∀ c, pairFor s h = some c → alive c →
       let p := getPair s c
       exec (.locate h slot ds) s = .next (updPair s c (fun p => { p with
         loc := p.loc ++ [(slot.toNat, ds.map (fun d => (d.1.toNat, d.2.toNat)))], heard := s.aon })) ∧
       (calm s → ∃ t, exec (.pairEnd h) s = .next t ∧ faults t c 0x0112) ∧
       (p.mine = [] → exec (.pair h dsig ctr) s =
         .next (updPair s c (fun p => { p with peers := p.peers ++ [(dsig.toNat, ctr.toNat)], heard := s.aon }))) ∧
       (∀ n d k, p.mine = [(n, d, k)] → p.peers = [] → calm s →
         (d = dsig.toNat → k = ctr.toNat → ∃ t, exec (.pair h dsig ctr) s = .next t ∧
           getPair t c = { p with mine := [], peers := [], formed := n, heard := s.aon } ∧ lastRecord t 0x3060 0 0x07 (pairPort s c) ∧
           (∀ e, e ≠ c → getPair t e = getPair s e) ∧ t.ctxs = s.ctxs ∧ t.mem = s.mem) ∧
         (d ≠ dsig.toNat → ∃ t, exec (.pair h dsig ctr) s = .next t ∧ faults t c 0x0111))) ∧
     (pairWaits s ctx.toNat = false ∨ (getC s ctx.toNat).inUse = false ∨ (getC s ctx.toNat).ended = true →
       exec (.pleachPeerLost ctx) s = .next s) ∧
     (pairWaits s ctx.toNat = true → alive ctx.toNat → calm s → ∃ t, exec (.pleachPeerLost ctx) s = .next t ∧ faults t ctx.toNat 0x0112)) ∧
  (∀ (s : State) (h : PairHdr) (ctr : Word64) (step : BitVec 128) (sl : List (BitVec 128)) (c : Nat), pairFor s h = some c →
     let p := getPair s c
     let d : StepDigest := ⟨ctr.toNat, step.toNat, (sl.zipIdx).map (fun e => (e.2, e.1.toNat))⟩
     let kept := updPair s c (fun p => { p with digests := keepDigest p.digests d, heard := s.aon })
     (digestAt p.own ctr.toNat = none → exec (.digest h ctr step sl) s = .next kept) ∧
     ∀ a, digestAt p.own ctr.toNat = some a →
       (a.step = step.toNat → exec (.digest h ctr step sl) s = .next kept) ∧
       (a.step ≠ step.toNat → pairTrails s c = false → calm s →
         (p.rerun = false → p.first = none → ∃ t, exec (.digest h ctr step sl) s = .next t ∧ inPipeline t 0x3061 2 ∧
           (getPair t c).rerun = true ∧ (getPair t c).pend = true ∧ (getPair t c).slots = diffSlots a d ∧
           (getPair t c).first = some (ctr.toNat, (diffSlots a d).headD 0xFFFF, noTile) ∧ digestAt (getPair t c).digests ctr.toNat = none ∧
           digestAt (getPair t c).own ctr.toNat = none ∧ t.ctxs = s.ctxs ∧ t.mem = s.mem) ∧
         (p.rerun = true → (getC s c).inUse = true → (getC s c).ended = false → (getC s c).fault = 0 →
           ∃ t, exec (.digest h ctr step sl) s = .next t ∧ (getC t c).fault = 0x0110 ∧ inPipeline t 0x4020 3 ∧ t.mem = s.mem)))

/-! ### Collectives -/

/-- (1) FORM goes out by a port whose neighbour has not answered.  A FORM that matches the group of its key, from its last neighbour, forms
the group; one of another shape fails it with cause 2, one with another signature with cause 3; a FORM for no group is discarded (18 R608,
R609).  Stated for a group with nothing in flight.
(2) A collective's descriptor is fetched when its ring has one: it takes the next sequence number of its group and waits for the group to
form; one that breaks the rules of its tables ends with cause 7.  Without a descriptor nothing is fetched (18 R610 to R614).  Stated for a
barrier in a group that is not formed, with the descriptor in HBM.
(3) A piece or chunk of the collective that a group performs is taken: when it completes the last phase of a small reduction the
reduction has its result; one of a later collective waits, one with another descriptor, poison or a bad end-to-end CRC aborts the
collective with cause 5, 2 or 6.  A grant is kept until its piece goes out (18 R613, R617, R624 to R626, R629, 13 R456).  Stated for the
only group of the chip and a member at the end of its line.
(4) An ABORT is forwarded once, and ends a collective that has not written its status; a barrier is released when the GTC reaches its
time; a member whose timer has run out aborts with cause 1, records and tells its neighbours (18 R621, R631, R632, R635, 16 R546).
(5) A collective ends: its status word is written to its descriptor, its object rises by one, it is counted, and it leaves its group (18
R615, Table 18.4).  Stated for a collective that writes no result, with its status word within a page of HBM, and no other behind it.
Where the spec leaves a point open it rests on the model's choices: log 14, 103, 104, 127. -/
def Obligations.CollectivesRunAsOneOperation : Prop :=
  (∀ (s : State) (ctx : BitVec 8) (group : BitVec 4) (port : BitVec 3) (m : FormMsg),
     let c := ctx.toNat
     let g := group.toNat
     let p := port.toNat
     let y := getG s c g
     let v := groupWord s c g
     let f := formFields s c g
     let l := getL s p
     (y.state ≠ 1 ∨ (getC s c).inUse = false ∨ isFenced s c = true → exec (.formSend ctx group) s = .next s) ∧
     (y.state = 1 → (getC s c).inUse = true → isFenced s c = false → gPorts v = [p] →
       (p ∈ y.matched → exec (.formSend ctx group) s = .next s) ∧
       (p ∉ y.matched → l.up = true → l.wait0 = [] → l.wait1 = [] → 0 < l.cred1 → l.replay.length < 512 →
         ∃ t, exec (.formSend ctx group) s = .next t ∧ getG t c g = { y with sent := insertNat y.sent p } ∧
           (getL t p).replay = l.replay ++ [⟨l.seqTx, 1, true, true, 0, (List.range 256).map (Config.linkByte 0x20 f)⟩] ∧
           (∀ k, k ≠ 16 * c + g → Tbl.get ColGroup.init t.col.groups k = Tbl.get ColGroup.init s.col.groups k) ∧ t.mem = s.mem)) ∧
     (groupFor s p m.key.toNat = none → exec (.form port m) s = .next s) ∧
     (groupFor s p m.key.toNat = some (c, g) → y.state = 1 → y.ops = [] → (∀ e ∈ s.col.groups, e.2.early = []) → ringOff s → ringOpen s →
       p ∉ y.moved →
       let shape := m.jobTag.toNat = f.getD 0 0 ∧ m.extents.toNat = f.getD 2 0 ∧ m.wrap.toNat = f.getD 3 0 ∧ offsetsMatch v p m.offsets.toNat = true
       (¬ shape → ∃ t, exec (.form port m) s = .next t ∧ (getG t c g).state = 3 ∧ (getG t c g).fail = 2 ∧ lastRecord t 0x8011 0 0x08 p ∧
         t.mem = s.mem) ∧
       (shape → m.dsig.toNat ≠ f.getD 5 0 → ∃ t, exec (.form port m) s = .next t ∧ (getG t c g).state = 3 ∧ (getG t c g).fail = 3 ∧
         lastRecord t 0x8011 0 0x08 p ∧ t.mem = s.mem) ∧
       (shape → m.dsig.toNat = f.getD 5 0 → gPorts v = [p] → p ∈ y.sent → ∃ t, exec (.form port m) s = .next t ∧ (getG t c g).state = 2 ∧
         (getG t c g).fail = 0 ∧ p ∈ (getG t c g).matched ∧ lastRecord t 0x8010 0 0x08 0xFFFF ∧ t.mem = s.mem))) ∧
  (∀ (s : State) (ctx : BitVec 8) (pa : Nat), (∀ e ∈ s.col.groups, e.2.early = []) →
     let c := ctx.toNat
     let x := getC s c
     let q := (liveVal s 10 0x20 c).toNat
     let i := Tbl.get 0 s.col.heads c
     let va := bitsOf q 47 6 * 64 + 64 * (i % 2 ^ (Nat.min 8 (bitsOf q 51 48) + 4))
     let b := memGets s pa 64
     let g := bytesAt b 3 1 % 16
     let y := getG s c g
     let z := colOf s c va b y.seq
     let idle := q.testBit 0 = false ∨ x.inUse = false ∨ x.ended = true ∨ x.fault ≠ 0 ∨ isFenced s c = true ∨ x.step.isOpen = true ∨
       s.phase ≠ .run ∨ (syncGet s c (bitsOf q 63 56)).toNat ≤ i
     (idle → exec (.collectiveFetch ctx Env.quiet) s = .next s) ∧
     (¬ idle → xlat s c va .read none = .ok (.hbm pa) → anyPoison s pa 64 = false → y.ops = [] → y.aborts = [] → y.state = 1 →
       (colValid s c b = true → z.op = 1 → ∃ t, exec (.collectiveFetch ctx Env.quiet) s = .next t ∧
         getG t c g = { y with seq := (y.seq + 1) % 2 ^ 64, ops := [{ z with cur := [BitVec.ofNat 64 s.gtc], unsync := s.time.state == 0 }] } ∧
         Tbl.get 0 t.col.heads c = i + 1 ∧ t.mem = s.mem ∧ t.ctxs = s.ctxs ∧ t.links = s.links) ∧
       (colValid s c b = false → ringOff s → ringOpen s → ∃ t, exec (.collectiveFetch ctx Env.quiet) s = .next t ∧
         (getG t c g).ops = [{ z with fin := some 7, orig := true }] ∧ (getG t c g).aborts = [(y.seq, 7)] ∧
         Tbl.get 0 t.col.heads c = i + 1 ∧ lastRecord t 0x8001 0 0x08 0xFFFF ∧ t.mem = s.mem ∧ t.ctxs = s.ctxs))) ∧
  (∀ (s : State) (h : ColHdr) (d : ColData) (axis : BitVec 2) (first c g : Nat),
     let p := h.port.toNat
     let y := getG s c g
     let v := groupWord s c g
     let n := h.seq.toNat
     ∀ i ∈ [Instr.pieceReceive h d, Instr.chunkReceive h d],
       (groupFor s p h.key.toNat = none → exec i s = .next s ∧ exec (.collectiveGrant h axis first) s = .next s) ∧
       (groupFor s p h.key.toNat = some (c, g) → s.col.groups = [(16 * c + g, y)] → g < 16 → y.early = [] →
         (y.ops = [] → n < y.seq → exec i s = .next s) ∧
         (∀ x, y.ops = [x] → x.seq = n → x.started = false → exec (.collectiveGrant h axis first) s =
           .next (updG s c g (fun y => { y with ops := [{ x with grants := x.grants ++ [(p, axis.toNat, first)], timer := s.aon }] }))) ∧
         (∀ x, y.ops = [x] → x.started = true → x.fin = none →
           (n < x.seq → exec i s = .next s) ∧
           (n = x.seq → ringOff s → ringOpen s →
             let cause := if h.crc.toNat ≠ x.crc ∨ h.alg.toNat ≠ x.alg then 5 else if d.poison then 2 else if x.e2e && !d.e2eOk then 6 else 0
             (cause ≠ 0 → ∃ t, exec i s = .next t ∧ (getG t c g).ops = [{ x with fin := some cause, orig := true }] ∧
               (n, cause) ∈ (getG t c g).aborts ∧ lastRecord t 0x8001 0 0x08 (if p < 6 then p else 0xFFFF) ∧ t.mem = s.mem) ∧
             (cause = 0 → d.axis.toNat = x.axis → x.axis < 3 → x.op = 2 → x.alg = 0 → x.send = [] → goesOn v x p d.offset.toNat = false →
               let x' : Col := { takeMove v x p d with timer := s.aon }
               (phaseResult v x' = none → ∃ t, exec i s = .next t ∧ getG t c g = { y with ops := [x'] } ∧ t.mem = s.mem ∧ t.err = s.err) ∧
               (∀ r, phaseResult v x' = some r → nextAxis v 3 (x.axis + 1) = 3 → ∃ t z, exec i s = .next t ∧
                 (getG t c g).ops = [z] ∧ z.cur = r ∧ z.axis = 3 ∧ z.fin = some 0 ∧ z.wide = (x.wide || x.redop == 0) ∧ z.send = [] ∧
                 t.mem = s.mem ∧ t.err = s.err)))))) ∧
  (∀ (s : State) (h : ColHdr) (cause : Byte) (ctx : BitVec 8) (group : BitVec 4),
     let c := ctx.toNat
     let g := group.toNat
     let y := getG s c g
     let n := h.seq.toNat
     let late : Col → Prop := fun x => x.timer + Nat.max 100 (liveVal s 10 0x10 c).toNat * 1000 ≤ s.aon
     (groupFor s h.port.toNat h.key.toNat = none → exec (.abort h cause) s = .next s) ∧
     (groupFor s h.port.toNat h.key.toNat = some (c, g) →
       (y.aborts.any (fun e => e.1 == n) = true → exec (.abort h cause) s = .next s) ∧
       (y.aborts.any (fun e => e.1 == n) = false → ∃ t, exec (.abort h cause) s = .next t ∧
         getG t c g = { y with aborts := y.aborts ++ [(n, cause.toNat)], ops := y.ops.map (fun x =>
           if x.seq = n ∧ (x.fin = none ∨ x.fin = some 0) then { x with fin := some cause.toNat } else x) } ∧
         (∀ k, k ≠ 16 * c + g → Tbl.get ColGroup.init t.col.groups k = Tbl.get ColGroup.init s.col.groups k) ∧ t.mem = s.mem ∧ t.err = s.err)) ∧
     (y.ops = [] → exec (.barrierRelease ctx group) s = .next s ∧ exec (.collectiveTimeout ctx group) s = .next s) ∧
     (∀ x rest, y.ops = x :: rest →
       (x.started = true → x.fin = none → x.op = 1 → 3 ≤ x.axis →
         (releaseAt (groupWord s c g) (x.cur.headD 0).toNat ≤ s.gtc →
           exec (.barrierRelease ctx group) s = .next (updCol s c g (fun x => { x with fin := some 0 }))) ∧
         (s.gtc < releaseAt (groupWord s c g) (x.cur.headD 0).toNat → exec (.barrierRelease ctx group) s = .next s)) ∧
       (x.started = false ∨ x.fin ≠ none ∨ x.op ≠ 1 ∨ x.axis < 3 → exec (.barrierRelease ctx group) s = .next s) ∧
       (x.fin ≠ none ∨ ¬ late x ∨ isFenced s c = true → exec (.collectiveTimeout ctx group) s = .next s) ∧
       (x.fin = none → late x → isFenced s c = false → ringOff s → ringOpen s → ∃ t, exec (.collectiveTimeout ctx group) s = .next t ∧
         getG t c g = { y with ops := { x with fin := some 1, orig := true } :: rest, aborts := y.aborts ++ [(x.seq, 1)] } ∧
         lastRecord t 0x8001 0 0x08 0xFFFF ∧ t.mem = s.mem ∧ t.ctxs = s.ctxs))) ∧
  (∀ (s : State) (ctx : BitVec 8) (group : BitVec 4) (x : Col) (cause pa : Nat),
     let c := ctx.toNat
     let g := group.toNat
     let y := getG s c g
     (y.ops = [] ∨ (∃ z t, y.ops = z :: t ∧ z.fin = none) → exec (.collectiveEnd ctx group Env.quiet) s = .next s) ∧
     (y.ops = [x] → x.fin = some cause → isFenced s c = true ∨ (getC s c).fault ≠ 0 ∨ (getC s c).ended = true →
       exec (.collectiveEnd ctx group Env.quiet) s = .next s) ∧
     (y.ops = [x] → y.early = [] → x.fin = some cause → cause ≠ 0 ∨ x.op = 1 → isFenced s c = false → (getC s c).fault = 0 →
       (getC s c).inUse = true → (getC s c).ended = false → (getC s c).trigs = [] → (getC s c).step.isOpen = false → x.done < 256 →
       (x.va + 48) % 4096 + 8 ≤ 4096 → xlat s c (x.va + 48) .write none = .ok (.hbm pa) → stepHolder s 0xFFFF (.hbm pa) = none →
       ∃ t, exec (.collectiveEnd ctx group Env.quiet) s = .next t ∧ memGets t pa 8 = leBytes 8 (colStatus x cause) ∧
         (∀ a, a < pa ∨ pa + 8 ≤ a → memGet t a = memGet s a) ∧ syncGet t c x.done = syncGet s c x.done + 1 ∧
         (∀ o, o ≠ x.done → syncGet t c o = syncGet s c o) ∧ getG t c g = { y with ops := [] } ∧
         Tbl.get (0, 0, 0) t.col.counts c = bumpCounts (Tbl.get (0, 0, 0) s.col.counts c) x cause ∧ t.err = s.err ∧ t.rcd = s.rcd))

/-! ### Espalier -/

/-- (1) An Espalier that is not bound does nothing, and one without a command waits for it (19 R643, R655).
(2) The next command of the bound context's queue is fetched; one that breaks a rule or its CRC ends with INVALID and is recorded (19 R655
to R657, R679).
(3) A valid model, and valid primitives within their limits, are loaded whole and leave one stop alternative of zero primitives; while a
cycle is open, or beyond a limit, they are refused, one that breaks its layout is INVALID, and poison ends the command (19 R645, R646,
R656, R657).
(4) A map is loaded into the back buffer and becomes the front epoch at its swap, which brings the fields of ESP.MODEL and a validation;
epoch number 0, or the front's, is refused; an epoch expires when the GTC passes its last slice (19 R650 to R654, R664, R666).  The load
is stated for a map that replaces no slice.
Where the spec leaves a point open it rests on the model's choices: log 105, 106, 107. -/
def Obligations.EspalierLoadsModelsAndMaps : Prop :=
  (∀ (s : State) (env : Env) (rs : List CandResult) (a b c : List PairCounts) (l : BitVec 7) (x : CandResult) (y : Option CandResult),
     (s.esp.bound = none → ∀ i ∈ [Instr.espCommandFetch env, .model env, .library env, .map env, .epochSwap, .stop env, .cycleOpen,
       .batch env, .batchComplete rs, .cycleClose, .stopValidationComplete a b c l, .planningDeadline, .epochExpiry], exec i s = .next s) ∧
     (s.esp.cmd = none → ∀ i ∈ [Instr.model env, .library env, .map env, .stop env, .cycleOpen, .batch env, .cycleClose], exec i s = .next s) ∧
     (s.esp.check = none → exec (.doubleCheckComplete x y) s = .next s) ∧
     (s.esp.batch = none → exec (.batchComplete rs) s = .next s) ∧ (s.esp.cycle = none → exec .planningDeadline s = .next s) ∧
     (s.esp.validating = false → exec (.stopValidationComplete a b c l) s = .next s) ∧ (s.esp.back = none → exec .epochSwap s = .next s)) ∧
  (∀ (s : State) (env : Env) (c : Nat) (l : Marked), s.esp.bound = some c → s.esp.cmd = none →
     let q := (liveVal s 11 0x20 c).toNat
     let i := Tbl.get 0 s.esp.heads c
     let va := bitsOf q 47 6 * 64 + 64 * (i % 2 ^ (Nat.min 8 (bitsOf q 51 48) + 4))
     let b := l.map (·.1)
     let k := espCmdOf va b
     let x : State := { s with esp := { s.esp with heads := Tbl.put s.esp.heads c (i + 1), cmd := some k } }
     let idle := q.testBit 0 = false ∨ (getC s c).fault ≠ 0 ∨ isFenced s c = true ∨ isFencedEngine s 1102 = true ∨ s.phase ≠ .run ∨
       s.err.safe = true ∨ s.esp.due ≠ none ∨ (syncGet s c (bitsOf q 63 56)).toNat ≤ i
     (idle → exec (.espCommandFetch env) s = .next s) ∧
     (¬ idle → espRead s c va 64 env = ((l, none), s) → l.any (·.2) = false →
       (espValid b = true → ¬ (k.kind = 5 ∧ k.dst % 8 ≠ 0) → exec (.espCommandFetch env) s = .next x) ∧
       (∀ pa, espValid b = false → calm s → espReports s c k pa → ∃ t, exec (.espCommandFetch env) s = .next t ∧
         espEnded x t c k pa (espWord 1 0xFFFF 0 false) ∧ inPipeline t 0x9030 2))) ∧
  (∀ (s : State) (env : Env) (c : Nat) (k : EspCmd) (pa : Nat) (l : Marked), calm s → espReports s c k pa →
     let ends : Instr → State → Nat → Nat → Prop := fun i x status idx =>
       ∃ t, exec i s = .next t ∧ espEnded x t c k pa (espWord status idx 0 false) ∧ (status = 1 ∨ status = 4 → inPipeline t 0x9030 2)
     (espServes s c k 1 →
       (s.esp.cycle ≠ none → ends (.model env) s 4 0xFFFF) ∧
       (s.esp.cycle = none → espRead s c k.src 4288 env = ((l, none), s) →
         let m := l.map (·.1)
         (l.any (·.2) = true → ends (.model env) s 3 0xFFFF) ∧
         (l.any (·.2) = false →
           (modelValid m = false → ends (.model env) s 1 0xFFFF) ∧
           (modelValid m = true → modelRefused m s.esp.front.voxel = true → ends (.model env) s 4 0xFFFF) ∧
           (modelValid m = true → modelRefused m s.esp.front.voxel = false →
             ends (.model env) { s with esp := { s.esp with model := m, stops := [[]], fresh := false } } 0 0xFFFF)))) ∧
     (espServes s c k 2 →
       (s.esp.cycle ≠ none → ends (.library env) s 4 0xFFFF) ∧
       (s.esp.cycle = none → k.count = 1 → espRead s c k.src 64 env = ((l, none), s) → l.length = 64 →
         let e := l.map (·.1)
         (l.any (·.2) = true → ends (.library env) s 3 0xFFFF) ∧
         (l.any (·.2) = false →
           (entryValid e = false → ends (.library env) s 1 0) ∧
           (entryValid e = true → entryAllowed e = false → ends (.library env) s 4 0) ∧
           (entryValid e = true → entryAllowed e = true →
             ends (.library env) { s with esp := { s.esp with lib := Tbl.put s.esp.lib k.arg e, stops := [[]], fresh := false } } 0 0xFFFF))))) ∧
  (∀ (s : State) (env : Env) (c : Nat) (k : EspCmd) (pa : Nat) (l : Marked) (m : EspMap), calm s →
     let f := s.esp.front
     (espServes s c k 3 → s.esp.batch = none → s.esp.check = none →
       (s.esp.back ≠ none → exec (.map env) s = .next s) ∧
       (s.esp.back = none →
         (k.arg = 0 ∨ k.arg = s.esp.front.epoch → espReports s c k pa → ∃ t, exec (.map env) s = .next t ∧
           espEnded s t c k pa (espWord 4 0xFFFF 0 false) ∧ inPipeline t 0x9030 2) ∧
         (k.arg ≠ 0 → k.arg ≠ s.esp.front.epoch → k.mask = 0 → espRead s c k.src 64 env = ((l, none), s) → l.any (·.2) = false →
           let h := l.map (·.1)
           bytesAt h 60 4 = (crc32c (h.take 60)).toNat → ((h.drop 49).take 11).all (· == 0) = true →
           exec (.map env) s = .next { s with esp := { s.esp with cmd := none, back := some (k, { s.esp.front with
             epoch := k.arg, base := bytesAt h 0 8, pose := (h.drop 20).take 29, expired := false,
             origin := [(BitVec.ofNat 32 (bytesAt h 8 4)).toInt, (BitVec.ofNat 32 (bytesAt h 12 4)).toInt,
               (BitVec.ofNat 32 (bytesAt h 16 4)).toInt] }) } }))) ∧
     (s.esp.bound = some c → s.esp.back = some (k, m) → espReports s c k pa →
       let v := (liveVal s 11 0x10 c).toNat
       ∃ t, exec .epochSwap s = .next t ∧ memGets t pa 8 = leBytes 8 (espWord 0 0xFFFF 0 false) ∧
         syncGet t c k.done = syncGet s c k.done + 1 ∧ t.err = s.err ∧
         t.esp = { s.esp with front := { m with voxel := bitsOf v 7 0, slice := bitsOf v 31 16, unk := v.testBit 8 }, back := none,
                              fresh := false, validating := true }) ∧
     ((s.esp.bound ≠ none → f.epoch ≠ 0 → f.expired = false → f.base + 32000000 * f.slice ≤ s.gtc → ∃ t, exec .epochExpiry s = .next t ∧
         accepted { s with esp := { s.esp with front := { f with expired := true }, ready := false } } t 0x9014 2) ∧
       (f.epoch = 0 ∨ f.expired = true ∨ s.gtc < f.base + 32000000 * f.slice → exec .epochExpiry s = .next s)))

/-- (1) A stop set is held until its validation, refused above 131,072 pairs, and waits while a validation runs.  The validation takes the
larger counts of the two halves and selects the stop to publish, STOP_READY follows, an unsafe stop is recorded, and a lane is charged
where the halves differ (19 R663 to R666).  Stated for one alternative without a publication that waits.
(2) CYCLE_OPEN opens the next cycle with its deadline; CYCLE_CLOSE publishes the incumbent as PLAN, waits for a double check, and ends
with NO_CYCLE, or LATE after a cycle that has ended; a deadline that passes is recorded, asserts PLAN_LATE_L and publishes the stop (19
R658, R668, R669, R672).  The publications are stated for a validated stop, with no copy, place or vector to write.
(3) A batch starts its tests on the front epoch; its results are written, and its best feasible candidate, if it would become incumbent,
is tested again on another lane before it does; three different results leave it blocked and a lane in the minority is charged (19 R658 to
R661).  The results are stated for one candidate.
Where the spec leaves a point open it rests on the model's choices: log 16, 108, 109. -/
def Obligations.EspalierStopsCyclesAndBatches : Prop :=
  (∀ (s : State) (env : Env) (c : Nat) (k : EspCmd) (pa : Nat) (l : Marked) (p q third : PairCounts) (lane : BitVec 7), calm s →
     s.rcd.ring.length < 16000 →
     (espServes s c k 4 →
       (s.esp.validating = true → exec (.stop env) s = .next s) ∧
       (s.esp.validating = false → k.count = 1 → espRead s c k.src 32 env = ((l, none), s) → l.length = 32 → l.any (·.2) = false →
         let a := l.map (·.1)
         let set := (List.range (bytesAt a 0 1)).map (fun i => bytesAt a (16 + 2 * i) 2)
         (bytesAt a 0 1 ≤ 8 → ((a.drop 1).take 15).all (· == 0) = true →
           (stopPairs s set ≤ 131072 → exec (.stop env) s =
             .next { s with esp := { s.esp with stops := [set], fresh := false, validating := true } }) ∧
           (131072 < stopPairs s set → espReports s c k pa → ∃ t, exec (.stop env) s = .next t ∧
             espEnded s t c k pa (espWord 4 0xFFFF 0 false) ∧ inPipeline t 0x9030 2)) ∧
         (8 < bytesAt a 0 1 → espReports s c k pa → ∃ t, exec (.stop env) s = .next t ∧
           espEnded s t c k pa (espWord 1 0 0 false) ∧ inPipeline t 0x9030 2))) ∧
     (s.esp.bound ≠ none → s.esp.validating = true → s.esp.due = none → s.esp.cmd = none → s.esp.stops.length = 1 →
       let v := selectStop s [(Nat.max p.n1.toNat q.n1.toNat, Nat.max p.n2.toNat q.n2.toNat, Nat.max p.n3.toNat q.n3.toNat)]
       let done : State → Prop := fun t => t.esp.valid = some v ∧ t.esp.fresh = true ∧ t.esp.validating = false ∧ t.esp.stops = s.esp.stops ∧
         t.esp.ready = (s.esp.front.epoch != 0 && !s.esp.front.expired && !v.unsafeStop && !v.prims.isEmpty) ∧
         (v.unsafeStop = true → inPipeline t 0x9013 2) ∧ t.mem = s.mem ∧ t.ctxs = s.ctxs
       (p = q → ∃ t, exec (.stopValidationComplete [p] [q] [third] lane) s = .next t ∧ done t ∧ t.esp.mism = s.esp.mism) ∧
       (p ≠ q → Tbl.get [] s.esp.charges lane.toNat = [] → ∃ t, exec (.stopValidationComplete [p] [q] [third] lane) s = .next t ∧ done t ∧
         t.esp.mism = satAdd 65535 s.esp.mism 1 ∧ Tbl.get [] t.esp.charges lane.toNat = [s.aon] ∧ lastRecord t 0x9020 1 0x09 lane.toNat))) ∧
  (∀ (s : State) (c : Nat) (k : EspCmd) (pa : Nat), calm s → s.rcd.ring.length < 16000 →
     (espServes s c k 5 → espReports s c k pa →
       (s.esp.cycle ≠ none → ∃ t, exec .cycleOpen s = .next t ∧ espEnded s t c k pa (espWord 1 0xFFFF 0 false) ∧ inPipeline t 0x9030 2) ∧
       (∀ ps, s.esp.cycle = none → writePlaces s c 2 k.dst 256 = (ps, true) → ∃ t, exec .cycleOpen s = .next t ∧
         memGets t pa 8 = leBytes 8 (espWord 0 0xFFFF 0 false) ∧ t.ctxs = s.ctxs ∧ t.esp = { s.esp with
           cycleNo := s.esp.cycleNo + 1, ended := false, cmd := none,
           cycle := some ⟨s.esp.cycleNo + 1, s.gtc + bitsOf (liveVal s 11 0x10 c).toNat 55 36 * 1000, k.flags.testBit 0, ps, k.done, 0, none⟩ })) ∧
     (espServes s c k 7 →
       (s.esp.check ≠ none ∨ s.esp.batch ≠ none → exec .cycleClose s = .next s) ∧
       (s.esp.check = none → s.esp.batch = none → espReports s c k pa →
         (s.esp.cycle = none → ∃ t, exec .cycleClose s = .next t ∧ espEnded { s with esp := { s.esp with ended := false } } t c k pa
           (espWord (if s.esp.ended then 2 else 5) 0xFFFF 0 false)) ∧
         (∀ cy i v, s.esp.cycle = some cy → cy.inc = some i → cy.copy = [] → cy.done = 0xFFFF → s.esp.pubPlace = none →
           (liveVal s 11 0x22 c).toNat.testBit 48 = false → s.esp.valid = some v → s.esp.fresh = true →
           ∃ t, exec .cycleClose s = .next t ∧ memGets t pa 8 = leBytes 8 (espWord 0 0xFFFF 0 false) ∧
             syncGet t c k.done = syncGet s c k.done + 1 ∧ t.esp.cycle = none ∧ t.esp.ended = false ∧ t.esp.cmd = none ∧
             t.esp.pubSeq = s.esp.pubSeq + 1 ∧ bytesAt t.esp.mail 8 1 = 1 ∧ (s.gtc ≤ cy.deadline → t.esp.late = false) ∧
             (cy.deadline < s.gtc → t.esp.late = s.esp.late) ∧ lastRecord t 0x9010 0 0x09 0xFFFF))) ∧
     (s.esp.bound = some c → ∀ cy, s.esp.cycle = some cy →
       (s.gtc < cy.deadline ∨ s.esp.due ≠ none → exec .planningDeadline s = .next s) ∧
       (∀ v, cy.deadline ≤ s.gtc → s.esp.due = none → s.esp.batch = none → cy.copy = [] → cy.done = 0xFFFF → s.esp.pubPlace = none →
         (liveVal s 11 0x22 c).toNat.testBit 48 = false → s.esp.valid = some v → s.esp.fresh = true → s.esp.validating = false →
         ∃ t, exec .planningDeadline s = .next t ∧ inPipeline t 0x9012 2 ∧ t.esp.late = true ∧ t.esp.cycle = none ∧ t.esp.ended = true ∧
           t.esp.missed = satAdd 65535 s.esp.missed 1 ∧ bytesAt t.esp.mail 8 1 = (if cy.optimise then 3 else 2) ∧
           lastRecord t 0x9011 0 0x09 0xFFFF ∧ t.mem = s.mem ∧ t.ctxs = s.ctxs))) ∧
  (∀ (s : State) (env : Env) (c : Nat) (k : EspCmd) (pa dpa : Nat) (h l : Marked), calm s → s.rcd.ring.length < 16000 →
     (espServes s c k 6 →
       (s.esp.batch ≠ none ∨ s.esp.check ≠ none → exec (.batch env) s = .next s) ∧
       (s.esp.batch = none → s.esp.check = none →
         (s.esp.cycle = none → espReports s c k pa → ∃ t, exec (.batch env) s = .next t ∧
           espEnded s t c k pa (espWord (if s.esp.ended then 2 else 5) 0xFFFF 0 false)) ∧
         (∀ cy x, s.esp.cycle = some cy → k.count = 1 → espRead s c k.src 64 env = ((h, none), s) → h.any (·.2) = false →
           espRead s c (k.src + 64) 136 (envAfter env 64) = ((l, none), s) → l.length = 136 →
           let b := h.map (·.1)
           bytesAt b 60 4 = (crc32c (b.take 60)).toNat → bytesAt b 29 3 = 0 → ((b.drop 40).take 20).all (· == 0) = true →
           candOf s (bytesAt b 28 1) l = some x →
           exec (.batch env) s = .next { s with esp := { s.esp with cycle := some { cy with batches := cy.batches + 1 },
                                                                    batch := some ⟨s.esp.front.epoch, cy.batches + 1, b.take 29, [x]⟩ } }))) ∧
     (∀ b cy x r, s.esp.bound = some c → s.esp.batch = some b → s.esp.cmd = some k → s.esp.cycle = some cy → b.tests = [x] → k.count = 1 →
       k.dst % 4096 + 16 ≤ 4096 → xlat s c k.dst .write none = .ok (.hbm dpa) → stepHolder s 0xFFFF (.hbm dpa) = none →
       let v := verdictOf s x r
       espReports (storeCells s dpa (resultBytes v r) false) c k pa → dpa + 16 ≤ pa ∨ pa + 8 ≤ dpa →
       ∃ t, exec (.batchComplete [r]) s = .next t ∧ memGets t dpa 16 = resultBytes v r ∧
         memGets t pa 8 = leBytes 8 (espWord 0 0xFFFF b.epoch (b.epoch != s.esp.front.epoch)) ∧ syncGet t c k.done = syncGet s c k.done + 1 ∧
         t.esp = { s.esp with batch := none, cmd := none,
                              check := if v = 0 ∧ cy.inc.elim true (fun i => decide (x.score < i.score)) = true then
                                some (⟨x.score, 0, b.num, b.epoch, x.path, b.pose⟩, pairNat r.counts, r.lane.toNat) else none }) ∧
     (∀ x first lane cy (second t3 : CandResult), s.esp.check = some (x, first, lane) → s.esp.cycle = some cy →
       let taken : Esp := { s.esp with check := none, cycle := some { cy with inc := some x } }
       let two := pairNat second.counts
       (two = first → ∀ o, exec (.doubleCheckComplete second o) s = .next { s with esp := taken }) ∧
       (two ≠ first → exec (.doubleCheckComplete second none) s = .next s) ∧
       (two ≠ first → pairNat t3.counts = first → Tbl.get [] s.esp.charges second.lane.toNat = [] →
         ∃ t, exec (.doubleCheckComplete second (some t3)) s = .next t ∧ lastRecord t 0x9020 1 0x09 second.lane.toNat ∧
           t.esp = { taken with mism := satAdd 65535 s.esp.mism 1, charges := t.esp.charges } ∧
           Tbl.get [] t.esp.charges second.lane.toNat = [s.aon]) ∧
       (two ≠ first → pairNat t3.counts = two → espBlocked s two = true → Tbl.get [] s.esp.charges lane = [] →
         ∃ t, exec (.doubleCheckComplete second (some t3)) s = .next t ∧ t.esp.check = none ∧ t.esp.cycle = some cy ∧
           Tbl.get [] t.esp.charges lane = [s.aon]) ∧
       (two ≠ first → pairNat t3.counts ≠ first → pairNat t3.counts ≠ two →
         ∃ t, exec (.doubleCheckComplete second (some t3)) s = .next t ∧ inPipeline t 0x9022 2 ∧ t.esp.check = none ∧ t.esp.cycle = some cy)))

/-! ### Recorder -/

/-- (1) One program operation of the record being programmed: after the fifth the record stands in its region's next slot and leaves the
volatile ring; a failed one leaves a torn slot and the record starts again in the next.  While the write window is closed no record is
begun (20 R688 to R691, 04 R153).  Stated for the durable log, a block without wear and two erased blocks left.
(2) An erase that ends gives its block to its region again, or retires it when it failed, which is recorded; a rate window that closes
records what it suppressed; the power-on seconds are stored while the window is open; at its limit a freeze ends with its summary (20 R682,
R690, R693, R695 to R697, R701, Table 20.6).
Where the spec leaves a point open it rests on the model's choices: log 16, 110, 111, 112. -/
def Obligations.RecorderKeepsItsRing : Prop :=
  (∀ (s : State) (n : Nat) (ok : Bool),
     (s.phase = .off → exec (.recordProgramStep n ok) s = .next s) ∧
     (s.rcd.op = none → s.thm.nvOpen = false → exec (.recordProgramStep n ok) s = .next s) ∧
     (s.rcd.op = none → s.pwr.warn = false → s.rcd.ckptWait = none → s.rcd.ring = [] ∨ s.rcd.frozen = true →
       exec (.recordProgramStep n ok) s = .next s) ∧
     (∀ g, s.phase ≠ .off → s.pwr.warn = false → s.rcd.log.segs = [g] → g.slots.length < 1024 → (getBlk s g.block).retired = false →
       (getBlk s g.block).erases < 90000 → (getBlk s g.block).retries = 0 → 2 ≤ s.rcd.log.erased.length → s.rcd.missed.all (· == 0) = true →
       let b := g.block
       let used : State → Nat → Prop := fun t fails => getBlk t b = { getBlk s b with ops := (getBlk s b).ops + 1, fails := fails } ∧
         ∀ k, k ≠ b → getBlk t k = getBlk s k
       (∀ o, s.rcd.op = some o → o.region = 1 →
         (o.op < 4 → ∃ t, exec (.recordProgramStep 0 true) s = .next t ∧ used t (getBlk s b).fails ∧
           t = { s with rcd := { s.rcd with blocks := t.rcd.blocks, op := some { o with op := o.op + 1 } } }) ∧
         (4 ≤ o.op → s.rcd.ring = [⟨o.body, false⟩] → ∃ t, exec (.recordProgramStep 0 true) s = .next t ∧ used t (getBlk s b).fails ∧
           t = { s with rcd := { s.rcd with blocks := t.rcd.blocks, op := none, ring := [], log := { s.rcd.log with
             segs := [{ g with slots := g.slots ++ [⟨o.body.bytes⟩] }], next := s.rcd.log.next + 1 } } }) ∧
         ((getBlk s b).fails < 3 → ∃ t, exec (.recordProgramStep 0 false) s = .next t ∧ used t ((getBlk s b).fails + 1) ∧
           t.rcd.op = some { o with op := 0 } ∧ t.rcd.tornTot = satAdd 255 s.rcd.tornTot 1 ∧ t.rcd.ring = s.rcd.ring ∧
           t.rcd.log.next = s.rcd.log.next + 1 ∧ ∃ v, t.rcd.log.segs = [{ g with slots := g.slots ++ [⟨tornBytes o.body.bytes o.op v⟩] }])) ∧
       (∀ x, s.rcd.op = none → s.thm.nvOpen = true → s.rcd.ckptWait = none → s.rcd.frozen = false → s.rcd.ring = [x] →
         isService x.body = false → x.body.sev = 5 ∨ x.body.code ∈ exemptCodes → ∃ t, exec (.recordProgramStep 0 true) s = .next t ∧
           used t (getBlk s b).fails ∧ t = { s with rcd := { s.rcd with blocks := t.rcd.blocks, op := some ⟨1, x.body, true, 1, 0⟩ } }))) ∧
  (∀ (s : State) (block : BitVec 9) (code : BitVec 16) (ok : Bool),
     let b := block.toNat
     let k := getBlk s b
     let r := s.rcd
     (s.thm.nvOpen = false ∨ s.pwr.warn = true ∨ s.phase = .off ∨ (r.log.erasing ≠ some b ∧ r.ckpt.erasing ≠ some b ∧ r.svc.erasing ≠ some b) →
       exec (.eraseComplete block ok) s = .next s) ∧
     (s.thm.nvOpen = true → s.pwr.warn = false → s.phase ≠ .off → r.log.erasing = some b → 2 ≤ r.log.erased.length →
       (k.erases + 1 < 90000 → ∃ t, exec (.eraseComplete block true) s = .next t ∧
         getBlk t b = { k with erases := k.erases + 1, fails := 0, retries := 0, ops := 0 } ∧ (∀ j, j ≠ b → getBlk t j = getBlk s j) ∧
         t = { s with rcd := { r with blocks := t.rcd.blocks, log := { r.log with erasing := none, erased := r.log.erased ++ [b] } } }) ∧
       (calm s → k.retired = false → b ∉ r.log.erased → 384 < usable s r.log → ∃ t, exec (.eraseComplete block false) s = .next t ∧
         (getBlk t b).retired = true ∧ t.rcd.log.erasing = none ∧ t.rcd.log.segs = r.log.segs ∧ inPipeline t 0xA011 2 ∧ t.mem = s.mem ∧
         t.ctxs = s.ctxs)) ∧
     ((∀ w ∈ r.rates, w.code ≠ code.toNat) → s.err.ringDue = false → exec (.rateWindowClose code) s = .next s) ∧
     (∀ w, r.rates = [w] → w.code = code.toNat → ringOff s →
       (w.supp = 0 → exec (.rateWindowClose code) s = .next { s with rcd := { r with rates := [] } }) ∧
       (w.supp ≠ 0 → ringOpen s → ∃ t, exec (.rateWindowClose code) s = .next t ∧
         recorded { s with rcd := { r with rates := [] } } t 0xA001 0 0x0D 0)) ∧
     (s.phase = .off ∨ s.thm.nvOpen = false → exec .powerOnSecondsStore s = .next s) ∧
     (s.phase ≠ .off → s.thm.nvOpen = true → exec .powerOnSecondsStore s =
       .next { s with rcd := { r with ctrStored := powerOnSec s, ctrWrites := r.ctrWrites + 1 } }) ∧
     (r.frozen = false → s.err.ringDue = false → exec .freezeLimitExpiry s = .next s) ∧
     (r.frozen = true → ringOff s → r.ring.length < 16320 → ∃ t, exec .freezeLimitExpiry s = .next t ∧
       recorded { s with rcd := { r with frozen := false, frzCounts := [0, 0, 0, 0, 0, 0], freezeReg := 0 } } t 0xA003 0 0x0D 0))

/-! ### Chorno -/

/-- (1) A valid beacon carries the frame and the masks; a clean one sets the frame origin, synchronises a device that was not, and counts
towards the end of a self-mute; one that is not clean does neither, and a bad CRC is counted.  The fourth guard hit among the last 64
beacons mutes the device (21 R713, R715, R717 to R719).
(2) In its slot the device sends one message: the answer to a command first, else a report, else a direct record, else HEARTBEAT; it
sends nothing unsynchronised or muted, and falls silent when its uncertainty has grown too far.  A fourth collision among its last 64
bursts mutes it (21 R716, R720 to R723).
(3) A command of the tray controller is performed and answered once for a sequence number, and one for another device is ignored; a
program is assembled from its segments and enters queue 1023; a grant is given or revoked (21 R721, R725 to R727, R737, Table 21.7).
(4) Settings and recorder slots are read, chunks of a pack are staged and its state is answered; a chunk to every device is staged
without an answer.  A partial assembly ends after 100 frames, and a device that is held says so (21 R724, R726, R728 to R730, Table 21.6).
Where the spec leaves a point open it rests on the model's choices: log 113, 114, 115. -/
def Obligations.ChornoBusIsServed : Prop :=
  (∀ (s : State) (b : BeaconMsg), calm s →
     let slot := s.straps.chnSlot.toNat
     let hit := b.guardHit.getLsbD slot
     let heard : Chorno := { s.chn with frame := b.frame.toNat, cmdM := b.mute.getLsbD slot, hits := (hit :: s.chn.hits).take 64 }
     let good : Chorno := { heard with clean := s.chn.frames, frameC := b.frame.toNat, sync := true, silent := false, run := s.chn.run + 1 }
     let near := b.errNs * 20 ≤ 4000 + 1024 * chnAge s
     (s.phase = .off → exec (.beacon b) s = .next s) ∧
     (s.phase ≠ .off → b.crcOk = false →
       exec (.beacon b) s = .next { s with chn := { s.chn with crcFail := satAdd 65535 s.chn.crcFail 1, run := 0 } }) ∧
     (s.phase ≠ .off → b.crcOk = true → hit = false →
       (s.chn.sync = false → s.chn.selfM = false → ∃ t, exec (.beacon b) s = .next t ∧ recorded { s with chn := good } t 0xB001 0 0x0E 0) ∧
       (s.chn.sync = true → near → s.chn.selfM = false ∨ s.chn.run < 15 → exec (.beacon b) s = .next { s with chn := good }) ∧
       (s.chn.sync = true → near → s.chn.selfM = true → 15 ≤ s.chn.run → ∃ t, exec (.beacon b) s = .next t ∧
         recorded { s with chn := { good with selfM := false } } t 0xB004 0 0x0E 0) ∧
       (s.chn.sync = true → ¬ near → s.chn.selfM = false → exec (.beacon b) s = .next { s with chn := { heard with run := 0 } })) ∧
     (s.phase ≠ .off → b.crcOk = true → hit = true → s.chn.sync = true → near → s.chn.selfM = false → s.chn.hits.length < 64 → 3 ≤ chnHits s →
       ∃ t, exec (.beacon b) s = .next t ∧ accepted { s with chn := { good with selfM := true, run := 0 } } t 0xB003 2)) ∧
  (∀ (s : State) (collided : Bool), ringOff s → ringOpen s →
     let c := s.chn
     let run := if chnAge s > 0 then 0 else c.run
     let burst : State → Nat → List Byte → Prop := fun t kind payload => ∃ b, t.out = .chn kind 0x10 b :: s.out ∧
       b.take 5 = [0x55, 0x7E, BitVec.ofNat 8 kind, 0x10, BitVec.ofNat 8 s.straps.chnSlot.toNat] ∧
       (b.drop 10).take payload.length = payload ∧ t.chn.frames = c.frames + 1 ∧ t.chn.bursts = satAdd 65535 c.bursts 1 ∧ t.mem = s.mem
     let free := s.phase ≠ .off ∧ c.sync = true ∧ chnSilent s = false ∧ c.selfM = false ∧ c.cmdM = false ∧ c.clash = false
     let nothing := c.done = [] ∧ s.bist.repeatDue = false ∧ c.holdDue = false ∧ s.err.folded = [] ∧ c.txq = []
     (s.phase = .off → exec (.deviceSlot collided) s = .next s) ∧
     (s.phase ≠ .off → c.sync = false ∨ (chnSilent s = false ∧ (c.selfM = true ∨ c.cmdM = true ∨ c.clash = true)) →
       exec (.deviceSlot collided) s = .next { s with chn := { c with run := run, frames := c.frames + 1 } }) ∧
     (s.phase ≠ .off → c.sync = true → chnSilent s = true → ∃ t, exec (.deviceSlot collided) s = .next t ∧
       recorded { s with chn := { c with run := run, sync := false, silent := true, frames := c.frames + 1 } } t 0xB002 0 0x0E 0) ∧
     (free → ∀ k p, c.ans = some (k, p) → ∃ t, exec (.deviceSlot false) s = .next t ∧ burst t k p ∧ t.chn.ans = none ∧ t.err = s.err) ∧
     (free → c.ans = none → nothing →
       (∀ r l, s.err.reports = r :: l → ∃ t, exec (.deviceSlot false) s = .next t ∧ burst t 0x81 r.bytes ∧ t.err.reports = l) ∧
       (∀ r, s.err.reports = [] → s.err.direct = [r] → ∃ t, exec (.deviceSlot false) s = .next t ∧ burst t 0x8A r.bytes ∧ t.err.direct = []) ∧
       (s.err.reports = [] → s.err.direct = [] → ∃ t, exec (.deviceSlot false) s = .next t ∧ burst t 0x80 [] ∧ t.err = s.err ∧
         t.chn.collN = satAdd 255 c.collN 0 ∧ t.chn.clash = false) ∧
       (s.err.reports = [] → s.err.direct = [] → pipelineEmpty s → c.colls.length < 64 → 3 ≤ chnColls s →
         ∃ t, exec (.deviceSlot true) s = .next t ∧ burst t 0x80 [] ∧ t.chn.clash = true ∧ inPipeline t 0xB005 2))) ∧
  (∀ (s : State) (h : ChnHdr) (pid q pu ck idx : BitVec 16) (seg nseg act blk words region : Byte) (index : BitVec 64) (data : List Byte),
     ringOff s → ringOpen s →
     let n := h.seq.toNat
     let ack : Nat → List Word64 → Nat × List Byte := fun r ws => (0x83, leBytes 1 n ++ leBytes 1 r ++ ws.flatMap (fun w => leBytes 8 w.toNat))
     let answer : State → Nat × List Byte → State := fun x m => { x with chn := { x.chn with ans := some m, last := some (n, m) } }
     let refused : Instr → Nat → Prop := fun i r => ∃ t, exec i s = .next t ∧ recorded (answer s (ack r [])) t 0xB010 0 0x0E 0
     let all := [Instr.programSeg h pid seg nseg data, .grant h q act, .readSetting h blk idx words, .recRead h region index,
       .packData h ck pu data, .packQuery h pu]
     (s.phase = .off → ∀ i ∈ all, exec i s = .next s) ∧
     (h.dst.toNat ≠ s.straps.chnSlot.toNat → h.dst ≠ 0xFF → ∀ i ∈ all, exec i s = .next s) ∧
     (s.phase ≠ .off → h.dst.toNat = s.straps.chnSlot.toNat →
       (∀ m, s.chn.last = some (n, m) → ∀ i ∈ all, exec i s = .next { s with chn := { s.chn with ans := some m } }) ∧
       ((∀ m, s.chn.last ≠ some (n, m)) →
         (data = [] ∨ 256 < data.length ∨ nseg = 0 ∨ 5 < nseg.toNat ∨ nseg.toNat ≤ seg.toNat → refused (.programSeg h pid seg nseg data) 2) ∧
         (0 < data.length → data.length ≤ 256 →
           (2 ≤ nseg.toNat → nseg.toNat ≤ 5 → exec (.programSeg h pid 0 nseg data) s =
             .next (answer { s with chn := { s.chn with asm := some ⟨pid.toNat, nseg.toNat, 1, data, s.chn.frames⟩ } } (ack 0 []))) ∧
           (noTreadle s = true → 48 ≤ data.length → data.length % 8 = 0 → ∃ t, exec (.programSeg h pid 0 1 data) s = .next t ∧
             recorded (answer { s with chn := { s.chn with asm := none } } (ack 3 [])) t 0xB010 0 0x0E 0) ∧
           (noTreadle s = false → 48 ≤ data.length → data.length % 8 = 0 → s.chn.ids.length < 4 → bytesAt data 4 1 ≤ 3 →
             (getQ s 1023).entries = [] → (getQ s 1023).valid = true → ctxGone s (getQ s 1023) = false →
             ∃ t, exec (.programSeg h pid 0 1 data) s = .next t ∧ t.chn.ids = s.chn.ids ++ [(pid.toNat, data.drop 40)] ∧
               (getQ t 1023).entries = [chnEntry data (data.length - 40)] ∧ t.chn.ans = some (ack 0 []) ∧ t.chn.asm = none ∧
               (∀ k, k ≠ 1023 → getQ t k = getQ s k) ∧ t.mem = s.mem)) ∧
         (noTreadle s = true → refused (.grant h q act) 3) ∧
         (noTreadle s = false →
           let d := getQ s q.toNat
           let fits := q.toNat ≤ 1022 ∧ d.valid = true ∧ d.priv = 1 ∧ d.fn = 0
           (¬ fits ∨ 1 < act.toNat → refused (.grant h q act) 2) ∧
           (fits →
             (q.toNat ∈ s.trd.grants → exec (.grant h q 1) s = .next (answer s (ack 0 [])) ∧ ∃ t, exec (.grant h q 0) s = .next t ∧
               recorded (answer (jot { s with trd := { s.trd with grants := dropNat s.trd.grants q.toNat } }) (ack 0 [])) t 0xB020 0 0x0E 0) ∧
             (q.toNat ∉ s.trd.grants → exec (.grant h q 0) s = .next (answer s (ack 0 [])) ∧
               (4 ≤ s.trd.grants.length → refused (.grant h q 1) 1) ∧
               (s.trd.grants.length < 4 → ∃ t, exec (.grant h q 1) s = .next t ∧
                 recorded (answer (jot { s with trd := { s.trd with grants := s.trd.grants ++ [q.toNat] } }) (ack 0 [])) t
                   0xB020 0 0x0E 0))))))) ∧
  (∀ (s : State) (h : ChnHdr) (pu ck idx : BitVec 16) (blk region : Byte) (index : BitVec 64) (data : List Byte), ringOff s → ringOpen s →
     s.phase ≠ .off →
     let n := h.seq.toNat
     let ack : Nat → List Word64 → Nat × List Byte := fun r ws => (0x83, leBytes 1 n ++ leBytes 1 r ++ ws.flatMap (fun w => leBytes 8 w.toNat))
     let answer : State → Nat × List Byte → State := fun x m => { x with chn := { x.chn with ans := some m, last := some (n, m) } }
     let refused : Instr → State → Nat → Prop := fun i x r => ∃ t, exec i s = .next t ∧ recorded (answer x (ack r [])) t 0xB010 0 0x0E 0
     let held := if s.chn.pushId = some pu.toNat then s.chn.chunks else []
     let staged : State := { s with chn := { s.chn with pushId := some pu.toNat, chunks := insertNat held ck.toNat },
                                    brl := { s.brl with staging := stageChunk s.brl.staging ck.toNat data } }
     let dropped : State := { s with chn := { s.chn with packDis := satAdd 255 s.chn.packDis 1 } }
     let mine := h.dst.toNat = s.straps.chnSlot.toNat ∧ ∀ m, s.chn.last ≠ some (n, m)
     let good := data.length = 256 ∧ ck.toNat ≤ 16383
     let now := (powerState s = 2 ∨ powerState s = 3) ∧ s.brl.verify = none
     (mine →
       refused (.readSetting h blk idx 0) s 2 ∧
       (setRow blk.toNat idx.toNat = none → refused (.readSetting h blk idx 1) s 2) ∧
       (∀ r, setRow blk.toNat idx.toNat = some r → r.perCtx = false → ¬ (blk.toNat = 12 ∧ idx.toNat = 0x17) →
         (noTreadle s = false ∨ aonServes blk.toNat idx.toNat = true →
           exec (.readSetting h blk idx 1) s = .next (answer s (ack 0 [readSetting s r idx.toNat 0]))) ∧
         (noTreadle s = true → aonServes blk.toNat idx.toNat = false → refused (.readSetting h blk idx 1) s 3)) ∧
       (3 < region.toNat → refused (.recRead h region index) s 2) ∧
       (region.toNat ≤ 3 → let r := recSlot s region.toNat index.toNat
         exec (.recRead h region index) s = .next (answer s (if 4 ≤ r.2 then (0x85, leBytes 1 r.2) else (0x84, r.1)))) ∧
       (h.dst ≠ 0xFF → (good → now → exec (.packData h ck pu data) s = .next (answer staged (ack 0 []))) ∧
         (good → ¬ now → refused (.packData h ck pu data) dropped 4) ∧ (¬ good → refused (.packData h ck pu data) dropped 2)) ∧
       exec (.packQuery h pu) s = .next (answer s (0x86, leBytes 2 pu.toNat ++ leBytes 2 (if s.chn.pushId = some pu.toNat then
         s.chn.chunks.length else 0) ++ ((missingChunks s pu.toNat).take 30).flatMap (leBytes 2)))) ∧
     (h.dst = 0xFF → (good → now → exec (.packData h ck pu data) s = .next staged) ∧
       (¬ (good ∧ now) → exec (.packData h ck pu data) s = .next dropped)) ∧
     (s.chn.asm = none → exec .programAssemblyTimeout s = .next s) ∧
     (∀ a, s.chn.asm = some a →
       (a.begun + 100 ≤ s.chn.frames → exec .programAssemblyTimeout s = .next { s with chn := { s.chn with asm := none } }) ∧
       (s.chn.frames < a.begun + 100 → exec .programAssemblyTimeout s = .next s)) ∧
     (s.phase = .oosHold ∨ pcReqLow s = true → exec .holdReport s = .next { s with chn := { s.chn with holdDue := true } }) ∧
     (s.phase ≠ .oosHold → pcReqLow s = false → exec .holdReport s = .next s))

/-! ### SMBus -/

/-- (1) Each SMBus read answers with its bytes and their packet error code, and changes nothing else; nothing answers without VAUX33.  The
status bytes hold the bits of Tables 21.9 and 21.10 (21 R732 to R734).
(2) SMBus writes: PAGE takes 0 to 2, CLEAR_FAULTS clears the latched bits, MFR_REC_PTR sets the readout pointer, which a read of the slot
advances; a bad packet error code discards the write, is latched and recorded.  SMB_ALERT_L is answered with the address and released for
the bits that still hold (21 R732 to R734).
Where the spec leaves a point open it rests on the model's choices: log 28, 116, 117. -/
def Obligations.SmbusIsServed : Prop :=
  (∀ (s : State) (ok : Bool) (mV : Nat),
     let a := BitVec.ofNat 8 (2 * (0x58 + s.straps.smbAddr.toNat))
     let gives : Instr → Nat → List Byte → Prop := fun i code d =>
       exec i s = .next { s with out := .smb (d ++ [pec ([a, BitVec.ofNat 8 code, a + 1] ++ d)]) :: s.out }
     let wrong : Instr → Nat → Prop := fun i code => exec i s = .next { s with
       smb := { s.smb with unsup := true }, out := .smb ([0xFF, 0xFF] ++ [pec [a, BitVec.ofNat 8 code, a + 1, 0xFF, 0xFF]]) :: s.out }
     let block : List Byte → List Byte := fun d => BitVec.ofNat 8 d.length :: d
     let input := (if s.smb.inUv ∨ (s.pwr.pwrEn = true ∧ s.pwr.vin12 = false) then 16 else 0) +
       (if meterMw s > (liveVal s 1 0x20 0).toNat * 1000 then 1 else 0)
     let temp := (if s.thm.latched then 128 else 0) + (if thermWarn s then 64 else 0)
     let cml := (if s.smb.unsup then 128 else 0) + (if s.smb.pec then 32 else 0)
     let byte := (if s.pwr.pwrGood then 0 else 64) + (if s.smb.vinUv ∨ (s.pwr.pwrEn = true ∧ s.pwr.vin12 = false) then 8 else 0) +
       (if temp ≠ 0 then 4 else 0) + (if cml ≠ 0 then 2 else 0) + (if faultLow s ∨ s.phase = .oosHold then 1 else 0)
     (s.phase = .off → ∀ i ∈ [Instr.page none ok, .capability, .statusByte, .statusWord, .statusInput, .statusTemperature, .statusCml,
       .readVin mV, .readIin, .readTemperature1, .readTemperature2, .readPin, .pmbusRevision, .mfrId, .mfrModel, .mfrRevision, .mfrSerial,
       .mfrDevStatus, .mfrBistResult, .mfrRecRead, .alertResponse], exec i s = .next s) ∧
     (s.phase ≠ .off →
       gives (.page none ok) 0x00 (leBytes 1 s.smb.page) ∧ gives .capability 0x19 [0xD0] ∧ gives .pmbusRevision 0x98 [0x44] ∧
       gives .statusInput 0x7C (leBytes 1 input) ∧ gives .statusTemperature 0x7D (leBytes 1 temp) ∧ gives .statusCml 0x7E (leBytes 1 cml) ∧
       gives .statusByte 0x78 (leBytes 1 byte) ∧
       gives .statusWord 0x79 (leBytes 2 (byte + (if input ≠ 0 then 2 ^ 13 else 0) + (if Config.mfrStatus (chnFlags s) then 2 ^ 12 else 0) +
         (if s.pwr.pwrGood then 0 else 2 ^ 11))) ∧
       gives (.readVin mV) 0x88 (leBytes 2 (linear11 (-5) (mantissa 0x88 (mV * 32) 1000))) ∧
       (s.smb.page = 0 → gives .readIin 0x89 (leBytes 2 (linear11 (-3) (mantissa 0x89 (s.pwr.iin * 8) 1000))) ∧
         gives .readPin 0x97 (leBytes 2 (linear11 1 (mantissa 0x97 (meterMw s) 2000)))) ∧
       (s.smb.page ≠ 0 → wrong .readIin 0x89 ∧ wrong .readPin 0x97) ∧
       (∀ n t, hottest s = some (n, t) → gives .readTemperature1 0x8D (leBytes 2 (linear11 (-2) t))) ∧
       (∀ t, uncoreTemp s = some t → gives .readTemperature2 0x8E (leBytes 2 (linear11 (-2) t))) ∧
       gives .mfrId 0x99 (block [0x4E, 0x59, 0x4D, 0x44, 0x45, 0x58]) ∧ gives .mfrRevision 0x9B (block [0x42, 0x31]) ∧
       (s.fuses.gradeW = 1000 → gives .mfrModel 0x9A (block [0x59, 0x35, 0x31, 0x32, 0x2D, 0x50, 0x31, 0x30])) ∧
       (s.fuses.gradeW ≠ 1000 → gives .mfrModel 0x9A (block [0x59, 0x35, 0x31, 0x32, 0x2D, 0x50, 0x36])) ∧
       gives .mfrSerial 0x9E (block (leBytes 8 s.fuses.serial.toNat)) ∧
       gives .mfrDevStatus 0xD0 (block (leBytes 2 (chnFlags s) ++ leBytes 4 (bistCounts s) ++ leBytes 3 (serviceWord s) ++
         leBytes 2 (chnStatus s) ++ leBytes 2 (hottestNo s) ++ [0, 0, 0])) ∧
       gives .mfrBistResult 0xD1 (block (summaryPay s (bistResult s) (bistCounts s) s.bist.essential.toNat)))) ∧
  (∀ (s : State) (v region : Byte) (index : BitVec 64),
     let a := BitVec.ofNat 8 (2 * (0x58 + s.straps.smbAddr.toNat))
     let clean := { s.smb with vinUv := false, inUv := false, unsup := false, pec := false }
     let w := statusWord s true
     (s.phase = .off → ∀ i ∈ [Instr.page (some v) true, .clearFaults true, .mfrRecPtr region index true], exec i s = .next s) ∧
     (s.phase ≠ .off →
       (v.toNat ≤ 2 → exec (.page (some v) true) s = .next { s with smb := { s.smb with page := v.toNat } }) ∧
       (2 < v.toNat → exec (.page (some v) true) s = .next s) ∧
       (region.toNat ≤ 3 → exec (.mfrRecPtr region index true) s =
         .next { s with smb := { s.smb with region := region.toNat, index := index.toNat } }) ∧
       (3 < region.toNat → exec (.mfrRecPtr region index true) s = .next s) ∧
       (∃ t, exec (.clearFaults true) s = .next t ∧ t = { s with smb := { clean with acked := statusWord { s with smb := clean } true } } ∧
         smbAlert t = false) ∧
       (ringOff s → ringOpen s → ∀ i ∈ [Instr.page (some v) false, .clearFaults false, .mfrRecPtr region index false],
         ∃ t, exec i s = .next t ∧ recorded { s with smb := { s.smb with pec := true } } t 0xB030 1 0x0E 1) ∧
       (let r := recSlot s s.smb.region s.smb.index
         let d := BitVec.ofNat 8 (1 + r.1.length) :: BitVec.ofNat 8 r.2 :: r.1
         exec .mfrRecRead s = .next { s with out := .smb (d ++ [pec ([a, 0xD3, a + 1] ++ d)]) :: s.out,
                                             smb := { s.smb with index := (s.smb.index + 1) % 2 ^ 64 } }) ∧
       (smbAlert s = false → exec .alertResponse s = .next s) ∧
       (smbAlert s = true → exec .alertResponse s = .next { s with
         out := .smb [a, pec [0x19, a]] :: s.out,
         smb := { s.smb with acked := if w = statusWord s false then w else s.smb.acked &&& w } })))

/-! ### PCIe -/

/-- (1) The data of an outstanding host read is delivered to its destination; one that times out poisons it, is counted and recorded.  A
completion for a read that was given up is discarded, one for a read never made is an Unexpected Completion (13 R455, 22 R745, R758, Table
22.6).  Stated for the one read of a memory Shuttle's copy within a page each way.
(2) A completion that the device cannot accept is reported through AER and recorded; a corrected error is counted and recorded; the
heartbeat mailbox takes the GTC (22 R752, R758, Table 22.6).
(3) The link trains at release and after a loss, and a narrower or slower one is recorded as degraded; its loss is recorded and contexts
keep running; a training that fails is recorded (22 R742 to R744, R762, R766).  The loss is stated with no read outstanding.
(4) A function-level reset of a VF or of the PF, a hot reset, a link disable and PERST_L enter PCIE_FUNCTION_RESET or its conventional
form and hold the functions in reset; the conventional ones take the link down, and PERST_L is followed as a pin (22 R744, R759, R760).
None applies with the link down or before release.
Where the spec leaves a point open it rests on the model's choices: log 118, 119, 120. -/
def Obligations.HostLinkErrorsAndFunctionResets : Prop :=
  (∀ (s : State) (n : Nat) (d : HostData),
     (Tbl.has s.pci.reads n = false → exec (.hostCompletionTimeout n) s = .next s ∧
       (s.pci.up = false ∨ n < s.pci.nextTag → exec (.hostReadCompletion n d) s = .next s) ∧
       (s.pci.up = true → s.pci.nextTag ≤ n → calm s → ∃ t, exec (.hostReadCompletion n d) s = .next t ∧
         accepted { s with pci := { s.pci with aer := insertNat s.pci.aer 16 } } t 0xC014 2)) ∧
     (s.pci.up = false → exec (.hostReadCompletion n d) s = .next s) ∧
     ∀ r x f bus dst, s.pci.reads = [(n, r)] → s.pci.up = true → engineQ s r.engine = [x] → x.tag = some n → r.engine < 12 →
       x.trig.kind = 1 → x.trig.done = 0xFFFF → x.trig.inStep = none → destHeld s x = false → x.ctx < 256 → (getC s x.ctx).fault = 0 →
       let len := x.trig.len
       0 < len → x.trig.src % 4096 + len ≤ 4096 → x.trig.dst % 4096 + len ≤ 4096 → xlat s x.ctx x.trig.src .read none = .ok (.host f bus) →
       xlat s x.ctx x.trig.dst .write none = .ok (.hbm dst) → hostOk s f = true →
       let done : State → Prop := fun t => t.pci.reads = [] ∧ engineQ t r.engine = [] ∧ (∀ a, a < dst ∨ dst + len ≤ a → memGet t a = memGet s a) ∧
         t.ctxs = s.ctxs
       (d.status = .ok → d.bytes.length = len → ∃ t, exec (.hostReadCompletion n d) s = .next t ∧ done t ∧ memGets t dst len = d.bytes ∧
         t.err = s.err) ∧
       (calm s → ∃ t, exec (.hostCompletionTimeout n) s = .next t ∧ done t ∧ (∀ i, i < len → isPoison t (dst + i) = true) ∧
         t.pci.cntTo = satAdd 65535 s.pci.cntTo 1 ∧ inPipeline t 0xC011 2 ∧ inPipeline t 0x4004 2)) ∧
  (∀ (s : State) (bit : Byte),
     (s.phase ≠ .run → ∀ i ∈ [Instr.pcieUncorrectable bit true, .pcieUncorrectable bit false, .pcieCorrected bit, .heartbeatMailboxRefresh],
       exec i s = .next s) ∧
     (s.phase = .run →
       exec .heartbeatMailboxRefresh s = .next { s with pci := { s.pci with beat := s.gtc } } ∧
       exec (.pcieUncorrectable bit true) s = .next { s with pci := { s.pci with aer := insertNat s.pci.aer 20 } } ∧
       (calm s → ∃ t, exec (.pcieUncorrectable bit false) s = .next t ∧
         accepted { s with pci := { s.pci with aer := insertNat s.pci.aer bit.toNat } } t 0xC014 2) ∧
       (ringOff s → ringOpen s → ∃ t, exec (.pcieCorrected bit) s = .next t ∧
         recorded { s with pci := { s.pci with cntCorr := satAdd 65535 s.pci.cntCorr 1, aer := insertNat s.pci.aer (32 + bit.toNat) } } t
           0xC010 1 0x0A 0))) ∧
  (∀ (s : State) (speed : BitVec 4) (width : Byte) (flit : Bool),
     let sp := speed.toNat
     let w := width.toNat
     let may := s.pci.up = false ∧ s.pci.perst = false ∧ (getF s 0).inReset = false ∧ s.phase = .run
     let up : State := { s with pci := { s.pci with up := true, speed := sp, width := w, flit := flit } }
     (¬ may ∨ sp = 0 ∨ 6 < sp ∨ w ∉ [1, 2, 4, 8, 16] → exec (.pcieLinkUp speed width flit) s = .next s) ∧
     (may → ringOff s → s.rcd.frozen = false → s.rcd.ring.length < 16000 →
       (sp = 6 → w = 16 → ∃ t, exec (.pcieLinkUp speed width flit) s = .next t ∧ recorded up t 0xC001 0 0x0A 0) ∧
       (1 ≤ sp → sp ≤ 6 → w ∈ [1, 2, 4, 8, 16] → ¬ (sp = 6 ∧ w = 16) → ∃ t, exec (.pcieLinkUp speed width flit) s = .next t ∧
         recorded up t 0xC003 0 0x0A 0)) ∧
     (¬ may → exec .pcieTrainRetry s = .next s) ∧
     (may → calm s → ∃ t, exec .pcieTrainRetry s = .next t ∧ accepted s t 0xC002 2) ∧
     (s.pci.up = false → exec .pcieLinkDown s = .next s) ∧
     (s.pci.up = true → calm s → s.pci.reads = [] → ∃ t, exec .pcieLinkDown s = .next t ∧
       accepted { s with pci := { s.pci with up := false, speed := 0, width := 0, flit := false, reads := [] },
                         shut := s.shut.map (fun e => (e.1, e.2.map (fun x => { x with tag := none }))) } t 0xC002 2)) ∧
  (∀ (s : State) (fn : BitVec 6),
     let held : State → Nat → Prop := fun t f => (getF t f).inReset = true
     let down : Instr → Prop := fun i => ∃ t, exec i s = .next t ∧ inPipeline t 0xC004 4 ∧ (∀ f, f < 64 → held t f) ∧ t.pci.up = false ∧
       t.ctxs = s.ctxs ∧ t.mem = s.mem
     (fn = 0 ∨ s.pci.up = false ∨ fnEnabled s fn.toNat = false ∨ s.phase ≠ .run → exec (.flrVf fn) s = .next s) ∧
     (s.pci.up = false ∨ s.phase ≠ .run → ∀ i ∈ [Instr.flrPf, .hotReset, .linkDisable], exec i s = .next s) ∧
     (calm s → s.pci.up = true → s.phase = .run →
       (fn ≠ 0 → fnEnabled s fn.toNat = true → ∃ t, exec (.flrVf fn) s = .next t ∧
         accepted (putF s fn.toNat { getF s fn.toNat with inReset := true }) t 0xC005 4) ∧
       (∃ t, exec .flrPf s = .next t ∧ inPipeline t 0xC005 4 ∧ (∀ f, f < 64 → held t f) ∧ t.pci.up = true ∧ t.ctxs = s.ctxs ∧ t.mem = s.mem) ∧
       down .hotReset ∧ down .linkDisable ∧ (s.pci.perst = false → down .perstLAssert)) ∧
     (s.pci.perst = true → exec .perstLAssert s = .next s) ∧
     (s.pci.perst = false → s.phase ≠ .run → exec .perstLAssert s = .next { s with pci := { s.pci with perst := true } }) ∧
     exec .perstLDeassert s = .next { s with pci := { s.pci with perst := false } })

/-- (1) The bootstrap window creates queue 0 from its image or enables it again, and q0_result tells how it went; the write waits during a
takeover; a queue 0 whose descriptor fails its CRC stays stopped (22 R750, 06 R236).
(2) A BAR write is discarded without memory space or when it is poisoned, which is recorded; a doorbell of BAR0 moves its queue's index,
BAR2 takes the image of queue 0, and any other offset discards the write (22 R749, R750, Table 22.3).
(3) A configuration write of an enabled function sets its field; SR-IOV and the completion timeout are the PF's, and clearing VF Enable
removes the VFs.  Unmasking a vector sends its pending message (22 R747, R748, R753).  The fields of one function are stated with no vector
pending.
Where the spec leaves a point open it rests on the model's choices: log 5, 36, 39. -/
def Obligations.HostWritesTakeEffect : Prop :=
  (∀ (s : State), barOk s 0 = true →
     let d := getQ s 0
     let result : State → Nat → State := fun x r => { x with pci := { x.pci with q0Result := r, q0Wait := none } }
     let now := ¬ (s.phase = .run ∧ s.trd.owner = false ∧ s.trd.takeover ≠ 0) ∧ (getF s 0).inReset = false
     let fits := imageOk s s.pci.q0Image = true ∧ bytesAt s.pci.q0Image 10 1 = 1
     (¬ now → exec .q0Create s = .next { s with pci := { s.pci with q0Wait := some 1 } } ∧
       exec .q0Reenable s = .next { s with pci := { s.pci with q0Wait := some 2 } }) ∧
     (now → s.phase ≠ .run → exec .q0Create s = .next (result s 4) ∧ exec .q0Reenable s = .next (result s 4)) ∧
     (now → s.phase = .run →
       (¬ fits → exec .q0Create s = .next (result s 2)) ∧
       (fits → q0Idle s = false → exec .q0Create s = .next (result s 3)) ∧
       (fits → q0Idle s = true → ringOff s → ringOpen s → ∃ t, exec .q0Create s = .next t ∧
         recorded (result (jot (putQ s 0 { imageQueue s.pci.q0Image with
           enabled := true, crc := crc32c ({ imageQueue s.pci.q0Image with enabled := true } : Queue).image })) 1) t 0xC017 0 0x0A 0) ∧
       (d.valid = false → exec .q0Reenable s = .next (result s 3)) ∧
       (d.valid = true → d.enabled = true → d.stopped = true → d.entries = [] → badDescriptor s 0 = true → calm s →
         ∃ t, exec .q0Reenable s = .next t ∧ getQ t 0 = { d with held := false } ∧ t.pci.q0Result = 1 ∧ inPipeline t 0xD022 2) ∧
       (d.valid = true → d.enabled = true → d.stopped = true → badDescriptor s 0 = false → d.entries = [] →
         exec .q0Reenable s = .next (result (jot (putQ s 0 { d with stopped := false, held := false })) 1)))) ∧
  (∀ (s : State) (fn : BitVec 6) (bar : BitVec 3) (offset : BitVec 32) (data : List Byte) (ep : Bool),
     let f := fn.toNat
     let o := offset.toNat
     let i : Bool → Instr := fun e => .barWrite fn bar offset data e
     (barOk s f = false ∨ data = [] → exec (i ep) s = .next s) ∧
     (barOk s f = true → data ≠ [] →
       (calm s → ∃ t, exec (i true) s = .next t ∧ accepted { s with pci := { s.pci with aer := insertNat s.pci.aer 12 } } t 0xC013 2) ∧
       (bar = 0 → o < 0x4000 → o % 16 = 0 → data.length = 4 → (getF s f).inReset = false →
         let q := o / 16
         let d := getQ s q
         let v := leNat data
         q ≠ 1023 → d.valid = true → d.fn = f → idxSub d.tail d.done ≤ idxSub v d.done → idxSub v d.done ≤ 2 ^ d.cmdLog2 →
         exec (i false) s = .next (putQ s q { d with tail := v })) ∧
       (bar = 0 → o < 0x4000 → o % 16 = 4 → data.length = 4 → (getF s f).inReset = false →
         let q := o / 16
         let d := getQ s q
         let v := leNat data
         q ≠ 1023 → d.valid = true → d.fn = f → idxSub d.done v ≤ idxSub d.done d.cplHead →
         exec (i false) s = .next (putQ s q { d with cplHead := v })) ∧
       (bar = 0 → (o < 0x4000 ∧ 8 ≤ o % 16) ∨ (0x4000 ≤ o ∧ o < 0x10000) ∨ 0x18000 ≤ o → exec (i false) s = .next s) ∧
       (bar = 2 → f ≠ 0 ∨ o < 0x40 ∨ 0x74 ≤ o → exec (i false) s = .next s) ∧
       (bar = 2 → f = 0 → 0x40 ≤ o → o + data.length ≤ 0x70 → ∃ t, exec (i false) s = .next t ∧
         t = { s with pci := { s.pci with q0Image := t.pci.q0Image } } ∧
         ∀ k, k < s.pci.q0Image.length → t.pci.q0Image.getD k 0 =
           (if o - 0x40 ≤ k ∧ k < o - 0x40 + data.length then data.getD (k - (o - 0x40)) 0 else s.pci.q0Image.getD k 0)) ∧
       (bar ≠ 0 → bar ≠ 2 → exec (i false) s = .next s))) ∧
  (∀ (s : State) (fn : BitVec 6) (b : Bool) (n : BitVec 16) (v : BitVec 4) (vec : BitVec 12),
     let f := fn.toNat
     let g := getF s f
     let w : CfgWrite → Instr := fun c => .configurationWrite fn c
     let takes : CfgWrite → PciFn → Prop := fun c g' => ∃ t, exec (w c) s = .next t ∧ getF t f = g' ∧ (∀ k, k ≠ f → getF t k = getF s k) ∧
       t = { s with pci := { s.pci with fns := t.pci.fns } }
     let on := s.pci.up = true ∧ fnEnabled s f = true ∧ g.inReset = false
     (¬ on → ∀ c, exec (w c) s = .next s) ∧
     (on → g.pending = [] →
       takes (.busMaster b) { g with bme := b } ∧ takes (.memSpace b) { g with mse := b } ∧ takes (.d3hot b) { g with d3 := b } ∧
       takes (.msixEnable b) { g with msixEn := b } ∧ takes (.msixMask b) { g with msixMask := b }) ∧
     (on → f ≠ 0 → exec (w (.vfEnable b)) s = .next s ∧ exec (w (.numVfs n)) s = .next s ∧ exec (w (.cplTimeout v)) s = .next s) ∧
     (on → f = 0 →
       exec (w (.vfEnable true)) s = .next { s with pci := { s.pci with vfEnable := true } } ∧
       exec (w (.cplTimeout v)) s = .next { s with pci := { s.pci with cplTo := v.toNat } } ∧
       (s.pci.vfEnable = false → n.toNat ≤ 63 → exec (w (.numVfs n)) s = .next { s with pci := { s.pci with numVfs := n.toNat } }) ∧
       (s.pci.vfEnable = true ∨ 63 < n.toNat → exec (w (.numVfs n)) s = .next s) ∧
       ∃ t, exec (w (.vfEnable false)) s = .next t ∧ t.pci.vfEnable = false ∧ getF t 0 = getF s 0 ∧ (∀ k, k ≠ 0 → getF t k = PciFn.init) ∧
         t = { s with pci := { s.pci with vfEnable := false, fns := t.pci.fns } }) ∧
     (barOk s f = false ∨ vectorCount f ≤ vec.toNat → exec (.msixUnmask fn vec) s = .next s) ∧
     (barOk s f = true → vec.toNat < vectorCount f → ∃ t, exec (.msixUnmask fn vec) s = .next t ∧
       (getF t f).unmasked = insertNat g.unmasked vec.toNat ∧ (∀ k, k ≠ f → getF t k = getF s k) ∧
       (g.pending = [vec.toNat] → g.bme = true → g.msixEn = true → g.msixMask = false →
         t.out = .msix f vec.toNat :: s.out ∧ (getF t f).pending = []) ∧
       (g.pending = [] ∨ g.bme = false ∨ g.msixEn = false ∨ g.msixMask = true → t.out = s.out ∧ (getF t f).pending = g.pending) ∧ t.mem = s.mem))
end

