-- ==== Sys2Proof/Laws/Arms.lean ====
section
/-! SUPPORT. What exec answers for each command: the meaning of its arm. -/

namespace Sys2Proof.Machine

@[simp] theorem exec_vaux33Rise (straps : Straps) (tbRef : Bool) (s : State) :
    exec (.vaux33Rise straps tbRef) s = execVaux33Rise straps tbRef s := rfl
@[simp] theorem exec_keepAliveReached (fails : List BistFail) (nvReadable : Bool) (s : State) :
    exec (.keepAliveReached fails nvReadable) s = execKeepAliveReached fails nvReadable s := rfl
@[simp] theorem exec_vaux33Loss (s : State) :
    exec (.vaux33Loss) s = execVaux33Loss s := rfl
@[simp] theorem exec_pwrEnAssert (railsOk : Bool) (s : State) :
    exec (.pwrEnAssert railsOk) s = execPwrEnAssert railsOk s := rfl
@[simp] theorem exec_thermalWaitEnd (s : State) :
    exec (.thermalWaitEnd) s = execThermalWaitEnd s := rfl
@[simp] theorem exec_pwrEnDeassert (s : State) :
    exec (.pwrEnDeassert) s = execPwrEnDeassert s := rfl
@[simp] theorem exec_pwrWarn (s : State) :
    exec (.pwrWarn) s = execPwrWarn s := rfl
@[simp] theorem exec_pwrWarnCleared (s : State) :
    exec (.pwrWarnCleared) s = execPwrWarnCleared s := rfl
@[simp] theorem exec_vin12Undervoltage (s : State) :
    exec (.vin12Undervoltage) s = execVin12Undervoltage s := rfl
@[simp] theorem exec_railFault (rail : Rail) (s : State) :
    exec (.railFault rail) s = execRailFault rail s := rfl
@[simp] theorem exec_capMeterSample (mV mA : Nat) (s : State) :
    exec (.capMeterSample mV mA) s = execCapMeterSample mV mA s := rfl
@[simp] theorem exec_domainSwitchComplete (domain : Nat) (testPass : Bool) (s : State) :
    exec (.domainSwitchComplete domain testPass) s = execDomainSwitchComplete domain testPass s := rfl
@[simp] theorem exec_domainSwitchFail (domain : Nat) (s : State) :
    exec (.domainSwitchFail domain) s = execDomainSwitchFail domain s := rfl
@[simp] theorem exec_stateChange (s : State) :
    exec (.stateChange) s = execStateChange s := rfl
@[simp] theorem exec_naturalIdleCalibration (group : BitVec 6) (s : State) :
    exec (.naturalIdleCalibration group) s = execNaturalIdleCalibration group s := rfl
@[simp] theorem exec_forcedQuietWindow (s : State) :
    exec (.forcedQuietWindow) s = execForcedQuietWindow s := rfl
@[simp] theorem exec_quietWindowEnd (s : State) :
    exec (.quietWindowEnd) s = execQuietWindowEnd s := rfl
@[simp] theorem exec_estimateStale (group : BitVec 6) (s : State) :
    exec (.estimateStale group) s = execEstimateStale group s := rfl
@[simp] theorem exec_sensorMeasure (zone : Nat) (readings : List (Nat × BitVec 16)) (s : State) :
    exec (.sensorMeasure zone readings) s = execSensorMeasure zone readings s := rfl
@[simp] theorem exec_sensorConversionTimeout (sensor : Nat) (s : State) :
    exec (.sensorConversionTimeout sensor) s = execSensorConversionTimeout sensor s := rfl
@[simp] theorem exec_sensorReferenceCheck (sensor : Nat) (pass : Bool) (s : State) :
    exec (.sensorReferenceCheck sensor pass) s = execSensorReferenceCheck sensor pass s := rfl
@[simp] theorem exec_fastCadenceEnd (zone : Nat) (s : State) :
    exec (.fastCadenceEnd zone) s = execFastCadenceEnd zone s := rfl
@[simp] theorem exec_tripVote (voter : BitVec 2) (s : State) :
    exec (.tripVote voter) s = execTripVote voter s := rfl
@[simp] theorem exec_tripVoterBroken (voter : BitVec 2) (s : State) :
    exec (.tripVoterBroken voter) s = execTripVoterBroken voter s := rfl
@[simp] theorem exec_thermalBlockFault (s : State) :
    exec (.thermalBlockFault) s = execThermalBlockFault s := rfl
@[simp] theorem exec_tbRefLost (s : State) :
    exec (.tbRefLost) s = execTbRefLost s := rfl
@[simp] theorem exec_bypassOpenFail (axis : BitVec 2) (s : State) :
    exec (.bypassOpenFail axis) s = execBypassOpenFail axis s := rfl
@[simp] theorem exec_bypassCloseFail (axis : BitVec 2) (s : State) :
    exec (.bypassCloseFail axis) s = execBypassCloseFail axis s := rfl
@[simp] theorem exec_extestEnter (axis : BitVec 2) (s : State) :
    exec (.extestEnter axis) s = execExtestEnter axis s := rfl
@[simp] theorem exec_extestExit (axis : BitVec 2) (s : State) :
    exec (.extestExit axis) s = execExtestExit axis s := rfl
@[simp] theorem exec_scanReq (s : State) :
    exec (.scanReq) s = execScanReq s := rfl
@[simp] theorem exec_scanEnabled (s : State) :
    exec (.scanEnabled) s = execScanEnabled s := rfl
@[simp] theorem exec_bistPhaseEnd (fails : List BistFail) (repaired : List Nat) (s : State) :
    exec (.bistPhaseEnd fails repaired) s = execBistPhaseEnd fails repaired s := rfl
@[simp] theorem exec_bistPhaseTimeout (domain : Nat) (s : State) :
    exec (.bistPhaseTimeout domain) s = execBistPhaseTimeout domain s := rfl
@[simp] theorem exec_startUpTestEnd (micros : BitVec 32) (s : State) :
    exec (.startUpTestEnd micros) s = execStartUpTestEnd micros s := rfl
@[simp] theorem exec_bistReportRepeat (s : State) :
    exec (.bistReportRepeat) s = execBistReportRepeat s := rfl
@[simp] theorem exec_fuseWordComplete (s : State) :
    exec (.fuseWordComplete) s = execFuseWordComplete s := rfl
@[simp] theorem exec_commandDoorbell (fn : BitVec 6) (queue : BitVec 10) (width : Nat) (value : BitVec 32) (s : State) :
    exec (.commandDoorbell fn queue width value) s = execCommandDoorbell fn queue width value s := rfl
@[simp] theorem exec_completionDoorbell (fn : BitVec 6) (queue : BitVec 10) (width : Nat) (value : BitVec 32) (s : State) :
    exec (.completionDoorbell fn queue width value) s = execCompletionDoorbell fn queue width value s := rfl
@[simp] theorem exec_entryFetch (queue : BitVec 10) (env : Env) (s : State) :
    exec (.entryFetch queue env) s = execEntryFetch queue env s := rfl
@[simp] theorem exec_programStart (slot : BitVec 6) (queue : BitVec 10) (s : State) :
    exec (.programStart slot queue) s = execProgramStart slot queue s := rfl
@[simp] theorem exec_programBudget (slot : BitVec 6) (s : State) :
    exec (.programBudget slot) s = execProgramBudget slot s := rfl
@[simp] theorem exec_completionRecordIssue (queue : BitVec 10) (s : State) :
    exec (.completionRecordIssue queue) s = execCompletionRecordIssue queue s := rfl
@[simp] theorem exec_trdLockstepMismatch (t : Treadle) (s : State) :
    exec (.trdLockstepMismatch t) s = execTrdLockstepMismatch t s := rfl
@[simp] theorem exec_trdHeartbeatLost (t : Treadle) (s : State) :
    exec (.trdHeartbeatLost t) s = execTrdHeartbeatLost t s := rfl
@[simp] theorem exec_treadleMemoryUe (t : Treadle) (s : State) :
    exec (.treadleMemoryUe t) s = execTreadleMemoryUe t s := rfl
@[simp] theorem exec_standbyLost (s : State) :
    exec (.standbyLost) s = execStandbyLost s := rfl
@[simp] theorem exec_standbyHot (crcMatch : Bool) (s : State) :
    exec (.standbyHot crcMatch) s = execStandbyHot crcMatch s := rfl
@[simp] theorem exec_treadleRecoveryTestEnd (pass : Bool) (s : State) :
    exec (.treadleRecoveryTestEnd pass) s = execTreadleRecoveryTestEnd pass s := rfl
@[simp] theorem exec_treadleCheckpoint (s : State) :
    exec (.treadleCheckpoint) s = execTreadleCheckpoint s := rfl
@[simp] theorem exec_commitTokenGrant (copiesOk : Bool) (s : State) :
    exec (.commitTokenGrant copiesOk) s = execCommitTokenGrant copiesOk s := rfl
@[simp] theorem exec_commitPrepareTimeout (domain : BitVec 16) (s : State) :
    exec (.commitPrepareTimeout domain) s = execCommitPrepareTimeout domain s := rfl
@[simp] theorem exec_hardenedRefresh (blk : BitVec 5) (idx : BitVec 12) (copiesOk : Bool) (s : State) :
    exec (.hardenedRefresh blk idx copiesOk) s = execHardenedRefresh blk idx copiesOk s := rfl
@[simp] theorem exec_settingParity (blk : BitVec 5) (idx : BitVec 12) (ctx : BitVec 8) (imageOk : Bool) (s : State) :
    exec (.settingParity blk idx ctx imageOk) s = execSettingParity blk idx ctx imageOk s := rfl
@[simp] theorem exec_add (slot : BitVec 6) (rd ra rb : BitVec 5) (s : State) :
    exec (.add slot rd ra rb) s = execAdd slot rd ra rb s := rfl
@[simp] theorem exec_sub (slot : BitVec 6) (rd ra rb : BitVec 5) (s : State) :
    exec (.sub slot rd ra rb) s = execSub slot rd ra rb s := rfl
@[simp] theorem exec_mul (slot : BitVec 6) (rd ra rb : BitVec 5) (s : State) :
    exec (.mul slot rd ra rb) s = execMul slot rd ra rb s := rfl
@[simp] theorem exec_mulhu (slot : BitVec 6) (rd ra rb : BitVec 5) (s : State) :
    exec (.mulhu slot rd ra rb) s = execMulhu slot rd ra rb s := rfl
@[simp] theorem exec_divu (slot : BitVec 6) (rd ra rb : BitVec 5) (s : State) :
    exec (.divu slot rd ra rb) s = execDivu slot rd ra rb s := rfl
@[simp] theorem exec_remu (slot : BitVec 6) (rd ra rb : BitVec 5) (s : State) :
    exec (.remu slot rd ra rb) s = execRemu slot rd ra rb s := rfl
@[simp] theorem exec_and (slot : BitVec 6) (rd ra rb : BitVec 5) (s : State) :
    exec (.and slot rd ra rb) s = execAnd slot rd ra rb s := rfl
@[simp] theorem exec_or (slot : BitVec 6) (rd ra rb : BitVec 5) (s : State) :
    exec (.or slot rd ra rb) s = execOr slot rd ra rb s := rfl
@[simp] theorem exec_xor (slot : BitVec 6) (rd ra rb : BitVec 5) (s : State) :
    exec (.xor slot rd ra rb) s = execXor slot rd ra rb s := rfl
@[simp] theorem exec_shl (slot : BitVec 6) (rd ra rb : BitVec 5) (s : State) :
    exec (.shl slot rd ra rb) s = execShl slot rd ra rb s := rfl
@[simp] theorem exec_shr (slot : BitVec 6) (rd ra rb : BitVec 5) (s : State) :
    exec (.shr slot rd ra rb) s = execShr slot rd ra rb s := rfl
@[simp] theorem exec_sar (slot : BitVec 6) (rd ra rb : BitVec 5) (s : State) :
    exec (.sar slot rd ra rb) s = execSar slot rd ra rb s := rfl
@[simp] theorem exec_slt (slot : BitVec 6) (rd ra rb : BitVec 5) (s : State) :
    exec (.slt slot rd ra rb) s = execSlt slot rd ra rb s := rfl
@[simp] theorem exec_sltu (slot : BitVec 6) (rd ra rb : BitVec 5) (s : State) :
    exec (.sltu slot rd ra rb) s = execSltu slot rd ra rb s := rfl
@[simp] theorem exec_seq (slot : BitVec 6) (rd ra rb : BitVec 5) (s : State) :
    exec (.seq slot rd ra rb) s = execSeq slot rd ra rb s := rfl
@[simp] theorem exec_addi (slot : BitVec 6) (rd ra : BitVec 5) (imm : BitVec 32) (s : State) :
    exec (.addi slot rd ra imm) s = execAddi slot rd ra imm s := rfl
@[simp] theorem exec_andi (slot : BitVec 6) (rd ra : BitVec 5) (imm : BitVec 32) (s : State) :
    exec (.andi slot rd ra imm) s = execAndi slot rd ra imm s := rfl
@[simp] theorem exec_ori (slot : BitVec 6) (rd ra : BitVec 5) (imm : BitVec 32) (s : State) :
    exec (.ori slot rd ra imm) s = execOri slot rd ra imm s := rfl
@[simp] theorem exec_xori (slot : BitVec 6) (rd ra : BitVec 5) (imm : BitVec 32) (s : State) :
    exec (.xori slot rd ra imm) s = execXori slot rd ra imm s := rfl
@[simp] theorem exec_shli (slot : BitVec 6) (rd ra : BitVec 5) (imm : BitVec 32) (s : State) :
    exec (.shli slot rd ra imm) s = execShli slot rd ra imm s := rfl
@[simp] theorem exec_shri (slot : BitVec 6) (rd ra : BitVec 5) (imm : BitVec 32) (s : State) :
    exec (.shri slot rd ra imm) s = execShri slot rd ra imm s := rfl
@[simp] theorem exec_sari (slot : BitVec 6) (rd ra : BitVec 5) (imm : BitVec 32) (s : State) :
    exec (.sari slot rd ra imm) s = execSari slot rd ra imm s := rfl
@[simp] theorem exec_movi (slot : BitVec 6) (rd : BitVec 5) (imm : BitVec 32) (s : State) :
    exec (.movi slot rd imm) s = execMovi slot rd imm s := rfl
@[simp] theorem exec_ldih (slot : BitVec 6) (rd ra : BitVec 5) (imm : BitVec 32) (s : State) :
    exec (.ldih slot rd ra imm) s = execLdih slot rd ra imm s := rfl
@[simp] theorem exec_gtc (slot : BitVec 6) (rd : BitVec 5) (s : State) :
    exec (.gtc slot rd) s = execGtc slot rd s := rfl
@[simp] theorem exec_beq (slot : BitVec 6) (ra rb : BitVec 5) (off : BitVec 32) (s : State) :
    exec (.beq slot ra rb off) s = execBeq slot ra rb off s := rfl
@[simp] theorem exec_bne (slot : BitVec 6) (ra rb : BitVec 5) (off : BitVec 32) (s : State) :
    exec (.bne slot ra rb off) s = execBne slot ra rb off s := rfl
@[simp] theorem exec_blt (slot : BitVec 6) (ra rb : BitVec 5) (off : BitVec 32) (s : State) :
    exec (.blt slot ra rb off) s = execBlt slot ra rb off s := rfl
@[simp] theorem exec_bge (slot : BitVec 6) (ra rb : BitVec 5) (off : BitVec 32) (s : State) :
    exec (.bge slot ra rb off) s = execBge slot ra rb off s := rfl
@[simp] theorem exec_bltu (slot : BitVec 6) (ra rb : BitVec 5) (off : BitVec 32) (s : State) :
    exec (.bltu slot ra rb off) s = execBltu slot ra rb off s := rfl
@[simp] theorem exec_bgeu (slot : BitVec 6) (ra rb : BitVec 5) (off : BitVec 32) (s : State) :
    exec (.bgeu slot ra rb off) s = execBgeu slot ra rb off s := rfl
@[simp] theorem exec_jal (slot : BitVec 6) (rd : BitVec 5) (off : BitVec 32) (s : State) :
    exec (.jal slot rd off) s = execJal slot rd off s := rfl
@[simp] theorem exec_jr (slot : BitVec 6) (rd ra : BitVec 5) (s : State) :
    exec (.jr slot rd ra) s = execJr slot rd ra s := rfl
@[simp] theorem exec_endProg (slot : BitVec 6) (s : State) :
    exec (.endProg slot) s = execEndProg slot s := rfl
@[simp] theorem exec_ld (slot : BitVec 6) (rd ra : BitVec 5) (imm : BitVec 32) (env : Env) (s : State) :
    exec (.ld slot rd ra imm env) s = execLd slot rd ra imm env s := rfl
@[simp] theorem exec_lw (slot : BitVec 6) (rd ra : BitVec 5) (imm : BitVec 32) (env : Env) (s : State) :
    exec (.lw slot rd ra imm env) s = execLw slot rd ra imm env s := rfl
@[simp] theorem exec_st (slot : BitVec 6) (ra rb : BitVec 5) (imm : BitVec 32) (s : State) :
    exec (.st slot ra rb imm) s = execSt slot ra rb imm s := rfl
@[simp] theorem exec_sw (slot : BitVec 6) (ra rb : BitVec 5) (imm : BitVec 32) (s : State) :
    exec (.sw slot ra rb imm) s = execSw slot ra rb imm s := rfl
@[simp] theorem exec_rds (slot : BitVec 6) (rd : BitVec 5) (set : SetRef) (s : State) :
    exec (.rds slot rd set) s = execRds slot rd set s := rfl
@[simp] theorem exec_rdst (slot : BitVec 6) (rd : BitVec 5) (set : SetRef) (s : State) :
    exec (.rdst slot rd set) s = execRdst slot rd set s := rfl
@[simp] theorem exec_stage (slot : BitVec 6) (ra : BitVec 5) (set : SetRef) (s : State) :
    exec (.stage slot ra set) s = execStage slot ra set s := rfl
@[simp] theorem exec_wri (slot : BitVec 6) (ra : BitVec 5) (set : SetRef) (s : State) :
    exec (.wri slot ra set) s = execWri slot ra set s := rfl
@[simp] theorem exec_check (slot : BitVec 6) (rd : BitVec 5) (s : State) :
    exec (.check slot rd) s = execCheck slot rd s := rfl
@[simp] theorem exec_commit (slot : BitVec 6) (rd : BitVec 5) (imm : BitVec 32) (s : State) :
    exec (.commit slot rd imm) s = execCommit slot rd imm s := rfl
@[simp] theorem exec_abandon (slot : BitVec 6) (s : State) :
    exec (.abandon slot) s = execAbandon slot s := rfl
@[simp] theorem exec_ctxsel (slot : BitVec 6) (ra : BitVec 5) (s : State) :
    exec (.ctxsel slot ra) s = execCtxsel slot ra s := rfl
@[simp] theorem exec_ctxnew (slot : BitVec 6) (rd ra rb : BitVec 5) (imm : BitVec 32) (s : State) :
    exec (.ctxnew slot rd ra rb imm) s = execCtxnew slot rd ra rb imm s := rfl
@[simp] theorem exec_ctxdel (slot : BitVec 6) (rd ra : BitVec 5) (s : State) :
    exec (.ctxdel slot rd ra) s = execCtxdel slot rd ra s := rfl
@[simp] theorem exec_qcreate (slot : BitVec 6) (rd ra rb : BitVec 5) (env : Env) (s : State) :
    exec (.qcreate slot rd ra rb env) s = execQcreate slot rd ra rb env s := rfl
@[simp] theorem exec_qctlEnable (slot : BitVec 6) (rd ra : BitVec 5) (s : State) :
    exec (.qctlEnable slot rd ra) s = execQctlEnable slot rd ra s := rfl
@[simp] theorem exec_qctlDisable (slot : BitVec 6) (rd ra : BitVec 5) (s : State) :
    exec (.qctlDisable slot rd ra) s = execQctlDisable slot rd ra s := rfl
@[simp] theorem exec_qctlStop (slot : BitVec 6) (rd ra : BitVec 5) (s : State) :
    exec (.qctlStop slot rd ra) s = execQctlStop slot rd ra s := rfl
@[simp] theorem exec_qctlDestroy (slot : BitVec 6) (rd ra : BitVec 5) (s : State) :
    exec (.qctlDestroy slot rd ra) s = execQctlDestroy slot rd ra s := rfl
@[simp] theorem exec_gseed (slot : BitVec 6) (ra rb : BitVec 5) (s : State) :
    exec (.gseed slot ra rb) s = execGseed slot ra rb s := rfl
@[simp] theorem exec_launch (slot : BitVec 6) (rd ra : BitVec 5) (env : Env) (s : State) :
    exec (.launch slot rd ra env) s = execLaunch slot rd ra env s := rfl
@[simp] theorem exec_sctr (slot : BitVec 6) (rd : BitVec 5) (s : State) :
    exec (.sctr slot rd) s = execSctr slot rd s := rfl
@[simp] theorem exec_sset (slot : BitVec 6) (rd ra : BitVec 5) (s : State) :
    exec (.sset slot rd ra) s = execSset slot rd ra s := rfl
@[simp] theorem exec_syadd (slot : BitVec 6) (rd ra rb : BitVec 5) (s : State) :
    exec (.syadd slot rd ra rb) s = execSyadd slot rd ra rb s := rfl
@[simp] theorem exec_syset (slot : BitVec 6) (ra rb : BitVec 5) (s : State) :
    exec (.syset slot ra rb) s = execSyset slot ra rb s := rfl
@[simp] theorem exec_syrd (slot : BitVec 6) (rd ra : BitVec 5) (s : State) :
    exec (.syrd slot rd ra) s = execSyrd slot rd ra s := rfl
@[simp] theorem exec_wait (slot : BitVec 6) (rd ra rb : BitVec 5) (imm : BitVec 32) (s : State) :
    exec (.wait slot rd ra rb imm) s = execWait slot rd ra rb imm s := rfl
@[simp] theorem exec_waitWake (slot : BitVec 6) (s : State) :
    exec (.waitWake slot) s = execWaitWake slot s := rfl
@[simp] theorem exec_waitTimeout (slot : BitVec 6) (s : State) :
    exec (.waitTimeout slot) s = execWaitTimeout slot s := rfl
@[simp] theorem exec_fence (slot : BitVec 6) (s : State) :
    exec (.fence slot) s = execFence slot s := rfl
@[simp] theorem exec_resetContext (slot : BitVec 6) (rd ra : BitVec 5) (s : State) :
    exec (.resetContext slot rd ra) s = execResetContext slot rd ra s := rfl
@[simp] theorem exec_resetJobTag (slot : BitVec 6) (rd ra : BitVec 5) (s : State) :
    exec (.resetJobTag slot rd ra) s = execResetJobTag slot rd ra s := rfl
@[simp] theorem exec_resetEngine (slot : BitVec 6) (rd ra : BitVec 5) (s : State) :
    exec (.resetEngine slot rd ra) s = execResetEngine slot rd ra s := rfl
@[simp] theorem exec_resetPartition (slot : BitVec 6) (rd ra : BitVec 5) (s : State) :
    exec (.resetPartition slot rd ra) s = execResetPartition slot rd ra s := rfl
@[simp] theorem exec_resetChip (slot : BitVec 6) (rd ra : BitVec 5) (s : State) :
    exec (.resetChip slot rd ra) s = execResetChip slot rd ra s := rfl
@[simp] theorem exec_resetPowerCycle (slot : BitVec 6) (rd ra : BitVec 5) (s : State) :
    exec (.resetPowerCycle slot rd ra) s = execResetPowerCycle slot rd ra s := rfl
@[simp] theorem exec_pwrdom (slot : BitVec 6) (rd ra : BitVec 5) (imm : BitVec 32) (s : State) :
    exec (.pwrdom slot rd ra imm) s = execPwrdom slot rd ra imm s := rfl
@[simp] theorem exec_acct (slot : BitVec 6) (imm : BitVec 32) (s : State) :
    exec (.acct slot imm) s = execAcct slot imm s := rfl
@[simp] theorem exec_tsnap (slot : BitVec 6) (ra : BitVec 5) (s : State) :
    exec (.tsnap slot ra) s = execTsnap slot ra s := rfl
@[simp] theorem exec_binst (slot : BitVec 6) (rd ra rb : BitVec 5) (env : Env) (s : State) :
    exec (.binst slot rd ra rb env) s = execBinst slot rd ra rb env s := rfl
@[simp] theorem exec_bkey (slot : BitVec 6) (imm : BitVec 32) (s : State) :
    exec (.bkey slot imm) s = execBkey slot imm s := rfl
@[simp] theorem exec_bdeep (slot : BitVec 6) (rd ra : BitVec 5) (s : State) :
    exec (.bdeep slot rd ra) s = execBdeep slot rd ra s := rfl
@[simp] theorem exec_cstate (slot : BitVec 6) (rd ra : BitVec 5) (imm : BitVec 32) (testPass : Bool) (s : State) :
    exec (.cstate slot rd ra imm testPass) s = execCstate slot rd ra imm testPass s := rfl
@[simp] theorem exec_fkey (slot : BitVec 6) (rd ra rb : BitVec 5) (imm : BitVec 32) (env : Env) (s : State) :
    exec (.fkey slot rd ra rb imm env) s = execFkey slot rd ra rb imm env s := rfl
@[simp] theorem exec_fcop (slot : BitVec 6) (rd ra : BitVec 5) (s : State) :
    exec (.fcop slot rd ra) s = execFcop slot rd ra s := rfl
@[simp] theorem exec_log (slot : BitVec 6) (ra rb : BitVec 5) (imm : BitVec 32) (env : Env) (s : State) :
    exec (.log slot ra rb imm env) s = execLog slot ra rb imm env s := rfl
@[simp] theorem exec_send (slot : BitVec 6) (rd ra rb : BitVec 5) (env : Env) (s : State) :
    exec (.send slot rd ra rb env) s = execSend slot rd ra rb env s := rfl
@[simp] theorem exec_launchStart (ctx : BitVec 8) (s : State) :
    exec (.launchStart ctx) s = execLaunchStart ctx s := rfl
@[simp] theorem exec_slotSwitch (cluster : BitVec 9) (toPart : BitVec 3) (toSlot : BitVec 9) (s : State) :
    exec (.slotSwitch cluster toPart toSlot) s = execSlotSwitch cluster toPart toSlot s := rfl
@[simp] theorem exec_stepCommitPoint (ctx : BitVec 8) (s : State) :
    exec (.stepCommitPoint ctx) s = execStepCommitPoint ctx s := rfl
@[simp] theorem exec_xlatDone (ctx : BitVec 8) (s : State) :
    exec (.xlatDone ctx) s = execXlatDone ctx s := rfl
@[simp] theorem exec_threadEnd (w : ShedRef) (f : T3) (s : State) :
    exec (.threadEnd w f) s = execThreadEnd w f s := rfl
@[simp] theorem exec_nop (w : ShedRef) (f : T3) (s : State) :
    exec (.nop w f) s = execNop w f s := rfl
@[simp] theorem exec_bars (w : ShedRef) (f : T3) (s : State) :
    exec (.bars w f) s = execBars w f s := rfl
@[simp] theorem exec_threadAdd (w : ShedRef) (f : T3) (s : State) :
    exec (.threadAdd w f) s = execThreadAdd w f s := rfl
@[simp] theorem exec_threadSub (w : ShedRef) (f : T3) (s : State) :
    exec (.threadSub w f) s = execThreadSub w f s := rfl
@[simp] theorem exec_threadMul (w : ShedRef) (f : T3) (s : State) :
    exec (.threadMul w f) s = execThreadMul w f s := rfl
@[simp] theorem exec_threadMulhu (w : ShedRef) (f : T3) (s : State) :
    exec (.threadMulhu w f) s = execThreadMulhu w f s := rfl
@[simp] theorem exec_threadDivu (w : ShedRef) (f : T3) (s : State) :
    exec (.threadDivu w f) s = execThreadDivu w f s := rfl
@[simp] theorem exec_threadRemu (w : ShedRef) (f : T3) (s : State) :
    exec (.threadRemu w f) s = execThreadRemu w f s := rfl
@[simp] theorem exec_threadAnd (w : ShedRef) (f : T3) (s : State) :
    exec (.threadAnd w f) s = execThreadAnd w f s := rfl
@[simp] theorem exec_threadOr (w : ShedRef) (f : T3) (s : State) :
    exec (.threadOr w f) s = execThreadOr w f s := rfl
@[simp] theorem exec_threadXor (w : ShedRef) (f : T3) (s : State) :
    exec (.threadXor w f) s = execThreadXor w f s := rfl
@[simp] theorem exec_threadShl (w : ShedRef) (f : T3) (s : State) :
    exec (.threadShl w f) s = execThreadShl w f s := rfl
@[simp] theorem exec_threadShr (w : ShedRef) (f : T3) (s : State) :
    exec (.threadShr w f) s = execThreadShr w f s := rfl
@[simp] theorem exec_threadSar (w : ShedRef) (f : T3) (s : State) :
    exec (.threadSar w f) s = execThreadSar w f s := rfl
@[simp] theorem exec_min (w : ShedRef) (f : T3) (s : State) :
    exec (.min w f) s = execMin w f s := rfl
@[simp] theorem exec_max (w : ShedRef) (f : T3) (s : State) :
    exec (.max w f) s = execMax w f s := rfl
@[simp] theorem exec_minu (w : ShedRef) (f : T3) (s : State) :
    exec (.minu w f) s = execMinu w f s := rfl
@[simp] theorem exec_maxu (w : ShedRef) (f : T3) (s : State) :
    exec (.maxu w f) s = execMaxu w f s := rfl
@[simp] theorem exec_threadAddi (w : ShedRef) (f : TI) (s : State) :
    exec (.threadAddi w f) s = execThreadAddi w f s := rfl
@[simp] theorem exec_threadAndi (w : ShedRef) (f : TI) (s : State) :
    exec (.threadAndi w f) s = execThreadAndi w f s := rfl
@[simp] theorem exec_threadOri (w : ShedRef) (f : TI) (s : State) :
    exec (.threadOri w f) s = execThreadOri w f s := rfl
@[simp] theorem exec_threadXori (w : ShedRef) (f : TI) (s : State) :
    exec (.threadXori w f) s = execThreadXori w f s := rfl
@[simp] theorem exec_threadShli (w : ShedRef) (f : TI) (s : State) :
    exec (.threadShli w f) s = execThreadShli w f s := rfl
@[simp] theorem exec_threadShri (w : ShedRef) (f : TI) (s : State) :
    exec (.threadShri w f) s = execThreadShri w f s := rfl
@[simp] theorem exec_threadSari (w : ShedRef) (f : TI) (s : State) :
    exec (.threadSari w f) s = execThreadSari w f s := rfl
@[simp] theorem exec_threadMovi (w : ShedRef) (f : TI) (s : State) :
    exec (.threadMovi w f) s = execThreadMovi w f s := rfl
@[simp] theorem exec_threadLdih (w : ShedRef) (f : TI) (s : State) :
    exec (.threadLdih w f) s = execThreadLdih w f s := rfl
@[simp] theorem exec_sel (w : ShedRef) (f : T3) (s : State) :
    exec (.sel w f) s = execSel w f s := rfl
@[simp] theorem exec_setp (w : ShedRef) (f : T3) (s : State) :
    exec (.setp w f) s = execSetp w f s := rfl
@[simp] theorem exec_pand (w : ShedRef) (f : T3) (s : State) :
    exec (.pand w f) s = execPand w f s := rfl
@[simp] theorem exec_por (w : ShedRef) (f : T3) (s : State) :
    exec (.por w f) s = execPor w f s := rfl
@[simp] theorem exec_pxor (w : ShedRef) (f : T3) (s : State) :
    exec (.pxor w f) s = execPxor w f s := rfl
@[simp] theorem exec_pnot (w : ShedRef) (f : T3) (s : State) :
    exec (.pnot w f) s = execPnot w f s := rfl
@[simp] theorem exec_pmov (w : ShedRef) (f : T3) (s : State) :
    exec (.pmov w f) s = execPmov w f s := rfl
@[simp] theorem exec_mif (w : ShedRef) (f : T3) (s : State) :
    exec (.mif w f) s = execMif w f s := rfl
@[simp] theorem exec_melse (w : ShedRef) (f : T3) (s : State) :
    exec (.melse w f) s = execMelse w f s := rfl
@[simp] theorem exec_mend (w : ShedRef) (f : T3) (s : State) :
    exec (.mend w f) s = execMend w f s := rfl
@[simp] theorem exec_mbrk (w : ShedRef) (f : T3) (s : State) :
    exec (.mbrk w f) s = execMbrk w f s := rfl
@[simp] theorem exec_mget (w : ShedRef) (f : T3) (s : State) :
    exec (.mget w f) s = execMget w f s := rfl
@[simp] theorem exec_br (w : ShedRef) (f : TB) (s : State) :
    exec (.br w f) s = execBr w f s := rfl
@[simp] theorem exec_bany (w : ShedRef) (f : TB) (s : State) :
    exec (.bany w f) s = execBany w f s := rfl
@[simp] theorem exec_ball (w : ShedRef) (f : TB) (s : State) :
    exec (.ball w f) s = execBall w f s := rfl
@[simp] theorem exec_bnone (w : ShedRef) (f : TB) (s : State) :
    exec (.bnone w f) s = execBnone w f s := rfl
@[simp] theorem exec_call (w : ShedRef) (f : TB) (s : State) :
    exec (.call w f) s = execCall w f s := rfl
@[simp] theorem exec_ret (w : ShedRef) (f : TB) (s : State) :
    exec (.ret w f) s = execRet w f s := rfl
@[simp] theorem exec_ldB (w : ShedRef) (f : TI) (env : Env) (s : State) :
    exec (.ldB w f env) s = execLdB w f env s := rfl
@[simp] theorem exec_ldH (w : ShedRef) (f : TI) (env : Env) (s : State) :
    exec (.ldH w f env) s = execLdH w f env s := rfl
@[simp] theorem exec_ldW (w : ShedRef) (f : TI) (env : Env) (s : State) :
    exec (.ldW w f env) s = execLdW w f env s := rfl
@[simp] theorem exec_ldD (w : ShedRef) (f : TI) (env : Env) (s : State) :
    exec (.ldD w f env) s = execLdD w f env s := rfl
@[simp] theorem exec_ldQ (w : ShedRef) (f : TI) (env : Env) (s : State) :
    exec (.ldQ w f env) s = execLdQ w f env s := rfl
@[simp] theorem exec_stB (w : ShedRef) (f : TI) (env : Env) (s : State) :
    exec (.stB w f env) s = execStB w f env s := rfl
@[simp] theorem exec_stH (w : ShedRef) (f : TI) (env : Env) (s : State) :
    exec (.stH w f env) s = execStH w f env s := rfl
@[simp] theorem exec_stW (w : ShedRef) (f : TI) (env : Env) (s : State) :
    exec (.stW w f env) s = execStW w f env s := rfl
@[simp] theorem exec_stD (w : ShedRef) (f : TI) (env : Env) (s : State) :
    exec (.stD w f env) s = execStD w f env s := rfl
@[simp] theorem exec_stQ (w : ShedRef) (f : TI) (env : Env) (s : State) :
    exec (.stQ w f env) s = execStQ w f env s := rfl
@[simp] theorem exec_atom (w : ShedRef) (f : T3) (env : Env) (s : State) :
    exec (.atom w f env) s = execAtom w f env s := rfl
@[simp] theorem exec_atomf (w : ShedRef) (f : T3) (env : Env) (s : State) :
    exec (.atomf w f env) s = execAtomf w f env s := rfl
@[simp] theorem exec_threadFence (w : ShedRef) (f : T3) (s : State) :
    exec (.threadFence w f) s = execThreadFence w f s := rfl
@[simp] theorem exec_vadd (w : ShedRef) (f : T3) (s : State) :
    exec (.vadd w f) s = execVadd w f s := rfl
@[simp] theorem exec_vsub (w : ShedRef) (f : T3) (s : State) :
    exec (.vsub w f) s = execVsub w f s := rfl
@[simp] theorem exec_vmul (w : ShedRef) (f : T3) (s : State) :
    exec (.vmul w f) s = execVmul w f s := rfl
@[simp] theorem exec_vfma (w : ShedRef) (f : T3) (s : State) :
    exec (.vfma w f) s = execVfma w f s := rfl
@[simp] theorem exec_vmin (w : ShedRef) (f : T3) (s : State) :
    exec (.vmin w f) s = execVmin w f s := rfl
@[simp] theorem exec_vmax (w : ShedRef) (f : T3) (s : State) :
    exec (.vmax w f) s = execVmax w f s := rfl
@[simp] theorem exec_vabs (w : ShedRef) (f : T3) (s : State) :
    exec (.vabs w f) s = execVabs w f s := rfl
@[simp] theorem exec_vneg (w : ShedRef) (f : T3) (s : State) :
    exec (.vneg w f) s = execVneg w f s := rfl
@[simp] theorem exec_vcvt (w : ShedRef) (f : T3) (s : State) :
    exec (.vcvt w f) s = execVcvt w f s := rfl
@[simp] theorem exec_viadd (w : ShedRef) (f : T3) (s : State) :
    exec (.viadd w f) s = execViadd w f s := rfl
@[simp] theorem exec_vimul (w : ShedRef) (f : T3) (s : State) :
    exec (.vimul w f) s = execVimul w f s := rfl
@[simp] theorem exec_vimad (w : ShedRef) (f : T3) (s : State) :
    exec (.vimad w f) s = execVimad w f s := rfl
@[simp] theorem exec_vand (w : ShedRef) (f : T3) (s : State) :
    exec (.vand w f) s = execVand w f s := rfl
@[simp] theorem exec_vor (w : ShedRef) (f : T3) (s : State) :
    exec (.vor w f) s = execVor w f s := rfl
@[simp] theorem exec_vxor (w : ShedRef) (f : T3) (s : State) :
    exec (.vxor w f) s = execVxor w f s := rfl
@[simp] theorem exec_tld (w : ShedRef) (f : TM) (env : Env) (s : State) :
    exec (.tld w f env) s = execTld w f env s := rfl
@[simp] theorem exec_tst (w : ShedRef) (f : TM) (env : Env) (s : State) :
    exec (.tst w f env) s = execTst w f env s := rfl
@[simp] theorem exec_tmma (w : ShedRef) (f : TM) (s : State) :
    exec (.tmma w f) s = execTmma w f s := rfl
@[simp] theorem exec_tzero (w : ShedRef) (f : TM) (s : State) :
    exec (.tzero w f) s = execTzero w f s := rfl
@[simp] theorem exec_stepBegin (w : ShedRef) (f : T3) (env : Env) (s : State) :
    exec (.stepBegin w f env) s = execStepBegin w f env s := rfl
@[simp] theorem exec_stepCommit (w : ShedRef) (f : T3) (s : State) :
    exec (.stepCommit w f) s = execStepCommit w f s := rfl
@[simp] theorem exec_stepCtr (w : ShedRef) (f : T3) (s : State) :
    exec (.stepCtr w f) s = execStepCtr w f s := rfl
@[simp] theorem exec_ckassert (w : ShedRef) (f : T3) (s : State) :
    exec (.ckassert w f) s = execCkassert w f s := rfl
@[simp] theorem exec_ckstat (w : ShedRef) (f : TI) (s : State) :
    exec (.ckstat w f) s = execCkstat w f s := rfl
@[simp] theorem exec_rng (w : ShedRef) (f : T3) (s : State) :
    exec (.rng w f) s = execRng w f s := rfl
@[simp] theorem exec_syAdd (w : ShedRef) (f : T3) (s : State) :
    exec (.syAdd w f) s = execSyAdd w f s := rfl
@[simp] theorem exec_syRd (w : ShedRef) (f : T3) (s : State) :
    exec (.syRd w f) s = execSyRd w f s := rfl
@[simp] theorem exec_syWait (w : ShedRef) (f : T3) (s : State) :
    exec (.syWait w f) s = execSyWait w f s := rfl
@[simp] theorem exec_syWaitRelease (w : ShedRef) (s : State) :
    exec (.syWaitRelease w) s = execSyWaitRelease w s := rfl
@[simp] theorem exec_trigArm (w : ShedRef) (f : T3) (env : Env) (s : State) :
    exec (.trigArm w f env) s = execTrigArm w f env s := rfl
@[simp] theorem exec_triggeredOpComplete (engine : Nat) (env : Env) (s : State) :
    exec (.triggeredOpComplete engine env) s = execTriggeredOpComplete engine env s := rfl
@[simp] theorem exec_tileCheckComplete (cluster : BitVec 9) (prodErrs : List TileErr) (sumFault residueFault accFault accAgain : Bool) (s : State) :
    exec (.tileCheckComplete cluster prodErrs sumFault residueFault accFault accAgain) s = execTileCheckComplete cluster prodErrs sumFault residueFault accFault accAgain s := rfl
@[simp] theorem exec_arbiterResult (cluster : BitVec 9) (crcOk sumsOk : Bool) (qErrs : List TileErr) (ownCheckOk : Bool) (s : State) :
    exec (.arbiterResult cluster crcOk sumsOk qErrs ownCheckOk) s = execArbiterResult cluster crcOk sumsOk qErrs ownCheckOk s := rfl
@[simp] theorem exec_repeatResult (cluster : BitVec 9) (p2Errs : List TileErr) (s : State) :
    exec (.repeatResult cluster p2Errs) s = execRepeatResult cluster p2Errs s := rfl
@[simp] theorem exec_patrolScrubRead (stack : BitVec 3) (cls : SynClass) (writeOk : Bool) (s : State) :
    exec (.patrolScrubRead stack cls writeOk) s = execPatrolScrubRead stack cls writeOk s := rfl
@[simp] theorem exec_scrubLate (stack : BitVec 3) (s : State) :
    exec (.scrubLate stack) s = execScrubLate stack s := rfl
@[simp] theorem exec_scrubWindowExpiry (stack : BitVec 3) (s : State) :
    exec (.scrubWindowExpiry stack) s = execScrubWindowExpiry stack s := rfl
@[simp] theorem exec_scratchpadScrub (cluster : BitVec 9) (granule : Nat) (cls : SynClass) (s : State) :
    exec (.scratchpadScrub cluster granule cls) s = execScratchpadScrub cluster granule cls s := rfl
@[simp] theorem exec_burlingOffer (cluster : BitVec 9) (s : State) :
    exec (.burlingOffer cluster) s = execBurlingOffer cluster s := rfl
@[simp] theorem exec_itemEnd (cluster : BitVec 9) (crc : BitVec 64) (s : State) :
    exec (.itemEnd cluster crc) s = execItemEnd cluster crc s := rfl
@[simp] theorem exec_sliceEnd (cluster : BitVec 9) (s : State) :
    exec (.sliceEnd cluster) s = execSliceEnd cluster s := rfl
@[simp] theorem exec_itemSkipped (cluster : BitVec 9) (s : State) :
    exec (.itemSkipped cluster) s = execItemSkipped cluster s := rfl
@[simp] theorem exec_shareShortfall (cluster : BitVec 9) (s : State) :
    exec (.shareShortfall cluster) s = execShareShortfall cluster s := rfl
@[simp] theorem exec_deepRunStart (s : State) :
    exec (.deepRunStart) s = execDeepRunStart s := rfl
@[simp] theorem exec_deepRunEnd (cluster : BitVec 9) (pass shortPass : Bool) (s : State) :
    exec (.deepRunEnd cluster pass shortPass) s = execDeepRunEnd cluster pass shortPass s := rfl
@[simp] theorem exec_packVerifyEnd (s : State) :
    exec (.packVerifyEnd) s = execPackVerifyEnd s := rfl
@[simp] theorem exec_burlingStoreUe (installedHalf : Bool) (s : State) :
    exec (.burlingStoreUe installedHalf) s = execBurlingStoreUe installedHalf s := rfl
@[simp] theorem exec_errorAccept (e : ErrEvent) (s : State) :
    exec (.errorAccept e) s = execErrorAccept e s := rfl
@[simp] theorem exec_entryTaken (s : State) :
    exec (.entryTaken) s = execEntryTaken s := rfl
@[simp] theorem exec_errHandlingTimeout (handler : BitVec 4) (s : State) :
    exec (.errHandlingTimeout handler) s = execErrHandlingTimeout handler s := rfl
@[simp] theorem exec_errQueueFault (s : State) :
    exec (.errQueueFault) s = execErrQueueFault s := rfl
@[simp] theorem exec_ctxWatchdog (ctx : BitVec 8) (s : State) :
    exec (.ctxWatchdog ctx) s = execCtxWatchdog ctx s := rfl
@[simp] theorem exec_engineHang (domain : BitVec 16) (s : State) :
    exec (.engineHang domain) s = execEngineHang domain s := rfl
@[simp] theorem exec_collectiveTimeout (ctx : BitVec 8) (group : BitVec 4) (s : State) :
    exec (.collectiveTimeout ctx group) s = execCollectiveTimeout ctx group s := rfl
@[simp] theorem exec_drainBudgetExpiry (id : Nat) (s : State) :
    exec (.drainBudgetExpiry id) s = execDrainBudgetExpiry id s := rfl
@[simp] theorem exec_resetOverrun (id : Nat) (s : State) :
    exec (.resetOverrun id) s = execResetOverrun id s := rfl
@[simp] theorem exec_resetComplete (id : Nat) (dossierOk : Bool) (s : State) :
    exec (.resetComplete id dossierOk) s = execResetComplete id dossierOk s := rfl
@[simp] theorem exec_oosClear (slot : BitVec 6) (s : State) :
    exec (.oosClear slot) s = execOosClear slot s := rfl
@[simp] theorem exec_flitGroupReceive (port : BitVec 3) (fg : FlitGroup) (s : State) :
    exec (.flitGroupReceive port fg) s = execFlitGroupReceive port fg s := rfl
@[simp] theorem exec_replayTimeout (port : BitVec 3) (s : State) :
    exec (.replayTimeout port) s = execReplayTimeout port s := rfl
@[simp] theorem exec_alignSend (port : BitVec 3) (s : State) :
    exec (.alignSend port) s = execAlignSend port s := rfl
@[simp] theorem exec_timeFlitSend (port : BitVec 3) (s : State) :
    exec (.timeFlitSend port) s = execTimeFlitSend port s := rfl
@[simp] theorem exec_timeFlitReceive (port : BitVec 3) (t : TimeFlit) (s : State) :
    exec (.timeFlitReceive port t) s = execTimeFlitReceive port t s := rfl
@[simp] theorem exec_timeBoundExpiry (s : State) :
    exec (.timeBoundExpiry) s = execTimeBoundExpiry s := rfl
@[simp] theorem exec_linkTrainStart (port : BitVec 3) (s : State) :
    exec (.linkTrainStart port) s = execLinkTrainStart port s := rfl
@[simp] theorem exec_linkTrained (port : BitVec 3) (nbr : NeighbourId) (s : State) :
    exec (.linkTrained port nbr) s = execLinkTrained port nbr s := rfl
@[simp] theorem exec_linkTrainTimeout (port : BitVec 3) (s : State) :
    exec (.linkTrainTimeout port) s = execLinkTrainTimeout port s := rfl
@[simp] theorem exec_linkTrainRetry (port : BitVec 3) (s : State) :
    exec (.linkTrainRetry port) s = execLinkTrainRetry port s := rfl
@[simp] theorem exec_linkDown (port : BitVec 3) (cause : BitVec 4) (s : State) :
    exec (.linkDown port cause) s = execLinkDown port cause s := rfl
@[simp] theorem exec_linkKeepExpiry (port : BitVec 3) (s : State) :
    exec (.linkKeepExpiry port) s = execLinkKeepExpiry port s := rfl
@[simp] theorem exec_linkOpReceive (port : BitVec 3) (m : LinkOpMsg) (env : Env) (s : State) :
    exec (.linkOpReceive port m env) s = execLinkOpReceive port m env s := rfl
@[simp] theorem exec_linkOpReplyReceive (port : BitVec 3) (id : BitVec 32) (accepted : Bool) (s : State) :
    exec (.linkOpReplyReceive port id accepted) s = execLinkOpReplyReceive port id accepted s := rfl
@[simp] theorem exec_pair (h : PairHdr) (dsig stepCtr : BitVec 64) (s : State) :
    exec (.pair h dsig stepCtr) s = execPair h dsig stepCtr s := rfl
@[simp] theorem exec_digest (h : PairHdr) (stepCtr : BitVec 64) (step : BitVec 128) (slots : List (BitVec 128)) (s : State) :
    exec (.digest h stepCtr step slots) s = execDigest h stepCtr step slots s := rfl
@[simp] theorem exec_locate (h : PairHdr) (slot : BitVec 9) (digests : List (BitVec 48 × BitVec 128)) (s : State) :
    exec (.locate h slot digests) s = execLocate h slot digests s := rfl
@[simp] theorem exec_pairEnd (h : PairHdr) (s : State) :
    exec (.pairEnd h) s = execPairEnd h s := rfl
@[simp] theorem exec_pleachPeerLost (ctx : BitVec 8) (s : State) :
    exec (.pleachPeerLost ctx) s = execPleachPeerLost ctx s := rfl
@[simp] theorem exec_formSend (ctx : BitVec 8) (group : BitVec 4) (s : State) :
    exec (.formSend ctx group) s = execFormSend ctx group s := rfl
@[simp] theorem exec_form (port : BitVec 3) (m : FormMsg) (s : State) :
    exec (.form port m) s = execForm port m s := rfl
@[simp] theorem exec_collectiveFetch (ctx : BitVec 8) (env : Env) (s : State) :
    exec (.collectiveFetch ctx env) s = execCollectiveFetch ctx env s := rfl
@[simp] theorem exec_collectiveGrant (h : ColHdr) (axis : BitVec 2) (first : Nat) (s : State) :
    exec (.collectiveGrant h axis first) s = execCollectiveGrant h axis first s := rfl
@[simp] theorem exec_pieceReceive (h : ColHdr) (d : ColData) (s : State) :
    exec (.pieceReceive h d) s = execPieceReceive h d s := rfl
@[simp] theorem exec_chunkReceive (h : ColHdr) (d : ColData) (s : State) :
    exec (.chunkReceive h d) s = execChunkReceive h d s := rfl
@[simp] theorem exec_abort (h : ColHdr) (cause : Byte) (s : State) :
    exec (.abort h cause) s = execAbort h cause s := rfl
@[simp] theorem exec_barrierRelease (ctx : BitVec 8) (group : BitVec 4) (s : State) :
    exec (.barrierRelease ctx group) s = execBarrierRelease ctx group s := rfl
@[simp] theorem exec_collectiveEnd (ctx : BitVec 8) (group : BitVec 4) (env : Env) (s : State) :
    exec (.collectiveEnd ctx group env) s = execCollectiveEnd ctx group env s := rfl
@[simp] theorem exec_espCommandFetch (env : Env) (s : State) :
    exec (.espCommandFetch env) s = execEspCommandFetch env s := rfl
@[simp] theorem exec_model (env : Env) (s : State) :
    exec (.model env) s = execModel env s := rfl
@[simp] theorem exec_library (env : Env) (s : State) :
    exec (.library env) s = execLibrary env s := rfl
@[simp] theorem exec_map (env : Env) (s : State) :
    exec (.map env) s = execMap env s := rfl
@[simp] theorem exec_epochSwap (s : State) :
    exec (.epochSwap) s = execEpochSwap s := rfl
@[simp] theorem exec_stop (env : Env) (s : State) :
    exec (.stop env) s = execStop env s := rfl
@[simp] theorem exec_cycleOpen (s : State) :
    exec (.cycleOpen) s = execCycleOpen s := rfl
@[simp] theorem exec_batch (env : Env) (s : State) :
    exec (.batch env) s = execBatch env s := rfl
@[simp] theorem exec_batchComplete (results : List CandResult) (s : State) :
    exec (.batchComplete results) s = execBatchComplete results s := rfl
@[simp] theorem exec_doubleCheckComplete (second : CandResult) (third : Option CandResult) (s : State) :
    exec (.doubleCheckComplete second third) s = execDoubleCheckComplete second third s := rfl
@[simp] theorem exec_cycleClose (s : State) :
    exec (.cycleClose) s = execCycleClose s := rfl
@[simp] theorem exec_stopValidationComplete (half0 half1 : List PairCounts) (third : List PairCounts) (lane : BitVec 7) (s : State) :
    exec (.stopValidationComplete half0 half1 third lane) s = execStopValidationComplete half0 half1 third lane s := rfl
@[simp] theorem exec_planningDeadline (s : State) :
    exec (.planningDeadline) s = execPlanningDeadline s := rfl
@[simp] theorem exec_epochExpiry (s : State) :
    exec (.epochExpiry) s = execEpochExpiry s := rfl
@[simp] theorem exec_espStopNow (slot : BitVec 6) (s : State) :
    exec (.espStopNow slot) s = execEspStopNow slot s := rfl
@[simp] theorem exec_recordProgramStep (retries : Nat) (ok : Bool) (s : State) :
    exec (.recordProgramStep retries ok) s = execRecordProgramStep retries ok s := rfl
@[simp] theorem exec_eraseComplete (block : BitVec 9) (ok : Bool) (s : State) :
    exec (.eraseComplete block ok) s = execEraseComplete block ok s := rfl
@[simp] theorem exec_rateWindowClose (code : BitVec 16) (s : State) :
    exec (.rateWindowClose code) s = execRateWindowClose code s := rfl
@[simp] theorem exec_powerOnSecondsStore (s : State) :
    exec (.powerOnSecondsStore) s = execPowerOnSecondsStore s := rfl
@[simp] theorem exec_freezeStart (slot : BitVec 6) (ra : BitVec 5) (s : State) :
    exec (.freezeStart slot ra) s = execFreezeStart slot ra s := rfl
@[simp] theorem exec_freezeEnd (slot : BitVec 6) (ra : BitVec 5) (s : State) :
    exec (.freezeEnd slot ra) s = execFreezeEnd slot ra s := rfl
@[simp] theorem exec_freezeLimitExpiry (s : State) :
    exec (.freezeLimitExpiry) s = execFreezeLimitExpiry s := rfl
@[simp] theorem exec_readPtrWrite (slot : BitVec 6) (ra : BitVec 5) (s : State) :
    exec (.readPtrWrite slot ra) s = execReadPtrWrite slot ra s := rfl
@[simp] theorem exec_readDataAutoinc (slot : BitVec 6) (rd : BitVec 5) (s : State) :
    exec (.readDataAutoinc slot rd) s = execReadDataAutoinc slot rd s := rfl
@[simp] theorem exec_perfStart (slot : BitVec 6) (ra : BitVec 5) (s : State) :
    exec (.perfStart slot ra) s = execPerfStart slot ra s := rfl
@[simp] theorem exec_perfStop (slot : BitVec 6) (ra : BitVec 5) (s : State) :
    exec (.perfStop slot ra) s = execPerfStop slot ra s := rfl
@[simp] theorem exec_perfZero (slot : BitVec 6) (ra : BitVec 5) (s : State) :
    exec (.perfZero slot ra) s = execPerfZero slot ra s := rfl
@[simp] theorem exec_injectArm (slot : BitVec 6) (ra : BitVec 5) (s : State) :
    exec (.injectArm slot ra) s = execInjectArm slot ra s := rfl
@[simp] theorem exec_injectDisarm (slot : BitVec 6) (ra : BitVec 5) (s : State) :
    exec (.injectDisarm slot ra) s = execInjectDisarm slot ra s := rfl
@[simp] theorem exec_beacon (b : BeaconMsg) (s : State) :
    exec (.beacon b) s = execBeacon b s := rfl
@[simp] theorem exec_deviceSlot (collided : Bool) (s : State) :
    exec (.deviceSlot collided) s = execDeviceSlot collided s := rfl
@[simp] theorem exec_programSeg (h : ChnHdr) (progId : BitVec 16) (seg nseg : Byte) (data : List Byte) (s : State) :
    exec (.programSeg h progId seg nseg data) s = execProgramSeg h progId seg nseg data s := rfl
@[simp] theorem exec_programAssemblyTimeout (s : State) :
    exec (.programAssemblyTimeout) s = execProgramAssemblyTimeout s := rfl
@[simp] theorem exec_grant (h : ChnHdr) (queue : BitVec 16) (action : Byte) (s : State) :
    exec (.grant h queue action) s = execGrant h queue action s := rfl
@[simp] theorem exec_readSetting (h : ChnHdr) (blk : Byte) (idx : BitVec 16) (words : Byte) (s : State) :
    exec (.readSetting h blk idx words) s = execReadSetting h blk idx words s := rfl
@[simp] theorem exec_recRead (h : ChnHdr) (region : Byte) (index : BitVec 64) (s : State) :
    exec (.recRead h region index) s = execRecRead h region index s := rfl
@[simp] theorem exec_packData (h : ChnHdr) (chunk pushId : BitVec 16) (data : List Byte) (s : State) :
    exec (.packData h chunk pushId data) s = execPackData h chunk pushId data s := rfl
@[simp] theorem exec_packQuery (h : ChnHdr) (pushId : BitVec 16) (s : State) :
    exec (.packQuery h pushId) s = execPackQuery h pushId s := rfl
@[simp] theorem exec_holdReport (s : State) :
    exec (.holdReport) s = execHoldReport s := rfl
@[simp] theorem exec_page (write : Option Byte) (pecOk : Bool) (s : State) :
    exec (.page write pecOk) s = execPage write pecOk s := rfl
@[simp] theorem exec_clearFaults (pecOk : Bool) (s : State) :
    exec (.clearFaults pecOk) s = execClearFaults pecOk s := rfl
@[simp] theorem exec_capability (s : State) :
    exec (.capability) s = execCapability s := rfl
@[simp] theorem exec_statusByte (s : State) :
    exec (.statusByte) s = execStatusByte s := rfl
@[simp] theorem exec_statusWord (s : State) :
    exec (.statusWord) s = execStatusWord s := rfl
@[simp] theorem exec_statusInput (s : State) :
    exec (.statusInput) s = execStatusInput s := rfl
@[simp] theorem exec_statusTemperature (s : State) :
    exec (.statusTemperature) s = execStatusTemperature s := rfl
@[simp] theorem exec_statusCml (s : State) :
    exec (.statusCml) s = execStatusCml s := rfl
@[simp] theorem exec_readVin (mV : Nat) (s : State) :
    exec (.readVin mV) s = execReadVin mV s := rfl
@[simp] theorem exec_readIin (s : State) :
    exec (.readIin) s = execReadIin s := rfl
@[simp] theorem exec_readTemperature1 (s : State) :
    exec (.readTemperature1) s = execReadTemperature1 s := rfl
@[simp] theorem exec_readTemperature2 (s : State) :
    exec (.readTemperature2) s = execReadTemperature2 s := rfl
@[simp] theorem exec_readPin (s : State) :
    exec (.readPin) s = execReadPin s := rfl
@[simp] theorem exec_pmbusRevision (s : State) :
    exec (.pmbusRevision) s = execPmbusRevision s := rfl
@[simp] theorem exec_mfrId (s : State) :
    exec (.mfrId) s = execMfrId s := rfl
@[simp] theorem exec_mfrModel (s : State) :
    exec (.mfrModel) s = execMfrModel s := rfl
@[simp] theorem exec_mfrRevision (s : State) :
    exec (.mfrRevision) s = execMfrRevision s := rfl
@[simp] theorem exec_mfrSerial (s : State) :
    exec (.mfrSerial) s = execMfrSerial s := rfl
@[simp] theorem exec_mfrDevStatus (s : State) :
    exec (.mfrDevStatus) s = execMfrDevStatus s := rfl
@[simp] theorem exec_mfrBistResult (s : State) :
    exec (.mfrBistResult) s = execMfrBistResult s := rfl
@[simp] theorem exec_mfrRecPtr (region : Byte) (index : BitVec 64) (pecOk : Bool) (s : State) :
    exec (.mfrRecPtr region index pecOk) s = execMfrRecPtr region index pecOk s := rfl
@[simp] theorem exec_mfrRecRead (s : State) :
    exec (.mfrRecRead) s = execMfrRecRead s := rfl
@[simp] theorem exec_alertResponse (s : State) :
    exec (.alertResponse) s = execAlertResponse s := rfl
@[simp] theorem exec_perstLAssert (s : State) :
    exec (.perstLAssert) s = execPerstLAssert s := rfl
@[simp] theorem exec_perstLDeassert (s : State) :
    exec (.perstLDeassert) s = execPerstLDeassert s := rfl
@[simp] theorem exec_flrVf (fn : BitVec 6) (s : State) :
    exec (.flrVf fn) s = execFlrVf fn s := rfl
@[simp] theorem exec_flrPf (s : State) :
    exec (.flrPf) s = execFlrPf s := rfl
@[simp] theorem exec_hotReset (s : State) :
    exec (.hotReset) s = execHotReset s := rfl
@[simp] theorem exec_linkDisable (s : State) :
    exec (.linkDisable) s = execLinkDisable s := rfl
@[simp] theorem exec_pcieLinkDown (s : State) :
    exec (.pcieLinkDown) s = execPcieLinkDown s := rfl
@[simp] theorem exec_pcieLinkUp (speed : BitVec 4) (width : Byte) (flit : Bool) (s : State) :
    exec (.pcieLinkUp speed width flit) s = execPcieLinkUp speed width flit s := rfl
@[simp] theorem exec_pcieTrainRetry (s : State) :
    exec (.pcieTrainRetry) s = execPcieTrainRetry s := rfl
@[simp] theorem exec_q0Create (s : State) :
    exec (.q0Create) s = execQ0Create s := rfl
@[simp] theorem exec_q0Reenable (s : State) :
    exec (.q0Reenable) s = execQ0Reenable s := rfl
@[simp] theorem exec_barWrite (fn : BitVec 6) (bar : BitVec 3) (offset : BitVec 32) (data : List Byte) (ep : Bool) (s : State) :
    exec (.barWrite fn bar offset data ep) s = execBarWrite fn bar offset data ep s := rfl
@[simp] theorem exec_hostReadCompletion (tag : Nat) (d : HostData) (s : State) :
    exec (.hostReadCompletion tag d) s = execHostReadCompletion tag d s := rfl
@[simp] theorem exec_hostCompletionTimeout (tag : Nat) (s : State) :
    exec (.hostCompletionTimeout tag) s = execHostCompletionTimeout tag s := rfl
@[simp] theorem exec_pcieUncorrectable (aerBit : Byte) (ur : Bool) (s : State) :
    exec (.pcieUncorrectable aerBit ur) s = execPcieUncorrectable aerBit ur s := rfl
@[simp] theorem exec_msixUnmask (fn : BitVec 6) (vector : BitVec 12) (s : State) :
    exec (.msixUnmask fn vector) s = execMsixUnmask fn vector s := rfl
@[simp] theorem exec_heartbeatMailboxRefresh (s : State) :
    exec (.heartbeatMailboxRefresh) s = execHeartbeatMailboxRefresh s := rfl
@[simp] theorem exec_vin12Loss (s : State) :
    exec (.vin12Loss) s = execVin12Loss s := rfl
@[simp] theorem exec_powerCycleMark (s : State) :
    exec (.powerCycleMark) s = execPowerCycleMark s := rfl
@[simp] theorem exec_railsInRange (s : State) :
    exec (.railsInRange) s = execRailsInRange s := rfl
@[simp] theorem exec_tripVoteCleared (voter : BitVec 2) (s : State) :
    exec (.tripVoteCleared voter) s = execTripVoteCleared voter s := rfl
@[simp] theorem exec_takeoverComplete (s : State) :
    exec (.takeoverComplete) s = execTakeoverComplete s := rfl
@[simp] theorem exec_configurationWrite (fn : BitVec 6) (c : CfgWrite) (s : State) :
    exec (.configurationWrite fn c) s = execConfigurationWrite fn c s := rfl
@[simp] theorem exec_pcieCorrected (aerBit : Byte) (s : State) :
    exec (.pcieCorrected aerBit) s = execPcieCorrected aerBit s := rfl
@[simp] theorem exec_undefinedInstruction (slot : BitVec 6) (word : BitVec 64) (s : State) :
    exec (.undefinedInstruction slot word) s = execUndefinedInstruction slot word s := rfl
@[simp] theorem exec_illegalInstr (w : ShedRef) (word : BitVec 64) (s : State) :
    exec (.illegalInstr w word) s = execIllegalInstr w word s := rfl

end Sys2Proof.Machine
end

