-- ==== Sys2Proof/Laws/Tables.lean ====
section
/-! SUPPORT. The laws of sparse tables: reading after writing, removal, and the rising order that every operation keeps. -/

namespace Sys2Proof

variable {α : Type}

/-- Reading the entry just written. -/
@[simp] theorem Tbl.get_put_same (d : α) (t : Tbl α) (k : Nat) (v : α) : Tbl.get d (Tbl.put t k v) k = v := by
  induction t with
  | nil => simp [Tbl.put, Tbl.get]
  | cons e t ih =>
    obtain ⟨k', v'⟩ := e
    unfold Tbl.put
    split
    · simp [Tbl.get]
    · split
      · simp [Tbl.get]
      · rename_i h; simp [Tbl.get, h, ih]

/-- Reading another entry than the one just written. -/
theorem Tbl.get_put_ne (d : α) (t : Tbl α) {k j : Nat} (h : j ≠ k) (v : α) : Tbl.get d (Tbl.put t k v) j = Tbl.get d t j := by
  induction t with
  | nil => simp [Tbl.put, Tbl.get, h]
  | cons e t ih =>
    obtain ⟨k', v'⟩ := e
    unfold Tbl.put
    split
    · simp [Tbl.get, h]
    · split
      · rename_i hk; subst hk; simp [Tbl.get, h]
      · simp only [Tbl.get]; rw [ih]

/-- Reading an entry just removed. -/
@[simp] theorem Tbl.get_del_same (d : α) (t : Tbl α) (k : Nat) : Tbl.get d (Tbl.del t k) k = d := by
  unfold Tbl.del
  induction t with
  | nil => rfl
  | cons e t ih =>
    obtain ⟨k', v'⟩ := e
    by_cases hk : k' = k
    · simp [List.filter_cons, hk, ih]
    · have : ¬ k = k' := fun h => hk h.symm
      simp [List.filter_cons, hk, Tbl.get, this, ih]

/-- Reading another entry than the one just removed. -/
theorem Tbl.get_del_ne (d : α) (t : Tbl α) {k j : Nat} (h : j ≠ k) : Tbl.get d (Tbl.del t k) j = Tbl.get d t j := by
  unfold Tbl.del
  induction t with
  | nil => rfl
  | cons e t ih =>
    obtain ⟨k', v'⟩ := e
    by_cases hk : k' = k
    · have : ¬ j = k' := fun e => h (e.trans hk)
      simp [List.filter_cons, hk, Tbl.get, ih, h]
    · simp only [List.filter_cons, bne_iff_ne, ne_eq, hk, not_false_eq_true, if_true, Tbl.get]
      rw [ih]

/-- A rising table is one whose numbers are pairwise rising. -/
theorem Tbl.rising_iff (t : Tbl α) : Tbl.rising t = true ↔ (t.map (·.1)).Pairwise (· < ·) := by
  induction t with
  | nil => simp [Tbl.rising]
  | cons a t ih =>
    cases t with
    | nil => simp [Tbl.rising]
    | cons b t =>
      obtain ⟨a, va⟩ := a
      obtain ⟨b, vb⟩ := b
      simp only [Tbl.rising, Bool.and_eq_true, decide_eq_true_eq, ih, List.map_cons, List.pairwise_cons, List.mem_cons]
      constructor
      · rintro ⟨h, h1, h2⟩
        refine ⟨?_, h1, h2⟩
        rintro x (rfl | hx)
        · exact h
        · exact Nat.lt_trans h (h1 x hx)
      · rintro ⟨h, h1, h2⟩
        exact ⟨h b (Or.inl rfl), h1, h2⟩

/-- The numbers of a table after a write. -/
theorem Tbl.mem_put_keys (t : Tbl α) (k : Nat) (v : α) {x : Nat} (h : x ∈ (Tbl.put t k v).map (·.1)) :
    x = k ∨ x ∈ t.map (·.1) := by
  induction t with
  | nil => simpa [Tbl.put] using h
  | cons e t ih =>
    obtain ⟨k', v'⟩ := e
    unfold Tbl.put at h
    split at h
    · simpa using h
    · split at h
      · rename_i hk; subst hk; simp at h ⊢; tauto
      · simp only [List.map_cons, List.mem_cons] at h ⊢
        rcases h with h | h
        · exact Or.inr (Or.inl h)
        · rcases ih h with h | h
          · exact Or.inl h
          · exact Or.inr (Or.inr h)

/-- The entries of a table after a write. -/
theorem Tbl.mem_put (t : Tbl α) (k : Nat) (v : α) {e : Nat × α} (h : e ∈ Tbl.put t k v) : e = (k, v) ∨ e ∈ t := by
  induction t with
  | nil => simpa [Tbl.put] using h
  | cons f t ih =>
    obtain ⟨k', v'⟩ := f
    unfold Tbl.put at h
    split at h
    · simpa using h
    · split at h
      · simp at h ⊢; tauto
      · simp only [List.mem_cons] at h ⊢
        rcases h with h | h
        · exact Or.inr (Or.inl h)
        · rcases ih h with h | h
          · exact Or.inl h
          · exact Or.inr (Or.inr h)

/-- A write keeps the rising order. -/
theorem Tbl.rising_put (t : Tbl α) (k : Nat) (v : α) (h : Tbl.rising t = true) : Tbl.rising (Tbl.put t k v) = true := by
  rw [Tbl.rising_iff] at h ⊢
  induction t with
  | nil => simp [Tbl.put]
  | cons e t ih =>
    obtain ⟨k', v'⟩ := e
    simp only [List.map_cons, List.pairwise_cons] at h
    unfold Tbl.put
    split
    · rename_i hk
      simp only [List.map_cons, List.pairwise_cons, List.mem_cons]
      refine ⟨?_, h.1, h.2⟩
      rintro x (rfl | hx)
      · exact hk
      · exact Nat.lt_trans hk (h.1 x hx)
    · split
      · rename_i hk; subst hk
        simp only [List.map_cons, List.pairwise_cons]; exact h
      · rename_i h1 h2
        simp only [List.map_cons, List.pairwise_cons]
        refine ⟨fun x hx => ?_, ih h.2⟩
        rcases Tbl.mem_put_keys t k v hx with rfl | hx
        · omega
        · exact h.1 x hx

/-- Taking entries out keeps the rising order. -/
theorem Tbl.rising_filter (t : Tbl α) (p : Nat × α → Bool) (h : Tbl.rising t = true) : Tbl.rising (t.filter p) = true := by
  rw [Tbl.rising_iff] at h ⊢
  exact h.sublist (List.Sublist.map _ List.filter_sublist)

/-- A removal keeps the rising order. -/
theorem Tbl.rising_del (t : Tbl α) (k : Nat) (h : Tbl.rising t = true) : Tbl.rising (Tbl.del t k) = true :=
  Tbl.rising_filter t _ h

/-- The numbers after an insertion. -/
theorem mem_insertNat (l : List Nat) (k x : Nat) : x ∈ insertNat l k ↔ x = k ∨ x ∈ l := by
  induction l with
  | nil => simp [insertNat]
  | cons h t ih =>
    unfold insertNat
    split
    · simp
    · split
      · rename_i e; subst e; simp
      · simp only [List.mem_cons, ih]; tauto

/-- An insertion keeps the rising order. -/
theorem pairwise_insertNat (l : List Nat) (k : Nat) (h : l.Pairwise (· < ·)) : (insertNat l k).Pairwise (· < ·) := by
  induction l with
  | nil => simp [insertNat]
  | cons a t ih =>
    rw [List.pairwise_cons] at h
    unfold insertNat
    split
    · rename_i hk
      rw [List.pairwise_cons, List.pairwise_cons]
      refine ⟨fun x hx => ?_, h⟩
      rcases List.mem_cons.1 hx with rfl | hx
      · exact hk
      · exact Nat.lt_trans hk (h.1 x hx)
    · split
      · exact List.pairwise_cons.2 h
      · rename_i h1 h2
        rw [List.pairwise_cons]
        refine ⟨fun x hx => ?_, ih h.2⟩
        rcases (mem_insertNat t k x).1 hx with rfl | hx
        · omega
        · exact h.1 x hx

end Sys2Proof
end

