-- ==== Sys2Proof/Laws/Memory.lean ====
section
/-! SUPPORT. The laws of device memory: a read after a write, and that every memory operation keeps the canonical form. -/

namespace Sys2Proof.Machine

/-- The canonical form, as propositions. -/
theorem memWf_iff (m : List Host.Cell) : Mem.wf m = true ↔ Tbl.rising m = true ∧ ∀ e ∈ m, e.2 ≠ Mem.empty := by
  simp [Mem.wf, List.all_eq_true]

/-- A byte just written reads back. -/
@[simp] theorem cellGet_cellPut_same (m : List Host.Cell) (a : Nat) (b : Byte) : cellGet (cellPut m a b) a = b := by
  unfold cellGet cellPut
  split
  · rename_i h; rw [Tbl.get_del_same, h]
  · rw [Tbl.get_put_same]

/-- A write leaves every other byte alone. -/
theorem cellGet_cellPut_ne (m : List Host.Cell) {a x : Nat} (h : x ≠ a) (b : Byte) : cellGet (cellPut m a b) x = cellGet m x := by
  unfold cellGet cellPut
  split
  · rw [Tbl.get_del_ne _ _ h]
  · rw [Tbl.get_put_ne _ _ h]

/-- A write of one byte keeps the canonical form. -/
theorem cellPut_wf (m : List Host.Cell) (a : Nat) (b : Byte) (h : Mem.wf m = true) : Mem.wf (cellPut m a b) = true := by
  rw [memWf_iff] at h ⊢
  unfold cellPut
  split
  · exact ⟨Tbl.rising_del m a h.1, fun e he => h.2 e (List.mem_of_mem_filter he)⟩
  · rename_i hb
    refine ⟨Tbl.rising_put m a b h.1, fun e he => ?_⟩
    rcases Tbl.mem_put m a b he with rfl | he
    · exact hb
    · exact h.2 e he

/-- Taking cells out keeps the canonical form. -/
theorem filter_wf (m : List Host.Cell) (p : Host.Cell → Bool) (h : Mem.wf m = true) : Mem.wf (m.filter p) = true := by
  rw [memWf_iff] at h ⊢
  exact ⟨Tbl.rising_filter m p h.1, fun e he => h.2 e (List.mem_of_mem_filter he)⟩

/-- A byte just written reads back. -/
@[simp] theorem memGet_memPut_same (s : State) (a : Nat) (b : Byte) : memGet (memPut s a b) a = b := cellGet_cellPut_same _ _ _

/-- A write leaves every other byte alone. -/
theorem memGet_memPut_ne (s : State) {a x : Nat} (h : x ≠ a) (b : Byte) : memGet (memPut s a b) x = memGet s x :=
  cellGet_cellPut_ne _ h b

/-- A byte write keeps memory canonical. -/
theorem memPut_canonical (s : State) (a : Nat) (b : Byte) (h : memCanonical s) : memCanonical (memPut s a b) :=
  ⟨cellPut_wf _ a b h.1, h.2⟩

/-- Writing bytes from an address upward keeps memory canonical. -/
theorem memPuts_canonical (s : State) (a : Nat) (l : List Byte) (h : memCanonical s) : memCanonical (memPuts s a l) := by
  induction l generalizing s a with
  | nil => exact h
  | cons b t ih => exact ih _ _ (memPut_canonical s a b h)

/-- Poisoning a granule keeps memory canonical. -/
theorem setPoison_canonical (s : State) (a : Nat) (h : memCanonical s) : memCanonical (setPoison s a) :=
  ⟨h.1, pairwise_insertNat _ _ h.2⟩

/-- Clearing the poison of a granule keeps memory canonical. -/
theorem clearPoison_canonical (s : State) (a : Nat) (h : memCanonical s) : memCanonical (clearPoison s a) :=
  ⟨h.1, h.2.sublist List.filter_sublist⟩

/-- Wiping a range keeps memory canonical. -/
theorem memWipe_canonical (s : State) (lo hi : Nat) (h : memCanonical s) : memCanonical (memWipe s lo hi) :=
  ⟨filter_wf _ _ h.1, h.2.sublist List.filter_sublist⟩

/-- Writing bytes leaves every byte outside them alone. -/
theorem memGet_memPuts_out (s : State) (a : Nat) (l : List Byte) (x : Nat) (h : x < a ∨ a + l.length ≤ x) :
    memGet (memPuts s a l) x = memGet s x := by
  induction l generalizing s a with
  | nil => rfl
  | cons b t ih =>
    simp only [List.length_cons] at h
    show memGet (memPuts (memPut s a b) (a + 1) t) x = _
    rw [ih _ _ (by omega), memGet_memPut_ne s (by omega)]

/-- Bytes just written read back. -/
theorem memGets_memPuts (s : State) (a : Nat) (l : List Byte) : memGets (memPuts s a l) a l.length = l := by
  induction l generalizing s a with
  | nil => rfl
  | cons b t ih =>
    show memGet (memPuts (memPut s a b) (a + 1) t) a :: memGets (memPuts (memPut s a b) (a + 1) t) (a + 1) t.length = _
    rw [ih, memGet_memPuts_out _ _ _ _ (by omega), memGet_memPut_same]

end Sys2Proof.Machine
end

