-- ==== Sys2Proof/Laws/State.lean ====
section
/-! SUPPORT. One lemma per field and update of the state: an update leaves every field but its own as it was; and what a read finds
after it. -/

namespace Sys2Proof.Machine

/-! ### putQ -/

@[simp] theorem putQ_pending (s : State) (q : Nat) (v : Queue) : (putQ s q v).pending = s.pending := rfl
@[simp] theorem putQ_out (s : State) (q : Nat) (v : Queue) : (putQ s q v).out = s.out := rfl
@[simp] theorem putQ_freeCtr (s : State) (q : Nat) (v : Queue) : (putQ s q v).freeCtr = s.freeCtr := rfl
@[simp] theorem putQ_gtc (s : State) (q : Nat) (v : Queue) : (putQ s q v).gtc = s.gtc := rfl
@[simp] theorem putQ_aon (s : State) (q : Nat) (v : Queue) : (putQ s q v).aon = s.aon := rfl
@[simp] theorem putQ_phase (s : State) (q : Nat) (v : Queue) : (putQ s q v).phase = s.phase := rfl
@[simp] theorem putQ_straps (s : State) (q : Nat) (v : Queue) : (putQ s q v).straps = s.straps := rfl
@[simp] theorem putQ_pwr (s : State) (q : Nat) (v : Queue) : (putQ s q v).pwr = s.pwr := rfl
@[simp] theorem putQ_thm (s : State) (q : Nat) (v : Queue) : (putQ s q v).thm = s.thm := rfl
@[simp] theorem putQ_bist (s : State) (q : Nat) (v : Queue) : (putQ s q v).bist = s.bist := rfl
@[simp] theorem putQ_fuses (s : State) (q : Nat) (v : Queue) : (putQ s q v).fuses = s.fuses := rfl
@[simp] theorem putQ_trd (s : State) (q : Nat) (v : Queue) : (putQ s q v).trd = s.trd := rfl
@[simp] theorem putQ_progs (s : State) (q : Nat) (v : Queue) : (putQ s q v).progs = s.progs := rfl
@[simp] theorem putQ_sets (s : State) (q : Nat) (v : Queue) : (putQ s q v).sets = s.sets := rfl
@[simp] theorem putQ_err (s : State) (q : Nat) (v : Queue) : (putQ s q v).err = s.err := rfl
@[simp] theorem putQ_rcd (s : State) (q : Nat) (v : Queue) : (putQ s q v).rcd = s.rcd := rfl
@[simp] theorem putQ_rst (s : State) (q : Nat) (v : Queue) : (putQ s q v).rst = s.rst := rfl
@[simp] theorem putQ_ctxs (s : State) (q : Nat) (v : Queue) : (putQ s q v).ctxs = s.ctxs := rfl
@[simp] theorem putQ_slots (s : State) (q : Nat) (v : Queue) : (putQ s q v).slots = s.slots := rfl
@[simp] theorem putQ_mem (s : State) (q : Nat) (v : Queue) : (putQ s q v).mem = s.mem := rfl
@[simp] theorem putQ_pci (s : State) (q : Nat) (v : Queue) : (putQ s q v).pci = s.pci := rfl
@[simp] theorem putQ_groupEff (s : State) (q : Nat) (v : Queue) : (putQ s q v).groupEff = s.groupEff := rfl
@[simp] theorem putQ_sliceEff (s : State) (q : Nat) (v : Queue) : (putQ s q v).sliceEff = s.sliceEff := rfl
@[simp] theorem putQ_shutEff (s : State) (q : Nat) (v : Queue) : (putQ s q v).shutEff = s.shutEff := rfl
@[simp] theorem putQ_orderCtr (s : State) (q : Nat) (v : Queue) : (putQ s q v).orderCtr = s.orderCtr := rfl
@[simp] theorem putQ_axes (s : State) (q : Nat) (v : Queue) : (putQ s q v).axes = s.axes := rfl
@[simp] theorem putQ_history (s : State) (q : Nat) (v : Queue) : (putQ s q v).history = s.history := rfl
@[simp] theorem putQ_deepQ (s : State) (q : Nat) (v : Queue) : (putQ s q v).deepQ = s.deepQ := rfl
@[simp] theorem putQ_chk (s : State) (q : Nat) (v : Queue) : (putQ s q v).chk = s.chk := rfl
@[simp] theorem putQ_ecc (s : State) (q : Nat) (v : Queue) : (putQ s q v).ecc = s.ecc := rfl
@[simp] theorem putQ_brl (s : State) (q : Nat) (v : Queue) : (putQ s q v).brl = s.brl := rfl
@[simp] theorem putQ_chn (s : State) (q : Nat) (v : Queue) : (putQ s q v).chn = s.chn := rfl
@[simp] theorem putQ_smb (s : State) (q : Nat) (v : Queue) : (putQ s q v).smb = s.smb := rfl
@[simp] theorem putQ_shut (s : State) (q : Nat) (v : Queue) : (putQ s q v).shut = s.shut := rfl
@[simp] theorem putQ_links (s : State) (q : Nat) (v : Queue) : (putQ s q v).links = s.links := rfl
@[simp] theorem putQ_time (s : State) (q : Nat) (v : Queue) : (putQ s q v).time = s.time := rfl
@[simp] theorem putQ_pairs (s : State) (q : Nat) (v : Queue) : (putQ s q v).pairs = s.pairs := rfl
@[simp] theorem putQ_col (s : State) (q : Nat) (v : Queue) : (putQ s q v).col = s.col := rfl
@[simp] theorem putQ_esp (s : State) (q : Nat) (v : Queue) : (putQ s q v).esp = s.esp := rfl

/-! ### putP -/

@[simp] theorem putP_pending (s : State) (n : Nat) (v : Prog) : (putP s n v).pending = s.pending := rfl
@[simp] theorem putP_out (s : State) (n : Nat) (v : Prog) : (putP s n v).out = s.out := rfl
@[simp] theorem putP_freeCtr (s : State) (n : Nat) (v : Prog) : (putP s n v).freeCtr = s.freeCtr := rfl
@[simp] theorem putP_gtc (s : State) (n : Nat) (v : Prog) : (putP s n v).gtc = s.gtc := rfl
@[simp] theorem putP_aon (s : State) (n : Nat) (v : Prog) : (putP s n v).aon = s.aon := rfl
@[simp] theorem putP_phase (s : State) (n : Nat) (v : Prog) : (putP s n v).phase = s.phase := rfl
@[simp] theorem putP_straps (s : State) (n : Nat) (v : Prog) : (putP s n v).straps = s.straps := rfl
@[simp] theorem putP_pwr (s : State) (n : Nat) (v : Prog) : (putP s n v).pwr = s.pwr := rfl
@[simp] theorem putP_thm (s : State) (n : Nat) (v : Prog) : (putP s n v).thm = s.thm := rfl
@[simp] theorem putP_bist (s : State) (n : Nat) (v : Prog) : (putP s n v).bist = s.bist := rfl
@[simp] theorem putP_fuses (s : State) (n : Nat) (v : Prog) : (putP s n v).fuses = s.fuses := rfl
@[simp] theorem putP_trd (s : State) (n : Nat) (v : Prog) : (putP s n v).trd = s.trd := rfl
@[simp] theorem putP_queues (s : State) (n : Nat) (v : Prog) : (putP s n v).queues = s.queues := rfl
@[simp] theorem putP_sets (s : State) (n : Nat) (v : Prog) : (putP s n v).sets = s.sets := rfl
@[simp] theorem putP_err (s : State) (n : Nat) (v : Prog) : (putP s n v).err = s.err := rfl
@[simp] theorem putP_rcd (s : State) (n : Nat) (v : Prog) : (putP s n v).rcd = s.rcd := rfl
@[simp] theorem putP_rst (s : State) (n : Nat) (v : Prog) : (putP s n v).rst = s.rst := rfl
@[simp] theorem putP_ctxs (s : State) (n : Nat) (v : Prog) : (putP s n v).ctxs = s.ctxs := rfl
@[simp] theorem putP_slots (s : State) (n : Nat) (v : Prog) : (putP s n v).slots = s.slots := rfl
@[simp] theorem putP_mem (s : State) (n : Nat) (v : Prog) : (putP s n v).mem = s.mem := rfl
@[simp] theorem putP_pci (s : State) (n : Nat) (v : Prog) : (putP s n v).pci = s.pci := rfl
@[simp] theorem putP_groupEff (s : State) (n : Nat) (v : Prog) : (putP s n v).groupEff = s.groupEff := rfl
@[simp] theorem putP_sliceEff (s : State) (n : Nat) (v : Prog) : (putP s n v).sliceEff = s.sliceEff := rfl
@[simp] theorem putP_shutEff (s : State) (n : Nat) (v : Prog) : (putP s n v).shutEff = s.shutEff := rfl
@[simp] theorem putP_orderCtr (s : State) (n : Nat) (v : Prog) : (putP s n v).orderCtr = s.orderCtr := rfl
@[simp] theorem putP_axes (s : State) (n : Nat) (v : Prog) : (putP s n v).axes = s.axes := rfl
@[simp] theorem putP_history (s : State) (n : Nat) (v : Prog) : (putP s n v).history = s.history := rfl
@[simp] theorem putP_deepQ (s : State) (n : Nat) (v : Prog) : (putP s n v).deepQ = s.deepQ := rfl
@[simp] theorem putP_chk (s : State) (n : Nat) (v : Prog) : (putP s n v).chk = s.chk := rfl
@[simp] theorem putP_ecc (s : State) (n : Nat) (v : Prog) : (putP s n v).ecc = s.ecc := rfl
@[simp] theorem putP_brl (s : State) (n : Nat) (v : Prog) : (putP s n v).brl = s.brl := rfl
@[simp] theorem putP_chn (s : State) (n : Nat) (v : Prog) : (putP s n v).chn = s.chn := rfl
@[simp] theorem putP_smb (s : State) (n : Nat) (v : Prog) : (putP s n v).smb = s.smb := rfl
@[simp] theorem putP_shut (s : State) (n : Nat) (v : Prog) : (putP s n v).shut = s.shut := rfl
@[simp] theorem putP_links (s : State) (n : Nat) (v : Prog) : (putP s n v).links = s.links := rfl
@[simp] theorem putP_time (s : State) (n : Nat) (v : Prog) : (putP s n v).time = s.time := rfl
@[simp] theorem putP_pairs (s : State) (n : Nat) (v : Prog) : (putP s n v).pairs = s.pairs := rfl
@[simp] theorem putP_col (s : State) (n : Nat) (v : Prog) : (putP s n v).col = s.col := rfl
@[simp] theorem putP_esp (s : State) (n : Nat) (v : Prog) : (putP s n v).esp = s.esp := rfl

/-! ### delP -/

@[simp] theorem delP_pending (s : State) (n : Nat) : (delP s n).pending = s.pending := rfl
@[simp] theorem delP_out (s : State) (n : Nat) : (delP s n).out = s.out := rfl
@[simp] theorem delP_freeCtr (s : State) (n : Nat) : (delP s n).freeCtr = s.freeCtr := rfl
@[simp] theorem delP_gtc (s : State) (n : Nat) : (delP s n).gtc = s.gtc := rfl
@[simp] theorem delP_aon (s : State) (n : Nat) : (delP s n).aon = s.aon := rfl
@[simp] theorem delP_phase (s : State) (n : Nat) : (delP s n).phase = s.phase := rfl
@[simp] theorem delP_straps (s : State) (n : Nat) : (delP s n).straps = s.straps := rfl
@[simp] theorem delP_pwr (s : State) (n : Nat) : (delP s n).pwr = s.pwr := rfl
@[simp] theorem delP_thm (s : State) (n : Nat) : (delP s n).thm = s.thm := rfl
@[simp] theorem delP_bist (s : State) (n : Nat) : (delP s n).bist = s.bist := rfl
@[simp] theorem delP_fuses (s : State) (n : Nat) : (delP s n).fuses = s.fuses := rfl
@[simp] theorem delP_trd (s : State) (n : Nat) : (delP s n).trd = s.trd := rfl
@[simp] theorem delP_queues (s : State) (n : Nat) : (delP s n).queues = s.queues := rfl
@[simp] theorem delP_sets (s : State) (n : Nat) : (delP s n).sets = s.sets := rfl
@[simp] theorem delP_err (s : State) (n : Nat) : (delP s n).err = s.err := rfl
@[simp] theorem delP_rcd (s : State) (n : Nat) : (delP s n).rcd = s.rcd := rfl
@[simp] theorem delP_rst (s : State) (n : Nat) : (delP s n).rst = s.rst := rfl
@[simp] theorem delP_ctxs (s : State) (n : Nat) : (delP s n).ctxs = s.ctxs := rfl
@[simp] theorem delP_slots (s : State) (n : Nat) : (delP s n).slots = s.slots := rfl
@[simp] theorem delP_mem (s : State) (n : Nat) : (delP s n).mem = s.mem := rfl
@[simp] theorem delP_pci (s : State) (n : Nat) : (delP s n).pci = s.pci := rfl
@[simp] theorem delP_groupEff (s : State) (n : Nat) : (delP s n).groupEff = s.groupEff := rfl
@[simp] theorem delP_sliceEff (s : State) (n : Nat) : (delP s n).sliceEff = s.sliceEff := rfl
@[simp] theorem delP_shutEff (s : State) (n : Nat) : (delP s n).shutEff = s.shutEff := rfl
@[simp] theorem delP_orderCtr (s : State) (n : Nat) : (delP s n).orderCtr = s.orderCtr := rfl
@[simp] theorem delP_axes (s : State) (n : Nat) : (delP s n).axes = s.axes := rfl
@[simp] theorem delP_history (s : State) (n : Nat) : (delP s n).history = s.history := rfl
@[simp] theorem delP_deepQ (s : State) (n : Nat) : (delP s n).deepQ = s.deepQ := rfl
@[simp] theorem delP_chk (s : State) (n : Nat) : (delP s n).chk = s.chk := rfl
@[simp] theorem delP_ecc (s : State) (n : Nat) : (delP s n).ecc = s.ecc := rfl
@[simp] theorem delP_brl (s : State) (n : Nat) : (delP s n).brl = s.brl := rfl
@[simp] theorem delP_chn (s : State) (n : Nat) : (delP s n).chn = s.chn := rfl
@[simp] theorem delP_smb (s : State) (n : Nat) : (delP s n).smb = s.smb := rfl
@[simp] theorem delP_shut (s : State) (n : Nat) : (delP s n).shut = s.shut := rfl
@[simp] theorem delP_links (s : State) (n : Nat) : (delP s n).links = s.links := rfl
@[simp] theorem delP_time (s : State) (n : Nat) : (delP s n).time = s.time := rfl
@[simp] theorem delP_pairs (s : State) (n : Nat) : (delP s n).pairs = s.pairs := rfl
@[simp] theorem delP_col (s : State) (n : Nat) : (delP s n).col = s.col := rfl
@[simp] theorem delP_esp (s : State) (n : Nat) : (delP s n).esp = s.esp := rfl

/-! ### putC -/

@[simp] theorem putC_pending (s : State) (c : Nat) (v : Ctx) : (putC s c v).pending = s.pending := rfl
@[simp] theorem putC_out (s : State) (c : Nat) (v : Ctx) : (putC s c v).out = s.out := rfl
@[simp] theorem putC_freeCtr (s : State) (c : Nat) (v : Ctx) : (putC s c v).freeCtr = s.freeCtr := rfl
@[simp] theorem putC_gtc (s : State) (c : Nat) (v : Ctx) : (putC s c v).gtc = s.gtc := rfl
@[simp] theorem putC_aon (s : State) (c : Nat) (v : Ctx) : (putC s c v).aon = s.aon := rfl
@[simp] theorem putC_phase (s : State) (c : Nat) (v : Ctx) : (putC s c v).phase = s.phase := rfl
@[simp] theorem putC_straps (s : State) (c : Nat) (v : Ctx) : (putC s c v).straps = s.straps := rfl
@[simp] theorem putC_pwr (s : State) (c : Nat) (v : Ctx) : (putC s c v).pwr = s.pwr := rfl
@[simp] theorem putC_thm (s : State) (c : Nat) (v : Ctx) : (putC s c v).thm = s.thm := rfl
@[simp] theorem putC_bist (s : State) (c : Nat) (v : Ctx) : (putC s c v).bist = s.bist := rfl
@[simp] theorem putC_fuses (s : State) (c : Nat) (v : Ctx) : (putC s c v).fuses = s.fuses := rfl
@[simp] theorem putC_trd (s : State) (c : Nat) (v : Ctx) : (putC s c v).trd = s.trd := rfl
@[simp] theorem putC_queues (s : State) (c : Nat) (v : Ctx) : (putC s c v).queues = s.queues := rfl
@[simp] theorem putC_progs (s : State) (c : Nat) (v : Ctx) : (putC s c v).progs = s.progs := rfl
@[simp] theorem putC_sets (s : State) (c : Nat) (v : Ctx) : (putC s c v).sets = s.sets := rfl
@[simp] theorem putC_err (s : State) (c : Nat) (v : Ctx) : (putC s c v).err = s.err := rfl
@[simp] theorem putC_rcd (s : State) (c : Nat) (v : Ctx) : (putC s c v).rcd = s.rcd := rfl
@[simp] theorem putC_rst (s : State) (c : Nat) (v : Ctx) : (putC s c v).rst = s.rst := rfl
@[simp] theorem putC_slots (s : State) (c : Nat) (v : Ctx) : (putC s c v).slots = s.slots := rfl
@[simp] theorem putC_mem (s : State) (c : Nat) (v : Ctx) : (putC s c v).mem = s.mem := rfl
@[simp] theorem putC_pci (s : State) (c : Nat) (v : Ctx) : (putC s c v).pci = s.pci := rfl
@[simp] theorem putC_groupEff (s : State) (c : Nat) (v : Ctx) : (putC s c v).groupEff = s.groupEff := rfl
@[simp] theorem putC_sliceEff (s : State) (c : Nat) (v : Ctx) : (putC s c v).sliceEff = s.sliceEff := rfl
@[simp] theorem putC_shutEff (s : State) (c : Nat) (v : Ctx) : (putC s c v).shutEff = s.shutEff := rfl
@[simp] theorem putC_orderCtr (s : State) (c : Nat) (v : Ctx) : (putC s c v).orderCtr = s.orderCtr := rfl
@[simp] theorem putC_axes (s : State) (c : Nat) (v : Ctx) : (putC s c v).axes = s.axes := rfl
@[simp] theorem putC_history (s : State) (c : Nat) (v : Ctx) : (putC s c v).history = s.history := rfl
@[simp] theorem putC_deepQ (s : State) (c : Nat) (v : Ctx) : (putC s c v).deepQ = s.deepQ := rfl
@[simp] theorem putC_chk (s : State) (c : Nat) (v : Ctx) : (putC s c v).chk = s.chk := rfl
@[simp] theorem putC_ecc (s : State) (c : Nat) (v : Ctx) : (putC s c v).ecc = s.ecc := rfl
@[simp] theorem putC_brl (s : State) (c : Nat) (v : Ctx) : (putC s c v).brl = s.brl := rfl
@[simp] theorem putC_chn (s : State) (c : Nat) (v : Ctx) : (putC s c v).chn = s.chn := rfl
@[simp] theorem putC_smb (s : State) (c : Nat) (v : Ctx) : (putC s c v).smb = s.smb := rfl
@[simp] theorem putC_shut (s : State) (c : Nat) (v : Ctx) : (putC s c v).shut = s.shut := rfl
@[simp] theorem putC_links (s : State) (c : Nat) (v : Ctx) : (putC s c v).links = s.links := rfl
@[simp] theorem putC_time (s : State) (c : Nat) (v : Ctx) : (putC s c v).time = s.time := rfl
@[simp] theorem putC_pairs (s : State) (c : Nat) (v : Ctx) : (putC s c v).pairs = s.pairs := rfl
@[simp] theorem putC_col (s : State) (c : Nat) (v : Ctx) : (putC s c v).col = s.col := rfl
@[simp] theorem putC_esp (s : State) (c : Nat) (v : Ctx) : (putC s c v).esp = s.esp := rfl

/-! ### putS -/

@[simp] theorem putS_pending (s : State) (k : Nat) (v : Slot) : (putS s k v).pending = s.pending := rfl
@[simp] theorem putS_out (s : State) (k : Nat) (v : Slot) : (putS s k v).out = s.out := rfl
@[simp] theorem putS_freeCtr (s : State) (k : Nat) (v : Slot) : (putS s k v).freeCtr = s.freeCtr := rfl
@[simp] theorem putS_gtc (s : State) (k : Nat) (v : Slot) : (putS s k v).gtc = s.gtc := rfl
@[simp] theorem putS_aon (s : State) (k : Nat) (v : Slot) : (putS s k v).aon = s.aon := rfl
@[simp] theorem putS_phase (s : State) (k : Nat) (v : Slot) : (putS s k v).phase = s.phase := rfl
@[simp] theorem putS_straps (s : State) (k : Nat) (v : Slot) : (putS s k v).straps = s.straps := rfl
@[simp] theorem putS_pwr (s : State) (k : Nat) (v : Slot) : (putS s k v).pwr = s.pwr := rfl
@[simp] theorem putS_thm (s : State) (k : Nat) (v : Slot) : (putS s k v).thm = s.thm := rfl
@[simp] theorem putS_bist (s : State) (k : Nat) (v : Slot) : (putS s k v).bist = s.bist := rfl
@[simp] theorem putS_fuses (s : State) (k : Nat) (v : Slot) : (putS s k v).fuses = s.fuses := rfl
@[simp] theorem putS_trd (s : State) (k : Nat) (v : Slot) : (putS s k v).trd = s.trd := rfl
@[simp] theorem putS_queues (s : State) (k : Nat) (v : Slot) : (putS s k v).queues = s.queues := rfl
@[simp] theorem putS_progs (s : State) (k : Nat) (v : Slot) : (putS s k v).progs = s.progs := rfl
@[simp] theorem putS_sets (s : State) (k : Nat) (v : Slot) : (putS s k v).sets = s.sets := rfl
@[simp] theorem putS_err (s : State) (k : Nat) (v : Slot) : (putS s k v).err = s.err := rfl
@[simp] theorem putS_rcd (s : State) (k : Nat) (v : Slot) : (putS s k v).rcd = s.rcd := rfl
@[simp] theorem putS_rst (s : State) (k : Nat) (v : Slot) : (putS s k v).rst = s.rst := rfl
@[simp] theorem putS_ctxs (s : State) (k : Nat) (v : Slot) : (putS s k v).ctxs = s.ctxs := rfl
@[simp] theorem putS_mem (s : State) (k : Nat) (v : Slot) : (putS s k v).mem = s.mem := rfl
@[simp] theorem putS_pci (s : State) (k : Nat) (v : Slot) : (putS s k v).pci = s.pci := rfl
@[simp] theorem putS_groupEff (s : State) (k : Nat) (v : Slot) : (putS s k v).groupEff = s.groupEff := rfl
@[simp] theorem putS_sliceEff (s : State) (k : Nat) (v : Slot) : (putS s k v).sliceEff = s.sliceEff := rfl
@[simp] theorem putS_shutEff (s : State) (k : Nat) (v : Slot) : (putS s k v).shutEff = s.shutEff := rfl
@[simp] theorem putS_orderCtr (s : State) (k : Nat) (v : Slot) : (putS s k v).orderCtr = s.orderCtr := rfl
@[simp] theorem putS_axes (s : State) (k : Nat) (v : Slot) : (putS s k v).axes = s.axes := rfl
@[simp] theorem putS_history (s : State) (k : Nat) (v : Slot) : (putS s k v).history = s.history := rfl
@[simp] theorem putS_deepQ (s : State) (k : Nat) (v : Slot) : (putS s k v).deepQ = s.deepQ := rfl
@[simp] theorem putS_chk (s : State) (k : Nat) (v : Slot) : (putS s k v).chk = s.chk := rfl
@[simp] theorem putS_ecc (s : State) (k : Nat) (v : Slot) : (putS s k v).ecc = s.ecc := rfl
@[simp] theorem putS_brl (s : State) (k : Nat) (v : Slot) : (putS s k v).brl = s.brl := rfl
@[simp] theorem putS_chn (s : State) (k : Nat) (v : Slot) : (putS s k v).chn = s.chn := rfl
@[simp] theorem putS_smb (s : State) (k : Nat) (v : Slot) : (putS s k v).smb = s.smb := rfl
@[simp] theorem putS_shut (s : State) (k : Nat) (v : Slot) : (putS s k v).shut = s.shut := rfl
@[simp] theorem putS_links (s : State) (k : Nat) (v : Slot) : (putS s k v).links = s.links := rfl
@[simp] theorem putS_time (s : State) (k : Nat) (v : Slot) : (putS s k v).time = s.time := rfl
@[simp] theorem putS_pairs (s : State) (k : Nat) (v : Slot) : (putS s k v).pairs = s.pairs := rfl
@[simp] theorem putS_col (s : State) (k : Nat) (v : Slot) : (putS s k v).col = s.col := rfl
@[simp] theorem putS_esp (s : State) (k : Nat) (v : Slot) : (putS s k v).esp = s.esp := rfl

/-! ### putDom -/

@[simp] theorem putDom_pending (s : State) (d v : Nat) : (putDom s d v).pending = s.pending := rfl
@[simp] theorem putDom_out (s : State) (d v : Nat) : (putDom s d v).out = s.out := rfl
@[simp] theorem putDom_freeCtr (s : State) (d v : Nat) : (putDom s d v).freeCtr = s.freeCtr := rfl
@[simp] theorem putDom_gtc (s : State) (d v : Nat) : (putDom s d v).gtc = s.gtc := rfl
@[simp] theorem putDom_aon (s : State) (d v : Nat) : (putDom s d v).aon = s.aon := rfl
@[simp] theorem putDom_phase (s : State) (d v : Nat) : (putDom s d v).phase = s.phase := rfl
@[simp] theorem putDom_straps (s : State) (d v : Nat) : (putDom s d v).straps = s.straps := rfl
@[simp] theorem putDom_thm (s : State) (d v : Nat) : (putDom s d v).thm = s.thm := rfl
@[simp] theorem putDom_bist (s : State) (d v : Nat) : (putDom s d v).bist = s.bist := rfl
@[simp] theorem putDom_fuses (s : State) (d v : Nat) : (putDom s d v).fuses = s.fuses := rfl
@[simp] theorem putDom_trd (s : State) (d v : Nat) : (putDom s d v).trd = s.trd := rfl
@[simp] theorem putDom_queues (s : State) (d v : Nat) : (putDom s d v).queues = s.queues := rfl
@[simp] theorem putDom_progs (s : State) (d v : Nat) : (putDom s d v).progs = s.progs := rfl
@[simp] theorem putDom_sets (s : State) (d v : Nat) : (putDom s d v).sets = s.sets := rfl
@[simp] theorem putDom_err (s : State) (d v : Nat) : (putDom s d v).err = s.err := rfl
@[simp] theorem putDom_rcd (s : State) (d v : Nat) : (putDom s d v).rcd = s.rcd := rfl
@[simp] theorem putDom_rst (s : State) (d v : Nat) : (putDom s d v).rst = s.rst := rfl
@[simp] theorem putDom_ctxs (s : State) (d v : Nat) : (putDom s d v).ctxs = s.ctxs := rfl
@[simp] theorem putDom_slots (s : State) (d v : Nat) : (putDom s d v).slots = s.slots := rfl
@[simp] theorem putDom_mem (s : State) (d v : Nat) : (putDom s d v).mem = s.mem := rfl
@[simp] theorem putDom_pci (s : State) (d v : Nat) : (putDom s d v).pci = s.pci := rfl
@[simp] theorem putDom_groupEff (s : State) (d v : Nat) : (putDom s d v).groupEff = s.groupEff := rfl
@[simp] theorem putDom_sliceEff (s : State) (d v : Nat) : (putDom s d v).sliceEff = s.sliceEff := rfl
@[simp] theorem putDom_shutEff (s : State) (d v : Nat) : (putDom s d v).shutEff = s.shutEff := rfl
@[simp] theorem putDom_orderCtr (s : State) (d v : Nat) : (putDom s d v).orderCtr = s.orderCtr := rfl
@[simp] theorem putDom_axes (s : State) (d v : Nat) : (putDom s d v).axes = s.axes := rfl
@[simp] theorem putDom_history (s : State) (d v : Nat) : (putDom s d v).history = s.history := rfl
@[simp] theorem putDom_deepQ (s : State) (d v : Nat) : (putDom s d v).deepQ = s.deepQ := rfl
@[simp] theorem putDom_chk (s : State) (d v : Nat) : (putDom s d v).chk = s.chk := rfl
@[simp] theorem putDom_ecc (s : State) (d v : Nat) : (putDom s d v).ecc = s.ecc := rfl
@[simp] theorem putDom_brl (s : State) (d v : Nat) : (putDom s d v).brl = s.brl := rfl
@[simp] theorem putDom_chn (s : State) (d v : Nat) : (putDom s d v).chn = s.chn := rfl
@[simp] theorem putDom_smb (s : State) (d v : Nat) : (putDom s d v).smb = s.smb := rfl
@[simp] theorem putDom_shut (s : State) (d v : Nat) : (putDom s d v).shut = s.shut := rfl
@[simp] theorem putDom_links (s : State) (d v : Nat) : (putDom s d v).links = s.links := rfl
@[simp] theorem putDom_time (s : State) (d v : Nat) : (putDom s d v).time = s.time := rfl
@[simp] theorem putDom_pairs (s : State) (d v : Nat) : (putDom s d v).pairs = s.pairs := rfl
@[simp] theorem putDom_col (s : State) (d v : Nat) : (putDom s d v).col = s.col := rfl
@[simp] theorem putDom_esp (s : State) (d v : Nat) : (putDom s d v).esp = s.esp := rfl

/-! ### putF -/

@[simp] theorem putF_pending (s : State) (f : Nat) (v : PciFn) : (putF s f v).pending = s.pending := rfl
@[simp] theorem putF_out (s : State) (f : Nat) (v : PciFn) : (putF s f v).out = s.out := rfl
@[simp] theorem putF_freeCtr (s : State) (f : Nat) (v : PciFn) : (putF s f v).freeCtr = s.freeCtr := rfl
@[simp] theorem putF_gtc (s : State) (f : Nat) (v : PciFn) : (putF s f v).gtc = s.gtc := rfl
@[simp] theorem putF_aon (s : State) (f : Nat) (v : PciFn) : (putF s f v).aon = s.aon := rfl
@[simp] theorem putF_phase (s : State) (f : Nat) (v : PciFn) : (putF s f v).phase = s.phase := rfl
@[simp] theorem putF_straps (s : State) (f : Nat) (v : PciFn) : (putF s f v).straps = s.straps := rfl
@[simp] theorem putF_pwr (s : State) (f : Nat) (v : PciFn) : (putF s f v).pwr = s.pwr := rfl
@[simp] theorem putF_thm (s : State) (f : Nat) (v : PciFn) : (putF s f v).thm = s.thm := rfl
@[simp] theorem putF_bist (s : State) (f : Nat) (v : PciFn) : (putF s f v).bist = s.bist := rfl
@[simp] theorem putF_fuses (s : State) (f : Nat) (v : PciFn) : (putF s f v).fuses = s.fuses := rfl
@[simp] theorem putF_trd (s : State) (f : Nat) (v : PciFn) : (putF s f v).trd = s.trd := rfl
@[simp] theorem putF_queues (s : State) (f : Nat) (v : PciFn) : (putF s f v).queues = s.queues := rfl
@[simp] theorem putF_progs (s : State) (f : Nat) (v : PciFn) : (putF s f v).progs = s.progs := rfl
@[simp] theorem putF_sets (s : State) (f : Nat) (v : PciFn) : (putF s f v).sets = s.sets := rfl
@[simp] theorem putF_err (s : State) (f : Nat) (v : PciFn) : (putF s f v).err = s.err := rfl
@[simp] theorem putF_rcd (s : State) (f : Nat) (v : PciFn) : (putF s f v).rcd = s.rcd := rfl
@[simp] theorem putF_rst (s : State) (f : Nat) (v : PciFn) : (putF s f v).rst = s.rst := rfl
@[simp] theorem putF_ctxs (s : State) (f : Nat) (v : PciFn) : (putF s f v).ctxs = s.ctxs := rfl
@[simp] theorem putF_slots (s : State) (f : Nat) (v : PciFn) : (putF s f v).slots = s.slots := rfl
@[simp] theorem putF_mem (s : State) (f : Nat) (v : PciFn) : (putF s f v).mem = s.mem := rfl
@[simp] theorem putF_groupEff (s : State) (f : Nat) (v : PciFn) : (putF s f v).groupEff = s.groupEff := rfl
@[simp] theorem putF_sliceEff (s : State) (f : Nat) (v : PciFn) : (putF s f v).sliceEff = s.sliceEff := rfl
@[simp] theorem putF_shutEff (s : State) (f : Nat) (v : PciFn) : (putF s f v).shutEff = s.shutEff := rfl
@[simp] theorem putF_orderCtr (s : State) (f : Nat) (v : PciFn) : (putF s f v).orderCtr = s.orderCtr := rfl
@[simp] theorem putF_axes (s : State) (f : Nat) (v : PciFn) : (putF s f v).axes = s.axes := rfl
@[simp] theorem putF_history (s : State) (f : Nat) (v : PciFn) : (putF s f v).history = s.history := rfl
@[simp] theorem putF_deepQ (s : State) (f : Nat) (v : PciFn) : (putF s f v).deepQ = s.deepQ := rfl
@[simp] theorem putF_chk (s : State) (f : Nat) (v : PciFn) : (putF s f v).chk = s.chk := rfl
@[simp] theorem putF_ecc (s : State) (f : Nat) (v : PciFn) : (putF s f v).ecc = s.ecc := rfl
@[simp] theorem putF_brl (s : State) (f : Nat) (v : PciFn) : (putF s f v).brl = s.brl := rfl
@[simp] theorem putF_chn (s : State) (f : Nat) (v : PciFn) : (putF s f v).chn = s.chn := rfl
@[simp] theorem putF_smb (s : State) (f : Nat) (v : PciFn) : (putF s f v).smb = s.smb := rfl
@[simp] theorem putF_shut (s : State) (f : Nat) (v : PciFn) : (putF s f v).shut = s.shut := rfl
@[simp] theorem putF_links (s : State) (f : Nat) (v : PciFn) : (putF s f v).links = s.links := rfl
@[simp] theorem putF_time (s : State) (f : Nat) (v : PciFn) : (putF s f v).time = s.time := rfl
@[simp] theorem putF_pairs (s : State) (f : Nat) (v : PciFn) : (putF s f v).pairs = s.pairs := rfl
@[simp] theorem putF_col (s : State) (f : Nat) (v : PciFn) : (putF s f v).col = s.col := rfl
@[simp] theorem putF_esp (s : State) (f : Nat) (v : PciFn) : (putF s f v).esp = s.esp := rfl

/-! ### memPut -/

@[simp] theorem memPut_pending (s : State) (a : Nat) (b : Byte) : (memPut s a b).pending = s.pending := rfl
@[simp] theorem memPut_out (s : State) (a : Nat) (b : Byte) : (memPut s a b).out = s.out := rfl
@[simp] theorem memPut_freeCtr (s : State) (a : Nat) (b : Byte) : (memPut s a b).freeCtr = s.freeCtr := rfl
@[simp] theorem memPut_gtc (s : State) (a : Nat) (b : Byte) : (memPut s a b).gtc = s.gtc := rfl
@[simp] theorem memPut_aon (s : State) (a : Nat) (b : Byte) : (memPut s a b).aon = s.aon := rfl
@[simp] theorem memPut_phase (s : State) (a : Nat) (b : Byte) : (memPut s a b).phase = s.phase := rfl
@[simp] theorem memPut_straps (s : State) (a : Nat) (b : Byte) : (memPut s a b).straps = s.straps := rfl
@[simp] theorem memPut_pwr (s : State) (a : Nat) (b : Byte) : (memPut s a b).pwr = s.pwr := rfl
@[simp] theorem memPut_thm (s : State) (a : Nat) (b : Byte) : (memPut s a b).thm = s.thm := rfl
@[simp] theorem memPut_bist (s : State) (a : Nat) (b : Byte) : (memPut s a b).bist = s.bist := rfl
@[simp] theorem memPut_fuses (s : State) (a : Nat) (b : Byte) : (memPut s a b).fuses = s.fuses := rfl
@[simp] theorem memPut_trd (s : State) (a : Nat) (b : Byte) : (memPut s a b).trd = s.trd := rfl
@[simp] theorem memPut_queues (s : State) (a : Nat) (b : Byte) : (memPut s a b).queues = s.queues := rfl
@[simp] theorem memPut_progs (s : State) (a : Nat) (b : Byte) : (memPut s a b).progs = s.progs := rfl
@[simp] theorem memPut_sets (s : State) (a : Nat) (b : Byte) : (memPut s a b).sets = s.sets := rfl
@[simp] theorem memPut_err (s : State) (a : Nat) (b : Byte) : (memPut s a b).err = s.err := rfl
@[simp] theorem memPut_rcd (s : State) (a : Nat) (b : Byte) : (memPut s a b).rcd = s.rcd := rfl
@[simp] theorem memPut_rst (s : State) (a : Nat) (b : Byte) : (memPut s a b).rst = s.rst := rfl
@[simp] theorem memPut_ctxs (s : State) (a : Nat) (b : Byte) : (memPut s a b).ctxs = s.ctxs := rfl
@[simp] theorem memPut_slots (s : State) (a : Nat) (b : Byte) : (memPut s a b).slots = s.slots := rfl
@[simp] theorem memPut_pci (s : State) (a : Nat) (b : Byte) : (memPut s a b).pci = s.pci := rfl
@[simp] theorem memPut_groupEff (s : State) (a : Nat) (b : Byte) : (memPut s a b).groupEff = s.groupEff := rfl
@[simp] theorem memPut_sliceEff (s : State) (a : Nat) (b : Byte) : (memPut s a b).sliceEff = s.sliceEff := rfl
@[simp] theorem memPut_shutEff (s : State) (a : Nat) (b : Byte) : (memPut s a b).shutEff = s.shutEff := rfl
@[simp] theorem memPut_orderCtr (s : State) (a : Nat) (b : Byte) : (memPut s a b).orderCtr = s.orderCtr := rfl
@[simp] theorem memPut_axes (s : State) (a : Nat) (b : Byte) : (memPut s a b).axes = s.axes := rfl
@[simp] theorem memPut_history (s : State) (a : Nat) (b : Byte) : (memPut s a b).history = s.history := rfl
@[simp] theorem memPut_deepQ (s : State) (a : Nat) (b : Byte) : (memPut s a b).deepQ = s.deepQ := rfl
@[simp] theorem memPut_chk (s : State) (a : Nat) (b : Byte) : (memPut s a b).chk = s.chk := rfl
@[simp] theorem memPut_ecc (s : State) (a : Nat) (b : Byte) : (memPut s a b).ecc = s.ecc := rfl
@[simp] theorem memPut_brl (s : State) (a : Nat) (b : Byte) : (memPut s a b).brl = s.brl := rfl
@[simp] theorem memPut_chn (s : State) (a : Nat) (b : Byte) : (memPut s a b).chn = s.chn := rfl
@[simp] theorem memPut_smb (s : State) (a : Nat) (b : Byte) : (memPut s a b).smb = s.smb := rfl
@[simp] theorem memPut_shut (s : State) (a : Nat) (b : Byte) : (memPut s a b).shut = s.shut := rfl
@[simp] theorem memPut_links (s : State) (a : Nat) (b : Byte) : (memPut s a b).links = s.links := rfl
@[simp] theorem memPut_time (s : State) (a : Nat) (b : Byte) : (memPut s a b).time = s.time := rfl
@[simp] theorem memPut_pairs (s : State) (a : Nat) (b : Byte) : (memPut s a b).pairs = s.pairs := rfl
@[simp] theorem memPut_col (s : State) (a : Nat) (b : Byte) : (memPut s a b).col = s.col := rfl
@[simp] theorem memPut_esp (s : State) (a : Nat) (b : Byte) : (memPut s a b).esp = s.esp := rfl

/-! ### setPoison -/

@[simp] theorem setPoison_pending (s : State) (a : Nat) : (setPoison s a).pending = s.pending := rfl
@[simp] theorem setPoison_out (s : State) (a : Nat) : (setPoison s a).out = s.out := rfl
@[simp] theorem setPoison_freeCtr (s : State) (a : Nat) : (setPoison s a).freeCtr = s.freeCtr := rfl
@[simp] theorem setPoison_gtc (s : State) (a : Nat) : (setPoison s a).gtc = s.gtc := rfl
@[simp] theorem setPoison_aon (s : State) (a : Nat) : (setPoison s a).aon = s.aon := rfl
@[simp] theorem setPoison_phase (s : State) (a : Nat) : (setPoison s a).phase = s.phase := rfl
@[simp] theorem setPoison_straps (s : State) (a : Nat) : (setPoison s a).straps = s.straps := rfl
@[simp] theorem setPoison_pwr (s : State) (a : Nat) : (setPoison s a).pwr = s.pwr := rfl
@[simp] theorem setPoison_thm (s : State) (a : Nat) : (setPoison s a).thm = s.thm := rfl
@[simp] theorem setPoison_bist (s : State) (a : Nat) : (setPoison s a).bist = s.bist := rfl
@[simp] theorem setPoison_fuses (s : State) (a : Nat) : (setPoison s a).fuses = s.fuses := rfl
@[simp] theorem setPoison_trd (s : State) (a : Nat) : (setPoison s a).trd = s.trd := rfl
@[simp] theorem setPoison_queues (s : State) (a : Nat) : (setPoison s a).queues = s.queues := rfl
@[simp] theorem setPoison_progs (s : State) (a : Nat) : (setPoison s a).progs = s.progs := rfl
@[simp] theorem setPoison_sets (s : State) (a : Nat) : (setPoison s a).sets = s.sets := rfl
@[simp] theorem setPoison_err (s : State) (a : Nat) : (setPoison s a).err = s.err := rfl
@[simp] theorem setPoison_rcd (s : State) (a : Nat) : (setPoison s a).rcd = s.rcd := rfl
@[simp] theorem setPoison_rst (s : State) (a : Nat) : (setPoison s a).rst = s.rst := rfl
@[simp] theorem setPoison_ctxs (s : State) (a : Nat) : (setPoison s a).ctxs = s.ctxs := rfl
@[simp] theorem setPoison_slots (s : State) (a : Nat) : (setPoison s a).slots = s.slots := rfl
@[simp] theorem setPoison_pci (s : State) (a : Nat) : (setPoison s a).pci = s.pci := rfl
@[simp] theorem setPoison_groupEff (s : State) (a : Nat) : (setPoison s a).groupEff = s.groupEff := rfl
@[simp] theorem setPoison_sliceEff (s : State) (a : Nat) : (setPoison s a).sliceEff = s.sliceEff := rfl
@[simp] theorem setPoison_shutEff (s : State) (a : Nat) : (setPoison s a).shutEff = s.shutEff := rfl
@[simp] theorem setPoison_orderCtr (s : State) (a : Nat) : (setPoison s a).orderCtr = s.orderCtr := rfl
@[simp] theorem setPoison_axes (s : State) (a : Nat) : (setPoison s a).axes = s.axes := rfl
@[simp] theorem setPoison_history (s : State) (a : Nat) : (setPoison s a).history = s.history := rfl
@[simp] theorem setPoison_deepQ (s : State) (a : Nat) : (setPoison s a).deepQ = s.deepQ := rfl
@[simp] theorem setPoison_chk (s : State) (a : Nat) : (setPoison s a).chk = s.chk := rfl
@[simp] theorem setPoison_ecc (s : State) (a : Nat) : (setPoison s a).ecc = s.ecc := rfl
@[simp] theorem setPoison_brl (s : State) (a : Nat) : (setPoison s a).brl = s.brl := rfl
@[simp] theorem setPoison_chn (s : State) (a : Nat) : (setPoison s a).chn = s.chn := rfl
@[simp] theorem setPoison_smb (s : State) (a : Nat) : (setPoison s a).smb = s.smb := rfl
@[simp] theorem setPoison_shut (s : State) (a : Nat) : (setPoison s a).shut = s.shut := rfl
@[simp] theorem setPoison_links (s : State) (a : Nat) : (setPoison s a).links = s.links := rfl
@[simp] theorem setPoison_time (s : State) (a : Nat) : (setPoison s a).time = s.time := rfl
@[simp] theorem setPoison_pairs (s : State) (a : Nat) : (setPoison s a).pairs = s.pairs := rfl
@[simp] theorem setPoison_col (s : State) (a : Nat) : (setPoison s a).col = s.col := rfl
@[simp] theorem setPoison_esp (s : State) (a : Nat) : (setPoison s a).esp = s.esp := rfl

/-! ### clearPoison -/

@[simp] theorem clearPoison_pending (s : State) (a : Nat) : (clearPoison s a).pending = s.pending := rfl
@[simp] theorem clearPoison_out (s : State) (a : Nat) : (clearPoison s a).out = s.out := rfl
@[simp] theorem clearPoison_freeCtr (s : State) (a : Nat) : (clearPoison s a).freeCtr = s.freeCtr := rfl
@[simp] theorem clearPoison_gtc (s : State) (a : Nat) : (clearPoison s a).gtc = s.gtc := rfl
@[simp] theorem clearPoison_aon (s : State) (a : Nat) : (clearPoison s a).aon = s.aon := rfl
@[simp] theorem clearPoison_phase (s : State) (a : Nat) : (clearPoison s a).phase = s.phase := rfl
@[simp] theorem clearPoison_straps (s : State) (a : Nat) : (clearPoison s a).straps = s.straps := rfl
@[simp] theorem clearPoison_pwr (s : State) (a : Nat) : (clearPoison s a).pwr = s.pwr := rfl
@[simp] theorem clearPoison_thm (s : State) (a : Nat) : (clearPoison s a).thm = s.thm := rfl
@[simp] theorem clearPoison_bist (s : State) (a : Nat) : (clearPoison s a).bist = s.bist := rfl
@[simp] theorem clearPoison_fuses (s : State) (a : Nat) : (clearPoison s a).fuses = s.fuses := rfl
@[simp] theorem clearPoison_trd (s : State) (a : Nat) : (clearPoison s a).trd = s.trd := rfl
@[simp] theorem clearPoison_queues (s : State) (a : Nat) : (clearPoison s a).queues = s.queues := rfl
@[simp] theorem clearPoison_progs (s : State) (a : Nat) : (clearPoison s a).progs = s.progs := rfl
@[simp] theorem clearPoison_sets (s : State) (a : Nat) : (clearPoison s a).sets = s.sets := rfl
@[simp] theorem clearPoison_err (s : State) (a : Nat) : (clearPoison s a).err = s.err := rfl
@[simp] theorem clearPoison_rcd (s : State) (a : Nat) : (clearPoison s a).rcd = s.rcd := rfl
@[simp] theorem clearPoison_rst (s : State) (a : Nat) : (clearPoison s a).rst = s.rst := rfl
@[simp] theorem clearPoison_ctxs (s : State) (a : Nat) : (clearPoison s a).ctxs = s.ctxs := rfl
@[simp] theorem clearPoison_slots (s : State) (a : Nat) : (clearPoison s a).slots = s.slots := rfl
@[simp] theorem clearPoison_pci (s : State) (a : Nat) : (clearPoison s a).pci = s.pci := rfl
@[simp] theorem clearPoison_groupEff (s : State) (a : Nat) : (clearPoison s a).groupEff = s.groupEff := rfl
@[simp] theorem clearPoison_sliceEff (s : State) (a : Nat) : (clearPoison s a).sliceEff = s.sliceEff := rfl
@[simp] theorem clearPoison_shutEff (s : State) (a : Nat) : (clearPoison s a).shutEff = s.shutEff := rfl
@[simp] theorem clearPoison_orderCtr (s : State) (a : Nat) : (clearPoison s a).orderCtr = s.orderCtr := rfl
@[simp] theorem clearPoison_axes (s : State) (a : Nat) : (clearPoison s a).axes = s.axes := rfl
@[simp] theorem clearPoison_history (s : State) (a : Nat) : (clearPoison s a).history = s.history := rfl
@[simp] theorem clearPoison_deepQ (s : State) (a : Nat) : (clearPoison s a).deepQ = s.deepQ := rfl
@[simp] theorem clearPoison_chk (s : State) (a : Nat) : (clearPoison s a).chk = s.chk := rfl
@[simp] theorem clearPoison_ecc (s : State) (a : Nat) : (clearPoison s a).ecc = s.ecc := rfl
@[simp] theorem clearPoison_brl (s : State) (a : Nat) : (clearPoison s a).brl = s.brl := rfl
@[simp] theorem clearPoison_chn (s : State) (a : Nat) : (clearPoison s a).chn = s.chn := rfl
@[simp] theorem clearPoison_smb (s : State) (a : Nat) : (clearPoison s a).smb = s.smb := rfl
@[simp] theorem clearPoison_shut (s : State) (a : Nat) : (clearPoison s a).shut = s.shut := rfl
@[simp] theorem clearPoison_links (s : State) (a : Nat) : (clearPoison s a).links = s.links := rfl
@[simp] theorem clearPoison_time (s : State) (a : Nat) : (clearPoison s a).time = s.time := rfl
@[simp] theorem clearPoison_pairs (s : State) (a : Nat) : (clearPoison s a).pairs = s.pairs := rfl
@[simp] theorem clearPoison_col (s : State) (a : Nat) : (clearPoison s a).col = s.col := rfl
@[simp] theorem clearPoison_esp (s : State) (a : Nat) : (clearPoison s a).esp = s.esp := rfl

/-! ### memWipe -/

@[simp] theorem memWipe_pending (s : State) (lo hi : Nat) : (memWipe s lo hi).pending = s.pending := rfl
@[simp] theorem memWipe_out (s : State) (lo hi : Nat) : (memWipe s lo hi).out = s.out := rfl
@[simp] theorem memWipe_freeCtr (s : State) (lo hi : Nat) : (memWipe s lo hi).freeCtr = s.freeCtr := rfl
@[simp] theorem memWipe_gtc (s : State) (lo hi : Nat) : (memWipe s lo hi).gtc = s.gtc := rfl
@[simp] theorem memWipe_aon (s : State) (lo hi : Nat) : (memWipe s lo hi).aon = s.aon := rfl
@[simp] theorem memWipe_phase (s : State) (lo hi : Nat) : (memWipe s lo hi).phase = s.phase := rfl
@[simp] theorem memWipe_straps (s : State) (lo hi : Nat) : (memWipe s lo hi).straps = s.straps := rfl
@[simp] theorem memWipe_pwr (s : State) (lo hi : Nat) : (memWipe s lo hi).pwr = s.pwr := rfl
@[simp] theorem memWipe_thm (s : State) (lo hi : Nat) : (memWipe s lo hi).thm = s.thm := rfl
@[simp] theorem memWipe_bist (s : State) (lo hi : Nat) : (memWipe s lo hi).bist = s.bist := rfl
@[simp] theorem memWipe_fuses (s : State) (lo hi : Nat) : (memWipe s lo hi).fuses = s.fuses := rfl
@[simp] theorem memWipe_trd (s : State) (lo hi : Nat) : (memWipe s lo hi).trd = s.trd := rfl
@[simp] theorem memWipe_queues (s : State) (lo hi : Nat) : (memWipe s lo hi).queues = s.queues := rfl
@[simp] theorem memWipe_progs (s : State) (lo hi : Nat) : (memWipe s lo hi).progs = s.progs := rfl
@[simp] theorem memWipe_sets (s : State) (lo hi : Nat) : (memWipe s lo hi).sets = s.sets := rfl
@[simp] theorem memWipe_err (s : State) (lo hi : Nat) : (memWipe s lo hi).err = s.err := rfl
@[simp] theorem memWipe_rcd (s : State) (lo hi : Nat) : (memWipe s lo hi).rcd = s.rcd := rfl
@[simp] theorem memWipe_rst (s : State) (lo hi : Nat) : (memWipe s lo hi).rst = s.rst := rfl
@[simp] theorem memWipe_ctxs (s : State) (lo hi : Nat) : (memWipe s lo hi).ctxs = s.ctxs := rfl
@[simp] theorem memWipe_slots (s : State) (lo hi : Nat) : (memWipe s lo hi).slots = s.slots := rfl
@[simp] theorem memWipe_pci (s : State) (lo hi : Nat) : (memWipe s lo hi).pci = s.pci := rfl
@[simp] theorem memWipe_groupEff (s : State) (lo hi : Nat) : (memWipe s lo hi).groupEff = s.groupEff := rfl
@[simp] theorem memWipe_sliceEff (s : State) (lo hi : Nat) : (memWipe s lo hi).sliceEff = s.sliceEff := rfl
@[simp] theorem memWipe_shutEff (s : State) (lo hi : Nat) : (memWipe s lo hi).shutEff = s.shutEff := rfl
@[simp] theorem memWipe_orderCtr (s : State) (lo hi : Nat) : (memWipe s lo hi).orderCtr = s.orderCtr := rfl
@[simp] theorem memWipe_axes (s : State) (lo hi : Nat) : (memWipe s lo hi).axes = s.axes := rfl
@[simp] theorem memWipe_history (s : State) (lo hi : Nat) : (memWipe s lo hi).history = s.history := rfl
@[simp] theorem memWipe_deepQ (s : State) (lo hi : Nat) : (memWipe s lo hi).deepQ = s.deepQ := rfl
@[simp] theorem memWipe_chk (s : State) (lo hi : Nat) : (memWipe s lo hi).chk = s.chk := rfl
@[simp] theorem memWipe_ecc (s : State) (lo hi : Nat) : (memWipe s lo hi).ecc = s.ecc := rfl
@[simp] theorem memWipe_brl (s : State) (lo hi : Nat) : (memWipe s lo hi).brl = s.brl := rfl
@[simp] theorem memWipe_chn (s : State) (lo hi : Nat) : (memWipe s lo hi).chn = s.chn := rfl
@[simp] theorem memWipe_smb (s : State) (lo hi : Nat) : (memWipe s lo hi).smb = s.smb := rfl
@[simp] theorem memWipe_shut (s : State) (lo hi : Nat) : (memWipe s lo hi).shut = s.shut := rfl
@[simp] theorem memWipe_links (s : State) (lo hi : Nat) : (memWipe s lo hi).links = s.links := rfl
@[simp] theorem memWipe_time (s : State) (lo hi : Nat) : (memWipe s lo hi).time = s.time := rfl
@[simp] theorem memWipe_pairs (s : State) (lo hi : Nat) : (memWipe s lo hi).pairs = s.pairs := rfl
@[simp] theorem memWipe_col (s : State) (lo hi : Nat) : (memWipe s lo hi).col = s.col := rfl
@[simp] theorem memWipe_esp (s : State) (lo hi : Nat) : (memWipe s lo hi).esp = s.esp := rfl

/-! ### sendHost -/

@[simp] theorem sendHost_pending (s : State) (f a : Nat) (l : List Byte) (cls : Nat) (ep : Bool) : (sendHost s f a l cls ep).pending = s.pending := rfl
@[simp] theorem sendHost_freeCtr (s : State) (f a : Nat) (l : List Byte) (cls : Nat) (ep : Bool) : (sendHost s f a l cls ep).freeCtr = s.freeCtr := rfl
@[simp] theorem sendHost_gtc (s : State) (f a : Nat) (l : List Byte) (cls : Nat) (ep : Bool) : (sendHost s f a l cls ep).gtc = s.gtc := rfl
@[simp] theorem sendHost_aon (s : State) (f a : Nat) (l : List Byte) (cls : Nat) (ep : Bool) : (sendHost s f a l cls ep).aon = s.aon := rfl
@[simp] theorem sendHost_phase (s : State) (f a : Nat) (l : List Byte) (cls : Nat) (ep : Bool) : (sendHost s f a l cls ep).phase = s.phase := rfl
@[simp] theorem sendHost_straps (s : State) (f a : Nat) (l : List Byte) (cls : Nat) (ep : Bool) : (sendHost s f a l cls ep).straps = s.straps := rfl
@[simp] theorem sendHost_pwr (s : State) (f a : Nat) (l : List Byte) (cls : Nat) (ep : Bool) : (sendHost s f a l cls ep).pwr = s.pwr := rfl
@[simp] theorem sendHost_thm (s : State) (f a : Nat) (l : List Byte) (cls : Nat) (ep : Bool) : (sendHost s f a l cls ep).thm = s.thm := rfl
@[simp] theorem sendHost_bist (s : State) (f a : Nat) (l : List Byte) (cls : Nat) (ep : Bool) : (sendHost s f a l cls ep).bist = s.bist := rfl
@[simp] theorem sendHost_fuses (s : State) (f a : Nat) (l : List Byte) (cls : Nat) (ep : Bool) : (sendHost s f a l cls ep).fuses = s.fuses := rfl
@[simp] theorem sendHost_trd (s : State) (f a : Nat) (l : List Byte) (cls : Nat) (ep : Bool) : (sendHost s f a l cls ep).trd = s.trd := rfl
@[simp] theorem sendHost_queues (s : State) (f a : Nat) (l : List Byte) (cls : Nat) (ep : Bool) : (sendHost s f a l cls ep).queues = s.queues := rfl
@[simp] theorem sendHost_progs (s : State) (f a : Nat) (l : List Byte) (cls : Nat) (ep : Bool) : (sendHost s f a l cls ep).progs = s.progs := rfl
@[simp] theorem sendHost_sets (s : State) (f a : Nat) (l : List Byte) (cls : Nat) (ep : Bool) : (sendHost s f a l cls ep).sets = s.sets := rfl
@[simp] theorem sendHost_err (s : State) (f a : Nat) (l : List Byte) (cls : Nat) (ep : Bool) : (sendHost s f a l cls ep).err = s.err := rfl
@[simp] theorem sendHost_rcd (s : State) (f a : Nat) (l : List Byte) (cls : Nat) (ep : Bool) : (sendHost s f a l cls ep).rcd = s.rcd := rfl
@[simp] theorem sendHost_rst (s : State) (f a : Nat) (l : List Byte) (cls : Nat) (ep : Bool) : (sendHost s f a l cls ep).rst = s.rst := rfl
@[simp] theorem sendHost_ctxs (s : State) (f a : Nat) (l : List Byte) (cls : Nat) (ep : Bool) : (sendHost s f a l cls ep).ctxs = s.ctxs := rfl
@[simp] theorem sendHost_slots (s : State) (f a : Nat) (l : List Byte) (cls : Nat) (ep : Bool) : (sendHost s f a l cls ep).slots = s.slots := rfl
@[simp] theorem sendHost_mem (s : State) (f a : Nat) (l : List Byte) (cls : Nat) (ep : Bool) : (sendHost s f a l cls ep).mem = s.mem := rfl
@[simp] theorem sendHost_pci (s : State) (f a : Nat) (l : List Byte) (cls : Nat) (ep : Bool) : (sendHost s f a l cls ep).pci = s.pci := rfl
@[simp] theorem sendHost_groupEff (s : State) (f a : Nat) (l : List Byte) (cls : Nat) (ep : Bool) : (sendHost s f a l cls ep).groupEff = s.groupEff := rfl
@[simp] theorem sendHost_sliceEff (s : State) (f a : Nat) (l : List Byte) (cls : Nat) (ep : Bool) : (sendHost s f a l cls ep).sliceEff = s.sliceEff := rfl
@[simp] theorem sendHost_shutEff (s : State) (f a : Nat) (l : List Byte) (cls : Nat) (ep : Bool) : (sendHost s f a l cls ep).shutEff = s.shutEff := rfl
@[simp] theorem sendHost_orderCtr (s : State) (f a : Nat) (l : List Byte) (cls : Nat) (ep : Bool) : (sendHost s f a l cls ep).orderCtr = s.orderCtr := rfl
@[simp] theorem sendHost_axes (s : State) (f a : Nat) (l : List Byte) (cls : Nat) (ep : Bool) : (sendHost s f a l cls ep).axes = s.axes := rfl
@[simp] theorem sendHost_history (s : State) (f a : Nat) (l : List Byte) (cls : Nat) (ep : Bool) : (sendHost s f a l cls ep).history = s.history := rfl
@[simp] theorem sendHost_deepQ (s : State) (f a : Nat) (l : List Byte) (cls : Nat) (ep : Bool) : (sendHost s f a l cls ep).deepQ = s.deepQ := rfl
@[simp] theorem sendHost_chk (s : State) (f a : Nat) (l : List Byte) (cls : Nat) (ep : Bool) : (sendHost s f a l cls ep).chk = s.chk := rfl
@[simp] theorem sendHost_ecc (s : State) (f a : Nat) (l : List Byte) (cls : Nat) (ep : Bool) : (sendHost s f a l cls ep).ecc = s.ecc := rfl
@[simp] theorem sendHost_brl (s : State) (f a : Nat) (l : List Byte) (cls : Nat) (ep : Bool) : (sendHost s f a l cls ep).brl = s.brl := rfl
@[simp] theorem sendHost_chn (s : State) (f a : Nat) (l : List Byte) (cls : Nat) (ep : Bool) : (sendHost s f a l cls ep).chn = s.chn := rfl
@[simp] theorem sendHost_smb (s : State) (f a : Nat) (l : List Byte) (cls : Nat) (ep : Bool) : (sendHost s f a l cls ep).smb = s.smb := rfl
@[simp] theorem sendHost_shut (s : State) (f a : Nat) (l : List Byte) (cls : Nat) (ep : Bool) : (sendHost s f a l cls ep).shut = s.shut := rfl
@[simp] theorem sendHost_links (s : State) (f a : Nat) (l : List Byte) (cls : Nat) (ep : Bool) : (sendHost s f a l cls ep).links = s.links := rfl
@[simp] theorem sendHost_time (s : State) (f a : Nat) (l : List Byte) (cls : Nat) (ep : Bool) : (sendHost s f a l cls ep).time = s.time := rfl
@[simp] theorem sendHost_pairs (s : State) (f a : Nat) (l : List Byte) (cls : Nat) (ep : Bool) : (sendHost s f a l cls ep).pairs = s.pairs := rfl
@[simp] theorem sendHost_col (s : State) (f a : Nat) (l : List Byte) (cls : Nat) (ep : Bool) : (sendHost s f a l cls ep).col = s.col := rfl
@[simp] theorem sendHost_esp (s : State) (f a : Nat) (l : List Byte) (cls : Nat) (ep : Bool) : (sendHost s f a l cls ep).esp = s.esp := rfl

/-! ### updL -/

@[simp] theorem updL_pending (s : State) (p : Nat) (f : LinkPort → LinkPort) : (updL s p f).pending = s.pending := rfl
@[simp] theorem updL_out (s : State) (p : Nat) (f : LinkPort → LinkPort) : (updL s p f).out = s.out := rfl
@[simp] theorem updL_freeCtr (s : State) (p : Nat) (f : LinkPort → LinkPort) : (updL s p f).freeCtr = s.freeCtr := rfl
@[simp] theorem updL_gtc (s : State) (p : Nat) (f : LinkPort → LinkPort) : (updL s p f).gtc = s.gtc := rfl
@[simp] theorem updL_aon (s : State) (p : Nat) (f : LinkPort → LinkPort) : (updL s p f).aon = s.aon := rfl
@[simp] theorem updL_phase (s : State) (p : Nat) (f : LinkPort → LinkPort) : (updL s p f).phase = s.phase := rfl
@[simp] theorem updL_straps (s : State) (p : Nat) (f : LinkPort → LinkPort) : (updL s p f).straps = s.straps := rfl
@[simp] theorem updL_pwr (s : State) (p : Nat) (f : LinkPort → LinkPort) : (updL s p f).pwr = s.pwr := rfl
@[simp] theorem updL_thm (s : State) (p : Nat) (f : LinkPort → LinkPort) : (updL s p f).thm = s.thm := rfl
@[simp] theorem updL_bist (s : State) (p : Nat) (f : LinkPort → LinkPort) : (updL s p f).bist = s.bist := rfl
@[simp] theorem updL_fuses (s : State) (p : Nat) (f : LinkPort → LinkPort) : (updL s p f).fuses = s.fuses := rfl
@[simp] theorem updL_trd (s : State) (p : Nat) (f : LinkPort → LinkPort) : (updL s p f).trd = s.trd := rfl
@[simp] theorem updL_queues (s : State) (p : Nat) (f : LinkPort → LinkPort) : (updL s p f).queues = s.queues := rfl
@[simp] theorem updL_progs (s : State) (p : Nat) (f : LinkPort → LinkPort) : (updL s p f).progs = s.progs := rfl
@[simp] theorem updL_sets (s : State) (p : Nat) (f : LinkPort → LinkPort) : (updL s p f).sets = s.sets := rfl
@[simp] theorem updL_err (s : State) (p : Nat) (f : LinkPort → LinkPort) : (updL s p f).err = s.err := rfl
@[simp] theorem updL_rcd (s : State) (p : Nat) (f : LinkPort → LinkPort) : (updL s p f).rcd = s.rcd := rfl
@[simp] theorem updL_rst (s : State) (p : Nat) (f : LinkPort → LinkPort) : (updL s p f).rst = s.rst := rfl
@[simp] theorem updL_ctxs (s : State) (p : Nat) (f : LinkPort → LinkPort) : (updL s p f).ctxs = s.ctxs := rfl
@[simp] theorem updL_slots (s : State) (p : Nat) (f : LinkPort → LinkPort) : (updL s p f).slots = s.slots := rfl
@[simp] theorem updL_mem (s : State) (p : Nat) (f : LinkPort → LinkPort) : (updL s p f).mem = s.mem := rfl
@[simp] theorem updL_pci (s : State) (p : Nat) (f : LinkPort → LinkPort) : (updL s p f).pci = s.pci := rfl
@[simp] theorem updL_groupEff (s : State) (p : Nat) (f : LinkPort → LinkPort) : (updL s p f).groupEff = s.groupEff := rfl
@[simp] theorem updL_sliceEff (s : State) (p : Nat) (f : LinkPort → LinkPort) : (updL s p f).sliceEff = s.sliceEff := rfl
@[simp] theorem updL_shutEff (s : State) (p : Nat) (f : LinkPort → LinkPort) : (updL s p f).shutEff = s.shutEff := rfl
@[simp] theorem updL_orderCtr (s : State) (p : Nat) (f : LinkPort → LinkPort) : (updL s p f).orderCtr = s.orderCtr := rfl
@[simp] theorem updL_axes (s : State) (p : Nat) (f : LinkPort → LinkPort) : (updL s p f).axes = s.axes := rfl
@[simp] theorem updL_history (s : State) (p : Nat) (f : LinkPort → LinkPort) : (updL s p f).history = s.history := rfl
@[simp] theorem updL_deepQ (s : State) (p : Nat) (f : LinkPort → LinkPort) : (updL s p f).deepQ = s.deepQ := rfl
@[simp] theorem updL_chk (s : State) (p : Nat) (f : LinkPort → LinkPort) : (updL s p f).chk = s.chk := rfl
@[simp] theorem updL_ecc (s : State) (p : Nat) (f : LinkPort → LinkPort) : (updL s p f).ecc = s.ecc := rfl
@[simp] theorem updL_brl (s : State) (p : Nat) (f : LinkPort → LinkPort) : (updL s p f).brl = s.brl := rfl
@[simp] theorem updL_chn (s : State) (p : Nat) (f : LinkPort → LinkPort) : (updL s p f).chn = s.chn := rfl
@[simp] theorem updL_smb (s : State) (p : Nat) (f : LinkPort → LinkPort) : (updL s p f).smb = s.smb := rfl
@[simp] theorem updL_shut (s : State) (p : Nat) (f : LinkPort → LinkPort) : (updL s p f).shut = s.shut := rfl
@[simp] theorem updL_time (s : State) (p : Nat) (f : LinkPort → LinkPort) : (updL s p f).time = s.time := rfl
@[simp] theorem updL_pairs (s : State) (p : Nat) (f : LinkPort → LinkPort) : (updL s p f).pairs = s.pairs := rfl
@[simp] theorem updL_col (s : State) (p : Nat) (f : LinkPort → LinkPort) : (updL s p f).col = s.col := rfl
@[simp] theorem updL_esp (s : State) (p : Nat) (f : LinkPort → LinkPort) : (updL s p f).esp = s.esp := rfl

/-! ### putEngine -/

@[simp] theorem putEngine_pending (s : State) (e : Nat) (l : List Xfer) : (putEngine s e l).pending = s.pending := rfl
@[simp] theorem putEngine_out (s : State) (e : Nat) (l : List Xfer) : (putEngine s e l).out = s.out := rfl
@[simp] theorem putEngine_freeCtr (s : State) (e : Nat) (l : List Xfer) : (putEngine s e l).freeCtr = s.freeCtr := rfl
@[simp] theorem putEngine_gtc (s : State) (e : Nat) (l : List Xfer) : (putEngine s e l).gtc = s.gtc := rfl
@[simp] theorem putEngine_aon (s : State) (e : Nat) (l : List Xfer) : (putEngine s e l).aon = s.aon := rfl
@[simp] theorem putEngine_phase (s : State) (e : Nat) (l : List Xfer) : (putEngine s e l).phase = s.phase := rfl
@[simp] theorem putEngine_straps (s : State) (e : Nat) (l : List Xfer) : (putEngine s e l).straps = s.straps := rfl
@[simp] theorem putEngine_pwr (s : State) (e : Nat) (l : List Xfer) : (putEngine s e l).pwr = s.pwr := rfl
@[simp] theorem putEngine_thm (s : State) (e : Nat) (l : List Xfer) : (putEngine s e l).thm = s.thm := rfl
@[simp] theorem putEngine_bist (s : State) (e : Nat) (l : List Xfer) : (putEngine s e l).bist = s.bist := rfl
@[simp] theorem putEngine_fuses (s : State) (e : Nat) (l : List Xfer) : (putEngine s e l).fuses = s.fuses := rfl
@[simp] theorem putEngine_trd (s : State) (e : Nat) (l : List Xfer) : (putEngine s e l).trd = s.trd := rfl
@[simp] theorem putEngine_queues (s : State) (e : Nat) (l : List Xfer) : (putEngine s e l).queues = s.queues := rfl
@[simp] theorem putEngine_progs (s : State) (e : Nat) (l : List Xfer) : (putEngine s e l).progs = s.progs := rfl
@[simp] theorem putEngine_sets (s : State) (e : Nat) (l : List Xfer) : (putEngine s e l).sets = s.sets := rfl
@[simp] theorem putEngine_err (s : State) (e : Nat) (l : List Xfer) : (putEngine s e l).err = s.err := rfl
@[simp] theorem putEngine_rcd (s : State) (e : Nat) (l : List Xfer) : (putEngine s e l).rcd = s.rcd := rfl
@[simp] theorem putEngine_rst (s : State) (e : Nat) (l : List Xfer) : (putEngine s e l).rst = s.rst := rfl
@[simp] theorem putEngine_ctxs (s : State) (e : Nat) (l : List Xfer) : (putEngine s e l).ctxs = s.ctxs := rfl
@[simp] theorem putEngine_slots (s : State) (e : Nat) (l : List Xfer) : (putEngine s e l).slots = s.slots := rfl
@[simp] theorem putEngine_mem (s : State) (e : Nat) (l : List Xfer) : (putEngine s e l).mem = s.mem := rfl
@[simp] theorem putEngine_pci (s : State) (e : Nat) (l : List Xfer) : (putEngine s e l).pci = s.pci := rfl
@[simp] theorem putEngine_groupEff (s : State) (e : Nat) (l : List Xfer) : (putEngine s e l).groupEff = s.groupEff := rfl
@[simp] theorem putEngine_sliceEff (s : State) (e : Nat) (l : List Xfer) : (putEngine s e l).sliceEff = s.sliceEff := rfl
@[simp] theorem putEngine_shutEff (s : State) (e : Nat) (l : List Xfer) : (putEngine s e l).shutEff = s.shutEff := rfl
@[simp] theorem putEngine_orderCtr (s : State) (e : Nat) (l : List Xfer) : (putEngine s e l).orderCtr = s.orderCtr := rfl
@[simp] theorem putEngine_axes (s : State) (e : Nat) (l : List Xfer) : (putEngine s e l).axes = s.axes := rfl
@[simp] theorem putEngine_history (s : State) (e : Nat) (l : List Xfer) : (putEngine s e l).history = s.history := rfl
@[simp] theorem putEngine_deepQ (s : State) (e : Nat) (l : List Xfer) : (putEngine s e l).deepQ = s.deepQ := rfl
@[simp] theorem putEngine_chk (s : State) (e : Nat) (l : List Xfer) : (putEngine s e l).chk = s.chk := rfl
@[simp] theorem putEngine_ecc (s : State) (e : Nat) (l : List Xfer) : (putEngine s e l).ecc = s.ecc := rfl
@[simp] theorem putEngine_brl (s : State) (e : Nat) (l : List Xfer) : (putEngine s e l).brl = s.brl := rfl
@[simp] theorem putEngine_chn (s : State) (e : Nat) (l : List Xfer) : (putEngine s e l).chn = s.chn := rfl
@[simp] theorem putEngine_smb (s : State) (e : Nat) (l : List Xfer) : (putEngine s e l).smb = s.smb := rfl
@[simp] theorem putEngine_links (s : State) (e : Nat) (l : List Xfer) : (putEngine s e l).links = s.links := rfl
@[simp] theorem putEngine_time (s : State) (e : Nat) (l : List Xfer) : (putEngine s e l).time = s.time := rfl
@[simp] theorem putEngine_pairs (s : State) (e : Nat) (l : List Xfer) : (putEngine s e l).pairs = s.pairs := rfl
@[simp] theorem putEngine_col (s : State) (e : Nat) (l : List Xfer) : (putEngine s e l).col = s.col := rfl
@[simp] theorem putEngine_esp (s : State) (e : Nat) (l : List Xfer) : (putEngine s e l).esp = s.esp := rfl

/-! ### updB -/

@[simp] theorem updB_pending (s : State) (n : Nat) (f : BrlCl → BrlCl) : (updB s n f).pending = s.pending := rfl
@[simp] theorem updB_out (s : State) (n : Nat) (f : BrlCl → BrlCl) : (updB s n f).out = s.out := rfl
@[simp] theorem updB_freeCtr (s : State) (n : Nat) (f : BrlCl → BrlCl) : (updB s n f).freeCtr = s.freeCtr := rfl
@[simp] theorem updB_gtc (s : State) (n : Nat) (f : BrlCl → BrlCl) : (updB s n f).gtc = s.gtc := rfl
@[simp] theorem updB_aon (s : State) (n : Nat) (f : BrlCl → BrlCl) : (updB s n f).aon = s.aon := rfl
@[simp] theorem updB_phase (s : State) (n : Nat) (f : BrlCl → BrlCl) : (updB s n f).phase = s.phase := rfl
@[simp] theorem updB_straps (s : State) (n : Nat) (f : BrlCl → BrlCl) : (updB s n f).straps = s.straps := rfl
@[simp] theorem updB_pwr (s : State) (n : Nat) (f : BrlCl → BrlCl) : (updB s n f).pwr = s.pwr := rfl
@[simp] theorem updB_thm (s : State) (n : Nat) (f : BrlCl → BrlCl) : (updB s n f).thm = s.thm := rfl
@[simp] theorem updB_bist (s : State) (n : Nat) (f : BrlCl → BrlCl) : (updB s n f).bist = s.bist := rfl
@[simp] theorem updB_fuses (s : State) (n : Nat) (f : BrlCl → BrlCl) : (updB s n f).fuses = s.fuses := rfl
@[simp] theorem updB_trd (s : State) (n : Nat) (f : BrlCl → BrlCl) : (updB s n f).trd = s.trd := rfl
@[simp] theorem updB_queues (s : State) (n : Nat) (f : BrlCl → BrlCl) : (updB s n f).queues = s.queues := rfl
@[simp] theorem updB_progs (s : State) (n : Nat) (f : BrlCl → BrlCl) : (updB s n f).progs = s.progs := rfl
@[simp] theorem updB_sets (s : State) (n : Nat) (f : BrlCl → BrlCl) : (updB s n f).sets = s.sets := rfl
@[simp] theorem updB_err (s : State) (n : Nat) (f : BrlCl → BrlCl) : (updB s n f).err = s.err := rfl
@[simp] theorem updB_rcd (s : State) (n : Nat) (f : BrlCl → BrlCl) : (updB s n f).rcd = s.rcd := rfl
@[simp] theorem updB_rst (s : State) (n : Nat) (f : BrlCl → BrlCl) : (updB s n f).rst = s.rst := rfl
@[simp] theorem updB_ctxs (s : State) (n : Nat) (f : BrlCl → BrlCl) : (updB s n f).ctxs = s.ctxs := rfl
@[simp] theorem updB_slots (s : State) (n : Nat) (f : BrlCl → BrlCl) : (updB s n f).slots = s.slots := rfl
@[simp] theorem updB_mem (s : State) (n : Nat) (f : BrlCl → BrlCl) : (updB s n f).mem = s.mem := rfl
@[simp] theorem updB_pci (s : State) (n : Nat) (f : BrlCl → BrlCl) : (updB s n f).pci = s.pci := rfl
@[simp] theorem updB_groupEff (s : State) (n : Nat) (f : BrlCl → BrlCl) : (updB s n f).groupEff = s.groupEff := rfl
@[simp] theorem updB_sliceEff (s : State) (n : Nat) (f : BrlCl → BrlCl) : (updB s n f).sliceEff = s.sliceEff := rfl
@[simp] theorem updB_shutEff (s : State) (n : Nat) (f : BrlCl → BrlCl) : (updB s n f).shutEff = s.shutEff := rfl
@[simp] theorem updB_orderCtr (s : State) (n : Nat) (f : BrlCl → BrlCl) : (updB s n f).orderCtr = s.orderCtr := rfl
@[simp] theorem updB_axes (s : State) (n : Nat) (f : BrlCl → BrlCl) : (updB s n f).axes = s.axes := rfl
@[simp] theorem updB_history (s : State) (n : Nat) (f : BrlCl → BrlCl) : (updB s n f).history = s.history := rfl
@[simp] theorem updB_deepQ (s : State) (n : Nat) (f : BrlCl → BrlCl) : (updB s n f).deepQ = s.deepQ := rfl
@[simp] theorem updB_chk (s : State) (n : Nat) (f : BrlCl → BrlCl) : (updB s n f).chk = s.chk := rfl
@[simp] theorem updB_ecc (s : State) (n : Nat) (f : BrlCl → BrlCl) : (updB s n f).ecc = s.ecc := rfl
@[simp] theorem updB_chn (s : State) (n : Nat) (f : BrlCl → BrlCl) : (updB s n f).chn = s.chn := rfl
@[simp] theorem updB_smb (s : State) (n : Nat) (f : BrlCl → BrlCl) : (updB s n f).smb = s.smb := rfl
@[simp] theorem updB_shut (s : State) (n : Nat) (f : BrlCl → BrlCl) : (updB s n f).shut = s.shut := rfl
@[simp] theorem updB_links (s : State) (n : Nat) (f : BrlCl → BrlCl) : (updB s n f).links = s.links := rfl
@[simp] theorem updB_time (s : State) (n : Nat) (f : BrlCl → BrlCl) : (updB s n f).time = s.time := rfl
@[simp] theorem updB_pairs (s : State) (n : Nat) (f : BrlCl → BrlCl) : (updB s n f).pairs = s.pairs := rfl
@[simp] theorem updB_col (s : State) (n : Nat) (f : BrlCl → BrlCl) : (updB s n f).col = s.col := rfl
@[simp] theorem updB_esp (s : State) (n : Nat) (f : BrlCl → BrlCl) : (updB s n f).esp = s.esp := rfl

/-! ### updE -/

@[simp] theorem updE_pending (s : State) (k : Nat) (f : StackEcc → StackEcc) : (updE s k f).pending = s.pending := rfl
@[simp] theorem updE_out (s : State) (k : Nat) (f : StackEcc → StackEcc) : (updE s k f).out = s.out := rfl
@[simp] theorem updE_freeCtr (s : State) (k : Nat) (f : StackEcc → StackEcc) : (updE s k f).freeCtr = s.freeCtr := rfl
@[simp] theorem updE_gtc (s : State) (k : Nat) (f : StackEcc → StackEcc) : (updE s k f).gtc = s.gtc := rfl
@[simp] theorem updE_aon (s : State) (k : Nat) (f : StackEcc → StackEcc) : (updE s k f).aon = s.aon := rfl
@[simp] theorem updE_phase (s : State) (k : Nat) (f : StackEcc → StackEcc) : (updE s k f).phase = s.phase := rfl
@[simp] theorem updE_straps (s : State) (k : Nat) (f : StackEcc → StackEcc) : (updE s k f).straps = s.straps := rfl
@[simp] theorem updE_pwr (s : State) (k : Nat) (f : StackEcc → StackEcc) : (updE s k f).pwr = s.pwr := rfl
@[simp] theorem updE_thm (s : State) (k : Nat) (f : StackEcc → StackEcc) : (updE s k f).thm = s.thm := rfl
@[simp] theorem updE_bist (s : State) (k : Nat) (f : StackEcc → StackEcc) : (updE s k f).bist = s.bist := rfl
@[simp] theorem updE_fuses (s : State) (k : Nat) (f : StackEcc → StackEcc) : (updE s k f).fuses = s.fuses := rfl
@[simp] theorem updE_trd (s : State) (k : Nat) (f : StackEcc → StackEcc) : (updE s k f).trd = s.trd := rfl
@[simp] theorem updE_queues (s : State) (k : Nat) (f : StackEcc → StackEcc) : (updE s k f).queues = s.queues := rfl
@[simp] theorem updE_progs (s : State) (k : Nat) (f : StackEcc → StackEcc) : (updE s k f).progs = s.progs := rfl
@[simp] theorem updE_sets (s : State) (k : Nat) (f : StackEcc → StackEcc) : (updE s k f).sets = s.sets := rfl
@[simp] theorem updE_err (s : State) (k : Nat) (f : StackEcc → StackEcc) : (updE s k f).err = s.err := rfl
@[simp] theorem updE_rcd (s : State) (k : Nat) (f : StackEcc → StackEcc) : (updE s k f).rcd = s.rcd := rfl
@[simp] theorem updE_rst (s : State) (k : Nat) (f : StackEcc → StackEcc) : (updE s k f).rst = s.rst := rfl
@[simp] theorem updE_ctxs (s : State) (k : Nat) (f : StackEcc → StackEcc) : (updE s k f).ctxs = s.ctxs := rfl
@[simp] theorem updE_slots (s : State) (k : Nat) (f : StackEcc → StackEcc) : (updE s k f).slots = s.slots := rfl
@[simp] theorem updE_mem (s : State) (k : Nat) (f : StackEcc → StackEcc) : (updE s k f).mem = s.mem := rfl
@[simp] theorem updE_pci (s : State) (k : Nat) (f : StackEcc → StackEcc) : (updE s k f).pci = s.pci := rfl
@[simp] theorem updE_groupEff (s : State) (k : Nat) (f : StackEcc → StackEcc) : (updE s k f).groupEff = s.groupEff := rfl
@[simp] theorem updE_sliceEff (s : State) (k : Nat) (f : StackEcc → StackEcc) : (updE s k f).sliceEff = s.sliceEff := rfl
@[simp] theorem updE_shutEff (s : State) (k : Nat) (f : StackEcc → StackEcc) : (updE s k f).shutEff = s.shutEff := rfl
@[simp] theorem updE_orderCtr (s : State) (k : Nat) (f : StackEcc → StackEcc) : (updE s k f).orderCtr = s.orderCtr := rfl
@[simp] theorem updE_axes (s : State) (k : Nat) (f : StackEcc → StackEcc) : (updE s k f).axes = s.axes := rfl
@[simp] theorem updE_history (s : State) (k : Nat) (f : StackEcc → StackEcc) : (updE s k f).history = s.history := rfl
@[simp] theorem updE_deepQ (s : State) (k : Nat) (f : StackEcc → StackEcc) : (updE s k f).deepQ = s.deepQ := rfl
@[simp] theorem updE_chk (s : State) (k : Nat) (f : StackEcc → StackEcc) : (updE s k f).chk = s.chk := rfl
@[simp] theorem updE_brl (s : State) (k : Nat) (f : StackEcc → StackEcc) : (updE s k f).brl = s.brl := rfl
@[simp] theorem updE_chn (s : State) (k : Nat) (f : StackEcc → StackEcc) : (updE s k f).chn = s.chn := rfl
@[simp] theorem updE_smb (s : State) (k : Nat) (f : StackEcc → StackEcc) : (updE s k f).smb = s.smb := rfl
@[simp] theorem updE_shut (s : State) (k : Nat) (f : StackEcc → StackEcc) : (updE s k f).shut = s.shut := rfl
@[simp] theorem updE_links (s : State) (k : Nat) (f : StackEcc → StackEcc) : (updE s k f).links = s.links := rfl
@[simp] theorem updE_time (s : State) (k : Nat) (f : StackEcc → StackEcc) : (updE s k f).time = s.time := rfl
@[simp] theorem updE_pairs (s : State) (k : Nat) (f : StackEcc → StackEcc) : (updE s k f).pairs = s.pairs := rfl
@[simp] theorem updE_col (s : State) (k : Nat) (f : StackEcc → StackEcc) : (updE s k f).col = s.col := rfl
@[simp] theorem updE_esp (s : State) (k : Nat) (f : StackEcc → StackEcc) : (updE s k f).esp = s.esp := rfl

/-! ### Reading after writing -/

@[simp] theorem getQ_putQ_same (s : State) (q : Nat) (v : Queue) : getQ (putQ s q v) q = v := Tbl.get_put_same _ _ _ _
theorem getQ_putQ_ne (s : State) {q j : Nat} (h : j ≠ q) (v : Queue) : getQ (putQ s q v) j = getQ s j :=
  Tbl.get_put_ne _ _ h _
@[simp] theorem getC_putC_same (s : State) (c : Nat) (v : Ctx) : getC (putC s c v) c = v := Tbl.get_put_same _ _ _ _
theorem getC_putC_ne (s : State) {c j : Nat} (h : j ≠ c) (v : Ctx) : getC (putC s c v) j = getC s j :=
  Tbl.get_put_ne _ _ h _
@[simp] theorem getS_putS_same (s : State) (k : Nat) (v : Slot) : getS (putS s k v) k = v := Tbl.get_put_same _ _ _ _
theorem getS_putS_ne (s : State) {k j : Nat} (h : j ≠ k) (v : Slot) : getS (putS s k v) j = getS s j :=
  Tbl.get_put_ne _ _ h _
@[simp] theorem getF_putF_same (s : State) (f : Nat) (v : PciFn) : getF (putF s f v) f = v := Tbl.get_put_same _ _ _ _
theorem getF_putF_ne (s : State) {f j : Nat} (h : j ≠ f) (v : PciFn) : getF (putF s f v) j = getF s j :=
  Tbl.get_put_ne _ _ h _
@[simp] theorem domState_putDom_same (s : State) (d v : Nat) : domState (putDom s d v) d = v := Tbl.get_put_same _ _ _ _
theorem domState_putDom_ne (s : State) {d j : Nat} (h : j ≠ d) (v : Nat) : domState (putDom s d v) j = domState s j :=
  Tbl.get_put_ne _ _ h _

/-- The program just written in a slot is found there. -/
@[simp] theorem getP_putP_same (s : State) (n : Nat) (v : Prog) : getP (putP s n v) n = some v := by
  have h : ∀ t : Tbl Prog, (Tbl.put t n v).find? (fun e => e.1 == n) = some (n, v) := by
    intro t
    induction t with
    | nil => simp [Tbl.put]
    | cons e t ih =>
      obtain ⟨k, w⟩ := e
      unfold Tbl.put
      split
      · simp
      · split
        · simp
        · rename_i h; rw [List.find?_cons_of_neg (by simpa using fun e => h e.symm), ih]
  unfold getP putP
  rw [h]; rfl

/-- A write of one slot's program leaves the other slots alone. -/
theorem getP_putP_ne (s : State) {n m : Nat} (h : m ≠ n) (v : Prog) : getP (putP s n v) m = getP s m := by
  have h' : ∀ t : Tbl Prog, (Tbl.put t n v).find? (fun e => e.1 == m) = t.find? (fun e => e.1 == m) := by
    intro t
    induction t with
    | nil => simp [Tbl.put, Ne.symm h]
    | cons e t ih =>
      obtain ⟨k, w⟩ := e
      unfold Tbl.put
      split
      · rw [List.find?_cons_of_neg (by simpa using Ne.symm h)]
      · split
        · rename_i h2; subst h2
          rw [List.find?_cons_of_neg (by simpa using Ne.symm h), List.find?_cons_of_neg (by simpa using Ne.symm h)]
        · simp only [List.find?_cons]; rw [ih]
  unfold getP putP
  rw [h']

/-- A freed slot holds no program. -/
@[simp] theorem getP_delP_same (s : State) (n : Nat) : getP (delP s n) n = none := by
  unfold getP delP Tbl.del
  simp [List.find?_eq_none, List.mem_filter]

/-- Freeing a slot leaves the other slots alone. -/
theorem getP_delP_ne (s : State) {n m : Nat} (h : m ≠ n) : getP (delP s n) m = getP s m := by
  have h' : ∀ t : Tbl Prog, (Tbl.del t n).find? (fun e => e.1 == m) = t.find? (fun e => e.1 == m) := by
    intro t
    unfold Tbl.del
    rw [List.find?_filter]
    congr 1
    funext e
    by_cases e1 : e.1 = m
    · simp [e1, h]
    · simp [e1]
  unfold getP delP
  rw [h']

end Sys2Proof.Machine
end

