-- ==== Sys2Proof/Laws/Programs.lean ====
section
/-! SUPPORT. What the shared operations of Hexah programs do: issuing, privilege, retiring, and the end of a program. -/

namespace Sys2Proof.Machine

/-- An instruction of a slot whose program issues runs on that program. -/
theorem onProg_issues {s : State} {slot : BitVec 6} {p : Prog} (h : issues s slot p) (f : Prog → State) :
    onProg s slot f = f p := by
  unfold onProg; rw [h]

/-- An instruction of a slot whose program issues nothing now leaves the state as it is. -/
theorem onProg_idle {s : State} {slot : BitVec 6} (h : running s slot = none) (f : Prog → State) : onProg s slot f = s := by
  unfold onProg; rw [h]

/-- An instruction within the privilege of its program runs. -/
theorem onPriv_issues {s : State} {slot : BitVec 6} {p : Prog} (h : issues s slot p) {n : Nat} (hp : n ≤ p.priv)
    (f : Prog → State) : onPriv s slot n f = f p := by
  unfold onPriv; rw [onProg_issues h, if_neg (Nat.not_lt.2 hp)]

/-- An instruction above the privilege of its program ends it with PRIVILEGE. -/
theorem onPriv_below {s : State} {slot : BitVec 6} {p : Prog} (h : issues s slot p) {n : Nat} (hp : p.priv < n)
    (f : Prog → State) : onPriv s slot n f = endWith s slot.toNat p stPrivilege p.index none := by
  unfold onPriv; rw [onProg_issues h, if_pos hp]; rfl

/-- An instruction with a word after it retires into that word. -/
theorem retire_next (s : State) (slot : BitVec 6) {p : Prog} (h : hasNext p) : retire s slot p = putP s slot.toNat (onward p) := by
  unfold retire retireTo hasNext at *
  have : (0 : Int) ≤ (p.index : Int) + 1 ∧ (p.index : Int) + 1 < p.words := by omega
  simp only [this, and_self, if_true]
  rfl

/-- The last word of a program has nothing after it: the program ends with MALFORMED. -/
theorem retire_last (s : State) (slot : BitVec 6) {p : Prog} (h : p.words ≤ p.index + 1) :
    retire s slot p = endWith s slot.toNat { p with retired := p.retired + 1 } stMalformed p.index none := by
  unfold retire retireTo
  have : ¬ ((0 : Int) ≤ (p.index : Int) + 1 ∧ (p.index : Int) + 1 < p.words) := by omega
  simp only [this, if_false]

/-- A jump inside the program. -/
theorem retireTo_inside (s : State) (slot : BitVec 6) {p : Prog} {t : Int} {n : Nat} (h : t = n) (hn : n < p.words) :
    retireTo s slot p t = putP s slot.toNat (gone p n) := by
  subst h
  unfold retireTo
  have : (0 : Int) ≤ (n : Int) ∧ (n : Int) < p.words := by omega
  simp only [this, and_self, if_true]
  rfl

/-- A jump out of the program ends it with MALFORMED. -/
theorem retireTo_outside (s : State) (slot : BitVec 6) {p : Prog} {t : Int} (h : t < 0 ∨ (p.words : Int) ≤ t) :
    retireTo s slot p t = endWith s slot.toNat { p with retired := p.retired + 1 } stMalformed p.index none := by
  unfold retireTo
  have : ¬ ((0 : Int) ≤ t ∧ t < p.words) := by omega
  simp only [this, if_false]

/-- A register write changes the registers alone. -/
theorem setReg_frame (p : Prog) (r : BitVec 5) (v : Word64) : p.setReg r v = { p with regs := (p.setReg r v).regs } := by
  unfold Prog.setReg; split <;> rfl

@[simp] theorem setReg_index (p : Prog) (r : BitVec 5) (v : Word64) : (p.setReg r v).index = p.index := by rw [setReg_frame]
@[simp] theorem setReg_words (p : Prog) (r : BitVec 5) (v : Word64) : (p.setReg r v).words = p.words := by rw [setReg_frame]
@[simp] theorem setReg_queue (p : Prog) (r : BitVec 5) (v : Word64) : (p.setReg r v).queue = p.queue := by rw [setReg_frame]
@[simp] theorem setReg_retired (p : Prog) (r : BitVec 5) (v : Word64) : (p.setReg r v).retired = p.retired := by rw [setReg_frame]
@[simp] theorem setReg_priv (p : Prog) (r : BitVec 5) (v : Word64) : (p.setReg r v).priv = p.priv := by rw [setReg_frame]
@[simp] theorem setReg_sel (p : Prog) (r : BitVec 5) (v : Word64) : (p.setReg r v).sel = p.sel := by rw [setReg_frame]

/-- A write to a register of a program keeps the word after its index. -/
theorem hasNext_wrote {p : Prog} (h : hasNext p) (r : BitVec 5) (v : Word64) : hasNext (p.setReg r v) := by
  unfold hasNext at *; simpa using h

/-- An instruction writes its register and retires into the next word. -/
theorem retireRd_next (s : State) (slot : BitVec 6) {p : Prog} (h : hasNext p) (rd : BitVec 5) (v : Word64) :
    retireRd s slot p rd v = putP s slot.toNat (onward (wrote p rd v)) := by
  unfold retireRd; rw [retire_next s slot (hasNext_wrote h rd v)]; rfl

/-- The journal of the standby is all that an event to be journalled changes. -/
theorem jot_frame (s : State) : jot s = { s with trd := { s.trd with journal := (jot s).trd.journal } } := by
  unfold jot; split <;> rfl

/-- The end of a program changes programs, queues, the Treadles' token queue and journal, waiters of resets and fuse programs. -/
theorem endWith_frame (s : State) (slot : Nat) (p : Prog) (st fa : Nat) (rst : Option (Nat × Nat)) :
    endWith s slot p st fa rst =
      { s with progs := Tbl.del s.progs slot, queues := (endWith s slot p st fa rst).queues, trd := (endWith s slot p st fa rst).trd,
               rst := (endWith s slot p st fa rst).rst, fuses := (endWith s slot p st fa rst).fuses } := by
  unfold endWith
  dsimp only
  have e := jot_frame (delP s slot)
  generalize jot (delP s slot) = x at *
  rw [e]
  rfl

/-- The slot of a program that has ended is free. -/
theorem endWith_slot (s : State) (slot : Nat) (p : Prog) (st fa : Nat) (rst : Option (Nat × Nat)) :
    getP (endWith s slot p st fa rst) slot = none := by
  have e := endWith_frame s slot p st fa rst
  show ((endWith s slot p st fa rst).progs.find? _).map _ = none
  rw [e]
  exact getP_delP_same s slot

/-- The slots of other programs are left alone by the end of one. -/
theorem endWith_others (s : State) (slot : Nat) (p : Prog) (st fa : Nat) (rst : Option (Nat × Nat)) {n : Nat} (h : n ≠ slot) :
    getP (endWith s slot p st fa rst) n = getP s n := by
  have e := endWith_frame s slot p st fa rst
  show ((endWith s slot p st fa rst).progs.find? _).map _ = _
  rw [e]
  exact getP_delP_ne s h

/-- The completion record of a program that ends now (06 Table 6.5). -/
def endRec (s : State) (p : Prog) (st fa : Nat) (rst : Option (Nat × Nat)) : CplRec :=
  { tag := p.tag, status := st, gtcEnd := s.gtc, result := p.reg 1, retired := BitVec.ofNat 32 p.retired,
    faultAt := if st = stOk then 0xFFFF else fa, cold := false, commit := p.committed, irq := p.irq, stopOn := p.stopOn,
    reset := rst }

/-- The queues after the end of a program: its own has no running program, and its completion record waits. -/
theorem endWith_queues (s : State) (slot : Nat) (p : Prog) (st fa : Nat) (rst : Option (Nat × Nat)) :
    (endWith s slot p st fa rst).queues =
      Tbl.put s.queues p.queue { getQ s p.queue with running := none, pendRec := some (endRec s p st fa rst) } := by
  unfold endWith updQ putQ getQ
  dsimp only
  rw [jot_frame]
  rfl

end Sys2Proof.Machine
end

