-- ==== Sys2Proof/Laws/Records.lean ====
section
/-! SUPPORT. What recording and accepting an event can do: the frames of formRec, ringAdd, hostRing, recordRaw, record and accept. -/

namespace Sys2Proof.Machine

/-- The ring's control setting is a plain setting register. -/
theorem liveVal_ring (s : State) :
    liveVal s 3 0x21 0 = (Tbl.get ⟨w64 0xFFFF0004, w64 0xFFFF0004, 0⟩ s.sets.regs (setPlace 3 0x21 0)).val := by
  have h : isHd 3 0x21 = false := by decide
  have r : setReset s 3 0x21 = w64 0xFFFF0004 := by
    have e : (setRow 3 0x21).map (·.reset) = some 0xFFFF0004 := by decide
    unfold setReset
    cases hr : setRow 3 0x21 with
    | none => rw [hr] at e; cases e
    | some x => rw [hr] at e; simp at e; simp [e]
  unfold liveVal setCell
  rw [h, r]; rfl

/-- The host error ring stays off in a state with the same settings and the same debt. -/
theorem ringOff_of {s t : State} (h : ringOff s) (hs : t.sets = s.sets) (he : t.err.ringDue = s.err.ringDue) : ringOff t := by
  unfold ringOff at *
  rw [liveVal_ring] at *
  rw [hs, he]; exact h

/-- A disabled host ring takes nothing. -/
theorem hostRing_off {s : State} (h : (liveVal s 3 0x21 0).toNat % 2 = 0) (r : Rec) : hostRing s r = s := by
  simp [hostRing, h]

/-- The volatile ring changes nothing but the recorder. -/
theorem ringAdd_frame (s : State) (r : Rec) : ringAdd s r = { s with rcd := (ringAdd s r).rcd } := by
  unfold ringAdd; dsimp only; split
  · rfl
  · split <;> rfl

/-- The offer to Chorno changes nothing but the queue of direct records and Chorno's count of drops. -/
theorem offerDirect_frame (s : State) (r : Rec) :
    offerDirect s r = { s with err := { s.err with direct := (offerDirect s r).err.direct },
                               chn := { s.chn with dropped := (offerDirect s r).chn.dropped } } := by
  unfold offerDirect; dsimp only; split
  · rfl
  · split <;> rfl

/-- The record that a direct record of these fields forms. -/
def recOf (s : State) (code sev cls idx : Nat) (payload : List Byte) : Rec := (formRec s code sev 0 cls idx payload).1

/-- A direct record with the host ring off: the volatile ring, then Chorno. -/
theorem recordRaw_off {s : State} (h : ringOff s) (code sev cls idx : Nat) (pl : List Byte) :
    recordRaw s code sev cls idx pl =
      offerDirect (ringAdd (formRec s code sev 0 cls idx pl).2 (recOf s code sev cls idx pl)) (recOf s code sev cls idx pl) := by
  have h2 : (liveVal (ringAdd (formRec s code sev 0 cls idx pl).2 (recOf s code sev cls idx pl)) 3 0x21 0).toNat % 2 = 0 := by
    have e := ringAdd_frame (formRec s code sev 0 cls idx pl).2 (recOf s code sev cls idx pl)
    rw [liveVal_ring, e]
    have := h.1
    rw [liveVal_ring] at this
    exact this
  have u : recordRaw s code sev cls idx pl = offerDirect (hostRing (ringAdd (formRec s code sev 0 cls idx pl).2
    (recOf s code sev cls idx pl)) (recOf s code sev cls idx pl)) (recOf s code sev cls idx pl) := rfl
  rw [u, hostRing_off h2]

/-- What a direct record changes with the host ring off. -/
theorem recordRaw_frame {s : State} (h : ringOff s) (code sev cls idx : Nat) (pl : List Byte) :
    recordRaw s code sev cls idx pl =
      { s with rcd := (recordRaw s code sev cls idx pl).rcd,
               err := { s.err with direct := (recordRaw s code sev cls idx pl).err.direct },
               chn := { s.chn with dropped := (recordRaw s code sev cls idx pl).chn.dropped } } := by
  rw [recordRaw_off h]
  generalize recOf s code sev cls idx pl = r
  rw [offerDirect_frame, ringAdd_frame]
  rfl

/-- With the host ring off nothing is to be settled after a record. -/
theorem record_off {s : State} (h : ringOff s) (code sev cls idx : Nat) (pl : List Byte) :
    record s code sev cls idx pl = recordRaw s code sev cls idx pl := by
  have : (recordRaw s code sev cls idx pl).err.ringDue = false := by
    rw [recordRaw_frame h]; exact h.2
  unfold record settleRing
  simp [this]

/-- A direct record with the host ring off changes the recorder, the queue of direct records and the count of drops alone. -/
theorem record_frame {s : State} (h : ringOff s) (code sev cls idx : Nat) (pl : List Byte) :
    record s code sev cls idx pl =
      { s with rcd := (record s code sev cls idx pl).rcd,
               err := { s.err with direct := (record s code sev cls idx pl).err.direct },
               chn := { s.chn with dropped := (record s code sev cls idx pl).chn.dropped } } := by
  rw [record_off h]; exact recordRaw_frame h code sev cls idx pl

/-- What a direct record leaves in the recorder. -/
theorem record_rcd {s : State} (h : ringOff s) (o : ringOpen s) (code sev cls idx : Nat) (pl : List Byte) :
    (record s code sev cls idx pl).rcd =
      { s.rcd with seq := (s.rcd.seq + 1) % 65536, ring := s.rcd.ring ++ [⟨recOf s code sev cls idx pl, false⟩] } := by
  have o1 := o.1
  have o2 := o.2
  rw [record_off h, recordRaw_off h, offerDirect_frame]
  have l : ¬ s.rcd.ring.length ≥ 16384 := by omega
  have l2 : ¬ (s.rcd.ring.length ≥ 16320 ∧ sev < 4) := by omega
  simp [ringAdd, formRec, o1, l, recOf, Nat.not_le.mpr o2]

/-- A direct record stands last in the volatile ring. -/
theorem record_last {s : State} (h : ringOff s) (o : ringOpen s) (code sev cls idx : Nat) (pl : List Byte) :
    lastRecord (record s code sev cls idx pl) code sev cls idx := by
  refine ⟨⟨recOf s code sev cls idx pl, false⟩, ?_, rfl, rfl, rfl, rfl⟩
  rw [record_rcd h o]; simp

/-- The ring stays off after a direct record. -/
theorem record_ringOff {s : State} (h : ringOff s) (code sev cls idx : Nat) (pl : List Byte) :
    ringOff (record s code sev cls idx pl) := by
  refine ringOff_of h ?_ ?_ <;> rw [record_frame h]

/-- A report changes the pipeline's reports alone. -/
theorem addReport_frame (s : State) (r : Rec) :
    addReport s r = { s with err := { s.err with reports := (addReport s r).err.reports, folded := (addReport s r).err.folded } } := by
  unfold addReport; dsimp only; split <;> rfl

/-- The record of an entry with the host ring off. -/
theorem entryRecord_frame {s : State} (h : ringOff s) (code sev fl cls idx : Nat) (pl : List Byte) :
    entryRecord s code sev fl cls idx pl =
      { s with rcd := (ringAdd (formRec s code sev (8 + fl) cls idx pl).2 (formRec s code sev (8 + fl) cls idx pl).1).rcd,
               err := { s.err with reports := (entryRecord s code sev fl cls idx pl).err.reports,
                                   folded := (entryRecord s code sev fl cls idx pl).err.folded } } := by
  have e := ringAdd_frame (formRec s code sev (8 + fl) cls idx pl).2 (formRec s code sev (8 + fl) cls idx pl).1
  have h2 : (liveVal (ringAdd (formRec s code sev (8 + fl) cls idx pl).2 (formRec s code sev (8 + fl) cls idx pl).1) 3 0x21 0).toNat % 2 = 0 := by
    rw [liveVal_ring, e]
    have := h.1
    rw [liveVal_ring] at this
    exact this
  have u : entryRecord s code sev fl cls idx pl = addReport (hostRing (ringAdd (formRec s code sev (8 + fl) cls idx pl).2
    (formRec s code sev (8 + fl) cls idx pl).1) (formRec s code sev (8 + fl) cls idx pl).1)
    (formRec s code sev (8 + fl) cls idx pl).1 := rfl
  rw [u, hostRing_off h2]
  generalize (formRec s code sev (8 + fl) cls idx pl).1 = r at *
  conv_lhs => rw [addReport_frame]
  rw [e]
  rfl

/-- Acceptance of an event in an empty pipeline: its record, its report and its entry, and no other change. -/
theorem accept_empty {s : State} (h : ringOff s) (p : pipelineEmpty s) (code sev cls idx ctx dom : Nat) (pl : List Byte) :
    accept s code sev cls idx ctx dom pl =
      { s with rcd := (accept s code sev cls idx ctx dom pl).rcd, err := (accept s code sev cls idx ctx dom pl).err } ∧
    (accept s code sev cls idx ctx dom pl).err.ringDue = false ∧
    (accept s code sev cls idx ctx dom pl).rcd =
      (ringAdd (formRec s code sev 8 cls idx pl).2 (formRec s code sev 8 cls idx pl).1).rcd ∧
    inPipeline (accept s code sev cls idx ctx dom pl) code sev := by
  obtain ⟨p0, p1, p2, p3, ph, ps⟩ := p
  have q : ∀ n, entriesOf s.err n = [] := by
    intro n; unfold entriesOf; split <;> assumption
  have f := entryRecord_frame h code sev 0 cls idx pl
  have key : acceptCore s code sev cls idx ctx dom pl false =
      (let t := entryRecord s code sev 0 cls idx pl
       let e : Entry := { id := t.err.nextId, code := code, sev := sev, srcClass := cls, srcIndex := idx, ctx := ctx,
                          domain := dom, key := keyOf code sev cls idx ctx dom, arrivals := 1, payload := pl }
       let k := setEntries t.err (queueOf code sev) (entriesOf t.err (queueOf code sev) ++ [e])
       { t with err := { k with nextId := k.nextId + 1, accepted := bumpTbl 0xFFFFFFFF k.accepted (queueOf code sev) } }) := by
    unfold acceptCore
    simp [ps, q, ph]
  have due : (acceptCore s code sev cls idx ctx dom pl false).err.ringDue = false := by
    rw [key]; dsimp only; rw [f]
    unfold setEntries; split <;> exact h.2
  have a : accept s code sev cls idx ctx dom pl = acceptCore s code sev cls idx ctx dom pl false := by
    unfold accept settleRing; simp [due]
  rw [a]
  refine ⟨?_, due, ?_, ?_⟩
  · rw [key]; dsimp only; rw [f]
  · rw [key]; dsimp only; rw [f]
  · refine ⟨⟨(entryRecord s code sev 0 cls idx pl).err.nextId, code, sev, cls, idx, ctx, dom, keyOf code sev cls idx ctx dom, 1, pl⟩,
      ?_, rfl, rfl⟩
    rw [key]; dsimp only
    generalize queueOf code sev = n
    have m : ∀ (p : Pipeline) (l : List Entry) (a : Tbl Nat) (k : Nat),
        entriesOf { setEntries p n l with nextId := k, accepted := a } n = l := by
      intro p l a k
      rcases n with _ | _ | _ | n <;> rfl
    rw [m]; simp

/-- An accepted event stands last in the volatile ring and is held in the pipeline. -/
theorem accept_calm {s : State} (c : calm s) (code sev cls idx ctx dom : Nat) (pl : List Byte) :
    accept s code sev cls idx ctx dom pl =
      { s with rcd := (accept s code sev cls idx ctx dom pl).rcd, err := (accept s code sev cls idx ctx dom pl).err } ∧
    ringOff (accept s code sev cls idx ctx dom pl) ∧
    lastRecord (accept s code sev cls idx ctx dom pl) code sev cls idx ∧
    inPipeline (accept s code sev cls idx ctx dom pl) code sev := by
  obtain ⟨h, p, o1, o2⟩ := c
  obtain ⟨e, d, r, i⟩ := accept_empty h p code sev cls idx ctx dom pl
  refine ⟨e, ringOff_of h (by rw [e]) (by rw [d, h.2]), ?_, i⟩
  refine ⟨⟨(formRec s code sev 8 cls idx pl).1, false⟩, ?_, rfl, rfl, rfl, rfl⟩
  rw [r]
  have l : ¬ s.rcd.ring.length ≥ 16384 := by omega
  have l2 : ¬ (16320 ≤ s.rcd.ring.length ∧ sev < 4) := by omega
  simp [ringAdd, formRec, o1, l, Nat.not_le.mpr o2]

end Sys2Proof.Machine
end

