-- ==== Sys2Proof/Tests/Slice0.lean ====
section
/-! SUPPORT. Tests: ill-formed commands that WellFormed refuses, instruction words written out from the encodings of spec/, and for
every statement that has hypotheses a state and operands that meet them together. -/

namespace Sys2Proof.Tests

open Sys2Proof
open Sys2Proof.Machine

set_option maxRecDepth 8000
set_option Elab.async false

/-! ### Small states -/

/-- A program of queue 5 at word 2 of 9, with h1 = 7 and h4 = 40. -/
def prog : Prog :=
  { queue := 5, priv := 1, index := 2, words := 9, regs := [(1, 7), (4, 40)], sel := 3, staged := [], overfull := false, retired := 2,
    committed := false, wait := .none, tag := 9, irq := false, stopOn := false, base := 0x9000 }

/-- Context 3, in use, with launch 1 of 2 sheds running and its page tables at 0x1000. -/
def launch1 : Launch :=
  { entry := 0x8000, arg := 0, first := 0, count := 8, sheds := 4, twin := false, scratch := 64, doneObj := 0xFFFF, number := 1, seed := 5,
    ordered := false, sat := false, order := 0, started := true }

/-- Context 3 without a launch. -/
def ctx3 : Ctx := { Ctx.free with inUse := true, jobTag := 77 }

/-- The root of context 3's tables, and tables that map the first GiB to the same addresses of HBM and the second to the host. -/
def tables : List Host.Cell := [(0x1000, 1), (0x1001, 0x20), (0x2000, 0x17), (0x2008, 0x1F), (0x200B, 0x40)]

/-- A descriptor image of an administrator queue (06 Table 6.3) at 0x3000, and a launch descriptor (07 Table 7.9) at 0x4000. -/
def images : List Host.Cell :=
  [(0x3008, 0x4), (0x300A, 0x1), (0x300E, 0xFF), (0x300F, 0xFF), (0x3018, 0x4), (0x301A, 0xFF), (0x301B, 0xFF), (0x4001, 0x80),
   (0x4012, 0x8), (0x4014, 0x1), (0x4016, 0x40), (0x4018, 0xFF), (0x4019, 0xFF), (0x403C, 0xFC), (0x403D, 0x3), (0x403E, 0x70), (0x403F, 0xDC)]

/-- The root register of context 3 (ESP of nothing else). -/
def roots : Settings := { regs := [(setPlace 5 0x200 3, ⟨0x1001, 0x1001, 0⟩)], hard := [] }

/-- A trigger descriptor (10 Table 10.10) at 0x6000 and a step descriptor (09 Table 9.6) at 0x6040. -/
def descs : List Host.Cell :=
  [(0x6000, 0x1), (0x6004, 0x2), (0x6006, 0xFF), (0x6007, 0xFF), (0x6008, 0x5), (0x6011, 0x50), (0x6019, 0x70),
   (0x6020, 0x40), (0x603C, 0xD1), (0x603D, 0xB), (0x603E, 0x16), (0x603F, 0xF), (0x6042, 0x4), (0x6048, 0x1),
   (0x607C, 0xA9), (0x607D, 0x67), (0x607E, 0x6A), (0x607F, 0x20)]

/-- A command entry (06 Table 6.4) at 0x6080, and one with a reserved byte at 0x60C0. -/
def entries : List Host.Cell :=
  [(0x6080, 0x1), (0x6084, 0x9), (0x6089, 0x90), (0x6090, 0x48), (0x6098, 0x5), (0x60BC, 0x46), (0x60BD, 0x3),
   (0x60BE, 0xC), (0x60BF, 0xAF), (0x60C0, 0x1), (0x60C3, 0x1), (0x60C4, 0x9), (0x60C9, 0x90), (0x60D0, 0x48),
   (0x60D8, 0x5), (0x60FC, 0x21), (0x60FD, 0x7E), (0x60FE, 0x25), (0x60FF, 0xD6)]

/-- Queue 5: enabled, administrator, its rings in device memory. -/
def queue5 : Queue :=
  { Queue.absent with
    valid := true, enabled := true, devMem := true, priv := 1, cmdLog2 := 4, cplLog2 := 4, ctx := 0xFFFF, running := some 3, msix := 0xFFFF }

/-- A released device with queue 5, its program in slot 3, and context 3. -/
def dev : State :=
  { State.reset with
    queues := [(5, queue5), (1023, Queue.chorno)], progs := [(3, prog)], ctxs := [(3, ctx3)], sets := roots,
    mem := { cells := tables ++ images ++ descs ++ entries, poison := [] } }

/-- `dev` with the program of slot 3 changed. -/
def devP (f : Prog → Prog) : State := { dev with progs := [(3, f prog)] }

/-- The program of slot 3 with other registers, and the device with it. -/
def progR (l : Tbl Word64) : Prog := { prog with regs := l }
def devR (l : Tbl Word64) : State := devP (fun p => { p with regs := l })

/-- A shed at its third word with every lane executing. -/
def shed0 : Shed :=
  { started := true, ended := 0, exec := 0xFFFF, pc := 0x8010, masks := [], calls := [], preds := [(1, 0x00FF)], predP := [],
    regs := [(1, 5), (2, 9)], regP := [], begun := false, closed := false, wait := .none }

/-- Slot 1 of partition 0, on cluster 10, with the given shed. -/
def slotOf (h : Shed) : Slot := { Slot.idle with ctx := 3, launch := 1, logical := 1, host := 10, active := true, ended := false, sheds := [(0, h)] }

/-- The device with launch 1 running on slot 1. -/
def thr (h : Shed) : State := { dev with ctxs := [(3, { ctx3 with launchNo := 1, launches := [launch1] })], slots := [(1, slotOf h)] }

/-- Shed 0 of slot 1 of partition 0. -/
def w1 : ShedRef := ⟨0, 1, 0⟩

/-- The run of a shed that issues. -/
def runOf (s : State) (w : ShedRef) (tv : Bool) (h : (runnable s w tv).isSome = true := by decide) : Run := (runnable s w tv).get h

/-- An open step of context 3 with an input range. -/
def stepOpen : Step := { Step.closed with isOpen := true, ranges := [(0x40000, 1)] }

/-- `thr` inside an open step. -/
def thrStep (h : Shed) : State :=
  { thr h with ctxs := [(3, { ctx3 with launchNo := 1, launches := [launch1], step := stepOpen })] }

/-- A shed with one executing lane, its g1 an address in the first page mapped and g2 a row stride. -/
def shed1 : Shed := { shed0 with exec := 1, regs := [(1, 0x5000), (2, 512)] }

/-- A lane of an execution mask with lane 0 alone. -/
theorem lane_zero {l : Nat} (h : (1 : Half).getLsbD l = true) : l = 0 := by
  rw [show (1 : Half) = 1#16 from rfl, BitVec.getLsbD_one] at h; simpa using h

/-! ### WellFormed refuses ill-formed commands: one field wrong at a time -/

theorem ill_formed_thread_instructions_are_refused_0 :
    ((([.threadEnd w1, .nop w1] : List (T3 → Instr)).all (fun c => ([⟨8, 0, 0, 0, 0, 0⟩, ⟨0, 1, 0, 0, 0, 0⟩, ⟨0, 0, 1, 0, 0, 0⟩, ⟨0, 0, 0, 1, 0, 0⟩, ⟨0, 0, 0, 0, 1, 0⟩, ⟨0, 0, 0, 0, 0, 1⟩] : List T3).all (fun f => !Instr.wf (c f)))) &&
     (([.bars w1, .melse w1, .mend w1, .stepCommit w1] : List (T3 → Instr)).all (fun c => ([⟨1, 0, 0, 0, 0, 0⟩, ⟨0, 1, 0, 0, 0, 0⟩, ⟨0, 0, 1, 0, 0, 0⟩, ⟨0, 0, 0, 1, 0, 0⟩, ⟨0, 0, 0, 0, 1, 0⟩, ⟨0, 0, 0, 0, 0, 1⟩] : List T3).all (fun f => !Instr.wf (c f)))) &&
     (([.threadAdd w1, .threadSub w1, .threadMul w1, .threadMulhu w1, .threadDivu w1, .threadRemu w1, .threadAnd w1, .threadOr w1, .threadXor w1, .threadShl w1, .threadShr w1, .threadSar w1, .min w1, .max w1, .minu w1, .maxu w1, .syAdd w1] : List (T3 → Instr)).all (fun c => ([⟨8, 0, 0, 0, 0, 0⟩, ⟨0, 0, 0, 0, 1, 0⟩, ⟨0, 0, 0, 0, 0, 1⟩] : List T3).all (fun f => !Instr.wf (c f)))) &&
     (([.threadAddi w1, .threadAndi w1, .threadOri w1, .threadXori w1, .threadLdih w1] : List (TI → Instr)).all (fun c => ([⟨8, 0, 0, 0, 0⟩, ⟨0, 0, 0, 1, 0⟩] : List TI).all (fun f => !Instr.wf (c f)))) &&
     (([.threadShli w1, .threadShri w1, .threadSari w1] : List (TI → Instr)).all (fun c => ([⟨8, 0, 0, 0, 0⟩, ⟨0, 0, 0, 1, 0⟩, ⟨0, 0, 0, 0, 64⟩] : List TI).all (fun f => !Instr.wf (c f)))) &&
     (([.threadMovi w1] : List (TI → Instr)).all (fun c => ([⟨8, 0, 0, 0, 0⟩, ⟨0, 0, 0, 1, 0⟩, ⟨0, 0, 1, 0, 0⟩] : List TI).all (fun f => !Instr.wf (c f)))) &&
     (([.sel w1] : List (T3 → Instr)).all (fun c => ([⟨8, 0, 0, 0, 0, 0⟩, ⟨0, 0, 0, 0, 8, 0⟩, ⟨0, 0, 0, 0, 0, 1⟩] : List T3).all (fun f => !Instr.wf (c f)))) &&
     (([.setp w1] : List (T3 → Instr)).all (fun c => ([⟨8, 0, 0, 0, 0, 0⟩, ⟨0, 8, 0, 0, 0, 0⟩, ⟨0, 0, 0, 0, 1, 0⟩, ⟨0, 0, 0, 0, 0, 6⟩] : List T3).all (fun f => !Instr.wf (c f)))) &&
     (([.pand w1, .por w1, .pxor w1] : List (T3 → Instr)).all (fun c => ([⟨8, 0, 0, 0, 0, 0⟩, ⟨0, 8, 0, 0, 0, 0⟩, ⟨0, 0, 8, 0, 0, 0⟩, ⟨0, 0, 0, 8, 0, 0⟩, ⟨0, 0, 0, 0, 1, 0⟩, ⟨0, 0, 0, 0, 0, 1⟩] : List T3).all (fun f => !Instr.wf (c f)))) &&
     (([.pnot w1] : List (T3 → Instr)).all (fun c => ([⟨8, 0, 0, 0, 0, 0⟩, ⟨0, 8, 0, 0, 0, 0⟩, ⟨0, 0, 8, 0, 0, 0⟩, ⟨0, 0, 0, 1, 0, 0⟩, ⟨0, 0, 0, 0, 1, 0⟩, ⟨0, 0, 0, 0, 0, 1⟩] : List T3).all (fun f => !Instr.wf (c f)))) &&
     (([.pmov w1] : List (T3 → Instr)).all (fun c => ([⟨8, 0, 0, 0, 0, 0⟩, ⟨0, 8, 0, 0, 0, 0⟩, ⟨0, 0, 0, 1, 0, 0⟩, ⟨0, 0, 0, 0, 1, 0⟩, ⟨0, 0, 0, 0, 0, 1⟩] : List T3).all (fun f => !Instr.wf (c f)))) &&
     (([.mif w1] : List (T3 → Instr)).all (fun c => ([⟨1, 0, 0, 0, 0, 0⟩, ⟨0, 1, 0, 0, 0, 0⟩, ⟨0, 0, 8, 0, 0, 0⟩, ⟨0, 0, 0, 1, 0, 0⟩, ⟨0, 0, 0, 0, 1, 0⟩, ⟨0, 0, 0, 0, 0, 2⟩] : List T3).all (fun f => !Instr.wf (c f))))) = true := by decide

theorem ill_formed_thread_instructions_are_refused_1 :
    ((([.mbrk w1] : List (T3 → Instr)).all (fun c => ([⟨1, 0, 0, 0, 0, 0⟩, ⟨0, 1, 0, 0, 0, 0⟩, ⟨0, 0, 8, 0, 0, 0⟩, ⟨0, 0, 0, 1, 0, 0⟩, ⟨0, 0, 0, 0, 1, 0⟩, ⟨0, 0, 0, 0, 0, 1⟩] : List T3).all (fun f => !Instr.wf (c f)))) &&
     (([.mget w1] : List (T3 → Instr)).all (fun c => ([⟨1, 0, 0, 0, 0, 0⟩, ⟨0, 8, 0, 0, 0, 0⟩, ⟨0, 0, 1, 0, 0, 0⟩, ⟨0, 0, 0, 1, 0, 0⟩, ⟨0, 0, 0, 0, 1, 0⟩, ⟨0, 0, 0, 0, 0, 1⟩] : List T3).all (fun f => !Instr.wf (c f)))) &&
     (([.br w1, .call w1] : List (TB → Instr)).all (fun c => ([⟨1, 0⟩] : List TB).all (fun f => !Instr.wf (c f)))) &&
     (([.ret w1] : List (TB → Instr)).all (fun c => ([⟨1, 0⟩, ⟨0, 1⟩] : List TB).all (fun f => !Instr.wf (c f)))) &&
     (([fun f => .ldB w1 f Env.quiet, fun f => .ldH w1 f Env.quiet, fun f => .ldW w1 f Env.quiet, fun f => .ldD w1 f Env.quiet] : List (TI → Instr)).all (fun c => ([⟨8, 0, 0, 0, 0⟩, ⟨0, 0, 0, 24, 0⟩, ⟨0, 0, 0, 32, 0⟩] : List TI).all (fun f => !Instr.wf (c f)))) &&
     (([fun f => .ldQ w1 f Env.quiet] : List (TI → Instr)).all (fun c => ([⟨8, 0, 0, 0, 0⟩, ⟨0, 0, 0, 24, 0⟩, ⟨0, 0, 0, 32, 0⟩, ⟨0, 1, 0, 0, 0⟩] : List TI).all (fun f => !Instr.wf (c f)))) &&
     (([fun f => .stB w1 f Env.quiet, fun f => .stH w1 f Env.quiet, fun f => .stW w1 f Env.quiet, fun f => .stD w1 f Env.quiet] : List (TI → Instr)).all (fun c => ([⟨8, 0, 0, 0, 0⟩, ⟨0, 0, 0, 1, 0⟩, ⟨0, 0, 0, 24, 0⟩, ⟨0, 0, 0, 32, 0⟩] : List TI).all (fun f => !Instr.wf (c f)))) &&
     (([fun f => .stQ w1 f Env.quiet] : List (TI → Instr)).all (fun c => ([⟨8, 0, 0, 0, 0⟩, ⟨0, 0, 0, 1, 0⟩, ⟨0, 0, 0, 24, 0⟩, ⟨0, 0, 0, 32, 0⟩, ⟨0, 1, 0, 0, 0⟩] : List TI).all (fun f => !Instr.wf (c f)))) &&
     (([fun f => .atom w1 f Env.quiet] : List (T3 → Instr)).all (fun c => ([⟨8, 0, 0, 0, 0, 0⟩, ⟨0, 0, 0, 0, 0, 32⟩, ⟨0, 0, 0, 0, 0, 10⟩, ⟨0, 0, 0, 0, 1, 0⟩] : List T3).all (fun f => !Instr.wf (c f)))) &&
     (([fun f => .atomf w1 f Env.quiet] : List (T3 → Instr)).all (fun c => ([⟨8, 0, 0, 0, 0, 0⟩, ⟨0, 0, 0, 0, 0, 4⟩, ⟨0, 0, 0, 0, 1, 0⟩] : List T3).all (fun f => !Instr.wf (c f)))) &&
     (([.threadFence w1] : List (T3 → Instr)).all (fun c => ([⟨8, 0, 0, 0, 0, 0⟩, ⟨0, 1, 0, 0, 0, 0⟩, ⟨0, 0, 1, 0, 0, 0⟩, ⟨0, 0, 0, 1, 0, 0⟩, ⟨0, 0, 0, 0, 1, 0⟩, ⟨0, 0, 0, 0, 0, 3⟩] : List T3).all (fun f => !Instr.wf (c f)))) &&
     (([.vadd w1, .vsub w1, .vmul w1, .vmin w1, .vmax w1] : List (T3 → Instr)).all (fun c => ([⟨8, 0, 0, 0, 0, 0⟩, ⟨0, 1, 0, 0, 0, 0⟩, ⟨0, 0, 1, 0, 0, 0⟩, ⟨0, 0, 0, 0, 0, 4⟩, ⟨0, 0, 0, 0, 1, 0⟩] : List T3).all (fun f => !Instr.wf (c f))))) = true := by decide

theorem ill_formed_thread_instructions_are_refused_2 :
    ((([.vfma w1] : List (T3 → Instr)).all (fun c => ([⟨8, 0, 0, 0, 0, 0⟩, ⟨0, 1, 0, 0, 0, 0⟩, ⟨0, 0, 1, 0, 0, 0⟩, ⟨0, 0, 0, 0, 0, 4⟩] : List T3).all (fun f => !Instr.wf (c f)))) &&
     (([.vabs w1, .vneg w1] : List (T3 → Instr)).all (fun c => ([⟨8, 0, 0, 0, 0, 0⟩, ⟨0, 1, 0, 0, 0, 0⟩, ⟨0, 0, 1, 0, 0, 0⟩, ⟨0, 0, 0, 0, 0, 4⟩, ⟨0, 0, 0, 1, 0, 0⟩, ⟨0, 0, 0, 0, 1, 0⟩] : List T3).all (fun f => !Instr.wf (c f)))) &&
     (([.vcvt w1] : List (T3 → Instr)).all (fun c => ([⟨8, 0, 0, 0, 0, 0⟩, ⟨0, 1, 0, 0, 0, 0⟩, ⟨0, 0, 1, 0, 0, 0⟩, ⟨0, 0, 0, 0, 0, 5⟩, ⟨0, 0, 0, 0, 0, 40⟩, ⟨0, 0, 0, 1, 0, 0⟩, ⟨0, 0, 0, 0, 1, 0⟩] : List T3).all (fun f => !Instr.wf (c f)))) &&
     (([.viadd w1, .vimul w1] : List (T3 → Instr)).all (fun c => ([⟨8, 0, 0, 0, 0, 4⟩, ⟨0, 1, 0, 0, 0, 4⟩, ⟨0, 0, 1, 0, 0, 4⟩, ⟨0, 0, 0, 0, 0, 5⟩, ⟨0, 0, 0, 0, 1, 4⟩] : List T3).all (fun f => !Instr.wf (c f)))) &&
     (([.vimad w1] : List (T3 → Instr)).all (fun c => ([⟨8, 0, 0, 0, 0, 4⟩, ⟨0, 1, 0, 0, 0, 4⟩, ⟨0, 0, 1, 0, 0, 4⟩, ⟨0, 0, 0, 0, 0, 5⟩] : List T3).all (fun f => !Instr.wf (c f)))) &&
     (([.vand w1, .vor w1, .vxor w1] : List (T3 → Instr)).all (fun c => ([⟨8, 0, 0, 0, 0, 0⟩, ⟨0, 1, 0, 0, 0, 0⟩, ⟨0, 0, 1, 0, 0, 0⟩, ⟨0, 0, 0, 0, 0, 5⟩, ⟨0, 0, 0, 0, 1, 0⟩] : List T3).all (fun f => !Instr.wf (c f)))) &&
     (([fun f => .tld w1 f Env.quiet] : List (TM → Instr)).all (fun c => ([⟨0, 0, 0, 0, 0, 9⟩, ⟨0, 0, 0, 0, 0, 32⟩, ⟨0, 1, 0, 0, 0, 0⟩, ⟨0, 0, 1, 0, 0, 0⟩] : List TM).all (fun f => !Instr.wf (c f)))) &&
     (([fun f => .tst w1 f Env.quiet] : List (TM → Instr)).all (fun c => ([⟨0, 0, 0, 0, 0, 1⟩, ⟨0, 0, 0, 0, 0, 9⟩, ⟨1, 0, 0, 0, 0, 2⟩, ⟨0, 0, 1, 0, 0, 2⟩] : List TM).all (fun f => !Instr.wf (c f)))) &&
     (([.tmma w1] : List (TM → Instr)).all (fun c => ([⟨0, 0, 0, 0, 0, 1⟩, ⟨0, 0, 0, 0, 1, 0⟩] : List TM).all (fun f => !Instr.wf (c f)))) &&
     (([.tzero w1] : List (TM → Instr)).all (fun c => ([⟨0, 0, 0, 0, 0, 2⟩, ⟨0, 1, 0, 0, 0, 0⟩, ⟨0, 0, 1, 0, 0, 0⟩, ⟨0, 0, 0, 1, 0, 0⟩, ⟨0, 0, 0, 0, 1, 0⟩] : List TM).all (fun f => !Instr.wf (c f)))) &&
     (([fun f => .stepBegin w1 f Env.quiet] : List (T3 → Instr)).all (fun c => ([⟨1, 0, 0, 0, 0, 0⟩, ⟨0, 1, 0, 0, 0, 0⟩, ⟨0, 0, 0, 1, 0, 0⟩, ⟨0, 0, 0, 0, 1, 0⟩, ⟨0, 0, 0, 0, 0, 1⟩] : List T3).all (fun f => !Instr.wf (c f)))) &&
     (([.stepCtr w1] : List (T3 → Instr)).all (fun c => ([⟨1, 0, 0, 0, 0, 0⟩, ⟨0, 0, 1, 0, 0, 0⟩, ⟨0, 0, 0, 1, 0, 0⟩, ⟨0, 0, 0, 0, 1, 0⟩, ⟨0, 0, 0, 0, 0, 1⟩] : List T3).all (fun f => !Instr.wf (c f))))) = true := by decide

theorem ill_formed_thread_instructions_are_refused_3 :
    ((([.ckassert w1] : List (T3 → Instr)).all (fun c => ([⟨8, 0, 0, 0, 0, 0⟩, ⟨0, 1, 0, 0, 0, 0⟩, ⟨0, 0, 0, 0, 0, 1⟩] : List T3).all (fun f => !Instr.wf (c f)))) &&
     (([.ckstat w1] : List (TI → Instr)).all (fun c => ([⟨8, 0, 0, 0, 0⟩, ⟨0, 0, 1, 0, 0⟩, ⟨0, 0, 0, 1, 0⟩] : List TI).all (fun f => !Instr.wf (c f)))) &&
     (([.rng w1] : List (T3 → Instr)).all (fun c => ([⟨8, 0, 0, 0, 0, 0⟩, ⟨0, 0, 0, 0, 1, 0⟩, ⟨0, 0, 0, 0, 0, 1⟩, ⟨0, 1, 0, 0, 0, 0⟩] : List T3).all (fun f => !Instr.wf (c f)))) &&
     (([.syRd w1] : List (T3 → Instr)).all (fun c => ([⟨8, 0, 0, 0, 0, 0⟩, ⟨0, 0, 0, 1, 0, 0⟩, ⟨0, 0, 0, 0, 1, 0⟩, ⟨0, 0, 0, 0, 0, 1⟩] : List T3).all (fun f => !Instr.wf (c f)))) &&
     (([.syWait w1] : List (T3 → Instr)).all (fun c => ([⟨8, 0, 0, 0, 0, 0⟩, ⟨0, 1, 0, 0, 0, 0⟩, ⟨0, 0, 0, 0, 1, 0⟩, ⟨0, 0, 0, 0, 0, 1⟩] : List T3).all (fun f => !Instr.wf (c f)))) &&
     (([fun f => .trigArm w1 f Env.quiet] : List (T3 → Instr)).all (fun c => ([⟨8, 0, 0, 0, 0, 0⟩, ⟨0, 0, 0, 1, 0, 0⟩, ⟨0, 0, 0, 0, 1, 0⟩, ⟨0, 0, 0, 0, 0, 1⟩] : List T3).all (fun f => !Instr.wf (c f))))) = true := by decide

theorem well_formed_thread_instructions_are_taken_0 :
    ((([.threadEnd w1, .nop w1] : List (T3 → Instr)).all (fun c => ([⟨0, 0, 0, 0, 0, 0⟩] : List T3).all (fun f => Instr.wf (c f)))) &&
     (([.bars w1, .melse w1, .mend w1, .stepCommit w1] : List (T3 → Instr)).all (fun c => ([⟨0, 0, 0, 0, 0, 0⟩] : List T3).all (fun f => Instr.wf (c f)))) &&
     (([.threadAdd w1, .threadSub w1, .threadMul w1, .threadMulhu w1, .threadDivu w1, .threadRemu w1, .threadAnd w1, .threadOr w1, .threadXor w1, .threadShl w1, .threadShr w1, .threadSar w1, .min w1, .max w1, .minu w1, .maxu w1, .syAdd w1] : List (T3 → Instr)).all (fun c => ([⟨0, 0, 0, 0, 0, 0⟩] : List T3).all (fun f => Instr.wf (c f)))) &&
     (([.threadAddi w1, .threadAndi w1, .threadOri w1, .threadXori w1, .threadLdih w1] : List (TI → Instr)).all (fun c => ([⟨0, 0, 0, 0, 0⟩] : List TI).all (fun f => Instr.wf (c f)))) &&
     (([.threadShli w1, .threadShri w1, .threadSari w1] : List (TI → Instr)).all (fun c => ([⟨0, 0, 0, 0, 0⟩] : List TI).all (fun f => Instr.wf (c f)))) &&
     (([.threadMovi w1] : List (TI → Instr)).all (fun c => ([⟨0, 0, 0, 0, 0⟩] : List TI).all (fun f => Instr.wf (c f)))) &&
     (([.sel w1] : List (T3 → Instr)).all (fun c => ([⟨0, 0, 0, 0, 0, 0⟩] : List T3).all (fun f => Instr.wf (c f)))) &&
     (([.setp w1] : List (T3 → Instr)).all (fun c => ([⟨0, 0, 0, 0, 0, 0⟩] : List T3).all (fun f => Instr.wf (c f)))) &&
     (([.pand w1, .por w1, .pxor w1] : List (T3 → Instr)).all (fun c => ([⟨0, 0, 0, 0, 0, 0⟩] : List T3).all (fun f => Instr.wf (c f)))) &&
     (([.pnot w1] : List (T3 → Instr)).all (fun c => ([⟨0, 0, 0, 0, 0, 0⟩] : List T3).all (fun f => Instr.wf (c f)))) &&
     (([.pmov w1] : List (T3 → Instr)).all (fun c => ([⟨0, 0, 0, 0, 0, 0⟩] : List T3).all (fun f => Instr.wf (c f)))) &&
     (([.mif w1] : List (T3 → Instr)).all (fun c => ([⟨0, 0, 0, 0, 0, 0⟩] : List T3).all (fun f => Instr.wf (c f))))) = true := by decide

theorem well_formed_thread_instructions_are_taken_1 :
    ((([.mbrk w1] : List (T3 → Instr)).all (fun c => ([⟨0, 0, 0, 0, 0, 0⟩] : List T3).all (fun f => Instr.wf (c f)))) &&
     (([.mget w1] : List (T3 → Instr)).all (fun c => ([⟨0, 0, 0, 0, 0, 0⟩] : List T3).all (fun f => Instr.wf (c f)))) &&
     (([.br w1, .call w1] : List (TB → Instr)).all (fun c => ([⟨0, 0⟩] : List TB).all (fun f => Instr.wf (c f)))) &&
     (([.ret w1] : List (TB → Instr)).all (fun c => ([⟨0, 0⟩] : List TB).all (fun f => Instr.wf (c f)))) &&
     (([fun f => .ldB w1 f Env.quiet, fun f => .ldH w1 f Env.quiet, fun f => .ldW w1 f Env.quiet, fun f => .ldD w1 f Env.quiet] : List (TI → Instr)).all (fun c => ([⟨0, 0, 0, 0, 0⟩] : List TI).all (fun f => Instr.wf (c f)))) &&
     (([fun f => .ldQ w1 f Env.quiet] : List (TI → Instr)).all (fun c => ([⟨0, 0, 0, 0, 0⟩] : List TI).all (fun f => Instr.wf (c f)))) &&
     (([fun f => .stB w1 f Env.quiet, fun f => .stH w1 f Env.quiet, fun f => .stW w1 f Env.quiet, fun f => .stD w1 f Env.quiet] : List (TI → Instr)).all (fun c => ([⟨0, 0, 0, 0, 0⟩] : List TI).all (fun f => Instr.wf (c f)))) &&
     (([fun f => .stQ w1 f Env.quiet] : List (TI → Instr)).all (fun c => ([⟨0, 0, 0, 0, 0⟩] : List TI).all (fun f => Instr.wf (c f)))) &&
     (([fun f => .atom w1 f Env.quiet] : List (T3 → Instr)).all (fun c => ([⟨0, 0, 0, 0, 0, 0⟩] : List T3).all (fun f => Instr.wf (c f)))) &&
     (([fun f => .atomf w1 f Env.quiet] : List (T3 → Instr)).all (fun c => ([⟨0, 0, 0, 0, 0, 0⟩] : List T3).all (fun f => Instr.wf (c f)))) &&
     (([.threadFence w1] : List (T3 → Instr)).all (fun c => ([⟨0, 0, 0, 0, 0, 0⟩] : List T3).all (fun f => Instr.wf (c f)))) &&
     (([.vadd w1, .vsub w1, .vmul w1, .vmin w1, .vmax w1] : List (T3 → Instr)).all (fun c => ([⟨0, 0, 0, 0, 0, 0⟩] : List T3).all (fun f => Instr.wf (c f))))) = true := by decide

theorem well_formed_thread_instructions_are_taken_2 :
    ((([.vfma w1] : List (T3 → Instr)).all (fun c => ([⟨0, 0, 0, 0, 0, 0⟩] : List T3).all (fun f => Instr.wf (c f)))) &&
     (([.vabs w1, .vneg w1] : List (T3 → Instr)).all (fun c => ([⟨0, 0, 0, 0, 0, 0⟩] : List T3).all (fun f => Instr.wf (c f)))) &&
     (([.vcvt w1] : List (T3 → Instr)).all (fun c => ([⟨0, 0, 0, 0, 0, 0⟩] : List T3).all (fun f => Instr.wf (c f)))) &&
     (([.viadd w1, .vimul w1] : List (T3 → Instr)).all (fun c => ([⟨0, 0, 0, 0, 0, 4⟩] : List T3).all (fun f => Instr.wf (c f)))) &&
     (([.vimad w1] : List (T3 → Instr)).all (fun c => ([⟨0, 0, 0, 0, 0, 4⟩] : List T3).all (fun f => Instr.wf (c f)))) &&
     (([.vand w1, .vor w1, .vxor w1] : List (T3 → Instr)).all (fun c => ([⟨0, 0, 0, 0, 0, 0⟩] : List T3).all (fun f => Instr.wf (c f)))) &&
     (([fun f => .tld w1 f Env.quiet] : List (TM → Instr)).all (fun c => ([⟨0, 0, 0, 0, 0, 0⟩] : List TM).all (fun f => Instr.wf (c f)))) &&
     (([fun f => .tst w1 f Env.quiet] : List (TM → Instr)).all (fun c => ([⟨0, 0, 0, 0, 0, 2⟩] : List TM).all (fun f => Instr.wf (c f)))) &&
     (([.tmma w1] : List (TM → Instr)).all (fun c => ([⟨0, 0, 0, 0, 0, 0⟩] : List TM).all (fun f => Instr.wf (c f)))) &&
     (([.tzero w1] : List (TM → Instr)).all (fun c => ([⟨0, 0, 0, 0, 0, 0⟩] : List TM).all (fun f => Instr.wf (c f)))) &&
     (([fun f => .stepBegin w1 f Env.quiet] : List (T3 → Instr)).all (fun c => ([⟨0, 0, 0, 0, 0, 0⟩] : List T3).all (fun f => Instr.wf (c f)))) &&
     (([.stepCtr w1] : List (T3 → Instr)).all (fun c => ([⟨0, 0, 0, 0, 0, 0⟩] : List T3).all (fun f => Instr.wf (c f))))) = true := by decide

theorem well_formed_thread_instructions_are_taken_3 :
    ((([.ckassert w1] : List (T3 → Instr)).all (fun c => ([⟨0, 0, 0, 0, 0, 0⟩] : List T3).all (fun f => Instr.wf (c f)))) &&
     (([.ckstat w1] : List (TI → Instr)).all (fun c => ([⟨0, 0, 0, 0, 0⟩] : List TI).all (fun f => Instr.wf (c f)))) &&
     (([.rng w1] : List (T3 → Instr)).all (fun c => ([⟨0, 0, 0, 0, 0, 0⟩] : List T3).all (fun f => Instr.wf (c f)))) &&
     (([.syRd w1] : List (T3 → Instr)).all (fun c => ([⟨0, 0, 0, 0, 0, 0⟩] : List T3).all (fun f => Instr.wf (c f)))) &&
     (([.syWait w1] : List (T3 → Instr)).all (fun c => ([⟨0, 0, 0, 0, 0, 0⟩] : List T3).all (fun f => Instr.wf (c f)))) &&
     (([fun f => .trigArm w1 f Env.quiet] : List (T3 → Instr)).all (fun c => ([⟨0, 0, 0, 0, 0, 0⟩] : List T3).all (fun f => Instr.wf (c f))))) = true := by decide

set_option maxRecDepth 4000 in
/-- The first value out of range of each numbered unit. -/
theorem ill_formed_events_are_refused :
    [Instr.domainSwitchComplete 1121 true, .domainSwitchFail 1121, .sensorMeasure 67 [], .sensorConversionTimeout 597,
     .sensorReferenceCheck 597 true, .fastCadenceEnd 67, .tripVote 3, .tripVoterBroken 3, .tripVoteCleared 3, .bypassOpenFail 3,
     .bypassCloseFail 3, .extestEnter 3, .extestExit 3, .bistPhaseTimeout 1121, .triggeredOpComplete 18 Env.quiet,
     .patrolScrubRead 6 .clean true, .scrubLate 6, .scrubWindowExpiry 6, .scratchpadScrub 0 32768 .clean,
     .flitGroupReceive 6 ⟨1, 0, 0, 0, 0, 0, 0, [], true⟩, .replayTimeout 6, .alignSend 6, .timeFlitSend 6,
     .timeFlitReceive 6 ⟨0, 0, 0, 0, 0, 0, 0⟩, .linkTrainStart 6, .linkTrained 6 ⟨0, 0, 0⟩, .linkTrainTimeout 6, .linkTrainRetry 6,
     .linkDown 6 1, .linkKeepExpiry 6, .linkOpReceive 6 ⟨0, 0, 0, 0, 0, 0, false, false, [], []⟩ Env.quiet, .linkOpReplyReceive 6 0 true,
     .pair ⟨6, 0, 0⟩ 0 0, .digest ⟨6, 0, 0⟩ 0 0 [], .locate ⟨6, 0, 0⟩ 0 [], .pairEnd ⟨6, 0, 0⟩, .form 6 ⟨0, 0, 0, 0, 0, 0⟩,
     .collectiveGrant ⟨6, 0, 0, 0, 0⟩ 0 0, .pieceReceive ⟨6, 0, 0, 0, 0⟩ ⟨0, 0, 0, false, [], 0, false, false, false⟩,
     .chunkReceive ⟨6, 0, 0, 0, 0⟩ ⟨0, 0, 0, false, [], 0, false, false, false⟩, .abort ⟨6, 0, 0, 0, 0⟩ 1,
     .programSeg ⟨0, 0⟩ 0 0 1 [], .programSeg ⟨0, 0⟩ 0 0 1 (List.replicate 257 0), .grant ⟨0, 0⟩ 0 2, .readSetting ⟨0, 0⟩ 0 0 0,
     .readSetting ⟨0, 0⟩ 0 0 8, .recRead ⟨0, 0⟩ 4 0, .packData ⟨0, 0⟩ 0 0 (List.replicate 255 0), .mfrRecPtr 4 0 true].all
      (fun i => !Instr.wf i) = true := by decide

/-- The first immediate out of range, an undefined block, and an index register where the indexed flag is clear. -/
theorem ill_formed_hexah_instructions_are_refused :
    [Instr.shli 0 1 1 64, .shri 0 1 1 64, .sari 0 1 1 64, .rds 0 1 ⟨17, 0, false, 0⟩, .rdst 0 1 ⟨17, 0, false, 0⟩,
     .stage 0 1 ⟨17, 0, false, 0⟩, .wri 0 1 ⟨17, 0, false, 0⟩, .rds 0 1 ⟨1, 0, false, 2⟩, .rdst 0 1 ⟨1, 0, false, 2⟩,
     .stage 0 1 ⟨1, 0, false, 2⟩, .wri 0 1 ⟨1, 0, false, 2⟩, .commit 0 1 2, .ctxnew 0 1 2 3 64, .wait 0 1 2 3 0x80000000, .pwrdom 0 1 2 3,
     .acct 0 2, .bkey 0 4, .cstate 0 1 2 4 true, .fkey 0 1 2 3 0 Env.quiet, .fkey 0 1 2 3 4 Env.quiet, .log 0 1 2 6 Env.quiet].all
      (fun i => !Instr.wf i) = true := by decide

/-- The last value in range is taken. -/
theorem well_formed_commands_are_taken :
    [Instr.domainSwitchFail 1120, .sensorMeasure 66 [], .sensorConversionTimeout 596, .tripVote 2, .bypassOpenFail 2,
     .triggeredOpComplete 17 Env.quiet, .scrubLate 5, .scratchpadScrub 0 32767 .clean, .replayTimeout 5, .programSeg ⟨0, 0⟩ 0 0 1 [0],
     .readSetting ⟨0, 0⟩ 0 0 7, .recRead ⟨0, 0⟩ 3 0, .shli 0 1 1 63, .rds 0 1 ⟨16, 0, true, 2⟩, .commit 0 1 1, .wait 0 1 2 3 1,
     .fkey 0 1 2 3 3 Env.quiet, .log 0 1 2 5 Env.quiet].all Instr.wf = true := by decide

/-! ### Words written out from the encodings -/

/-- Hexah: a word of each kind of instruction, from Table 7.2 (opcode [63:56], rd [55:51], ra [50:46], rb [45:41], block [40:36], index
[35:24], immediate [31:0]) and the opcodes of Tables 7.4 to 7.9. -/
theorem test_hexah_words_decode :
    ([(0x0100000000000000, .endProg 3), (0x10298E0000000000, .add 3 5 6 7), (0x20298000FFFFFFFF, .addi 3 5 6 0xFFFFFFFF),
      (0x30018E00FFFFFFFF, .beq 3 6 7 0xFFFFFFFF), (0x4029800000000008, .ld 3 5 6 8 Env.quiet), (0x42018E0000000008, .st 3 6 7 8),
      (0x5200802010000000, .stage 3 2 ⟨2, 0x010, false, 0⟩), (0x502802B000800000, .rds 3 5 ⟨11, 0, true, 1⟩), (0x6001800000000000, .ctxsel 3 6),
      (0x6429800000000003, .qctlDestroy 3 5 6), (0x76298E0080000064, .wait 3 5 6 7 0x80000064), (0x8129800000000004, .resetChip 3 5 6),
      (0xA329800000000002, .cstate 3 5 6 2 true), (0xB1298E0000000000, .send 3 5 6 7 Env.quiet)] : List (Word64 × Instr)).all
      (fun e => decodeHexah 3 Env.quiet true e.1 == some e.2) = true := by decide

/-- Words that 07 R245 calls undefined: opcode 0x00, a bit in a field shown as 0, a register that is not used, an immediate out of
range. -/
theorem test_undefined_hexah_words_do_not_decode :
    ([0x0000000000000000, 0x10298E0000000001, 0x0108000000000000, 0x2429800000000040, 0xFF00000000000000] : List Word64).all
      (fun w => decodeHexah 3 Env.quiet true w == none) = true := by decide

/-- Threads: a word of each format and pipe, from Table 10.2 and the opcodes of Tables 10.3 to 10.11. -/
theorem test_thread_words_decode :
    ([(0x1090420C00000000, .threadAdd w1 ⟨9, 1, 2, 3, 0, 0⟩), (0x0300000000000000, .bars w1 ⟨0, 0, 0, 0, 0, 0⟩),
      (0x3800020000100000, .mif w1 ⟨0, 0, 2, 0, 0, 1⟩), (0x41000100FFFFFFFE, .bany w1 ⟨1, 0xFFFFFFFE⟩),
      (0x7208085000000000, .tmma w1 ⟨4, 0, 1, 20, 0, 0⟩), (0x7300000000100000, .tzero w1 ⟨0, 0, 0, 0, 0, 1⟩),
      (0x8000020000000000, .stepBegin w1 ⟨0, 0, 2, 0, 0, 0⟩ Env.quiet), (0x8400400000000002, .ckstat w1 ⟨0, 1, 0, 0, 2⟩),
      (0x9000420C00000000, .syAdd w1 ⟨0, 1, 2, 3, 0, 0⟩)] : List (Word64 × Instr)).all
      (fun e => decodeThread w1 Env.quiet e.1 == some e.2) = true := by decide

/-- Words that 10 R344 calls undefined: opcode 0x00, a mod value that is not listed, a guard of 0b1000, a shed instruction with a
guard. -/
theorem test_undefined_thread_words_do_not_decode :
    ([0x0000000000000000, 0x1000420C00100000, 0x1080420C00000000, 0x0310000000000000] : List Word64).all
      (fun w => decodeThread w1 Env.quiet w == none) = true := by decide


/-! ### The block -/

theorem witness_StepRunsFrontCommand :
    ({ State.reset with pending := [.stateChange, .pwrWarn] } : State).pending = Instr.stateChange :: [.pwrWarn] := by decide

theorem witness_EveryStepGoesOn_IdleStepPassesANanosecond :
    State.reset.pending = [] ∧ State.reset.phase ≠ .off ∧ ({ State.reset with phase := .off } : State).phase = .off := by decide

theorem witness_EveryStepKeepsMemoryCanonical : memCanonical dev ∧ step dev = .next (tick dev) := by
  dsimp only [memCanonical]; exact ⟨by decide, rfl⟩

theorem witness_HexahWordsRoundTrip :
    Instr.wf (.addi 3 5 6 0xFFFFFFFF) = true ∧ encodeHexah (.addi 3 5 6 0xFFFFFFFF) = some 0x20298000FFFFFFFF ∧
    decodeHexah 3 Env.quiet false 0x20298000FFFFFFFF = some (.addi 3 5 6 0xFFFFFFFF) := by decide

theorem witness_ThreadWordsRoundTrip :
    Instr.wf (.threadAdd w1 ⟨9, 1, 2, 3, 0, 0⟩) = true ∧ (encodeThread (.threadAdd w1 ⟨9, 1, 2, 3, 0, 0⟩)).isSome ∧
    (decodeThread w1 Env.quiet ((encodeThread (.threadAdd w1 ⟨9, 1, 2, 3, 0, 0⟩)).getD 0)).isSome := by decide

/-! ### Hexah programs -/

theorem witness_HexahRegisterInstructionsWriteRd :
    issues dev 3 prog ∧ hasNext prog := by
  dsimp only [issues, hasNext]; decide

theorem witness_HexahImmediateInstructionsWriteRd :
    issues dev 3 prog ∧ hasNext prog ∧ (63 : Word32).toNat < 64 ∧ 64 ≤ (64 : Word32).toNat := by
  dsimp only [issues, hasNext]; decide

theorem witness_HexahControlTransfersKeepToTheProgram_within :
    issues dev 3 prog ∧ (0 : Nat) < prog.words ∧ prog.reg 4 = 40 ∧
    ((0 : Nat) : Int) = (prog.index : Int) + (0xFFFFFFFE : Word32).toInt ∧ ((8 : Nat) : Int) = (prog.index : Int) + (6 : Word32).toInt ∧
    ((3 : Nat) : Int) = (prog.index : Int) + 1 ∧ (prog.reg 1).toNat = 7 := by
  dsimp only [issues]; decide

theorem witness_HexahControlTransfersKeepToTheProgram_outside :
    issues dev 3 prog ∧ (prog.index : Int) + (0xFFFFFFFD : Word32).toInt < 0 ∧ (prog.words : Int) ≤ (prog.index : Int) + (7 : Word32).toInt ∧
    prog.words ≤ (prog.reg 4).toNat ∧ (prog.reg 1).toInt < (prog.reg 4).toInt ∧ (prog.reg 2) = prog.reg 3 ∧
    issues (devP (fun p => { p with index := 8 })) 3 { prog with index := 8 } ∧ ({ prog with index := 8 } : Prog).words ≤ 8 + 1 := by
  dsimp only [issues]; decide

theorem witness_HexahMemoryInstructions :
    issues dev 3 prog ∧ hasNext prog ∧ progRead dev prog (prog.reg 4 + (0 : Word32).signExtend 64) 8 8 Env.quiet = (.ok [0, 0, 0, 0, 0, 0, 0, 0], dev) ∧
    progRead dev prog (prog.reg 4 + (0 : Word32).signExtend 64) 4 4 Env.quiet = (.ok [0, 0, 0, 0], dev) ∧
    (progRead dev prog (prog.reg 1 + (0 : Word32).signExtend 64) 8 8 Env.quiet).1 = .bad 0x000D ∧
    (progRead dev prog (prog.reg 1 + (0 : Word32).signExtend 64) 4 4 Env.quiet).1 = .bad 0x000D ∧
    (prog.reg 1 + (0 : Word32).signExtend 64).toNat % 4 ≠ 0 ∧
    queuePlaces dev (getQ dev prog.queue) Env.quiet (8 / 4096 + 2) hbmSize 8 = none ∧
    (prog.reg 4 + (0 : Word32).signExtend 64).toNat % 8 = 0 ∧ (getQ dev prog.queue).devMem = true ∧ (getQ dev prog.queue).priv ≠ 0 ∧
    40 + 8 ≤ hbmSize ∧ hbmUp dev 40 = true := by
  dsimp only [issues, hasNext]; decide

theorem witness_HexahMemoryInstructions_noStep (c : Nat) : (getC dev c).step.isOpen = false := by
  show (Tbl.get Ctx.free [(3, ctx3)] c).step.isOpen = false
  unfold Tbl.get; split <;> rfl

/-! ### Settings -/

/-- The setting 2:0x011 (ST), 0:0x020 (IM, per-context), 2:0x010 (HD), 0:0x000 (RO), and an unassigned index. -/
def setSt : SetRef := ⟨2, 0x011, false, 0⟩
def setIm : SetRef := ⟨0, 0x020, false, 0⟩
def setHd : SetRef := ⟨2, 0x010, false, 0⟩
def setRo : SetRef := ⟨0, 0x000, false, 0⟩
def setNone : SetRef := ⟨0, 0xFFF, false, 0⟩
/-- The row and index that a program names. -/
def rowOf (x : SetRef) (h : (resolve prog x).isSome = true := by decide) : SetRow × Nat := (resolve prog x).get h
/-- A staged write of 2:0x011. -/
def stagedSt : Staged := ⟨2, 0x011, 0xFFFF, 0x300, 0⟩

theorem witness_SettingAccessesKeepToTheirRules :
    issues dev 3 prog ∧ prog.priv < 2 ∧ hasNext prog ∧ SetRef.ok setSt = true ∧ resolve prog setSt = some (rowOf setSt) ∧
    ((rowOf setSt).1.perCtx = true → prog.sel < 256) ∧ ¬ ((rowOf setSt).1.blk = 12 ∧ (rowOf setSt).2 = 0x17) ∧
    issues (devP (fun p => { p with staged := [stagedSt] })) 3 { prog with staged := [stagedSt] } ∧
    stagedOf [stagedSt] (rowOf setSt).1.blk (rowOf setSt).2 0xFFFF = some stagedSt ∧ stagedOf [] (rowOf setSt).1.blk (rowOf setSt).2 0xFFFF = none ∧
    resolve prog setNone = none ∧ SetRef.ok setNone = true ∧
    (rowOf setIm).1.perCtx = true ∧ issues (devP (fun p => { p with sel := 0xFFFF })) 3 { prog with sel := 0xFFFF } ∧ 256 ≤ 0xFFFF ∧
    resolve { prog with sel := 0xFFFF } setIm = some (rowOf setIm) ∧ SetRef.ok setIm = true ∧
    (rowOf setRo).1.cls ≠ .im ∧ (rowOf setRo).1.cls ≠ .w1c ∧ (rowOf setRo).1.cls ≠ .st ∧ (rowOf setRo).1.cls ≠ .hd := by
  dsimp only [issues, hasNext]; decide

theorem witness_StagingAndImmediateWrites :
    issues dev 3 prog ∧ hasNext prog ∧ resolve prog setSt = some (rowOf setSt) ∧ (rowOf setSt).1.cls = .st ∧ (rowOf setHd).1.cls = .hd ∧
    resolve prog setHd = some (rowOf setHd) ∧ (rowOf setHd).1.priv ≤ prog.priv ∧ (rowOf setSt).1.priv ≤ prog.priv ∧
    ¬ ((rowOf setHd).1.blk = 7 ∧ (rowOf setHd).1.cls = .hd ∧ (rowOf setHd).1.priv = 4) ∧ (rowOf setSt).1.blk ≠ 7 ∧
    (rowOf setSt).1.perCtx = false ∧ (rowOf setHd).1.perCtx = false ∧
    stagedOf prog.staged 2 0x011 0xFFFF = none ∧ prog.staged.length < 1024 ∧ stagedOf [stagedSt] 2 0x011 0xFFFF = some stagedSt ∧
    firstRule dev { prog with staged := [stagedSt] } = 0 ∧ firstRule dev { prog with staged := [stagedSt], overfull := true } ≠ 0 ∧
    issues (devP (fun p => { p with staged := [stagedSt], overfull := true })) 3 { prog with staged := [stagedSt], overfull := true } ∧
    resolve prog setIm = some (rowOf setIm) ∧ (rowOf setIm).1.cls = .im ∧ Nat.min 2 (rowOf setIm).1.priv ≤ prog.priv ∧ (rowOf setIm).1.priv ≠ 3 ∧
    (rowOf setIm).1.blk ≠ 4 ∧ (rowOf setIm).1.blk ≠ 11 ∧ (rowOf setIm).1.blk ≠ 12 ∧
    prog.sel < 256 ∧ isFenced dev prog.sel = false ∧ (getC dev prog.sel).inUse = true := by
  dsimp only [issues, hasNext]; decide

theorem witness_StagingAndImmediateWrites_full : (List.replicate 1024 stagedSt).length = 1024 ∧
    stagedOf (List.replicate 1024 stagedSt) 2 0x010 0xFFFF = none := by
  refine ⟨by simp, ?_⟩
  simp only [stagedOf, List.find?_eq_none]
  intro x hx
  rw [List.mem_replicate] at hx
  rw [hx.2]
  decide

theorem witness_RecorderPerfAndInjectWrites :
    issues dev 3 prog ∧ hasNext prog ∧ 1 ≤ prog.priv ∧ (prog.reg 1).getLsbD 0 = true ∧ (prog.reg 4).getLsbD 0 = false ∧
    dev.rcd.frozen = false ∧ ringOff dev ∧ dev.rcd.ring.length < 16320 ∧ ({ dev with rcd := { dev.rcd with frozen := true } } : State).rcd.frozen = true ∧
    ringOff { dev with rcd := { dev.rcd with frozen := true } } ∧ issues { dev with rcd := { dev.rcd with frozen := true } } 3 prog ∧
    ({ dev with rcd := { dev.rcd with readPtr := 0x2000000000000000 } } : State).rcd.readPtr.getLsbD 61 = true ∧
    prog.sel < 256 ∧ isFenced dev prog.sel = false ∧ (getC dev prog.sel).inUse = true ∧
    (1 : Word64).toNat % 4 = 1 ∧ (2 : Word64).toNat % 4 = 2 ∧ (prog.reg 1).toNat % 4 = 3 ∧
    issues (devP (fun p => { p with priv := 2 })) 3 { prog with priv := 2 } := by
  dsimp only [issues, hasNext, ringOff]; decide

/-! ### The commit -/

/-- Slot 3 waits for the token with one staged write. -/
def committer (soft : Bool) (l : List Staged) : Prog := { prog with staged := l, wait := .commit 6 soft }
def devC (soft : Bool) (l : List Staged) : State :=
  { dev with progs := [(3, committer soft l)], trd := { dev.trd with tokenQ := [3] } }
/-- A reset that fences context 3. -/
def fence3 : ResetRun :=
  { level := 0, target := 3, cause := 0, ctxs := [3], engines := [], raised := 0, budget := 100, drainEnd := none, completed := 0,
    aborted := 0, seqNo := 1, escalated := false, overrun := false, restarted := false, merged := false, counts := false, waiters := [],
    handlers := [], origin := 0xFFFF, fn := none, snapshot := [] }
def staged3 : Staged := ⟨0, 0x040, 3, 1, 0⟩
def stagedHd : Staged := ⟨2, 0x010, 0xFFFF, 0x695F, 0⟩

theorem witness_CommitsGoLiveTogether :
    issues dev 3 prog ∧ (1 : Word32).toNat ≤ 1 ∧ prog.staged = [] ∧ hasNext prog ∧
    issues (devP (fun p => { p with staged := [stagedSt] })) 3 { prog with staged := [stagedSt] } ∧ ([stagedSt] : List Staged) ≠ [] ∧
    stagedAbove { prog with staged := [stagedSt], priv := 0 } = true ∧ stagedAbove { prog with staged := [stagedSt] } = false ∧
    stagedFenced { devP (fun p => { p with staged := [staged3] }) with rst := { dev.rst with runs := [(0, fence3)] } }
    { prog with staged := [staged3] } = true ∧ stagedAbove { prog with staged := [staged3] } = false ∧
    issues { devP (fun p => { p with staged := [staged3] }) with rst := { dev.rst with runs := [(0, fence3)] } } 3 { prog with staged := [staged3] } ∧
    stagedFenced dev { prog with staged := [stagedSt] } = false ∧
    tokenHead (devC false [stagedSt]) = some ((3 : BitVec 6).toNat, committer false [stagedSt], 6, false) ∧ hasNext (committer false [stagedSt]) ∧
    stagedFenced (devC false [stagedSt]) (committer false [stagedSt]) = false ∧ firstRule (devC false [stagedSt]) (committer false [stagedSt]) = 0 ∧
    plainSetting stagedSt.blk stagedSt.idx ∧ stagedSt.idx < 4096 ∧
    (setRow stagedSt.blk stagedSt.idx).elim false (fun r => stagedSt.val &&& BitVec.ofNat 64 r.mask == stagedSt.val) = true ∧
    ([stagedSt].map (fun e => setPlace e.blk e.idx (if isHd e.blk e.idx then 0 else ctxOr0 e.ctx))).Nodup := by
  dsimp only [issues, hasNext, plainSetting]; decide

theorem witness_FailedCommitsChangeNoSetting :
    tokenHead (devC true [{ stagedSt with gen := 5 }]) = some ((3 : BitVec 6).toNat, committer true [{ stagedSt with gen := 5 }], 6, true) ∧
    hasNext (committer true [{ stagedSt with gen := 5 }]) ∧
    stagedFenced (devC true [{ stagedSt with gen := 5 }]) (committer true [{ stagedSt with gen := 5 }]) = false ∧
    firstRule (devC true [{ stagedSt with gen := 5 }]) (committer true [{ stagedSt with gen := 5 }]) ≠ 0 ∧
    tokenHead (devC true [stagedHd]) = some ((3 : BitVec 6).toNat, committer true [stagedHd], 6, true) ∧
    firstRule (devC true [stagedHd]) (committer true [stagedHd]) = 0 ∧ isHd stagedHd.blk stagedHd.idx = true ∧ (committer true [stagedHd]).staged.head? = some stagedHd ∧ calm (devC true [stagedHd]) ∧
    stagedFenced (devC true [stagedHd]) (committer true [stagedHd]) = false ∧
    (10 : BitVec 16).toNat ≤ 1120 ∧ domState (devC true [stagedHd]) (10 : BitVec 16).toNat = 1 ∧
    isFencedEngine (devC true [stagedHd]) (10 : BitVec 16).toNat = false := by
  dsimp only [hasNext, calm, ringOff, pipelineEmpty, ringOpen]; decide

/-- The device with the stored copies of 2:0x010. -/
def devH (c : HdCell) : State := { dev with sets := { dev.sets with hard := [(setPlace 2 0x10 0, c)] } }

theorem witness_StoredSettingsAreRepaired :
    isHd (2 : BitVec 5).toNat (0x10 : BitVec 12).toNat = true ∧ (devH ⟨5, 5, 5, 5, 0⟩).trd.owner = true ∧ (devH ⟨5, 5, 5, 5, 0⟩).phase = .run ∧
    ringOff (devH ⟨5, 5, 5, 5, 0⟩) ∧ ringOpen (devH ⟨5, 5, 5, 5, 0⟩) ∧
    hdCell (devH ⟨5, 5, 5, 5, 0⟩) 2 0x10 = ⟨5, 5, 5, 5, 0⟩ ∧ majority ⟨4, 5, 5, 5, 0⟩ = some 5 ∧ majority ⟨5, 5, 5, 4, 0⟩ = some 5 ∧
    majority ⟨4, 5, 6, 6, 0⟩ = none ∧ hdCell (devH ⟨4, 5, 6, 6, 0⟩) 2 0x10 = ⟨4, 5, 6, 6, 0⟩ ∧
    (setRow (2 : BitVec 5).toNat (0x11 : BitVec 12).toNat).elim false (fun r => decide (r.cls = .st)) = true ∧
    (setCell dev 3 0x21 0).image.toNat % 2 = 0 ∧ dev.trd.owner = true ∧ dev.phase = .run ∧ ringOff dev ∧ ringOpen dev := by
  dsimp only [ringOff, ringOpen]; decide

/-! ### Contexts, queues, launches and synchronisation -/

/-- The program at operator privilege, with h1. -/
def opR (l : Tbl Word64) : Prog := { progR l with priv := 2 }
def devO (l : Tbl Word64) : State := devP (fun p => { p with priv := 2, regs := l })

theorem witness_ContextsAndQueuesAreCreated_context :
    issues dev 3 prog ∧ hasNext prog ∧ 1 ≤ prog.priv ∧ (prog.reg 4).toNat % 65536 < 256 ∧
    issues (devR [(1, 0xFFFF), (2, 0xFFFE)]) 3 (progR [(1, 0xFFFF), (2, 0xFFFE)]) ∧ ((progR [(1, 0xFFFF)]).reg 1).toNat % 65536 = 0xFFFF ∧
    256 ≤ ((progR [(2, 0xFFFE)]).reg 2).toNat % 65536 ∧ (0xFFFE : Nat) ≠ 0xFFFF ∧
    (getC dev 3).inUse = true ∧ (getC dev 40).inUse = false ∧ (prog.reg 4).toNat = 40 ∧ partDefined dev (partOf 40) = false ∧
    (prog.reg 1).toNat = 7 ∧ (getC dev 7).inUse = false ∧ partDefined dev (partOf 7) = true ∧ fnEnabled dev (1 : Word32).toNat = false ∧
    fnEnabled dev (0 : Word32).toNat = true ∧ espOff dev ∧ prog.sel < 256 ∧ isFenced dev prog.sel = false ∧ (getC dev prog.sel).inUse = true := by
  dsimp only [issues, hasNext, espOff]; decide

theorem witness_ContextsAndQueuesAreCreated_queue :
    issues (devR [(1, 7), (2, 0x3000), (5, 5)]) 3 (progR [(1, 7), (2, 0x3000), (5, 5)]) ∧
    (progRead dev prog 0x3000 48 8 Env.quiet).2 = dev ∧ progRead dev prog 0x3000 48 8 Env.quiet = (.ok (memGets dev 0x3000 48), dev) ∧
    (getQ dev 5).valid = true ∧ (getQ dev 7).valid = false ∧ imageOk dev (memGets dev 0x3000 48) = true ∧ imageOk dev (List.replicate 48 0) = false ∧
    ringOff dev ∧ (getQ dev 5).entries = [] ∧ (getQ dev 5).enabled = true ∧ (getQ dev 5).running ≠ none ∧ prog.queue = 5 ∧ (getQ dev 1023).valid = true ∧
    (getQ dev 1023).enabled = true := by
  dsimp only [issues, ringOff]; decide

theorem witness_ContextsAndQueuesAreCreated_descriptor :
    calm dev ∧ badDescriptor dev 5 = true ∧ badDescriptor { dev with queues := [(5, { queue5 with crc := crc32c queue5.image })] } 5 = false := by
  dsimp only [calm, ringOff, pipelineEmpty, ringOpen]; decide +kernel

theorem witness_ContextsAndQueuesAreCreated_otherQueue :
    let s : State := { dev with queues := [(5, queue5), (9, { queue5 with running := none, enabled := false }), (1023, Queue.chorno)] }
    issues s 3 prog ∧ (getQ s 9).valid = true ∧ (9 : Nat) ≠ prog.queue ∧ (getQ s 9).enabled = false ∧ (getQ s 9).running = none ∧
      (getQ s 9).pendRec = none := by
  dsimp only [issues]; decide

theorem witness_ContextsAndQueuesAreCreated_noContext :
    issues (devP (fun p => { p with sel := 0xFFFF })) 3 { prog with sel := 0xFFFF } ∧ 256 ≤ ({ prog with sel := 0xFFFF } : Prog).sel ∧
    issues { dev with rst := { dev.rst with runs := [(0, fence3)] } } 3 prog ∧ isFenced { dev with rst := { dev.rst with runs := [(0, fence3)] } } 3 = true ∧
    issues (devP (fun p => { p with sel := 4 })) 3 { prog with sel := 4 } ∧ isFenced dev 4 = false ∧ (getC dev 4).inUse = false := by
  dsimp only [issues]; decide

/-- A program that waits for object 2 of context 3 to reach 5. -/
def waiter (soft : Bool) (d : Nat) : Prog := { prog with wait := .object 3 2 5 d (6 : BitVec 5).toNat soft }
def devW (soft : Bool) (d : Nat) (v : Word64) : State :=
  { dev with progs := [(3, waiter soft d)], ctxs := [(3, { ctx3 with sync := [(2, v)] })], aon := 1000 }

theorem witness_ObjectsWaitsAndLaunches_objects :
    issues dev 3 prog ∧ hasNext prog ∧ prog.sel < 256 ∧ isFenced dev prog.sel = false ∧ (getC dev prog.sel).inUse = true ∧
    ¬ ((getC dev 3).step.isOpen = true) ∧ (getC dev 3).launches = [] ∧ (getC (thrStep shed0) 3).step.isOpen = true ∧
    issues (thrStep shed0) 3 prog ∧ (getC (thr shed0) 3).launches.any (fun l => l.started) = true := by
  dsimp only [issues, hasNext]; decide

theorem witness_ObjectsWaitsAndLaunches_waits :
    hasNext prog ∧ issues dev 3 prog ∧ (0x80000000 : Word32).toNat % 2 ^ 31 = 0 ∧ (1 : Word32).toNat % 2 ^ 31 ≠ 0 ∧
    (prog.reg 2).toNat ≤ (syncGet dev 3 7).toNat ∧ (syncGet dev 3 7).toNat < (prog.reg 4).toNat ∧
    getP (devW false 1000 5) (3 : BitVec 6).toNat = some (waiter false 1000) ∧ serves (devW false 1000 5) (waiter false 1000).queue = true ∧
    (waiter false 1000).wait = .object 3 2 5 1000 (6 : BitVec 5).toNat false ∧ (5 : Word64).toNat ≤ (syncGet (devW false 1000 5) 3 2).toNat ∧
    (syncGet (devW true 1000 4) 3 2).toNat < (5 : Word64).toNat ∧ 1000 ≤ (devW true 1000 4).aon ∧ (devW true 1001 4).aon < 1001 := by
  dsimp only [issues, hasNext]; decide

theorem witness_ObjectsWaitsAndLaunches_launch :
    issues (devR [(1, 0x4000)]) 3 (progR [(1, 0x4000)]) ∧ hasNext (progR [(1, 0x4000)]) ∧
    progRead (devR [(1, 0x4000)]) (progR [(1, 0x4000)]) ((progR [(1, 0x4000)]).reg 1) 64 8 Env.quiet =
    (.ok (memGets dev 0x4000 64), devR [(1, 0x4000)]) ∧
    (getC (devR [(1, 0x4000)]) 3).ended = false ∧ isPaired (devR [(1, 0x4000)]) 3 = false := by
  dsimp only [issues, hasNext]; decide

theorem witness_ObjectsWaitsAndLaunches_launchOk : launchOk (devR [(1, 0x4000)]) 3 (memGets dev 0x4000 64) = true ∧
    launchOk (devR [(1, 0x4000)]) 3 (List.replicate 64 0) = false := by decide +kernel

/-! ### Resets and device instructions -/

theorem witness_ResetInstructionsRaiseTheirFence_context :
    issues (devR [(1, 3), (2, 4)]) 3 (progR [(1, 3), (2, 4)]) ∧ hasNext prog ∧ 1 ≤ prog.priv ∧ (getC dev 4).inUse = false ∧ (getC dev 3).inUse = true ∧
    ¬ ((getQ dev prog.queue).ctx < 256) ∧ dev.rst.runs = [] ∧ ringOff dev ∧
    enclosedCtxs dev 1 77 = [3] ∧ enclosedCtxs dev 1 78 = [] := by
  dsimp only [issues, hasNext, ringOff]; decide

/-- The program on a queue of context 3, which an end of context 3 would end first. -/
theorem witness_ResetInstructionsRaiseTheirFence_own :
    let s : State := { devR [(1, 3), (2, 77), (4, 5)] with queues := [(5, { queue5 with priv := 0, ctx := 3 }), (1023, Queue.chorno)] }
    issues s 3 (progR [(1, 3), (2, 77), (4, 5)]) ∧ (getQ s prog.queue).ctx = 3 ∧ 3 ∈ enclosedCtxs s 0 3 ∧ 3 ∈ enclosedCtxs s 1 77 ∧
      3 ∈ enclosedCtxs s 3 0 ∧ (getC s 3).inUse = true ∧ ((progR [(4, 5)]).reg 4).toNat ≠ (getQ s prog.queue).ctx := by
  dsimp only [issues]; decide

theorem witness_ResetInstructionsRaiseTheirFence_engine :
    resetEngineDom 10 = true ∧ domState dev 10 = 1 ∧ domState dev 1102 ≠ 1 ∧ resetEngineDom 1102 = true ∧ partDefined dev 0 = true ∧
    partDefined dev 7 = false ∧ prog.reg 0 = 0 ∧ issues (devO []) 3 (opR []) ∧ 2 ≤ (opR []).priv ∧
    10 ∈ enclosedEngines dev 2 10 ∧ 3 ∈ enclosedCtxs (thr shed0) 2 10 := by
  dsimp only [issues]; decide +kernel

theorem witness_DeviceInstructionsTakeEffect_pwrdom :
    issues dev 3 prog ∧ 1 ≤ prog.priv ∧ pwrdomOk 1100 1 = false ∧ pwrdomOk 40 1 = true ∧ domState dev 40 = 1 ∧ Tbl.has dev.pwr.domTarget 40 = false ∧
    domState { dev with pwr := { dev.pwr with domains := [(40, 3)] } } 40 = 3 ∧ breaksDep dev 552 0 = true ∧ pwrdomOk 552 0 = true ∧
    breaksDep dev 40 0 = false ∧ domBusy dev 40 = false ∧ domState dev 40 ≠ 0 ∧ domBusy (thr shed0) 10 = true := by
  dsimp only [issues]; decide +kernel

theorem witness_DeviceInstructionsTakeEffect_acct :
    issues dev 3 prog ∧ prog.sel < 256 ∧ isFenced dev prog.sel = false ∧ (getC dev prog.sel).inUse = true ∧ (getC dev prog.sel).ended = false ∧
    acctQueue dev prog.sel = none ∧ 3 ∈ liveCtxs dev := by
  dsimp only [issues]; decide

theorem witness_DeviceInstructionsTakeEffect_noRing (c : Nat) : acctQueue dev c = none := by
  have h : ∀ e ∈ dev.queues, (e.2.acct != 0) = false := by decide
  unfold acctQueue; rw [List.find?_eq_none]; intro e he; rw [h e he]; simp

theorem witness_DeviceInstructionsTakeEffect_burling :
    issues (devO [(1, 40), (2, 0x400001)]) 3 (opR [(1, 40), (2, 0x400001)]) ∧ 2 ≤ (opR []).priv ∧ dev.brl.verify = none ∧
    ((opR []).reg 2).toNat = 0 ∧ 4194304 < ((opR [(2, 0x400001)]).reg 2).toNat ∧ ringOff dev ∧ ringOpen dev ∧
    progRead dev prog 40 8 8 Env.quiet = (.ok [0, 0, 0, 0, 0, 0, 0, 0], dev) ∧ keyBlank dev 0 = false ∧ keyBlank dev 1 = true ∧
    clState dev 40 ≠ 2 := by
  dsimp only [issues, ringOff, ringOpen]; decide +kernel

/-- The device with the state of cluster 40. -/
def devCl (v : Word64) : State := { dev with sets := { dev.sets with hard := [(setPlace 7 0x428 0, ⟨v, v, v, v, 0⟩)] } }

theorem witness_DeviceInstructionsTakeEffect_cstate :
    clState (devCl 2) 40 = 2 ∧ clState (devCl 3) 40 = 3 ∧ ¬ ((2 : Nat) = 0) ∧ dev.fuses.coppice.contains 40 = false ∧ clBusy (devCl 2) 40 = false ∧
    (devCl 2).slots = [] ∧ ringOff (devCl 2) ∧ ringOpen (devCl 2) ∧ (insertNat (devCl 2).bist.excluded 40).length ≠ 16 ∧ neverOn (devCl 2) 40 = false ∧
    ({ dev with fuses := { dev.fuses with coppice := [40] } } : State).fuses.coppice.contains 40 = true ∧
    clBusy { dev with brl := { dev.brl with deep := [(40, 0)] } } 40 = true := by
  dsimp only [ringOff, ringOpen]; decide

theorem witness_DeviceInstructionsTakeEffect_logAndSend :
    issues (devR [(1, 0xC800), (2, 40), (4, 64), (5, 65)]) 3 (progR [(1, 0xC800), (2, 40), (4, 64), (5, 65)]) ∧
    (0xC7FF : Nat) < 0xC800 ∧ ((progR [(1, 0xC800)]).reg 1).toNat % 65536 = 0xC800 ∧ (5 : Word32).toNat ≤ 5 ∧ 5 < (6 : Word32).toNat ∧
    progRead dev prog 40 32 8 Env.quiet = (.ok (List.replicate 32 0), dev) ∧ ringOff dev ∧ ringOpen dev ∧ ((progR [(4, 64)]).reg 4).toNat ≤ 64 ∧
    64 < ((progR [(5, 65)]).reg 5).toNat ∧ progRead dev prog 40 64 1 Env.quiet = (.ok (List.replicate 64 0), dev) ∧ dev.chn.txq.length < 16 ∧
    (dev.chn.selfM || dev.chn.cmdM || dev.chn.clash) = false := by
  dsimp only [issues, ringOff, ringOpen]; decide +kernel

/-- The device with every part at 20.0 °C by the sensor of zone 0. -/
def warm : State := { dev with thm := { dev.thm with sensors := [(0, { Sensor.init with temp := 200, hist := [200] })] } }

theorem witness_FusesUndefinedWordsAndService :
    issues (devO [(1, 40), (2, 23)]) 3 (opR [(1, 40), (2, 23)]) ∧ (0 : Word32).toNat < 1 ∧ 3 < (4 : Word32).toNat ∧
    progRead dev prog 40 96 8 Env.quiet = (.ok (List.replicate 96 0), dev) ∧ keyClash dev 1 0 (keyWords (List.replicate 96 0)) = false ∧
    keyClash { dev with fuses := { dev.fuses with opKeys := [(24, 5)] } } 1 0 (keyWords (List.replicate 96 0)) = true ∧
    ({ dev with fuses := { dev.fuses with prog := [⟨9, 1, 0, 2, 0, 0, [1]⟩] } } : State).fuses.prog ≠ [] ∧
    clState dev 40 ≠ 3 ∧ clState (devCl 3) 40 = 3 ∧ clBusy (devCl 3) 40 = false ∧ (devCl 3).fuses.coppice.contains 40 = false ∧
    (devCl 3).fuses.prog = [] ∧ decodeHexah 3 Env.quiet true 0 = none ∧ issues dev 3 prog ∧ prog.queue ≠ 1023 ∧
    issues (devP (fun p => { p with queue := 1023 })) 3 { prog with queue := 1023 } ∧ dev.rst.oos = false ∧
    ({ dev with rst := { dev.rst with oos := true } } : State).rst.runs = [] ∧ dev.esp.bound = none ∧ dev.esp.bound ≠ some prog.sel ∧
    fuseWindow warm = true ∧ ({ (devCl 3) with thm := warm.thm } : State).fuses.coppice.length < 16 ∧ fuseWindow { (devCl 3) with thm := warm.thm } = true ∧
    16 ≤ (List.range 16).length ∧ clState { (devCl 3) with fuses := { dev.fuses with coppice := List.range 16 } } 40 = 3 ∧
    ({ (devCl 3) with fuses := { dev.fuses with coppice := List.range 16 } } : State).fuses.coppice.contains 40 = false := by
  dsimp only [issues]; decide +kernel

/-! ### Threads -/

/-- The fields of an instruction on g3, g1 and g2, unguarded and under the guard !p1. -/
def f3 : T3 := ⟨0, 3, 1, 2, 0, 0⟩
def f3n : T3 := ⟨9, 3, 1, 2, 0, 0⟩
def fi : TI := ⟨0, 3, 1, 0, 0⟩
def rT : Run := runOf (thr shed0) w1 false
def r1 : Run := runOf (thr shed1) w1 false

theorem witness_ThreadInstructionsWriteRd :
    shedIssues (thr shed0) w1 false rT ∧ guardClean rT.h f3.guard ∧ guardClean rT.h f3n.guard ∧ f3.rc = 0 ∧ f3.mod = 0 ∧ fi.mod = 0 ∧
    (⟨0, 3, 0, 0, 63⟩ : TI).ra = 0 ∧ (⟨0, 3, 0, 0, 63⟩ : TI).imm.toNat < 64 := by
  dsimp only [shedIssues, guardClean]; decide

theorem witness_PredicateInstructionsWriteTheirPredicate :
    shedIssues (thr shed0) w1 false rT ∧ guardClean rT.h 0 ∧ (⟨0, 7, 1, 2, 0, 0⟩ : T3).rd.toNat < 8 ∧ (1 : BitVec 6).toNat < 8 ∧
    (5 : BitVec 8).toNat < 6 ∧ (7 : BitVec 6).toNat < 8 := by
  dsimp only [shedIssues, guardClean]; decide

theorem witness_PredicateInstructionsWriteTheirPredicate_clean (l : Nat) (x : BitVec 6) : rT.h.gp l x = false ∧ (rT.h.pp (x.toNat)).getLsbD l = false := by
  have e : rT.h = shed0 := rfl
  rw [e]
  refine ⟨by simp [Shed.gp, shed0], ?_⟩
  simp [Shed.pp, shed0, Tbl.get]

/-- Mask and call stacks: one entry, full, and empty. -/
def shedM (n : Nat) : Shed := { shed0 with masks := List.replicate n 0xFFFF, calls := List.replicate n 0x9000 }

theorem witness_MasksAndBranchesMoveSheds :
    runnable (thr (shedM 1)) w1 false = some (runOf (thr (shedM 1)) w1 false) ∧ (shedM 1).exec &&& (shedM 1).pp 1 = 0 ∧ (shedM 31).masks.length < 32 ∧
    32 ≤ (shedM 32).masks.length ∧ runnable (thr (shedM 32)) w1 false = some (runOf (thr (shedM 32)) w1 false) ∧ calm (thr (shedM 32)) ∧
    (shedM 1).masks = 0xFFFF :: [] ∧ (shedM 0).masks = [] ∧ calm (thr (shedM 0)) ∧ (shedM 0).calls = [] ∧ (shedM 15).calls.length < 16 ∧
    16 ≤ (shedM 16).calls.length ∧ (shedM 1).calls = 0x9000 :: [] ∧ (shedM 1).exec ≠ 0 ∧
    shedIssues (thr (shedM 16)) w1 false (runOf (thr (shedM 16)) w1 false) ∧ calm (thr (shedM 16)) ∧
    shedIssues (thr (shedM 0)) w1 false (runOf (thr (shedM 0)) w1 false) ∧ (2 : BitVec 8).toNat / 2 = 1 := by
  dsimp only [calm, ringOff, pipelineEmpty, ringOpen, shedIssues]; decide

/-- Two sheds, the other at its barrier or not. -/
def thr2 (w : ShedWait) : State := { thr shed0 with slots := [(1, { slotOf shed0 with sheds := [(0, shed0), (1, { shed0 with wait := w })] })] }

theorem witness_BarriersEmptyMasksAndUndefinedWords :
    shedIssues (thr2 .bars) w1 false (runOf (thr2 .bars) w1 false) ∧ shedIssues (thr2 .none) w1 false (runOf (thr2 .none) w1 false) ∧
    (2 : BitVec 8).toNat < 3 ∧ (({ shed0 with wait := .none } : Shed).wait ≠ .bars) ∧
    ([(0, { shed0 with wait := .bars }), (1, { shed0 with wait := .bars })] : List (Nat × Shed)).all (fun e => e.2.wait == .bars) = true ∧
    runnable (thr { shed0 with exec := 0 }) w1 false = some (runOf (thr { shed0 with exec := 0 }) w1 false) ∧ calm (thr shed0) ∧ rT.h.exec ≠ 0 ∧
    runnable (thr shed0) w1 false = some rT ∧ decodeThread w1 Env.quiet 0 = none ∧ (⟨0, 3, 1, 0, 64⟩ : TI).imm.toNat ≥ 64 := by
  dsimp only [calm, ringOff, pipelineEmpty, ringOpen, shedIssues]; decide

/-- Lane 0 loads from an aligned address of device memory; a poisoned or an unaligned address faults. -/
theorem witness_ThreadMemoryInstructions_ThreadLoadsWriteRd : shedIssues (thr shed1) w1 false r1 ∧ guardClean r1.h fi.guard ∧ memMod true fi.mod = true ∧
    ∀ l, (guardMask r1.h fi.guard).getLsbD l = true → r1.h.gp l fi.ra = false ∧ memAddr r1.h l fi % 8 = 0 ∧
      slotRead r1.key 2 (memAddr r1.h l fi) 8 Env.quiet [] (thr shed1) = (.ok (List.replicate 8 (0, false), Env.quiet), thr shed1) := by
  refine ⟨by dsimp only [shedIssues]; decide, by dsimp only [guardClean]; decide, by decide, fun l h => ?_⟩
  have e : l = 0 := lane_zero (by rw [show guardMask r1.h fi.guard = 1 by decide] at h; exact h)
  subst e; decide +kernel

def shedBad : Shed := { shed1 with regP := [2], regs := [(1, 0x5001)] }

theorem witness_ThreadMemoryInstructions_ThreadLoadsWriteRd_faults :
    shedIssues (thr shedBad) w1 false (runOf (thr shedBad) w1 false) ∧ lanesOf (guardMask shedBad 0) = 0 :: [] ∧ calm (thr shedBad) ∧
    shedBad.gp 0 2 = true ∧ shedBad.gp 0 1 = false ∧ memAddr shedBad 0 fi % 2 ≠ 0 ∧ memAddr shedBad 0 fi % 8 ≠ 0 ∧ (fi.rd + 1).toNat % 2 = 0 ∧
    slotRead 1 2 (memAddr shed1 0 fi) 16 Env.quiet [] (thr shed1) = (.ok (List.replicate 16 (0, false), Env.quiet), thr shed1) := by
  dsimp only [calm, ringOff, pipelineEmpty, ringOpen, shedIssues]; decide +kernel

theorem witness_ThreadMemoryInstructions_ThreadStoresWriteTheirBytes :
    shedIssues (thr shed1) w1 false r1 ∧ guardClean r1.h fi.guard ∧ memMod false fi.mod = true ∧ lanesOf (guardMask r1.h fi.guard) = [0] ∧
    r1.h.gp 0 fi.ra = false ∧ reaches (thr shed1) r1 (memAddr r1.h 0 fi) .write Env.quiet 0x5000 ∧ memAddr r1.h 0 fi % 16 = 0 ∧
    writesNow (thr shed1) r1 ∧ (4 : BitVec 6).toNat % 2 = 0 := by
  dsimp only [shedIssues, guardClean, writesNow, reaches]; decide +kernel

/-- Inside a step: begun, not begun, and at an input range. -/
def shedB : Shed := { shed1 with begun := true }
def shedR : Shed := { shedB with regs := [(1, 0x40000)] }

theorem witness_ThreadMemoryInstructions_ThreadStoresWriteTheirBytes_step :
    shedIssues (thrStep shedB) w1 false (runOf (thrStep shedB) w1 false) ∧ reaches (thrStep shedB) (runOf (thrStep shedB) w1 false) 0x5000 .write Env.quiet 0x5000 ∧
    (getC (thrStep shedB) 3).step.isOpen = true ∧ shedB.begun = true ∧ inStepRange (thrStep shedB) 3 (.hbm 0x5000) = false ∧
    holdEntries (thrStep shedB) 1 (slotOf shedB) < 8192 ∧ shedIssues (thrStep shed1) w1 false (runOf (thrStep shed1) w1 false) ∧ shed1.begun = false ∧
    reaches (thrStep shed1) (runOf (thrStep shed1) w1 false) 0x5000 .write Env.quiet 0x5000 ∧ calm (thrStep shed1) ∧
    shedIssues (thrStep shedR) w1 false (runOf (thrStep shedR) w1 false) ∧ reaches (thrStep shedR) (runOf (thrStep shedR) w1 false) 0x40000 .write Env.quiet 0x40000 ∧
    inStepRange (thrStep shedR) 3 (.hbm 0x40000) = true ∧ calm (thrStep shedR) := by
  dsimp only [calm, ringOff, pipelineEmpty, ringOpen, shedIssues, reaches]; decide +kernel

theorem witness_ThreadMemoryInstructions_ThreadAtomicsReadAndWrite :
    shedIssues (thr shed1) w1 false r1 ∧ guardClean r1.h 0 ∧ lanesOf (guardMask r1.h 0) = [0] ∧ r1.h.gp 0 1 = false ∧ r1.h.gp 0 2 = false ∧
    reaches (thr shed1) r1 (r1.h.g 0 1).toNat .atomic Env.quiet 0x5000 ∧ (r1.h.g 0 1).toNat % 8 = 0 ∧ 0x5000 % 8 = 0 ∧
    (9 : BitVec 8).toNat = 9 ∧ (25 : BitVec 8).toNat = 9 + 16 ∧ writesNow (thr shed1) r1 ∧ isPoison (thr shed1) 0x5000 = false ∧
    reaches (thrStep shedB) (runOf (thrStep shedB) w1 false) 0x5000 .atomic Env.quiet 0x5000 ∧ shedB.begun = true ∧ calm (thrStep shedB) ∧
    inStepRange (thrStep shedB) 3 (.hbm 0x5000) = false ∧ holdEntries (thrStep shedB) 1 (slotOf shedB) < 8192 := by
  dsimp only [calm, ringOff, pipelineEmpty, ringOpen, shedIssues, guardClean, writesNow, reaches]; decide +kernel

/-! ### Vectors and tiles -/

def fv : T3 := ⟨0, 4, 2, 6, 8, 1⟩
def rV : Run := runOf (thr shed0) w1 true

theorem witness_VectorInstructionsWriteTheirPair :
    shedIssues (thr shed0) w1 true rV ∧ guardClean rV.h fv.guard ∧ fv.rd.toNat % 2 = 0 ∧ fv.ra.toNat % 2 = 0 ∧ fv.rb.toNat % 2 = 0 ∧ fv.rc.toNat % 2 = 0 ∧
    vecFmt 0 = some fmtFp32 ∧ vecFmt 3 = some fmtFp16 ∧ (4 : BitVec 8).toNat < 5 ∧ (4 : BitVec 8).toNat % 8 < 5 ∧ (32 : BitVec 8).toNat / 8 < 5 ∧
    (0 : Nat) < 128 / vecBits 4 ∧ (vecElems 0 (vecGet rV.h 0 6))[0]? = some 0 ∧ vecConvert 0 4 false 0 = some 0 := by
  dsimp only [shedIssues, guardClean]; decide

/-- The lane's g1 in the scratchpad of slot 1. -/
def shedQ : Shed := { shed1 with regs := [(1, 0x800000100000), (2, 512)] }
/-- Slot 1 with INT4 operand tiles 0 and 1 and an integer accumulator in tile 4. -/
def slotT (h : Shed) : Slot := { slotOf h with tiles := [(0, { Tile.start with tag := 0 }), (1, { Tile.start with tag := 0 })] }
def thrT (h : Shed) : State := { thr h with slots := [(1, slotT h)] }
def rW : Run := runOf (thrT shedQ) w1 true
def shedP : Shed := { shed1 with regP := [1] }
def tld0 : TM := ⟨2, 0, 0, 1, 2, 0⟩
def tst2 : TM := ⟨0, 4, 0, 1, 2, 2⟩
/-- Unchecked products of slot 1 for a tile, on cluster 10. -/
def job (md : Nat) : TmmaJob :=
  { slot := 1, ctx := 3, md := md, mod := 0, tileA := Tile.start, tileB := Tile.start, stage := 0, perr := [], qerr := [], inj := 0,
    inf := false, arb := 0xFFFF, other := false, noArb := false, sums := true, entry := 0, stale := false, index := 0, ctr := 0 }
def jobs (l : List TmmaJob) (s : State) : State := { s with chk := { s.chk with cls := [(10, { ChkCl.init with jobs := l })] } }

theorem witness_TileInstructions_TileLoadFillsTheTile :
    shedIssues (thrT shedQ) w1 true rW ∧ tld0.mod.toNat < 32 ∧ tileAddr rW tld0 = some (0x800000100000, 512) ∧ tileBusy (thrT shedQ) 1 2 = false ∧
    tileAligned 0 0x800000100000 512 = true ∧ (match (readRows 1 512 (rowBytes 0) 64 0x800000100000 Env.quiet [] false (thrT shedQ)).1 with
    | .ok (_, po) => po == false
    | .error _ => false) = true ∧ getS (readRows 1 512 (rowBytes 0) 64 0x800000100000 Env.quiet [] false (thrT shedQ)).2 1 = rW.slot ∧
    tileBusy (jobs [job 2] (thrT shedQ)) 1 2 = true ∧ shedIssues (jobs [job 2] (thrT shedQ)) w1 true (runOf (jobs [job 2] (thrT shedQ)) w1 true) ∧
    tileAligned 7 0x800000100000 512 = true ∧ tileAligned 0 0x800000100000 511 = false ∧ tileAligned 0 0x800000100001 512 = false ∧ tileAligned 7 0x800000100000 224 = false ∧
    calm (thrT shedQ) ∧ tileAddr (runOf (thrT shedP) w1 true) tld0 = none ∧ shedIssues (thrT shedP) w1 true (runOf (thrT shedP) w1 true) ∧ calm (thrT shedP) := by
  dsimp only [calm, ringOff, pipelineEmpty, ringOpen, shedIssues]; decide +kernel

theorem witness_TileInstructions_TileStoreWritesTheRows :
    shedIssues (thrT shedQ) w1 true rW ∧ 2 ≤ tst2.mod.toNat ∧ tst2.mod.toNat < 9 ∧ tileAddr rW tst2 = some (0x800000100000, 512) ∧
    tileBusy (thrT shedQ) 1 4 = false ∧ tileAligned 2 0x800000100000 512 = true ∧ (getTile rW.slot 4).tag = 8 ∧ mayWrite (thrT shedQ) rW = true ∧
    ((List.range 64).foldlM (fun v i => threadWrites rW 0 Env.quiet 2 (0x800000100000 + i * 512)
    ((outRow (getTile rW.slot 4) 2 false i).map (fun b => (b, false))) v) (thrT shedQ)).toOption.isSome = true ∧
    (getTile rW.slot 0).tag < 7 ∧ calm (thrT shedQ) ∧ tileAligned 3 0x800000100000 512 = true := by
  dsimp only [calm, ringOff, pipelineEmpty, ringOpen, shedIssues]; decide +kernel

theorem witness_TileInstructions_TileStoreWritesTheRows_noHolder (a : Nat) : writeHeld (thrT shedQ) rW a = false := by
  unfold writeHeld; split <;> rfl

theorem witness_TileInstructions_TileZeroAndProductIssue :
    shedIssues (thrT shedQ) w1 true rW ∧ (1 : BitVec 8).toNat < 2 ∧ tileBusy (jobs [job 4] (thrT shedQ)) 1 4 = true ∧ tileBusy (thrT shedQ) 1 4 = false ∧
    (getTile rW.slot 0).tag = (getTile rW.slot 1).tag ∧ (getTile rW.slot 0).tag = 0 ∧ (getTile rW.slot 4).tag = 8 ∧ (rW.h.g 0 1).toNat < 2 ^ 48 ∧
    2 ≤ ((getCk (jobs [job 2, job 3] (thrT shedQ)) 10).jobs.filter (fun j => j.stage == 0)).length ∧
    shedIssues (jobs [job 2, job 3] (thrT shedQ)) w1 true (runOf (jobs [job 2, job 3] (thrT shedQ)) w1 true) ∧
    ((getCk (jobs [job 2] (thrT shedQ)) 10).jobs.filter (fun j => j.stage == 0)).length < 2 ∧ injection (thrT shedQ) 10 = none ∧
    injection (jobs [job 2] (thrT shedQ)) 10 = none ∧ (getTile rW.slot 5).tag = 8 ∧ ¬ ((8 : Nat) = 0) ∧ calm (thrT shedQ) := by
  dsimp only [calm, ringOff, pipelineEmpty, ringOpen, shedIssues]; decide +kernel

/-! ### Steps and synchronisation of threads -/

def r0 : Run := runOf (thr shed0) w1 false
def shedS : Shed := { shed1 with regs := [(1, 0x6040)] }
def shedX : Shed := { shed1 with regs := [(1, 0x5000), (2, 0x5000)] }
def shedC : Shed := { shed1 with begun := true, closed := true, wait := .commit }

theorem witness_CountersGeneratorObjectsAndWaits_Counters :
    shedIssues (thr shed0) w1 false r0 ∧ guardClean r0.h 0 ∧ (0 : Word32).toNat = 0 ∧ (3 : Word32).toNat = 3 ∧ 4 ≤ (4 : Word32).toNat ∧
    shedIssues (thr shed0) w1 true rV ∧ (4 : BitVec 6).toNat % 2 = 0 ∧ lanesOf (guardMask (runOf (thr shedP) w1 true).h 0) = 0 :: [] ∧
    (runOf (thr shedP) w1 true).h.gp 0 1 = true ∧ calm (thr shedP) ∧ shedIssues (thr shedP) w1 true (runOf (thr shedP) w1 true) := by
  dsimp only [calm, ringOff, pipelineEmpty, ringOpen, shedIssues, guardClean]; decide

theorem witness_CountersGeneratorObjectsAndWaits_Counters_clean (l : Nat) (x : BitVec 6) : rV.h.gp l x = false := by
  have e : rV.h = shed0 := rfl
  rw [e]; simp [Shed.gp, shed0]

/-- Slot 1 waits for object 2 of its context to reach 5. -/
def thrW (v : Word64) : State :=
  { thr { shed0 with wait := .object [(2, 5)] } with
    ctxs := [(3, { ctx3 with launchNo := 1, launches := [launch1], sync := [(2, v)] })] }

theorem witness_CountersGeneratorObjectsAndWaits_Objects :
    shedIssues (thr shed1) w1 false r1 ∧ guardClean r1.h 0 ∧ lanesOf (guardMask r1.h 0) = [0] ∧ r1.slot.twinOf = none ∧ hasTwin (thr shed1) r1.key = false ∧
    ((r1.h.g 0 0).toNat ≤ (syncGet (thr shed1) 3 0).toNat) ∧ (syncGet (thr shed1) 3 0).toNat < (r1.h.g 0 2).toNat ∧
    (Tbl.get Shed.idle (getS (thrW 5) (slotKey w1.part.toNat w1.slot.toNat)).sheds w1.shed.toNat).wait = .object [(2, 5)] ∧
    (getS (thrW 5) 1).ended = false ∧ (getC (thrW 5) 3).fault = 0 ∧ isFenced (thrW 5) 3 = false ∧
    (5 : Word64).toNat ≤ (syncGet (thrW 5) 3 2).toNat ∧ (syncGet (thrW 4) 3 2).toNat < (5 : Word64).toNat := by
  dsimp only [shedIssues, guardClean]; decide

theorem witness_StepsAndSoftwareChecks_StepsBeginAndCommit :
    shedIssues (thr shedS) w1 false (runOf (thr shedS) w1 false) ∧ shedS.begun = false ∧ shedS.gp 0 1 = false ∧ (slotOf shedS).snap = [] ∧
    unchecked (thr shedS) 1 = false ∧ (slotOf shedS).descRead = false ∧ (getC (thr shedS) 3).step.isOpen = false ∧
    (slotRead 1 2 0x6040 64 Env.quiet [] (thr shedS)).2 = thr shedS ∧
    (match (slotRead 1 2 0x6040 64 Env.quiet [] (thr shedS)).1 with
    | .ok (b, e) => b.all (fun x => !x.2) && stepRanges (b.map (·.1)) == some [(0x40000, 1)] && e == Env.quiet
    | .error _ => false) = true ∧
    (match (slotRead 1 2 0x5000 64 Env.quiet [] (thr shed1)).1 with
    | .ok (b, e) => b.all (fun x => !x.2) && stepRanges (b.map (·.1)) == none && e == Env.quiet
    | .error _ => false) = true ∧ calm (thr shed1) ∧
    shedIssues (thrStep shedB) w1 false (runOf (thrStep shedB) w1 false) ∧ shedB.begun = true ∧ shedB.gp 0 1 = false ∧ calm (thrStep shedB) ∧
    isPaired (thrStep shedB) 3 = false ∧ shedIssues (thrStep shed1) w1 false (runOf (thrStep shed1) w1 false) ∧ shed1.begun = false ∧ calm (thrStep shed1) := by
  dsimp only [calm, ringOff, pipelineEmpty, ringOpen, shedIssues]; decide +kernel

theorem witness_StepsAndSoftwareChecks_SoftwareChecksCompare :
    shedIssues (thr shed1) w1 false r1 ∧ guardClean r1.h 0 ∧ (getC (thr shed1) 3).step.isOpen = false ∧ calm (thr shed1) ∧
    shedIssues (thrStep shedX) w1 false (runOf (thrStep shedX) w1 false) ∧ (getC (thrStep shedX) 3).step.isOpen = true ∧ calm (thrStep shedX) ∧
    lanesOf (guardMask shedX 0) = [0] ∧ shedX.gp 0 1 = false ∧ shedX.gp 0 2 = false ∧ shedX.g 0 1 = shedX.g 0 2 ∧
    (0 < 16 ∧ (guardMask shedX 0).getLsbD 0 = true ∧ shedX.g 0 1 ≠ shedX.g 0 3) ∧ shedX.gp 0 3 = false := by
  dsimp only [calm, ringOff, pipelineEmpty, ringOpen, shedIssues, guardClean]; decide

def shedG : Shed := { shed1 with regs := [(1, 0x6000)] }
def trig2 : Trig := trigOf (memGets dev 0x6000 64) 0 none
def thrG (n : Nat) : State :=
  { thr shedG with ctxs := [(3, { ctx3 with launchNo := 1, launches := [launch1], trigs := List.replicate n trig2 })] }

theorem witness_TriggersAndShuttles_TriggersAreArmed :
    shedIssues (thrG 255) w1 false (runOf (thrG 255) w1 false) ∧ guardClean shedG 0 ∧ lanesOf (guardMask shedG 0) = [0] ∧ hasTwin (thrG 255) 1 = false ∧
    shedG.gp 0 1 = false ∧ (slotRead 1 3 0x6000 64 Env.quiet [] (thrG 255)).2 = thrG 255 ∧
    (match (slotRead 1 3 0x6000 64 Env.quiet [] (thrG 255)).1 with
    | .ok (b, e) => b.all (fun x => !x.2) && trigValid (thrG 255) 3 (b.map (·.1)) && e == Env.quiet
    | .error _ => false) = true ∧
    (getC (thrG 255) 3).trigs.length < 256 ∧ 256 ≤ (getC (thrG 256) 3).trigs.length ∧ trig2.object < 256 ∧
    (syncGet (thrG 255) 3 trig2.object).toNat < trig2.thresh.toNat ∧ shedIssues (thrG 256) w1 false (runOf (thrG 256) w1 false) ∧
    trigValid (thr shed1) 3 (List.replicate 64 0) = false ∧ calm (thr shed1) := by
  dsimp only [calm, ringOff, pipelineEmpty, ringOpen, shedIssues, guardClean]; decide +kernel

def xfer : Xfer := { ctx := 3, trig := trig2, tag := none, data := none }
def devS : State := { dev with shut := [(0, [xfer])] }

theorem witness_TriggersAndShuttles_Shuttle :
    engineQ devS 0 = [xfer] ∧ engineRuns devS 0 = true ∧ xfer.trig.kind = 1 ∧ xfer.trig.done = 0xFFFF ∧ xfer.trig.inStep = none ∧ isFenced devS xfer.ctx = false ∧
    (getC devS xfer.ctx).fault = 0 ∧ destHeld devS xfer = false ∧ xfer.ctx < 256 ∧ 0 < xfer.trig.len ∧ xfer.trig.src % 4096 + xfer.trig.len ≤ 4096 ∧
    xfer.trig.dst % 4096 + xfer.trig.len ≤ 4096 ∧ xlat devS xfer.ctx xfer.trig.src .read none = .ok (.hbm 0x5000) ∧
    xlat devS xfer.ctx xfer.trig.dst .write none = .ok (.hbm 0x7000) ∧ anyPoison devS 0x5000 xfer.trig.len = false ∧
    (getC dev (3 : BitVec 8).toNat).inUse = true ∧ (getC dev (4 : BitVec 8).toNat).inUse = false := by decide +kernel

/-! ### Launches -/

def waitL : Launch := { launch1 with started := false, count := 1, first := 1 }
/-- Partition 0 with cluster group 0 alone, and a launch that waits. -/
def devL (l : Launch) : State :=
  { dev with ctxs := [(3, { ctx3 with launchNo := 1, launches := [l] })], groupEff := (List.range 63).map (fun i => (i + 1, 7)) }

theorem witness_LaunchesThreadsAndSlots_Launches :
    waitingLaunch (devL waitL) (3 : BitVec 8).toNat = some waitL ∧ mayStart (devL waitL) 3 waitL = true ∧ waitL.count = 1 ∧ waitL.twin = false ∧
    waitL.sheds ≠ 0 ∧ (placement (devL waitL) (partOf 3)).getD waitL.first 0xFFFF ≠ 0xFFFF ∧ (devL waitL).slots = [] ∧
    waitingLaunch (devL { waitL with first := 512 }) (3 : BitVec 8).toNat = some { waitL with first := 512 } ∧
    mayStart (devL { waitL with first := 512 }) 3 { waitL with first := 512 } = false ∧
    shedIssues (thr shed0) w1 false r0 ∧ guardClean r0.h 0 ∧ guardClean r0.h 1 ∧ r0.h.ended ||| guardMask r0.h 1 ≠ BitVec.allOnes 16 ∧
    r0.h.ended ||| guardMask r0.h 0 = BitVec.allOnes 16 ∧ r0.h.begun = false ∧ (launchSlots (thr shed0) 3 1).map (·.1) = [1] ∧
    (r0.launch (thr shed0)).elim 0xFFFF (·.doneObj) = 0xFFFF ∧
    shedIssues (thr { shed0 with begun := true }) w1 false (runOf (thr { shed0 with begun := true }) w1 false) ∧ calm (thr { shed0 with begun := true }) := by
  dsimp only [calm, ringOff, pipelineEmpty, ringOpen, shedIssues, guardClean]; decide +kernel

def slot9 : Slot := { slotOf shed0 with host := 1, logical := 9, active := false }
def thrH : State := { thr shed0 with slots := [(1, { slotOf shed0 with host := 1 }), (9, slot9)] }

theorem witness_LaunchesThreadsAndSlots_Switch :
    (getS dev (slotKey 0 9)).host ≠ (1 : BitVec 9).toNat ∧ (getS thrH 9).ended = false ∧ (getS thrH 9).host = (1 : BitVec 9).toNat ∧ (getS thrH 9).active = false ∧
    (getS thrH 9).saved = false ∧ clInService thrH 1 = true ∧ thrH.phase = .run ∧
    thrH.slots.filter (fun e => !e.2.ended && e.2.active && e.2.host == 1) = [(1, getS thrH 1)] ∧ homeOf thrH 0 1 = 1 ∧
    hbmUp thrH (saveEntry thrH 0 1) = true ∧ saveEntry thrH 0 1 + 0x180000 ≤ hbmSize ∧ memCanonical thrH := by
  dsimp only [memCanonical]; decide

def heldSlot : Slot := { slotOf shedC with held := [⟨.hbm 0x5000, 7, false, 0, 0, 0⟩] }
def thrC : State := { thrStep shedC with slots := [(1, heldSlot)] }

theorem witness_StepsAndSoftwareChecks_CommitPoint :
    (getC thrC (3 : BitVec 8).toNat).launches = launch1 :: [] ∧ launch1.started = true ∧ commitReady thrC 3 1 = true ∧ commitReady (thrStep shedB) 3 1 = false ∧
    isPaired thrC 3 = false ∧ thrC.shut = [] ∧ (getC thrC 3).step.waiting = [] ∧ (getC thrC 3).step.firing = [] ∧
    thrC.slots.all (fun e => e.2.twinOf == none) = true ∧
    (launchSlots thrC 3 1).all (fun e => e.2.atomics == [] && e.2.held.all (fun b => !b.poison && b.place == .hbm 0x5000)) = true := by decide

theorem witness_StepsAndSoftwareChecks_CommitPoint_others (d : Nat) (h : d ≠ 3) : (getC thrC d).step.isOpen = false := by
  show (Tbl.get Ctx.free [(3, _)] d).step.isOpen = false
  unfold Tbl.get; rw [if_neg h]; rfl

/-! ### Queues and Treadles -/

/-- The link up, function 0 with memory space and bus mastering, and queue 5 as given. -/
def pciUp : Pcie := { Pcie.released with up := true, speed := 6, width := 16, fns := [(0, { PciFn.init with bme := true, mse := true })] }
def devQ (q : Queue) : State := { dev with pci := pciUp, queues := [(5, q), (1023, Queue.chorno)], progs := [] }
def qOff (b : Word64) : Queue := { queue5 with running := none, cmdBase := b, tail := 1 }

theorem witness_DoorbellsAndEntries_doorbell :
    calm (devQ queue5) ∧ calm dev ∧ barOk dev 0 = false ∧ barOk (devQ queue5) (0 : BitVec 6).toNat = true ∧ (16 : Nat) ≠ 32 ∧
    (getF (devQ queue5) 0).inReset = false ∧ (5 : BitVec 10).toNat ≠ 1023 ∧ (getQ (devQ queue5) 5).valid = true ∧ (getQ (devQ queue5) 5).fn = 0 ∧
    idxSub queue5.tail queue5.done ≤ idxSub (16 : Word32).toNat queue5.done ∧ idxSub (16 : Word32).toNat queue5.done ≤ 2 ^ queue5.cmdLog2 ∧
    ¬ (idxSub (17 : Word32).toNat queue5.done ≤ 2 ^ queue5.cmdLog2) ∧ idxSub queue5.done (0 : Word32).toNat ≤ idxSub queue5.done queue5.cplHead ∧
    ¬ (idxSub queue5.done (1 : Word32).toNat ≤ idxSub queue5.done queue5.cplHead) ∧ queue5.enabled = true ∧ (getQ (devQ queue5) 6).valid = false ∧
    barOk { devQ queue5 with pci := { pciUp with fns := [(0, { PciFn.init with bme := true, mse := true, inReset := true })] } } 0 = true ∧
    calm { devQ queue5 with pci := { pciUp with fns := [(0, { PciFn.init with bme := true, mse := true, inReset := true })] } } := by
  dsimp only [calm, ringOff, pipelineEmpty, ringOpen]; decide

theorem witness_DoorbellsAndEntries_entry :
    (getQ (devQ queue5) 5).fetch = (getQ (devQ queue5) 5).tail ∧ (5 : BitVec 10).toNat ≠ 1023 ∧ (qOff 0x6080).valid = true ∧ (qOff 0x6080).enabled = true ∧
    (qOff 0x6080).stopped = false ∧ serves (devQ (qOff 0x6080)) 5 = true ∧ isFenced (devQ (qOff 0x6080)) (qOff 0x6080).ctx = false ∧
    idxSub (qOff 0x6080).fetch (qOff 0x6080).done < 4 ∧ (qOff 0x6080).fetch ≠ (qOff 0x6080).tail ∧ (devQ (qOff 0x6080)).pci.up = true ∧
    (qOff 0x6080).entries = [] ∧ (qOff 0x6080).running = none ∧ (qOff 0x6080).pendRec = none ∧ ctxGone (devQ (qOff 0x6080)) (qOff 0x6080) = false ∧
    queueRead (qOff 0x6080) 4 2 0x6080 64 Env.quiet [] (devQ (qOff 0x6080)) = (.ok (memGets dev 0x6080 64), devQ (qOff 0x6080)) ∧
    (parseEntry (memGets dev 0x6080 64)).bad = 0 ∧
    queueRead (qOff 0x60C0) 4 2 0x60C0 64 Env.quiet [] (devQ (qOff 0x60C0)) = (.ok (memGets dev 0x60C0 64), devQ (qOff 0x60C0)) ∧
    (parseEntry (memGets dev 0x60C0 64)).bad ≠ 0 ∧ (parseEntry (memGets dev 0x60C0 64)).stops = false ∧
    queueRead (qOff 0x5000) 4 2 0x5000 64 Env.quiet [] (devQ (qOff 0x5000)) = (.ok (memGets dev 0x5000 64), devQ (qOff 0x5000)) ∧
    (parseEntry (memGets dev 0x5000 64)).bad ≠ 0 ∧ (parseEntry (memGets dev 0x5000 64)).stops = true ∧ ringOff (devQ (qOff 0x5000)) ∧
    ringOpen (devQ (qOff 0x5000)) := by
  dsimp only [ringOff, ringOpen]; decide +kernel

/-- An entry that may run, a queue that holds it, and a completion record that waits. -/
def entry1 : CmdEntry := { tag := 9, irq := false, stopOn := false, progAddr := 0x9000, progLen := 72, args := [5, 0, 0, 0], bad := 0, stops := false }
def qRun : Queue := { qOff 0x6080 with entries := [entry1], fetch := 1 }
def qRec : Queue := { queue5 with running := none, devMem := false, pendRec := some (CplRec.unrun dev entry1 0) }

theorem witness_ProgramsStartAndComplete :
    (getQ (devQ qRun) 5).entries = entry1 :: [] ∧ getP (devQ qRun) (3 : BitVec 6).toNat = none ∧ qRun.valid = true ∧ qRun.enabled = true ∧ qRun.stopped = false ∧
    serves (devQ qRun) 5 = true ∧ isFenced (devQ qRun) qRun.ctx = false ∧ ctxGone (devQ qRun) qRun = false ∧ qRun.running = none ∧ qRun.pendRec = none ∧
    entry1.bad = 0 ∧ qRun.priv ≠ 0 ∧ (devQ qRun).trd.grants.contains 5 = false ∧ idxSub qRun.done qRun.cplHead < 2 ^ qRun.cplLog2 ∧
    (getP { devQ qRun with progs := [(3, prog)] } 3) ≠ none ∧ issues dev 3 prog ∧ getP (devW false 0 0) (3 : BitVec 6).toNat = some (waiter false 0) ∧
    (waiter false 0).wait ≠ .none ∧
    (getQ (devQ qRec) 5).pendRec = some (CplRec.unrun dev entry1 0) ∧ qRec.valid = true ∧ (devQ qRec).trd.owner = true ∧ qRec.held = false ∧
    idxSub qRec.done qRec.cplHead < 2 ^ qRec.cplLog2 ∧ qRec.priv ≠ 0 ∧ qRec.devMem = false ∧ hostOk (devQ qRec) qRec.fn = true ∧
    (CplRec.unrun dev entry1 0).irq = false ∧ (CplRec.unrun dev entry1 0).stopOn = false ∧ qRec.ctlAfter = none ∧ (CplRec.unrun dev entry1 0).reset = none ∧
    qRec.entries = [] ∧ qRec.ctx = 0xFFFF ∧ 2 ^ qRec.cplLog2 ≤ idxSub 16 0 ∧ ({ qRec with held := true } : Queue).held = true ∧ qRec.cplLog2 = 4 := by
  dsimp only [issues]; decide

theorem witness_ProgramsStartAndComplete_noStep (c : Nat) : (getC (devQ qRec) c).step.isOpen = false := by
  show (Tbl.get Ctx.free [(3, ctx3)] c).step.isOpen = false
  unfold Tbl.get; split <;> rfl

/-- The device with its standby in a state, and in a takeover. -/
def devT (st at3 : Nat) : State := { dev with trd := { dev.trd with standby := st, attempts := at3 } }
def taken (k : Nat) (l : Tbl Prog) : State := { dev with trd := { dev.trd with owner := false, takeover := k }, progs := l }

theorem witness_TreadlesTakeOver :
    calm (devT 2 0) ∧ (devT 2 0).phase = .run ∧ (devT 2 0).trd.owner = true ∧ (devT 2 0).trd.takeover = 0 ∧
    decide (Treadle.a = .b) = (devT 2 0).trd.activeB ∧ (devT 2 0).trd.standby = 2 ∧ (devT 2 0).trd.takeovers.length < 2 ∧ (devT 1 0).trd.standby = 1 ∧ calm (devT 1 0) ∧
    decide (Treadle.b = .b) ≠ (devT 2 2).trd.activeB ∧ (devT 2 2).trd.attempts < 3 ∧ calm (devT 2 2) ∧ (devT 1 2).trd.attempts = 2 ∧ calm (devT 1 2) ∧
    (devT 0 1).trd.standby = 0 ∧ (devT 0 1).trd.attempts < 2 ∧ (devT 0 2).trd.attempts = 2 ∧ ringOff (devT 0 2) ∧ ringOpen (devT 0 2) ∧ (devT 3 3).trd.standby = 3 := by
  dsimp only [ringOff, ringOpen, calm, pipelineEmpty]; decide

theorem witness_TreadlesTakeOver_complete :
    calm (taken 1 []) ∧ (taken 1 []).trd.owner = false ∧ (taken 1 []).fuses.prog = [] ∧ (taken 1 []).rst.runs = [] ∧ (taken 1 []).pci.q0Wait = none ∧
    (taken 0 []).trd.takeover = 0 ∧ calm (taken 0 []) ∧ (taken 1 [(3, prog)]).progs = [(3, prog)] ∧ prog.queue ≠ 1023 ∧ calm (taken 1 [(3, prog)]) ∧
    2 ^ (getQ { taken 1 [(3, prog)] with queues := [(5, { queue5 with done := 16, cplHead := 0 }), (1023, Queue.chorno)] } prog.queue).cplLog2 ≤
    idxSub 16 0 ∧
    ({ taken 2 [] with queues := [(1023, Queue.chorno)] } : State).queues = [(1023, getQ { taken 2 [] with queues := [(1023, Queue.chorno)] } 1023)] ∧
    (taken 2 []).chn.ids = [] ∧ (taken 2 []).rcd.ckptWait = none ∧ (taken 2 []).rcd.ckpts = [] ∧ calm { taken 2 [] with queues := [(1023, Queue.chorno)] } := by
  dsimp only [calm, ringOff, pipelineEmpty, ringOpen]; decide

/-! ### Power -/

/-- The device in a phase, and with its power as given. -/
def ph (p : Phase) : State := { dev with phase := p }
def pw (f : Power → Power) : State := { dev with pwr := f dev.pwr }

theorem witness_AlwaysOnPowerUpAndPowerDown_AlwaysOnSupplyComesAndGoes :
    (ph .run).phase ≠ .off ∧ (ph .off).phase = .off ∧ dev.rcd.op = none ∧ (({ profile := 1, chnSlot := 0, smbAddr := 0 } : Straps).profile).toNat < 2 ∧
    2 ≤ (({ profile := 2, chnSlot := 0, smbAddr := 0 } : Straps).profile).toNat := by decide

/-- KEEP-ALIVE and what leads to it and from it. -/
def ka (p : Phase) (f : Power → Power) : State := { ph p with pwr := f dev.pwr }
def kaBad : State := { ka .keepAlive (fun x => { x with pwrEn := false }) with bist := { dev.bist with kaFailed := 2 } }

theorem witness_AlwaysOnPowerUpAndPowerDown_PowerUpStartsTheFullTest :
    ringOff (ph .kaTest) ∧ ringOpen (ph .kaTest) ∧ pipelineEmpty (ph .kaTest) ∧ (ka .kaTest (fun x => { x with pwrEn := false })).pwr.pwrEn = false ∧
    dev.phase ≠ .kaTest ∧ (ph .kaTest).bist.failed = [] ∧ (ph .kaTest).bist.kaFailed = 0 ∧
    ({ (ph .kaTest).bist with kaFailed := 8 } : Bist).kaFailed = 8 ∧ (ka .keepAlive (fun x => { x with pwrEn := false })).pwr.pwrEn = false ∧ dev.pwr.warnBlock = false ∧
    (ph .keepAlive).pwr.pwrEn = true ∧ (ph .thermWait).pwr.pwrEn = true ∧ (ph .thermWait).pwr.railsOk = true ∧ dev.bist.kaFailed = 0 ∧
    thermalClear (ka .keepAlive (fun x => { x with pwrEn := false })) = true ∧ thermalClear (ph .thermWait) = true ∧
    thermalClear kaBad = true ∧ kaBad.bist.kaFailed ≠ 0 ∧ ringOff kaBad ∧ ringOpen kaBad ∧ dev.phase ≠ .thermWait := by
  dsimp only [ringOff, pipelineEmpty, ringOpen]; decide

theorem witness_AlwaysOnPowerUpAndPowerDown_PowerUpStartsTheFullTest_hot :
    (let s : State := { ph .thermWait with thm := { dev.thm with sensors := [(0, { Sensor.init with temp := 401 })], latched := true } }
    thermalClear s = false ∧ ringOff s ∧ ringOpen s ∧ s.pwr.pwrEn = true ∧ s.pwr.railsOk = true ∧ s.pwr.warnBlock = false) := by
  dsimp only [ringOff, ringOpen]; decide

/-- No context is left. -/
def bare (p : Phase) : State := { ph p with ctxs := [], progs := [] }

theorem witness_AlwaysOnPowerUpAndPowerDown_PowerDownReachesKeepAlive :
    dev.pwr.pwrEn = true ∧ (bare .run).phase ∈ [Phase.run, .reset, .test, .stay, .oosHold, .pcHeld] ∧ ringOff (bare .run) ∧ ringOpen (bare .run) ∧
    liveCtxs (bare .run) = [] ∧ dev.esp.bound = none ∧ (ph .strapBad).phase ∈ [Phase.kaTest, .keepAlive, .latched, .scan, .strapBad] ∧
    (ph .pcHeld).phase ∈ [Phase.run, .reset, .test, .stay, .oosHold, .pcHeld] := by
  dsimp only [ringOff, ringOpen]; decide

theorem witness_PowerEventsLimitIssue_WarningsStopIssueAndClear :
    ringOff dev ∧ ringOpen dev ∧ dev.esp.bound = none ∧ dev.pwr.warn = false ∧ dev.phase ∈ [Phase.run, .reset, .stay, .oosHold, .pcHeld, .scan] ∧
    (ph .thermWait).phase = .thermWait ∧ (ph .keepAlive).phase = .keepAlive ∧ dev.pwr.pwrEn = true ∧ (pw (fun x => { x with warn := true })).pwr.warn = true ∧
    ringOff (pw (fun x => { x with warn := true })) ∧ ringOpen (pw (fun x => { x with warn := true })) ∧ dev.bist.failed = [] ∧
    (∀ a, a < 3 → (Tbl.get Axis.init dev.axes a).failed = false ∧ (Tbl.get Axis.init dev.axes a).openFail = false ∧
    (Tbl.get Axis.init dev.axes a).closeFail = false) := by
  dsimp only [ringOff, ringOpen]; decide

theorem witness_PowerEventsLimitIssue_RailFaultsAndPowerCycles :
    dev.phase ≠ .off ∧ (pw (fun x => { x with vin12 := false })).pwr.vin12 = false ∧ (ph .latched).phase = .latched ∧
    (pw (fun x => { x with pwrGood := false })).pwr.pwrGood = false ∧ dev.pwr.pwrGood = true ∧ calm dev ∧ dev.esp.bound = none ∧ dev.rcd.ring.length < 16000 := by
  dsimp only [calm, ringOff, pipelineEmpty, ringOpen]; decide

/-- The cap meter after 99 samples of 950 W, at a cap target. -/
def meterD (t : Nat) (g e : Bool) : State :=
  pw (fun x => { x with meter := List.replicate 99 950000, capTarget := t, gating := g, exceeded := e })

theorem witness_PowerEventsLimitIssue_CapMeterHoldsTheCap :
    (∀ s ∈ [meterD 900 false false, meterD 550 false false, meterD 550 true false, meterD 550 true true], s.pwr.pwrGood = true ∧ calm s ∧
    ((20000 * 700000 / 1000 :: s.pwr.meter).take 10).foldl (· + ·) 0 / 10 * 10 > (liveVal s 1 0x20 0).toNat * 1000 * 11) ∧
    (let m := (12000 * 60000 / 1000 :: (meterD 900 false false).pwr.meter).take 100
    ¬ (m.take 100).foldl (· + ·) 0 / 100 > (liveVal dev 1 0x20 0).toNat * 1000 ∧ ¬ (m.take 10).foldl (· + ·) 0 / 10 * 10 > (liveVal dev 1 0x20 0).toNat * 1000 * 11 ∧
    ¬ (m.take 2).foldl (· + ·) 0 / 2 * 4 > dev.fuses.gradeW * 1000 * 5) := by
  dsimp only [calm, ringOff, pipelineEmpty, ringOpen]; decide

/-- A domain on its way to a state, with no program, or with one that waits for it. -/
def domS (d v : Nat) : State := { dev with progs := [], pwr := { dev.pwr with domTarget := [(d, v)] } }
def domP (d v : Nat) : Prog := { prog with wait := .domain d v 6 }

theorem witness_DomainsAndPowerStates_DomainsSwitch :
    (∀ e ∈ [(1110, 0), (512, 0), (1023, 0), (0, 1), (511, 0)], (domS e.1 e.2).pwr.domTarget.find? (fun x => x.1 == e.1) = some e ∧ e.1 ≠ 1102 ∧
    calm (domS e.1 e.2)) ∧ ¬ ((1110 : Nat) < 512 ∧ (0 : Nat) = 1) ∧ ¬ (512 ≤ (1110 : Nat) ∧ (1110 : Nat) < 1024 ∧ (0 : Nat) = 0) ∧
    [(3, domP 1110 0)] = [(3, domP 1110 0)] ∧ (domP 1110 0).wait = .domain 1110 0 (6 : BitVec 5).toNat ∧ hasNext (domP 1110 0) ∧
    8 ≤ ((List.replicate 8 0).filter (fun x => decide (dev.aon < x + 50000))).length ∧
    (domS 0 1).pwr.onTimes.length < 8 ∧ (domS 0 1).progs = [] := by
  dsimp only [hasNext, calm, ringOff, pipelineEmpty, ringOpen]; decide

/-- The device with a change of its power state under way. -/
def chg (r : Nat) : State := pw (fun x => { x with changing := some r })

theorem witness_DomainsAndPowerStates_PowerStateChanges :
    (∀ s ∈ [chg 3, chg (3 + 64), chg 0], ringOff s ∧ ringOpen s ∧ s.rcd.ring.length < 16000 ∧ Tbl.rising s.pwr.domains = true) ∧
    (chg 3).pwr.changing = some 3 ∧ dev.pwr.changing = none ∧ 3 % 4 = 3 ∧ (3 + 64) / 64 % 2 = 1 ∧ 3 / 64 % 2 = 0 ∧ 0 % 4 ≠ 3 ∧
    domState dev 0 ≠ 3 ∧ (∀ n ∈ dev.fuses.coppice ++ dev.bist.bootCop, n < 512) ∧
    (∀ n ∈ ({ dev.fuses with coppice := [7] } : Fuses).coppice, n < 512) := by
  dsimp only [ringOff, ringOpen]; decide

/-- The device 130 s after release, with group 4 stale or in its quiet window. -/
def late (f : Power → Power) : State := { dev with aon := 130000000000, pwr := f dev.pwr }

theorem witness_DomainsAndPowerStates_EstimatorIsCalibrated :
    ringOff dev ∧ ringOpen dev ∧ dev.phase = .run ∧ (4 : BitVec 6).toNat ∉ dev.pwr.stale ∧ (4 : BitVec 6).toNat ∈ (late (fun x => { x with stale := [4] })).pwr.stale ∧
    ringOff (late (fun x => { x with stale := [4] })) ∧ ringOpen (late (fun x => { x with stale := [4] })) ∧ (ph .reset).phase ≠ .run ∧ dev.pwr.quiet = none ∧
    (late (fun x => { x with quiet := some (4, 5) })).pwr.quiet = some ((4 : BitVec 6).toNat, 5) ∧ dev.pwr.warn = false ∧ dev.trd.owner = true ∧
    ringOff (late (fun x => { x with quiet := some (4, 5) })) ∧ ringOpen (late (fun x => { x with quiet := some (4, 5) })) ∧
    (∀ k, k < 64 → ¬ (Tbl.get 0 dev.pwr.calib k + 10000000000 ≤ dev.aon)) ∧
    (let s := late (fun x => { x with calib := [(0, 130000000000)], rotation := 63, forcedAt := [(63, 129000000000)] })
    (∀ i, i < 2 → ¬ (Tbl.get 0 s.pwr.calib ((s.pwr.rotation + i) % 64) + 10000000000 ≤ s.aon ∧
    (Tbl.has s.pwr.forcedAt ((s.pwr.rotation + i) % 64) = false ∨ Tbl.get 0 s.pwr.forcedAt ((s.pwr.rotation + i) % 64) + 10000000000 ≤ s.aon))) ∧
    Tbl.get 0 s.pwr.calib ((s.pwr.rotation + 2) % 64) + 10000000000 ≤ s.aon ∧ Tbl.has s.pwr.forcedAt ((s.pwr.rotation + 2) % 64) = false ∧
    lockstepGroup s ((s.pwr.rotation + 2) % 64) = false ∧ s.phase = .run ∧ s.pwr.quiet = none ∧ s.pwr.warn = false ∧ s.trd.owner = true ∧ ringOff s ∧ ringOpen s) ∧
    dev.aon < Tbl.get 0 dev.pwr.calib (4 : BitVec 6).toNat + 120000000000 ∧ Tbl.get 0 (late id).pwr.calib (4 : BitVec 6).toNat + 120000000000 ≤ (late id).aon ∧
    (4 : BitVec 6).toNat ∉ (late id).pwr.stale ∧ ringOff (late id) ∧ ringOpen (late id) := by
  dsimp only [ringOff, ringOpen]; decide +kernel

/-- A twin launch on slot 1, cluster 10. -/
def twinned : State :=
  { late (fun x => { x with calib := [(0, 130000000000)], rotation := 1 }) with
    ctxs := [(3, { ctx3 with launchNo := 1, launches := [{ launch1 with twin := true }] })], slots := [(1, slotOf shed0)] }

theorem witness_DomainsAndPowerStates_EstimatorIsCalibrated_twin :
    lockstepGroup twinned 1 = true ∧ (twinned.pwr.rotation + 0) % 64 = 1 ∧ Tbl.get 0 twinned.pwr.calib 1 + 10000000000 ≤ twinned.aon ∧
    Tbl.has twinned.pwr.forcedAt 1 = false ∧ twinned.pwr.quiet = none ∧ ringOff twinned ∧ ringOpen twinned := by
  dsimp only [ringOff, ringOpen]; decide +kernel

theorem witness_DomainsAndPowerStates_BypassSwitches :
    (let o : State := { dev with axes := [(0, { Axis.init with cmd := true })] }
    axisState o 0 = 0 ∧ calm o ∧ o.phase ≠ .off) ∧ axisState dev (0 : BitVec 2).toNat ≠ 0 ∧ calm dev ∧
    (2 : BitVec 2).toNat < 3 ∧ axisState dev (2 : BitVec 2).toNat ≠ 0 ∧ (Tbl.get Axis.init dev.axes 2).closeFail = false ∧ dev.phase ≠ .off ∧
    axisState { dev with axes := [(2, { Axis.init with cmd := true })] } (2 : BitVec 2).toNat = 0 := by
  dsimp only [calm, ringOff, pipelineEmpty, ringOpen]; decide

/-! ### Temperature, test, scan and fuses -/

theorem witness_TemperaturesSetTargets_MeasurementsSetTheTarget :
    5 ∈ zoneSensors 0 ∧ 512 ∈ zoneSensors 0 ∧ dev.phase ≠ .off ∧ calm dev ∧ (getSensor dev 5).broken = false ∧
    (∀ m ∈ zoneSensors 0, (getSensor dev m).hist = [] ∧ (getSensor dev m).rorFor = 0) ∧ (getZone dev 0).pre = false ∧ validOf dev (zoneSensors 64) ≠ [] ∧
    -160 ≤ (BitVec.ofInt 16 (-160)).toInt ∧ (600 : BitVec 16).toInt ≤ 600 ∧ (BitVec.ofInt 16 (-161)).toInt < -160 ∧ 600 < (601 : BitVec 16).toInt ∧
    zoneTemp dev 0 = some 0 := by
  dsimp only [calm, ringOff, pipelineEmpty, ringOpen]; decide

/-- The timebase sensor broken, and a zone at the fast cadence. -/
def thS (b : Bool) (c : Nat) : State :=
  { dev with thm := { dev.thm with sensors := [(596, { Sensor.init with broken := b })], zones := [(3, { Zone.slow with fast := true, calm := c })] } }

theorem witness_TemperaturesSetTargets_SensorsBreakAndZonesSlowDown :
    calm dev ∧ dev.phase ≠ .off ∧ (getSensor dev 596).broken = false ∧ validOf dev (zoneSensors 64) ≠ [] ∧ (getSensor (thS true 0) 596).broken = true ∧
    (getZone (thS false 10000) 3).fast = true ∧ 10000 ≤ (getZone (thS false 10000) 3).calm ∧ (getZone (thS false 9999) 3).calm < 10000 := by
  dsimp only [calm, ringOff, pipelineEmpty, ringOpen]; decide

/-- The device with votes and broken voters. -/
def vts (v b : BitVec 3) : State := { dev with thm := { dev.thm with votes := v, brokenV := b } }

theorem witness_TemperaturesSetTargets_VotesShutTheDeviceDown :
    (2 : BitVec 2).toNat < 3 ∧ calm (vts 0 0) ∧ (vts 0 0).phase ≠ .off ∧ (vts 0 0).phase ≠ .latched ∧ ((vts 0 0).thm.votes ||| (vts 0 0).thm.brokenV).getLsbD 2 = false ∧
    ¬ voteCount { vts 0 0 with thm := { (vts 0 0).thm with votes := (vts 0 0).thm.votes ||| (1#3 <<< 2) } } ≥ 2 ∧
    ((vts 4 0).thm.votes ||| (vts 4 0).thm.brokenV).getLsbD 2 = true ∧ (vts 0 4).thm.brokenV.getLsbD 2 = true ∧ calm (vts 1 0) ∧
    ((vts 1 0).thm.votes ||| (vts 1 0).thm.brokenV).getLsbD 2 = false ∧
    voteCount { vts 1 0 with thm := { (vts 1 0).thm with votes := (vts 1 0).thm.votes ||| (1#3 <<< 2) } } ≥ 2 ∧ calm (vts 0 2) ∧
    voteCount { vts 0 2 with thm := { (vts 0 2).thm with votes := (vts 0 2).thm.votes ||| (1#3 <<< 0) } } ≥ 2 ∧ (ph .stay).phase ≠ .run ∧ dev.phase = .run := by
  dsimp only [calm, ringOff, pipelineEmpty, ringOpen]; decide

/-- A test at one of its phases. -/
def tst (d p : Nat) : State := { bare .test with bist := { dev.bist with depth := d, phase := p } }

theorem witness_StartupTestScanAndFuses_TestPhasesEnd :
    (∀ s ∈ [tst 1 1, tst 1 2, tst 1 3, tst 0 3, tst 1 4], s.phase = .test ∧ 1 ≤ s.bist.phase ∧ s.bist.phase ≤ 4 ∧ s.pwr.warn = false ∧ ringOff s ∧ ringOpen s ∧
    s.rcd.ring.length < 16000 ∧ s.bist.failed = []) ∧ ¬ ((tst 1 1).bist.phase = 3 ∧ (tst 1 1).bist.depth = 1) ∧ ¬ ((tst 0 3).bist.phase = 3 ∧ (tst 0 3).bist.depth = 1) ∧
    (tst 1 3).bist.phase = 3 ∧ (tst 1 3).bist.depth = 1 ∧ phaseOfDomain 1100 = 1 ∧ phaseOfDomain 1103 = 2 ∧ phaseOfDomain 1088 = 3 ∧ phaseOfDomain 512 = 4 ∧
    0 ∉ (tst 1 4).bist.failed ∧ (1120 : Nat) ≤ 1120 ∧ phaseOfDomain 1120 = 1 ∧ phaseOfDomain 1103 ≠ 1 ∧
    512 - 512 ∈ ({ dev.bist with failed := [0] } : Bist).failed ∧ (tst 1 4).fuses.coppice = [] ∧ (tst 1 4).bist.bootCop = [] ∧
    (0 : Nat) < 512 ∧ (1024 + 7 / 8) ∈ ({ dev.bist with failed := [1024] } : Bist).failed := by
  dsimp only [ringOff, ringOpen]; decide

/-- A test about to be decided, with coppiced clusters, failed blocks, and the holds. -/
def tend (c f : List Nat) (o r : Bool) : State :=
  { tst 1 5 with fuses := { dev.fuses with coppice := c }, bist := { (tst 1 5).bist with failed := f }, rst := { dev.rst with oos := o, pcReq := r } }

theorem witness_StartupTestScanAndFuses_TestsEndInReleaseOrHold :
    (∀ s ∈ [tend (List.range 16) [] false false, tend [] [] true true, tend [] [] false true], s.phase = .test ∧ s.bist.phase = 5 ∧ s.pwr.warn = false ∧
    s.bist.scanPend = false ∧ ringOff s ∧ ringOpen s ∧ s.bist.failed = [] ∧ (excludedAfter s).length ≤ 16) ∧
    (tend (List.range 16) [] false false).rst.oos = false ∧ (tend (List.range 16) [] false false).rst.pcReq = false ∧ dev.axes = [] ∧
    (tend [] [] true true).rst.oos = true ∧ (tend [] [] false true).rst.pcReq = true ∧
    16 < (excludedAfter (tend (List.range 17) [] false false)).length ∧ essentialBits (tend [] [1116] false false) ≠ 0 ∧
    ringOff (tend [] [1116] false false) ∧ ringOpen (tend [] [1116] false false) ∧ (tend [] [1116] false false).phase = .test := by
  dsimp only [ringOff, ringOpen]; decide +kernel

theorem witness_StartupTestScanAndFuses_TestsEndInReleaseOrHold_axes :
    ∀ a, a < 4 → (Tbl.get Axis.init dev.axes a).closeFail = false := by decide

theorem witness_StartupTestScanAndFuses_TestEventsOutsideATest :
    dev.phase ≠ .test ∧ (ph .stay).phase = .stay ∧ dev.phase ≠ .stay := by decide

/-- The device with its scan fuse, scan mode and write window. -/
def scn (p : Phase) (l o n : Bool) : State :=
  { bare p with bist := { dev.bist with scanLock := l, scanOn := o }, thm := { dev.thm with nvOpen := n } }

theorem witness_StartupTestScanAndFuses_ScanIsEntered :
    (∀ s ∈ [scn .run true false true, scn .test false false true, scn .run false false true, scn .pcHeld false false true, scn .scan false true true,
    scn .scan false false false, scn .scan false false true], ringOff s ∧ ringOpen s) ∧
    (scn .run true false true).phase ≠ .off ∧ (scn .run true false true).phase ≠ .scan ∧ (scn .run true false true).bist.scanLock = true ∧
    (scn .test false false true).phase ∈ [Phase.test, .reset, .kaTest] ∧ (scn .test false false true).bist.scanLock = false ∧
    (scn .run false false true).phase ∈ [Phase.run, .stay, .keepAlive, .oosHold, .pcHeld] ∧ liveCtxs (scn .run false false true) = [] ∧
    (scn .scan false true true).bist.scanOn = true ∧ (scn .scan false false false).bist.scanOn = false ∧ (scn .scan false false false).thm.nvOpen = false ∧
    (scn .scan false false true).phase = .scan ∧ (scn .scan false false true).thm.nvOpen = true := by
  dsimp only [ringOff, ringOpen]; decide

/-- A fuse program of slot 3 with its words, at a temperature in quarters of a degree. -/
def fz (k : Nat) (l : List Word32) (t : BitVec 16) : State :=
  { dev with fuses := { dev.fuses with prog := [{ exec := 3, rd := 6, kind := k, key := 1, word := 0, done := 4, words := l }] },
             progs := [(3, { prog with wait := .fuse 6 })],
             thm := { dev.thm with sensors := [(596, { Sensor.init with temp := t, hist := [t] })] } }

theorem witness_StartupTestScanAndFuses_FuseWordsAreProgrammed :
    (∀ s ∈ [fz 0 [5] 100, fz 0 [5, 6] 100, fz 0 [5, 6] 10, fz 1 [5] 100], (getP s 3).isSome = true ∧ s.fuses.prog.length = 1 ∧ ringOff s ∧ ringOpen s) ∧
    (fz 0 [5] 100).fuses.prog = [{ exec := 3, rd := (6 : BitVec 5).toNat, kind := 0, key := 1, word := 0, done := 4, words := [5] }] ∧
    hasNext { prog with wait := .fuse 6 } ∧ getP (fz 0 [5] 100) 3 = some { prog with wait := .fuse 6 } ∧
    Tbl.get 0 (Tbl.put (fz 0 [5, 6] 100).fuses.opKeys (1 * 24 + 0) 5) (1 * 24 + 0 + 1) ≠ (6 : Word32) ∧ fuseWindow (fz 0 [5, 6] 100) = true ∧
    fuseWindow (fz 0 [5, 6] 10) = false := by
  dsimp only [hasNext, ringOff, ringOpen]; decide

/-! ### Checking -/

/-- The device with slot 1 running and jobs at its host's checker, one of them in arbitration under entry 7. -/
def chkS (j : TmmaJob) : State := jobs [j] (thr shed0)
def arbS (j : TmmaJob) : State :=
  { chkS j with err := { (chkS j).err with handlers := [(0, { entry := 7, queue := 2, key := .cluster 10, sev := 2, level := 0, taken := 0, reset := none })] } }
def bad1 : TileErr := ⟨0, 0, 1⟩

theorem witness_ProductsAreChecked_CleanProductsAreDelivered :
    (getCk (chkS (job 2)) (10 : BitVec 9).toNat).jobs = job 2 :: [] ∧ (job 2).stage = 0 ∧ (job 2).perr = [] ∧ (job 2).inj = 0 ∧ (job 2).inf = false ∧
    (job 2).stale = false ∧ (getS (chkS (job 2)) 1).ended = false ∧ (getS (chkS (job 2)) 1).ctx = (job 2).ctx ∧ ({ job 2 with stale := true } : TmmaJob).stale = true := by decide

theorem witness_ProductsAreChecked_FaultyProductsAreDisputed :
    calm (chkS (job 2)) ∧ (getCk (chkS (job 2)) (10 : BitVec 9).toNat).jobs = job 2 :: [] ∧ detected (job 2) [bad1] = true ∧
    ((getHist (chkS (job 2)) 10).storms.filter (fun t => decide ((chkS (job 2)).aon < t + 1000000000))).length < 16 ∧ (job 2).inf = false ∧
    tileWide (job 2).tileA.tag = false ∧ bad1.delta ≠ 0 := by
  dsimp only [calm, ringOff, pipelineEmpty, ringOpen]; decide +kernel

theorem witness_ProductsAreChecked_ResidueAndAccumulateFaults :
    calm (chkS (job 2)) ∧ (chkS (job 2)).rcd.ring.length < 16000 ∧ (getHist (chkS (job 2)) 10).transients = [] ∧ clState (chkS (job 2)) 10 < 2 ∧
    (getC (chkS (job 2)) (job 2).ctx).step.isOpen = false ∧ (getHist (chkS (job 2)) 10).returns = [] := by
  dsimp only [calm, ringOff, pipelineEmpty, ringOpen]; decide

/-- A job in arbitration under entry 7, with its deviations. -/
def jobA (st : Nat) (l q : List TileErr) : TmmaJob := { job 2 with stage := st, perr := l, qerr := q, entry := 7 }
def noArbS : State := { arbS (jobA 1 [bad1] []) with bist := { dev.bist with excluded := List.range 512 } }
def classedS (l : List TileErr) : State :=
  { arbS (jobA 1 l []) with chk := { (arbS (jobA 1 l [])).chk with cls := [(10, { ChkCl.init with jobs := [jobA 1 l []], classed := some (3, 0, 0) })] } }

theorem witness_DisputesAreArbitratedAndClassed_ArbitrationsEnd :
    ringOff (arbS (jobA 1 [bad1] [])) ∧ ringOpen (arbS (jobA 1 [bad1] [])) ∧ (getCk (arbS (jobA 1 [bad1] [])) (10 : BitVec 9).toNat).jobs = jobA 1 [bad1] [] :: [] ∧
    (jobA 1 [bad1] []).inj = 0 ∧ (jobA 1 [bad1] []).inf = false ∧ (jobA 1 [bad1] []).stale = false ∧ (getS (arbS (jobA 1 [bad1] [])) 1).ended = false ∧
    (getS (arbS (jobA 1 [bad1] [])) 1).ctx = (jobA 1 [bad1] []).ctx ∧ inHandling (arbS (jobA 1 [bad1] [])).err 7 = true ∧ (jobA 0 [] []).stage ≠ 1 ∧
    inHandling (chkS (jobA 1 [bad1] [])).err 7 = false ∧ (arbS (jobA 1 [bad1] [])).rcd.ring.length < 16000 := by
  dsimp only [ringOff, ringOpen]; decide

theorem witness_DisputesAreArbitratedAndClassed_ArbitrationsEnd_arbiters :
    pickArbiter noArbS 10 = none ∧ pickArbiter (arbS (jobA 1 [bad1] [])) 10 = some 0 ∧ pickArbiter (classedS []) 10 = some 0 ∧
    errTbl [] = errTbl (jobA 1 [] []).perr ∧ detected (jobA 1 [] []) (jobA 1 [] []).perr = false ∧ (getCk (classedS []) 10).classed = some (3, (jobA 1 [] []).ctr, 0) ∧
    errTbl [] ≠ errTbl (jobA 1 [bad1] []).perr ∧ detected (jobA 1 [bad1] []) (jobA 1 [bad1] []).perr = true := by decide +kernel

theorem witness_DisputesAreArbitratedAndClassed_RepeatsClassTheFault :
    (let s := arbS (jobA 2 [bad1] [])
    ringOff s ∧ ringOpen s ∧ s.rcd.ring.length < 16000 ∧ (getCk s 10).jobs = jobA 2 [bad1] [] :: [] ∧ (jobA 2 [bad1] []).noArb = false ∧
    (getCk s 10).classed ≠ some (3, 0, 0) ∧ clState s 10 = 0 ∧ (getHist s 10).returns = [] ∧ (getHist s 10).transients = [] ∧
    (getC s 3).step.isOpen = false ∧ Tbl.rising s.slots = true) ∧ (jobA 1 [bad1] []).stage ≠ 2 ∧
    errTbl [] = errTbl (jobA 2 [bad1] []).qerr ∧ errTbl [bad1] = errTbl (jobA 2 [bad1] []).perr ∧ errTbl [bad1] ≠ errTbl (jobA 2 [bad1] []).qerr ∧
    errTbl [⟨0, 0, 2⟩] ≠ errTbl (jobA 2 [bad1] []).qerr ∧ errTbl [⟨0, 0, 2⟩] ≠ errTbl (jobA 2 [bad1] []).perr := by
  dsimp only [ringOff, ringOpen]; decide

/-! ### Memory protection -/

/-- A stack controller at a granule, and with a late pass or an escalated scrub. -/
def eccS (f : StackEcc → StackEcc) : State := { dev with ecc := { dev.ecc with hbm := [(5, f StackEcc.init)] } }
def manyAgo (n : Nat) : StackEcc → StackEcc := fun e => { e with window := List.replicate n 0 }

theorem witness_ScrubbersReadEveryGranule_PatrolScrubReadsEveryGranule :
    (5 : BitVec 3).toNat < 6 ∧ domState dev (1088 + 5) = 1 ∧ dev.phase = .run ∧ ¬ ((6 : BitVec 3).toNat < 6) ∧
    (getE (eccS (fun e => { e with next := 805306367 })) 5).next + 1 = stackGranules ∧ ¬ ((getE (eccS id) 5).next + 1 = stackGranules) ∧
    calm (eccS id) ∧ (getE (eccS id) 5).recent.length < 60 ∧ isPoison (eccS id) ((5 * stackGranules + (getE (eccS id) 5).next) * 32) = false ∧
    SynClass.poison ∈ [SynClass.clean, .poison] := by
  dsimp only [calm, ringOff, pipelineEmpty, ringOpen]; decide

theorem witness_ScrubbersReadEveryGranule_ScrubKeepsItsRate :
    (getE (eccS id) 5).late = false ∧ calm (eccS id) ∧ (getE (eccS (fun e => { e with late := true })) 5).late = true ∧
    (getE (eccS (manyAgo 240)) 5).esc = false ∧ ((getE (eccS (manyAgo 240)) 5).window.filter (fun t => decide ((eccS id).aon < t + 3600000000000))).length ≤ 240 ∧
    (getE (eccS (fun e => { manyAgo 120 e with esc := true })) 5).esc = true ∧
    ((getE (eccS (fun e => { manyAgo 120 e with esc := true })) 5).window.filter (fun t => decide (dev.aon < t + 3600000000000))).length ≤ 120 ∧
    ringOff (eccS (fun e => { manyAgo 120 e with esc := true })) ∧ ringOpen (eccS (fun e => { manyAgo 120 e with esc := true })) ∧
    domState { dev with pwr := { dev.pwr with domains := [(522, 0)] } } (512 + (10 : BitVec 9).toNat) ≠ 1 ∧ domState dev (512 + (10 : BitVec 9).toNat) = 1 ∧
    (getB dev 10).slice = none := by
  dsimp only [ringOff, ringOpen, calm, pipelineEmpty]; decide

/-! ### Burling -/

/-- A pack of one fast item that expects 0xABCD, signed with the key of operator slot 1 (the key of RFC 6979 A.2.6). -/
def packN : Nat :=
  0xd8ed813b05aa1aeb43e77d74108c431dbd66d7075083df2f40f832f816bdc5acf94c15a66616b39f8f5988822237ed4cf29092765b44f6facaa94aaae43fd962b1c0134d1aab12ce4477e5a88b089b906e03dbdb0ffe4f06ffee293b0ced4ead1122334455667788000000000000abcd00000001000100000000000800000060000000100000000000000000000000000000000000000000000000000000000000000004000000c80000000000000000000000100001b101000000050000000200010001504c5242
def pack1 : List Byte := leBytes 200 packN
def opKey : Tbl Word32 :=
  [(24, 0x414e3aec), (25, 0xa4194e5b), (26, 0x02188656), (27, 0xa57f429f), (28, 0xc48b9ada), (29, 0x2ee092ae), (30, 0x28e5aa06), (31, 0x640c306b), (32, 0xeaf0f8de), (33, 0x60865590), (34, 0x5154a264), (35, 0x13bc8054), (36, 0xb7d91580), (37, 0x24577d2d), (38, 0x9aefa84e), (39, 0x8921c6c0), (40, 0x93a50867), (41, 0xb9dff967), (42, 0x4ba84cf5), (43, 0xb19d1c3f), (44, 0x1c238b28), (45, 0xfed4e03a), (46, 0x25fd4473), (47, 0x20472633)]
/-- The device with that pack installed, and cluster 10 with its progress. -/
def brlS (s : State) (f : BrlCl → BrlCl) : State :=
  { s with brl := { s.brl with pack := some pack1, cls := [(10, { f BrlCl.init with pack := 1 })] } }
def thrDef : State := brlS { thr shed0 with sets := { dev.sets with regs := Tbl.put dev.sets.regs (setPlace 7 0x20 3) ⟨1, 1, 0⟩ } } (fun b => { b with debt := 1800000000 })

theorem witness_BurlingSlicesTestClusters_SlicesStartOrAreDeferred :
    sliceAllowed { dev with phase := .reset } 10 = false ∧ sliceAllowed (brlS dev id) (10 : BitVec 9).toNat = true ∧ (getB (brlS dev id) 10).pack = (brlS dev id).brl.packNo ∧
    (getB (brlS dev id) 10).again = none ∧ debtNow (brlS dev id) 10 < 1800000000 ∧ runningSlot (brlS dev id) 10 = none ∧
    sliceAllowed thrDef 10 = true ∧ 1800000000 ≤ debtNow thrDef 10 ∧ runningSlot thrDef 10 = some 1 ∧ (getB thrDef 10).noSlice ≠ some 1 ∧ (getB thrDef 10).defer < 16 ∧
    (liveVal thrDef 7 0x20 (getS thrDef 1).ctx).getLsbD 0 = true ∧ (getB thrDef 10).again = none ∧ (getB thrDef 10).pack = thrDef.brl.packNo := by decide +kernel

theorem witness_BurlingSlicesTestClusters_SlicesStartOrAreDeferred_starts :
    (let s := brlS dev (fun b => { b with debt := 1800000000, defer := 15, count := 1 })
    sliceAllowed s 10 = true ∧ 1800000000 ≤ debtNow s 10 ∧ runningSlot s 10 = none ∧ (getB s 10).defer < 16 ∧ (getB s 10).count % 3 ≠ 2 ∧
    fromPos (itemsOf (packBytes s) 0) (getB s 10).nextFast = some 0 ∧ (itemNeeds (packBytes s) 0).testBit 0 = false) := by decide +kernel

/-- A slice of cluster 10, and the device in it. -/
def slc (sw sh op : Bool) : BrlSlice :=
  { start := 0, sweep := sw, item := 0, shared := sh, isOpen := op, forced := false, slot := none, region := 0, bytes := some pack1 }
def inSlice (x : BrlSlice) (a : Option (Nat × Word64)) : State := brlS { dev with aon := 132001 } (fun b => { b with slice := some x, again := a })

theorem witness_BurlingSlicesTestClusters_ItemsPassOrFail :
    (getB dev 10).slice = none ∧ (getB (inSlice (slc true false false) none) 10).slice = some (slc true false false) ∧ (slc true false false).isOpen = false ∧
    (getB (inSlice (slc true false true) none) 10).slice = some (slc true false true) ∧ (slc true false true).isOpen = true ∧ (slc true false true).shared = false ∧
    (getB (inSlice (slc true false true) none) 10).again = none ∧ (slc true false true).sweep = true ∧
    (0xABCD : BitVec 64).toNat = itemExpected (slicePack (slc true false true)) (slc true false true).item ∧
    (0 : BitVec 64).toNat ≠ itemExpected (slicePack (slc true false true)) (slc true false true).item ∧ calm (inSlice (slc true false true) none) ∧
    (slc true false true).start + 132000 < (inSlice (slc true false true) none).aon := by
  dsimp only [calm, ringOff, pipelineEmpty, ringOpen]; decide +kernel

theorem witness_BurlingSlicesTestClusters_RepeatedItemsClassTheCluster :
    (let s := inSlice (slc false false true) (some (0, 5))
    ringOff s ∧ ringOpen s ∧ s.rcd.ring.length < 16000 ∧ (getB s 10).slice = some (slc false false true) ∧ (slc false false true).isOpen = true ∧
    (getB s 10).again = some ((slc false false true).item, 5) ∧ clState s 10 = 0 ∧ (getHist s 10).returns = [] ∧ (getHist s 10).transients = [] ∧
    s.brl.blame = []) ∧ (5 : BitVec 64).toNat ≠ itemExpected (slicePack (slc false false true)) 0 ∧
    (0xABCD : BitVec 64).toNat = itemExpected (slicePack (slc false false true)) 0 ∧ (6 : BitVec 64).toNat ≠ itemExpected (slicePack (slc false false true)) 0 ∧
    (6 : BitVec 64) ≠ 5 := by
  dsimp only [ringOff, ringOpen]; decide +kernel

theorem witness_BurlingSlicesTestClusters_SlicesEnd :
    (getB dev 10).slice = none ∧ (getB (inSlice (slc true false true) none) 10).slice = some (slc true false true) ∧ (slc true false true).isOpen = true ∧
    (getB (inSlice (slc true false false) none) 10).slice = some (slc true false false) ∧ (slc true false false).isOpen = false ∧ (slc true false false).slot = none ∧
    debtNow (inSlice (slc true false false) none) 10 - 10000 * ((inSlice (slc true false false) none).aon - (slc true false false).start) < 1800000000 ∧
    (slc true true true).isOpen = true ∧ (slc true true true).shared = true ∧ (getB (inSlice (slc true true true) none) 10).slice = some (slc true true true) ∧
    ringOff (inSlice (slc true true true) none) ∧ ringOpen (inSlice (slc true true true) none) ∧ (inSlice (slc true true true) none).brl.pack = (slc true true true).bytes ∧
    clInService { dev with bist := { dev.bist with excluded := [10] } } 10 = false ∧ debtNow dev 10 < 57600000000 ∧ clInService dev 10 = true ∧
    debtNow (brlS dev (fun b => { b with debt := 57600000000 })) 10 = 57600000000 ∧ clInService (brlS dev (fun b => { b with debt := 57600000000 })) 10 = true ∧
    (getB (brlS dev (fun b => { b with debt := 57600000000 })) 10).short = 0 ∧ calm (brlS dev (fun b => { b with debt := 57600000000 })) := by
  dsimp only [ringOff, ringOpen, calm, pipelineEmpty]; decide +kernel

/-- Cluster 10 quarantined with a cause, queued for its deep run or in it. -/
def deepS (v : Word64) (q : List Nat) (d : Tbl Nat) : State :=
  { dev with sets := { dev.sets with hard := [(setPlace 7 0x40A 0, ⟨v, v, v, v, 0⟩)] }, deepQ := q, brl := { dev.brl with deep := d } }

theorem witness_DeepRunsAndPacks_DeepRunsStartAndEnd :
    (ph .reset).phase ≠ .run ∧ 4 ≤ (deepS 2 [10] [(1, 0), (2, 0), (3, 0), (4, 0)]).brl.deep.length ∧
    (deepS 2 [10] []).brl.deep.length < 4 ∧ (deepS 2 [10] []).trd.owner = true ∧ (deepS 2 [10] []).phase = .run ∧
    (deepS 2 [10] []).deepQ.find? (fun m => clState (deepS 2 [10] []) m == 2 && !neverOn (deepS 2 [10] []) m && (getB (deepS 2 [10] []) m).slice.isNone &&
    !isFencedEngine (deepS 2 [10] []) m) = some 10 ∧
    Tbl.has (deepS 2 [10] []).brl.deep (10 : BitVec 9).toNat = false ∧ Tbl.has (deepS 2 [] [(10, 5)]).brl.deep 10 = true ∧ clState (deepS 2 [] [(10, 5)]) 10 = 2 ∧
    calm (deepS 2 [] [(10, 5)]) ∧ (liveVal (deepS 2 [] [(10, 5)]) 7 0x40A 0).toNat / 2 ^ 24 % 256 ≠ 2 ∧ (getHist (deepS 2 [] [(10, 5)]) 10).returns = [] ∧
    (liveVal (deepS 0x2000002 [] [(10, 5)]) 7 0x40A 0).toNat / 2 ^ 24 % 256 = 2 ∧ clState (deepS 0x2000002 [] [(10, 5)]) 10 = 2 ∧ calm (deepS 0x2000002 [] [(10, 5)]) ∧
    (deepS 2 [] []).deepQ = [] := by
  dsimp only [calm, ringOff, pipelineEmpty, ringOpen]; decide +kernel

/-- A verification of the pack in the staging half, for the program of slot 3, with key slot `k` selected. -/
def verS (k : Nat) : State :=
  { dev with progs := [(3, { prog with wait := .verify 6 })], fuses := { dev.fuses with opKeys := opKey }, trd := { dev.trd with bkey := k },
             brl := { dev.brl with pack := some (leBytes 12 0), staging := pack1 ++ [0, 0], verify := some 3 } }

theorem witness_DeepRunsAndPacks_PacksAreInstalledOrRefused :
    (∀ s ∈ [verS 1, verS 2], ringOff s ∧ ringOpen s ∧ s.progs.length = 1 ∧ s.brl.verify = some 3) ∧ hasNext { prog with wait := .verify 6 } ∧
    (verS 1).progs = [(3, { prog with wait := .verify 6 })] ∧ ({ prog with wait := .verify 6 } : Prog).wait = .verify (6 : BitVec 5).toNat ∧ dev.brl.verify = none ∧
    packResult (verS 1) = 0 ∧ packResult (verS 2) = 1 := by
  dsimp only [hasNext, ringOff, ringOpen]; decide +kernel

/-- The P-384 public key of RFC 6979 A.2.6, and its signature of the message "sample" with SHA-384: a vector from outside the model. -/
def rfcKey : List Byte :=
  (leBytes 48 0xec3a4e415b4e19a4568618029f427fa5da9a8bc4ae92e02e06aae5286b300c64def8f0ea9055866064a254515480bc13).reverse ++
  (leBytes 48 0x8015d9b72d7d57244ea8ef9ac0c621896708a59367f9dfb9f54ca84b3f1c9db1288b231c3ae0d4fe7344fd2533264720).reverse
def rfcSig : List Byte :=
  (leBytes 48 0x94EDBB92A5ECB8AAD4736E56C691916B3F88140666CE9FA73D64C4EA95AD133C81A648152E44ACF96E36DD1E80FABE46).reverse ++
  (leBytes 48 0x99EF4AEB15F178CEA1FE40DB2603138F130E740A19624526203B6351D0A3A94FA329C145786E679E7B82C71A38628AC8).reverse
set_option maxRecDepth 100000 in
theorem test_ecdsa_of_rfc6979 :
    signatureOk rfcKey [0x73, 0x61, 0x6d, 0x70, 0x6c, 0x65] rfcSig = true ∧ signatureOk rfcKey [0x73] rfcSig = false := by
  decide +kernel
set_option maxRecDepth 100000 in
/-- SHA-384 of "abc" (FIPS 180-4). -/
theorem test_sha384_abc :
    sha384 [0x61, 0x62, 0x63] =
      0xcb00753f45a35e8bb5a03d699ac65007272c32ab0eded1631a8b605a43ff5bed8086072ba1e7cc2358baeca134c825a7 := by
  decide +kernel

/-! ### Errors, watchdogs and resets -/

/-- An entry of a code and severity, of context 3 or of none, and the device with its queues. -/
def ent (code sev ctx : Nat) : Entry :=
  { id := 7, code := code, sev := sev, srcClass := 2, srcIndex := 10, ctx := ctx, domain := 0xFFFF, key := .cluster 10, arrivals := 1, payload := [] }
def erS (f : Pipeline → Pipeline) : State := { dev with err := f dev.err }
def full3 : State := erS (fun e => { e with q3 := List.replicate 64 (ent 0x4003 2 0xFFFF) })

theorem witness_ErrorsTakeTheirWay :
    evInfo (0 : BitVec 16).toNat = none ∧ evInfo (0x2052 : BitVec 16).toNat = some (5, 1) ∧ evInfo 0x7001 = some (0, 0) ∧ evInfo 0xD001 = some (5, 5) ∧
    evInfo 0x5001 = some (2, 1) ∧ calm dev ∧ (1 : Nat) ≠ 5 ∧ (0 : Nat) ≠ 1 ∧ (0 : Nat) ≠ 5 ∧
    (let s := erS (fun e => { e with q3 := [ent 0x5001 2 0xFFFF] })
    ringOff s ∧ ringOpen s ∧ s.err.safe = false ∧ s.err.handlers = [] ∧ entriesOf s.err (queueOf 0x5001 2) = [ent 0x5001 2 0xFFFF] ∧
    (ent 0x5001 2 0xFFFF).srcClass = (2 : BitVec 8).toNat ∧ (ent 0x5001 2 0xFFFF).srcIndex = (10 : BitVec 16).toNat ∧
    (ent 0x5001 2 0xFFFF).ctx = (0xFFFF : BitVec 16).toNat) ∧
    ringOff full3 ∧ ringOpen full3 ∧ 64 ≤ (entriesOf full3.err (queueOf 0x5001 2)).length ∧ (∀ x ∈ entriesOf full3.err (queueOf 0x5001 2), x.code ≠ 0x5001) := by
  dsimp only [ringOff, ringOpen, calm, pipelineEmpty]; decide +kernel

theorem witness_ErrorsTakeTheirWay_HandlersTakeEntries :
    ({ dev with trd := { dev.trd with owner := false } } : State).trd.owner = false ∧ (ph .test).phase ≠ .run ∧ (ph .test).phase ≠ .keepAlive ∧
    (ph .test).phase ≠ .oosHold ∧ pipelineEmpty dev ∧ dev.trd.owner = true ∧ dev.phase = .run ∧
    (let s := erS (fun e => { e with q3 := [ent 0x5001 2 0xFFFF] })
    s.err.handlers = [] ∧ s.err.safe = false ∧ s.rst.runs = [] ∧ s.err.ringDue = false ∧ (∀ b ∈ s.brl.cls, b.2.slice = none) ∧ s.err.q1 = [] ∧
    s.err.q0 = [] ∧ s.err.q2 = [] ∧ s.err.q3 = [ent 0x5001 2 0xFFFF]) ∧ (ent 0x5001 2 0xFFFF).sev ≠ 5 ∧
    (ent 0x5001 2 0xFFFF).code ∉ [0x3001, 0x3040, 0x3050, 0x3061, 0x4010, 0x4020, 0x6001, 0x6010, 0xD044, 0xC004, 0xC005] ∧
    (let s := erS (fun e => { e with q2 := [ent 0x4020 3 3] })
    s.err.q0 = [] ∧ s.err.q2 = [ent 0x4020 3 3] ∧ (ent 0x4020 3 3).sev = 3 ∧ (3 : Nat) ∈ liveCtxs s ∧ ctxRemoved s 3 = false) ∧
    (let s := erS (fun e => { e with q0 := [ent 0x2052 5 0xFFFF] })
    s.err.q0 = [ent 0x2052 5 0xFFFF] ∧ (ent 0x2052 5 0xFFFF).ctx = 0xFFFF ∧ s.rcd.frozen = false ∧ s.esp.bound = none) := by
  dsimp only [pipelineEmpty]; decide

theorem witness_ErrorsTakeTheirWay_WatchdogsReportHangs :
    calm (thr shed0) ∧ (getC (thr shed0) (3 : BitVec 8).toNat).inUse = true ∧ (getC (thr shed0) 3).ended = false ∧ hasWork (thr shed0) 3 = true ∧
    isFenced (thr shed0) 3 = false ∧ (getC dev 4).inUse = false ∧ hasWork dev 3 = false ∧ isFenced { dev with rst := { dev.rst with runs := [(0, fence3)] } } 3 = true ∧
    watchedEngine (513 : BitVec 16).toNat = false ∧ domState dev 1102 ≠ 1 ∧ (ph .reset).phase ≠ .run ∧ calm dev ∧ watchedEngine (10 : BitVec 16).toNat = true ∧
    domState dev (10 : BitVec 16).toNat = 1 ∧ isFencedEngine dev 10 = false ∧ dev.phase = .run ∧ (10 : BitVec 16).toNat ≠ 1102 ∧
    (let s := pw (fun x => { x with domains := [] })
    calm s ∧ watchedEngine 1102 = true ∧ domState s 1102 = 1 ∧ isFencedEngine s 1102 = false ∧ s.phase = .run ∧ s.esp.hangs = []) := by
  dsimp only [calm, ringOff, pipelineEmpty, ringOpen]; decide

/-- A handler with an entry of context 3, alone or with its reset at a level. -/
def hand (r : Option Nat) : Handling := { entry := 7, queue := 2, key := .cluster 10, sev := 3, level := 3, taken := 0, reset := r }
def fence4 (l : Nat) (d : Option Nat) : ResetRun := { fence3 with level := l, drainEnd := d }
def hanS (r : Option Nat) (l : Tbl ResetRun) : State :=
  { erS (fun e => { e with handlers := [(2, hand r)], q2 := [ent 0x4020 3 3] }) with rst := { dev.rst with runs := l } }

theorem witness_ResetsDrainAndComplete_HandlingGoesOnAtTheNextLevel :
    ringOff (hanS none []) ∧ ringOpen (hanS none []) ∧ (∀ b ∈ (hanS none []).brl.cls, b.2.slice = none) ∧ (∀ x ∈ dev.err.handlers, x.1 ≠ (2 : BitVec 4).toNat) ∧
    (hanS none []).err.handlers = [((2 : BitVec 4).toNat, hand none)] ∧ (hand none).reset = none ∧ entriesOf (hanS none []).err (hand none).queue = [ent 0x4020 3 3] ∧
    (ent 0x4020 3 3).id = (hand none).entry ∧ (ent 0x4020 3 3).ctx < 256 ∧ (ent 0x4020 3 3).ctx ∈ liveCtxs (hanS none []) ∧ (hanS none []).rst.runs = [] ∧
    ringOff (hanS (some 1) [(1, fence4 3 none)]) ∧ ringOpen (hanS (some 1) [(1, fence4 3 none)]) ∧
    (hanS (some 1) [(1, fence4 3 none)]).err.handlers = [(2, hand (some 1))] ∧ (hand (some 1)).reset = some 1 ∧
    (hanS (some 1) [(1, fence4 3 none)]).rst.runs = [(1, fence4 3 none)] ∧ (fence4 3 none).level = 3 ∧ (hanS (some 1) [(1, fence4 3 none)]).phase = .run ∧
    (ph .stay).phase ≠ .run ∧ dev.phase = .run ∧ dev.esp.bound = none ∧ dev.rst.runs = [] ∧ dev.err.safe = false := by
  dsimp only [ringOff, ringOpen]; decide

/-- One reset in progress, with a program that waits or none. -/
def resS (r : ResetRun) (l : Tbl Prog) : State := { dev with rst := { dev.rst with runs := [(1, r)] }, progs := l }

theorem witness_ResetsDrainAndComplete_DrainsEndAndResetsGoOn :
    (∀ x ∈ dev.rst.runs, x.1 ≠ 1) ∧ (resS (fence4 0 (some 5)) []).rst.runs = [(1, fence4 0 (some 5))] ∧ (fence4 0 (some 5)).drainEnd ≠ none ∧
    (resS fence3 []).rst.runs = [(1, fence3)] ∧ fence3.drainEnd = none ∧ (resS fence3 []).shut = [] ∧ (∀ x ∈ (resS fence3 [(3, prog)]).progs, x.2.wait = .none) ∧
    (resS fence3 [(3, waiter false 0)]).progs = [(3, waiter false 0)] ∧ (waiter false 0).wait = .object 3 2 5 0 6 false ∧ (3 : Nat) ∈ fence3.ctxs ∧
    5 ≤ (fence4 5 none).level ∧ (fence4 3 none).level = 3 ∧ (fence4 3 none).fn = none ∧ (resS (fence4 3 none) []).phase = .run ∧
    ringOff (resS (fence4 3 none) []) ∧ ringOpen (resS (fence4 3 none) []) ∧ (∀ b ∈ (resS (fence4 3 none) []).brl.cls, b.2.slice = none) ∧
    (resS (fence4 3 none) []).esp.bound = none := by
  dsimp only [ringOff, ringOpen]; decide

/-- A reset of context 3 and one of the chip whose drains have ended. -/
def resCtx : ResetRun := { fence4 0 (some 5) with snapshot := [(3, [])] }
def resChip (k : Bool) : ResetRun := { fence4 4 (some 5) with ctxs := [], snapshot := [(0xFFFF, [])], counts := k }
def resSC (k : Bool) (h : List Nat) : State := { resS (resChip k) [] with phase := .reset, rst := { dev.rst with runs := [(1, resChip k)], history := h } }

theorem witness_ResetsDrainAndComplete_ResetsComplete :
    ringOff (resS resCtx []) ∧ ringOpen (resS resCtx []) ∧ (resS resCtx []).rcd.ring.length < 16000 ∧ (∀ x ∈ dev.rst.runs, x.1 ≠ 1) ∧
    (resS resCtx []).rst.runs = [(1, resCtx)] ∧ resCtx.drainEnd ≠ none ∧ resCtx.fn = none ∧ resCtx.handlers = [] ∧ resCtx.waiters = [] ∧
    (liveVal (resS resCtx []) 8 0x20 0).toNat % 2 = 0 := by
  dsimp only [ringOff, ringOpen]; decide

theorem witness_ResetsDrainAndComplete_ResetsComplete_context :
    resCtx.level = 0 ∧ resCtx.target = 3 ∧ resCtx.ctxs = [3] ∧ resCtx.snapshot = [(3, [])] ∧
    resCtx.counts = false ∧ (3 : Nat) ∈ liveCtxs (resS resCtx []) ∧ (getC (resS resCtx []) 3).inUse = true ∧ (getC (resS resCtx []) 3).ended = false ∧
    (getC (resS resCtx []) 3).fault ≠ 0x0113 ∧ (getC (resS resCtx []) 3).step.waiting = [] ∧ (resS resCtx []).esp.bound ≠ some 3 ∧ isPaired (resS resCtx []) 3 = false ∧
    (∀ q ∈ (resS resCtx []).queues, q.2.ctx ≠ 3) ∧ (∀ x ∈ (resS resCtx []).progs, x.2.wait = .none) := by decide

theorem witness_ResetsDrainAndComplete_ResetsComplete_groups : ∀ g, g < 16 → (getG (resS resCtx []) 3 g).ops = [] := fun _ _ => rfl

theorem witness_ResetsDrainAndComplete_ResetsComplete_chip :
    (∀ s ∈ [resSC false [], resSC true [], resSC true [0, 0]], ringOff s ∧ ringOpen s ∧ s.rcd.ring.length < 16000 ∧ s.phase = .reset ∧
    (liveVal s 8 0x20 0).toNat % 2 = 0 ∧ s.rst.oos = false) ∧
    (resSC true [0, 0]).rst.runs = [(1, resChip true)] ∧ (resChip true).level = 4 ∧ (resChip true).ctxs = [] ∧ (resChip true).snapshot = [(0xFFFF, [])] ∧
    (resChip true).drainEnd ≠ none ∧ (resChip true).fn = none ∧ (resChip true).handlers = [] ∧ (resChip true).waiters = [] ∧
    (resChip true).counts = true ∧ 2 ≤ countHour (resSC true [0, 0]) ∧ (resChip false).counts = false ∧ (resSC true []).rst.history = [] := by
  dsimp only [ringOff, ringOpen]; decide

/-! ### Links and time -/

/-- The device with axis 0 open and port 1 as given. -/
def lnk (f : LinkPort → LinkPort) : State := { dev with axes := [(0, { Axis.init with cmd := true })], links := [(1, f LinkPort.init)] }
def upS (f : LinkPort → LinkPort) : State := lnk (fun l => f { l with up := true, cred0 := 128, cred1 := 32 })

theorem witness_LinksTrainAndFall_PortsTrain :
    mayTrain (lnk id) (1 : BitVec 3).toNat = true ∧ (getL (lnk id) 1).slow = false ∧ mayTrain (lnk (fun l => { l with slow := true })) 1 = true ∧
    (getL (lnk (fun l => { l with slow := true })) 1).slow = true ∧ mayTrain (lnk id) 6 = false ∧ (getL (lnk id) 1).training = false ∧
    (getL (lnk (fun l => { l with training := true, slow := true })) 1).training = true ∧ (getL (lnk (fun l => { l with training := true, fails := 1 })) 1).fails < 2 ∧
    2 ≤ (getL (lnk (fun l => { l with training := true, fails := 2 })) 1).fails ∧ calm (lnk (fun l => { l with training := true, fails := 2 })) := by
  dsimp only [calm, ringOff, pipelineEmpty, ringOpen]; decide

/-- A neighbour at port `q` with a coordinate, and the training device with its own. -/
def nbr (q : BitVec 3) (c : Word64) : NeighbourId := { serial := 5, coord := c, port := q }
def trS (mine : Word64) (f : LinkPort → LinkPort) : State :=
  { lnk (fun l => f { l with training := true }) with sets := { dev.sets with regs := Tbl.put dev.sets.regs (setPlace 9 0x20 0) ⟨mine, mine, 0⟩ } }

theorem witness_LinksTrainAndFall_LinksComeUp :
    (getL (lnk id) 1).training = false ∧ (getL (trS 0 id) (1 : BitVec 3).toNat).training = true ∧ axisState (trS 0 id) ((1 : BitVec 3).toNat / 2) = 0 ∧
    calm (trS 0 id) ∧ portRight (liveVal (trS 0 id) 9 0x20 0) (nbr 2 0).coord 1 (nbr 2 0) = false ∧
    calm (trS 0x80777003 id) ∧ portRight (liveVal (trS 0x80777003 id) 9 0x20 0) (nbr 0 0x80777000).coord 1 (nbr 0 0x80777000) = true ∧
    skipOf (liveVal (trS 0x80777003 id) 9 0x20 0) (nbr 0 0x80777000).coord 1 ≠ 15 ∧ 1 < skipOf (liveVal (trS 0x80777003 id) 9 0x20 0) (nbr 0 0x80777000).coord 1 ∧
    (nbr 0 0).port.toNat = (if (1 : Nat) % 2 = 0 then 1 + 1 else 1 - 1) ∧ coordValid (liveVal (trS 0 id) 9 0x20 0) = false ∧
    (getL (trS 0 id) 1).kept = false ∧ (getL (trS 0 id) 1).keptSerial = 0 ∧ (getL (trS 0 id) 1).ops = [] := by
  dsimp only [calm, ringOff, pipelineEmpty, ringOpen]; decide

theorem witness_LinksTrainAndFall_LinksComeUp_kept :
    (let s := trS 0 (fun l => { l with kept := true, keptSerial := 5 })
    (getL s 1).kept = true ∧ (getL s 1).keptSerial = (nbr 0 0).serial ∧ (getL s 1).keptCoord = (nbr 0 0).coord ∧ s.aon ≤ (getL s 1).away + 100000000 ∧
    (getL s 1).replay = [] ∧ (getL s 1).wait0 = [] ∧ (getL s 1).wait1 = [] ∧ (getL s 1).training = true ∧ ringOff s ∧ ringOpen s) := by
  dsimp only [ringOff, ringOpen]; decide

theorem witness_LinksTrainAndFall_LinksGoDown :
    6 ≤ (6 : BitVec 3).toNat ∧ 5 < (6 : BitVec 4).toNat ∧ (getL (lnk id) 1).up = false ∧ 1 ≤ (5 : BitVec 4).toNat ∧ (5 : BitVec 4).toNat ≤ 5 ∧
    (getL (upS id) (1 : BitVec 3).toNat).up = true ∧ calm (upS id) ∧ (upS id).col.groups = [] ∧ (getL (lnk id) 1).kept = false ∧
    (getL (lnk (fun l => { l with kept := true })) 1).kept = true ∧ (getL (lnk (fun l => { l with kept := true })) 1).up = false ∧
    (getL (lnk (fun l => { l with kept := true })) 1).ops = [] ∧ calm (lnk (fun l => { l with kept := true, ops := [⟨9, 3, 4, 2⟩] })) ∧
    (getL (lnk (fun l => { l with kept := true, ops := [⟨9, 3, 4, 2⟩] })) 1).ops = [⟨9, 3, 4, 2⟩] := by
  dsimp only [calm, ringOff, pipelineEmpty, ringOpen]; decide

/-- A flit-group of a kind, with a sequence number and an ack. -/
def flt (k : Byte) (n a : BitVec 16) (ok : Bool) : FlitGroup :=
  { kind := k, flags := 6, seq := n, ack := a, credit0 := 1, credit1 := 0, poison := 0, payload := [7], crcOk := ok }
def held1 (n : Nat) : LinkFlit := ⟨n, 0, true, true, 0, [7]⟩
def crcS : State := upS (fun l => { l with crcTimes := List.replicate 1000 0, nak := false })

theorem witness_FlitGroupsAndLinkOperations_FlitGroupsAreReceived :
    (getL (lnk id) 1).up = false ∧ (getL (upS id) (1 : BitVec 3).toNat).up = true ∧ (getL (upS id) 1).wait0 = [] ∧ (getL (upS id) 1).wait1 = [] ∧
    (getL (upS id) 1).replay = [] ∧ (flt 6 0 0 true).kind.toNat = 6 ∧ (flt 1 1 0 true).kind.toNat = 1 ∧ (flt 1 1 0 true).crcOk = true ∧
    (flt 1 1 0 true).flags.getLsbD 3 = false ∧ (flt 1 1 0 true).seq.toNat = ((getL (upS id) 1).seqRx + 1) % 65536 ∧
    (flt 1 3 0 true).seq.toNat ≠ ((getL (upS id) 1).seqRx + 1) % 65536 ∧
    ((flt 1 3 0 true).seq.toNat + 65536 - ((getL (upS id) 1).seqRx + 1) % 65536) % 65536 < 32768 ∧ (getL (upS id) 1).nak = false ∧
    32768 ≤ ((flt 3 0 0 true).seq.toNat + 65536 - ((getL (upS id) 1).seqRx + 1) % 65536) % 65536 ∧
    (flt 2 0 4 true).kind.toNat = 2 ∧ (getL (upS (fun l => { l with replay := [held1 4, held1 5] })) 1).replay = [held1 4, held1 5] ∧
    (held1 4).seq = (flt 2 0 4 true).ack.toNat ∧ (flt 2 0 4 true).flags.getLsbD 3 = false ∧ (flt 1 1 0 false).crcOk = false ∧ 6 < (flt 7 0 0 true).kind.toNat ∧
    (getL (upS id) 1).crcTimes.length < 1000 ∧ 1000 ≤ ((getL crcS 1).crcTimes.filter (fun u => decide (crcS.aon < u + 1000000000))).length ∧ calm crcS ∧
    crcS.col.groups = [] := by
  dsimp only [calm, ringOff, pipelineEmpty, ringOpen]; decide +kernel

theorem witness_FlitGroupsAndLinkOperations_PortsResendAlignAndTellTheTime :
    (getL (lnk id) 1).up = false ∧ (getL (upS id) (1 : BitVec 3).toNat).replay = [] ∧ (getL (upS (fun l => { l with replay := [held1 4], rounds := 15 })) 1).replay = [held1 4] ∧
    (getL (upS (fun l => { l with replay := [held1 4], rounds := 15 })) 1).rounds < 16 ∧ 16 ≤ (getL (upS (fun l => { l with replay := [held1 4], rounds := 16 })) 1).rounds ∧
    (getL (upS (fun l => { l with replay := [held1 4], rounds := 16 })) 1).replay ≠ [] ∧ calm (upS (fun l => { l with replay := [held1 4], rounds := 16 })) ∧
    (upS id).col.groups = [] ∧ (getL (upS (fun l => { l with sinceAlign := 4094 })) 1).sinceAlign < 4095 ∧
    4095 ≤ (getL (upS (fun l => { l with sinceAlign := 4095 })) 1).sinceAlign := by
  dsimp only [calm, ringOff, pipelineEmpty, ringOpen]; decide

/-- A TIME exchange with an offset, and the device with TIM.CTL, its rate and its contexts. -/
def tflit (d : Int) : TimeFlit := { rootSerial := 1, hops := 3, bound := 0, t1 := 0, t2 := d, t3 := d, t4 := 0 }
def tim (v : Word64) (f : TimeSync → TimeSync) (l : Tbl Ctx) : State :=
  { upS id with sets := { dev.sets with regs := Tbl.put dev.sets.regs (setPlace 15 0x10 0) ⟨v, v, 0⟩ }, time := f dev.time, ctxs := l }

theorem witness_TimeFollowsItsParent :
    (getL (lnk id) 1).up = false ∧ (getL (tim 0 id []) (1 : BitVec 3).toNat).up = true ∧ timOn (tim 0 id []) = false ∧ (tim 0 id []).time.state = 0 ∧
    timOn (tim 2 id []) = true ∧ timRoot (tim 2 id []) = false ∧ (tim 2 id []).time.lost = false ∧ (tim 2 id []).time.parent = 7 ∧ (tflit 0).hops.toNat < 24 ∧
    ringOff (tim 2 id []) ∧ (∀ c ∈ (tim 2 id []).ctxs, c.2.inUse = false) ∧
    32000 < ((((tflit 16001).t2 - (tflit 16001).t1) - ((tflit 16001).t4 - (tflit 16001).t3)) : Int).natAbs ∧
    ((((tflit 16000).t2 - (tflit 16000).t1) - ((tflit 16000).t4 - (tflit 16000).t3)) : Int).natAbs ≤ 32000 ∧
    -2000000 ≤ (tim 2 id []).time.rate ∧ (tim 2 (fun t => { t with rate := 2000000 }) []).time.rate ≤ 2000000 ∧ (∀ k, k < 6 → k ≠ 1 → (getL (tim 2 id []) k).up = false) := by
  dsimp only [ringOff]; decide

theorem witness_TimeFollowsItsParent_TimeIsLost :
    (let s := tim 2 (fun t => { t with hops := 30, state := 3 }) []
    timOn s = true ∧ timRoot s = false ∧ s.time.lost = false ∧ s.time.parent = 7 ∧ s.time.hops ≠ 0 ∧ s.time.conflict = false ∧ 400000000 < rawBound s ∧
    s.time.state ≠ 0 ∧ calm s) ∧ rawBound (tim 2 (fun t => { t with hops := 24, state := 3 }) []) ≤ 400000000 ∧
    (tim 2 (fun t => { t with hops := 24, state := 3 }) []).time.state = 3 ∧ (ph .stay).phase ≠ .run ∧ (ph .stay).phase ≠ .reset ∧ dev.phase = .run ∧
    dev.time.lost = false ∧ calm dev := by
  dsimp only [calm, ringOff, pipelineEmpty, ringOpen]; decide

/-- A link operation of three bytes for context 3, and what stands at its page. -/
def lop (tag : BitVec 32) : LinkOpMsg :=
  { id := 9, srcCtx := 4, jobTag := tag, remoteCtx := 3, dst := 0x5000, remoteObject := 2, e2e := false, e2eOk := true, data := [1, 2, 3], poison := [] }
def opS : State := upS (fun l => { l with ops := [⟨9, 3, 4, 2⟩] })

theorem witness_FlitGroupsAndLinkOperations_LinkOperationsAreServed :
    (getL (lnk id) 1).up = false ∧ (getL (upS id) (1 : BitVec 3).toNat).up = true ∧ (getL (upS id) 1).wait0 = [] ∧ (getL (upS id) 1).wait1 = [] ∧ 0 < (getL (upS id) 1).cred1 ∧
    (getL (upS id) 1).replay.length < 512 ∧ calm (upS id) ∧ (getC (upS id) (lop 5).remoteCtx.toNat).jobTag ≠ (lop 5).jobTag ∧
    (getC (upS id) 3).inUse = true ∧ (getC (upS id) 3).ended = false ∧ (getC (upS id) 3).jobTag = (lop 77).jobTag ∧ isFenced (upS id) 3 = false ∧
    isFenced { upS id with rst := { dev.rst with runs := [(0, fence3)] } } 3 = true ∧ 0 < (lop 77).data.length ∧
    (lop 77).dst.toNat % 4096 + (lop 77).data.length ≤ 4096 ∧ xlat (upS id) 3 (lop 77).dst.toNat .write none = .ok (.hbm 0x5000) ∧ (lop 77).poison = [] := by
  dsimp only [calm, ringOff, pipelineEmpty, ringOpen]; decide

theorem witness_FlitGroupsAndLinkOperations_LinkOperationsAreServed_reply :
    (lop 77).e2e = false ∧ stepHolder (upS id) 0xFFFF (.hbm 0x5000) = none ∧ (lop 77).remoteObject.toNat < 256 ∧ (getC (upS id) 3).trigs = [] ∧
    (getC (upS id) 3).step.isOpen = false ∧ (∀ y ∈ (getL (upS id) 1).ops, y.id ≠ (9 : BitVec 32).toNat) ∧ (getL opS 1).ops = [⟨9, 3, 4, 2⟩] ∧ calm opS ∧
    (9 : BitVec 32).toNat = 9 ∧ (getC opS 3).inUse = true ∧ (getC opS 3).ended = false ∧ (getC opS 3).trigs = [] ∧ (2 : Nat) < 256 := by
  dsimp only [calm, ringOff, pipelineEmpty, ringOpen]; decide

/-! ### Pairs and collectives -/

/-- Context 3 paired over port 1 with context 4 of its neighbour, and its pair. -/
def prS (w : Word64) (p : Pair) : State :=
  { upS id with sets := { dev.sets with regs := Tbl.put dev.sets.regs (setPlace 0 0x40 3) ⟨w, w, 0⟩ }, pairs := [(3, p)] }
def hdrP : PairHdr := { port := 1, jobTag := 77, ctx := 4 }
def dg (n v : Nat) : StepDigest := ⟨n, v, [(0, v)]⟩

theorem witness_PairsCompareDigests_PairsFormAndEnd :
    pairFor (upS id) hdrP = none ∧ pairFor (prS 0x40021 Pair.init) hdrP = some 3 ∧ (getC (prS 0x40021 Pair.init) 3).inUse = true ∧
    (getC (prS 0x40021 Pair.init) 3).ended = false ∧ (getC (prS 0x40021 Pair.init) 3).fault = 0 ∧ calm (prS 0x40021 Pair.init) ∧
    (getPair (prS 0x40021 Pair.init) 3).mine = [] ∧ (getPair (prS 0x40021 { Pair.init with mine := [(1, 9, 2)] }) 3).mine = [(1, 9, 2)] ∧
    (getPair (prS 0x40021 { Pair.init with mine := [(1, 9, 2)] }) 3).peers = [] ∧ calm (prS 0x40021 { Pair.init with mine := [(1, 9, 2)] }) ∧
    pairFor (prS 0x40021 { Pair.init with mine := [(1, 9, 2)] }) hdrP = some 3 ∧ (9 : Word64).toNat = 9 ∧ (2 : Word64).toNat = 2 ∧ (9 : Nat) ≠ (8 : Word64).toNat ∧
    pairWaits dev (3 : BitVec 8).toNat = false := by
  dsimp only [calm, ringOff, pipelineEmpty, ringOpen]; decide

/-- Paired context 3 whose step waits for its commit. -/
def prW : State :=
  { prS 0x40021 Pair.init with
    ctxs := [(3, { ctx3 with launchNo := 1, launches := [launch1], step := stepOpen })], slots := [(1, slotOf { shed0 with wait := .commit })] }

theorem witness_PairsCompareDigests_PairsFormAndEnd_lost :
    pairWaits prW (3 : BitVec 8).toNat = true ∧ (getC prW 3).inUse = true ∧ (getC prW 3).ended = false ∧ (getC prW 3).fault = 0 ∧ calm prW := by
  dsimp only [calm, ringOff, pipelineEmpty, ringOpen]; decide

theorem witness_PairsCompareDigests_DigestsAreCompared :
    pairFor (prS 0x40021 Pair.init) hdrP = some 3 ∧ digestAt (getPair (prS 0x40021 Pair.init) 3).own (2 : Word64).toNat = none ∧
    (let s := prS 0x40021 { Pair.init with own := [dg 2 6] }
    pairFor s hdrP = some 3 ∧ digestAt (getPair s 3).own (2 : Word64).toNat = some (dg 2 6) ∧ pairTrails s 3 = false ∧ calm s ∧ (getPair s 3).rerun = false ∧
    (getPair s 3).first = none) ∧ (dg 2 6).step = (6 : BitVec 128).toNat ∧ (dg 2 6).step ≠ (5 : BitVec 128).toNat ∧
    (let s := prS 0x40021 { Pair.init with own := [dg 2 6], rerun := true }
    pairFor s hdrP = some 3 ∧ (getPair s 3).rerun = true ∧ (getC s 3).inUse = true ∧ (getC s 3).ended = false ∧ (getC s 3).fault = 0 ∧ pairTrails s 3 = false ∧ calm s) := by
  dsimp only [calm, ringOff, pipelineEmpty, ringOpen]; decide

/-- Group 0 of context 3, the second of two members on axis 0, key 0x77; the same group over port 0; a barrier's descriptor at 0x6100. -/
def gword : Word64 := 0x0077001000100001
def barrier1 : List Host.Cell := [(0x6100, 0x1), (0x6128, 0x2), (0x613C, 0xF3), (0x613D, 0xDD), (0x613E, 0xDD), (0x613F, 0xA6)]
def grS (y : ColGroup) : State :=
  { upS id with
    sets := { dev.sets with regs := Tbl.put (Tbl.put dev.sets.regs (setPlace 10 0x100 3) ⟨gword, gword, 0⟩) (setPlace 10 0x20 3) ⟨0x0200000000006101, 0x0200000000006101, 0⟩ },
    ctxs := [(3, { ctx3 with sync := [(2, 1)] })], col := { dev.col with groups := [(48, y)] }, mem := { dev.mem with cells := dev.mem.cells ++ barrier1 } }
def form1 (o : BitVec 12) (d : BitVec 64) : FormMsg := { jobTag := 77, key := 0x77, extents := 1, wrap := 0, offsets := o, dsig := d }
def grp1 : ColGroup := { ColGroup.init with state := 1, sent := [1] }

theorem witness_CollectivesRunAsOneOperation_GroupsForm :
    (getG dev 3 0).state ≠ 1 ∧ (getC dev 4).inUse = false ∧ (getG (grS grp1) 3 0).state = 1 ∧ (getC (grS grp1) (3 : BitVec 8).toNat).inUse = true ∧ isFenced (grS grp1) 3 = false ∧
    gPorts (groupWord (grS grp1) 3 (0 : BitVec 4).toNat) = [1] ∧ (1 : BitVec 3).toNat ∉ (getG (grS grp1) 3 0).matched ∧ (getL (grS grp1) 1).up = true ∧
    (getL (grS grp1) 1).wait0 = [] ∧ (getL (grS grp1) 1).wait1 = [] ∧ 0 < (getL (grS grp1) 1).cred1 ∧ (getL (grS grp1) 1).replay.length < 512 ∧
    (1 : BitVec 3).toNat ∈ (getG (grS { grp1 with matched := [1] }) 3 0).matched ∧ groupFor (grS grp1) 1 (0x78 : BitVec 16).toNat = none ∧
    groupFor (grS grp1) 1 (form1 0 0).key.toNat = some (3, 0) ∧ (getG (grS grp1) 3 0).ops = [] ∧ (∀ e ∈ (grS grp1).col.groups, e.2.early = []) ∧
    ringOff (grS grp1) ∧ ringOpen (grS grp1) ∧ (1 : Nat) ∉ (getG (grS grp1) 3 0).moved := by
  dsimp only [ringOff, ringOpen]; decide

theorem witness_CollectivesRunAsOneOperation_GroupsForm_shapes :
    (form1 0 0).jobTag.toNat = (formFields (grS grp1) 3 0).getD 0 0 ∧ (form1 0 0).extents.toNat = (formFields (grS grp1) 3 0).getD 2 0 ∧
    (form1 0 0).wrap.toNat = (formFields (grS grp1) 3 0).getD 3 0 ∧ offsetsMatch (groupWord (grS grp1) 3 0) 1 (form1 0 0).offsets.toNat = true ∧
    offsetsMatch (groupWord (grS grp1) 3 0) 1 (form1 1 0).offsets.toNat = false ∧ (form1 0 0).dsig.toNat ≠ (formFields (grS grp1) 3 0).getD 5 0 ∧
    (form1 0 0xB100040100000000).dsig.toNat = (formFields (grS grp1) 3 0).getD 5 0 ∧ (1 : Nat) ∈ (getG (grS grp1) 3 0).sent := by decide

theorem witness_CollectivesRunAsOneOperation_CollectivesAreFetched :
    (getC dev 3).inUse = true ∧ ((liveVal dev 10 0x20 3).toNat).testBit 0 = false ∧
    (let s := grS grp1
    let q := (liveVal s 10 0x20 (3 : BitVec 8).toNat).toNat
    (∀ e ∈ s.col.groups, e.2.early = []) ∧ ¬ (q.testBit 0 = false ∨ (getC s 3).inUse = false ∨ (getC s 3).ended = true ∨ (getC s 3).fault ≠ 0 ∨
    isFenced s 3 = true ∨ (getC s 3).step.isOpen = true ∨ s.phase ≠ .run ∨ (syncGet s 3 (bitsOf q 63 56)).toNat ≤ 0) ∧
    bitsOf q 47 6 * 64 + 64 * (0 % 2 ^ (Nat.min 8 (bitsOf q 51 48) + 4)) = 0x6100 ∧ xlat s 3 0x6100 .read none = .ok (.hbm 0x6100) ∧ anyPoison s 0x6100 64 = false ∧
    (getG s 3 0).ops = [] ∧ (getG s 3 0).aborts = [] ∧ (getG s 3 0).state = 1) := by decide

theorem witness_CollectivesRunAsOneOperation_CollectivesAreFetched_valid :
    colValid (grS grp1) 3 (memGets (grS grp1) 0x6100 64) = true ∧ (colOf (grS grp1) 3 0x6100 (memGets (grS grp1) 0x6100 64) 0).op = 1 ∧
      colValid (grS grp1) 3 (memGets (grS grp1) 0x6000 64) = false := by decide +kernel

/-- A collective of the group that has started or not, at an axis, with its values. -/
def col1 (op ax : Nat) (st : Bool) (cur : List Word64) (fin : Option Nat) : Col :=
  { op := op, format := 10, redop := 0, count := 1, src := 0, dst := 0, work := 0, done := 2, root := 0, e2e := false, wideOut := false, va := 0x6100, seq := 4,
    crc := 6, alg := 0, started := st, axis := ax, wide := false, outDone := false, cur := cur, got := [], part := [], seen := [], grants := [],
    granted := [], send := [], unsync := false, overflow := false, late := false, orig := false, fin := fin, fetched := 0, timer := 0 }
def coS (l : List Col) : State := grS { ColGroup.init with state := 2, seq := 5, ops := l }
def chd (n : BitVec 64) (k : BitVec 32) : ColHdr := { port := 1, key := 0x77, seq := n, crc := k, alg := 0 }
def cdat (p : Bool) : ColData := { axis := 0, offset := 0, first := 0, back := false, values := [7], stamp := 0, unsync := false, poison := p, e2eOk := true }

theorem witness_CollectivesRunAsOneOperation_PiecesAndChunksAreTaken :
    groupFor dev (chd 0 0).port.toNat 0x77 = none ∧ groupFor (coS []) 1 (chd 0 0).key.toNat = some (3, 0) ∧
    (coS []).col.groups = [(16 * 3 + 0, getG (coS []) 3 0)] ∧ (getG (coS []) 3 0).early = [] ∧ (getG (coS []) 3 0).ops = [] ∧
    (chd 3 0).seq.toNat < (getG (coS []) 3 0).seq ∧ (getG (coS [col1 2 0 false [5] none]) 3 0).ops = [col1 2 0 false [5] none] ∧
    (col1 2 0 false [5] none).seq = (chd 4 0).seq.toNat ∧ (chd 3 0).seq.toNat < (col1 2 0 true [5] none).seq ∧ ringOff (coS [col1 2 0 true [5] none]) ∧
    ringOpen (coS [col1 2 0 true [5] none]) ∧ (chd 4 7).crc.toNat ≠ (col1 2 0 true [5] none).crc ∧ (chd 4 6).crc.toNat = (col1 2 0 true [5] none).crc ∧
    (chd 4 6).alg.toNat = (col1 2 0 true [5] none).alg ∧ (cdat true).poison = true ∧ (cdat false).axis.toNat = (col1 2 0 true [5] none).axis ∧
    goesOn (groupWord (coS []) 3 0) (col1 2 0 true [5] none) 1 (cdat false).offset.toNat = false := by
  dsimp only [ringOff, ringOpen]; decide

theorem witness_CollectivesRunAsOneOperation_PiecesAndChunksAreTaken_result :
    phaseResult gword.toNat { takeMove gword.toNat (col1 2 0 true [5, 6] none) 1 (cdat false) with timer := 0 } = none ∧
    (phaseResult gword.toNat { takeMove gword.toNat (col1 2 0 true [5] none) 1 (cdat false) with timer := 0 }).isSome = true ∧ nextAxis gword.toNat 3 (0 + 1) = 3 ∧
    groupWord (coS []) 3 0 = gword.toNat := by decide

theorem witness_CollectivesRunAsOneOperation_CollectivesAbortAndRelease :
    groupFor dev 1 0x77 = none ∧ groupFor (coS [col1 2 0 true [5] none]) 1 (chd 4 6).key.toNat = some (3, 0) ∧
    (getG (grS { ColGroup.init with aborts := [(4, 1)] }) 3 0).aborts.any (fun e => e.1 == (chd 4 6).seq.toNat) = true ∧
    (getG (coS [col1 2 0 true [5] none]) 3 0).aborts.any (fun e => e.1 == (chd 4 6).seq.toNat) = false ∧ (getG (coS []) 3 0).ops = [] ∧
    (getG (coS [col1 1 3 true [0] none]) 3 0).ops = col1 1 3 true [0] none :: [] ∧ (col1 1 3 true [0] none).op = 1 ∧ 3 ≤ (col1 1 3 true [0] none).axis ∧
    releaseAt (groupWord (coS []) 3 0) ((col1 1 3 true [0] none).cur.headD 0).toNat ≤ ({ coS [col1 1 3 true [0] none] with gtc := 1500 } : State).gtc ∧
    (coS [col1 1 3 true [0] none]).gtc < releaseAt (groupWord (coS []) 3 0) ((col1 1 3 true [0] none).cur.headD 0).toNat ∧
    ¬ ((col1 1 3 true [0] none).timer + Nat.max 100 (liveVal (coS []) 10 0x10 3).toNat * 1000 ≤ (coS []).aon) ∧
    (let s : State := { coS [col1 2 0 true [5] none] with aon := 4000000000 }
    (col1 2 0 true [5] none).timer + Nat.max 100 (liveVal s 10 0x10 3).toNat * 1000 ≤ s.aon ∧ isFenced s 3 = false ∧ ringOff s ∧ ringOpen s) := by
  dsimp only [ringOff, ringOpen]; decide

theorem witness_CollectivesRunAsOneOperation_CollectivesEnd :
    (getG dev 3 0).ops = [] ∧ (getG (coS [col1 2 0 true [5] none]) 3 0).ops = col1 2 0 true [5] none :: [] ∧ (col1 2 0 true [5] none).fin = none ∧
    (let s := coS [col1 1 3 true [0] (some 0)]
    (getG s 3 0).ops = [col1 1 3 true [0] (some 0)] ∧ (getG s 3 0).early = [] ∧ (col1 1 3 true [0] (some 0)).fin = some 0 ∧ (col1 1 3 true [0] (some 0)).op = 1 ∧
    isFenced s 3 = false ∧ (getC s 3).fault = 0 ∧ (getC s 3).inUse = true ∧ (getC s 3).ended = false ∧ (getC s 3).trigs = [] ∧ (getC s 3).step.isOpen = false) ∧
    (col1 1 3 true [0] (some 0)).done < 256 ∧ ((col1 1 3 true [0] (some 0)).va + 48) % 4096 + 8 ≤ 4096 ∧
    xlat (coS [col1 1 3 true [0] (some 0)]) 3 (0x6100 + 48) .write none = .ok (.hbm 0x6130) ∧ stepHolder (coS [col1 1 3 true [0] (some 0)]) 0xFFFF (.hbm 0x6130) = none ∧
    isFenced { coS [] with rst := { dev.rst with runs := [(0, fence3)] } } 3 = true := by decide

/-! ### Espalier -/

/-- What Espalier reads: library entries at 0x7000 and 0x7040, a map header at 0x7080, stop alternatives at 0x70C0 and 0x70E0, a batch at
0x7100, commands at 0x7200 and 0x7240. -/
def espCells : List Host.Cell :=
  [(0x7000, 0xE8), (0x7001, 0x3), (0x703C, 0x5F), (0x703D, 0x85), (0x703E, 0x6E), (0x703F, 0x36),
   (0x7040, 0xE8), (0x7041, 0x3), (0x7044, 0x5), (0x707C, 0xA5), (0x707D, 0xC2), (0x707E, 0xD7), (0x707F, 0xDA),
   (0x7080, 0x9), (0x70BC, 0xA1), (0x70BD, 0x18), (0x70BE, 0x59), (0x70BF, 0x8C),
   (0x70E0, 0x9),
   (0x713C, 0x31), (0x713D, 0x5), (0x713E, 0xB), (0x713F, 0x5A),
   (0x7144, 0x1),
   (0x7200, 0x5), (0x721C, 0x2), (0x723C, 0xD7), (0x723D, 0xBC), (0x723E, 0x86), (0x723F, 0x2A),
   (0x7240, 0x5), (0x7246, 0x1), (0x725C, 0x2), (0x727C, 0x47), (0x727D, 0x3A), (0x727E, 0x51), (0x727F, 0xD9)]
/-- Espalier bound to context 3, with its registers and its queue at 0x7200 or 0x7240. -/
def espS (f : Esp → Esp) : State :=
  { dev with mem := { dev.mem with cells := dev.mem.cells ++ espCells }, esp := f { dev.esp with bound := some 3 },
             ctxs := [(3, { ctx3 with sync := [(2, 1)] })] }
def espQ (v : Word64) (f : Esp → Esp) : State :=
  { espS f with sets := { dev.sets with regs := Tbl.put dev.sets.regs (setPlace 11 0x20 3) ⟨v, v, 0⟩ } }
/-- A command of a kind with its source. -/
def ecmd (k n src : Nat) : EspCmd := { va := 0x7200, kind := k, flags := 0, count := n, arg := 4, src := src, dst := 0x7800, mask := 0, done := 2 }
def cyc (inc : Option EspCand) : EspCycle := { number := 1, deadline := 50, optimise := true, copy := [], done := 0xFFFF, batches := 0, inc := inc }
def bytesOf (s : State) (a n : Nat) : Marked := (memGets s a n).map (fun b => (b, false))

theorem witness_EspalierLoadsModelsAndMaps_EspalierWaits :
    dev.esp.bound = none ∧ (espS id).esp.cmd = none ∧ dev.esp.check = none ∧ dev.esp.batch = none ∧ dev.esp.cycle = none ∧ dev.esp.validating = false ∧
    dev.esp.back = none := by decide

theorem witness_EspalierLoadsModelsAndMaps_EspalierCommandsAreFetched :
    (let s := espQ 0x0200000000007201 id
    s.esp.bound = some 3 ∧ s.esp.cmd = none ∧ (liveVal s 11 0x20 3).toNat.testBit 0 = true ∧ (getC s 3).fault = 0 ∧ isFenced s 3 = false ∧
    isFencedEngine s 1102 = false ∧ s.phase = .run ∧ s.err.safe = false ∧ s.esp.due = none ∧ (syncGet s 3 2).toNat = 1 ∧
    bitsOf (liveVal s 11 0x20 3).toNat 63 56 = 2 ∧ bitsOf (liveVal s 11 0x20 3).toNat 51 48 = 0 ∧ bitsOf (liveVal s 11 0x20 3).toNat 47 6 * 64 = 0x7200) := by decide +kernel

theorem witness_EspalierLoadsModelsAndMaps_EspalierCommandsAreFetched_read :
    (let s := espQ 0x0200000000007201 id
    espRead s 3 0x7200 64 Env.quiet = ((bytesOf s 0x7200 64, none), s) ∧ (bytesOf s 0x7200 64).any (·.2) = false ∧
    espValid ((bytesOf s 0x7200 64).map (·.1)) = true ∧ (espCmdOf 0x7200 ((bytesOf s 0x7200 64).map (·.1))).dst % 8 = 0) ∧
    (liveVal (espS id) 11 0x20 3).toNat.testBit 0 = false := by decide +kernel

theorem witness_EspalierLoadsModelsAndMaps_EspalierCommandsAreFetched_broken :
    (let s := espQ 0x0200000000007241 id
    espRead s 3 0x7240 64 Env.quiet = ((bytesOf s 0x7240 64, none), s) ∧ (bytesOf s 0x7240 64).any (·.2) = false ∧ calm s ∧
    espValid ((bytesOf s 0x7240 64).map (·.1)) = false ∧ espReports s 3 (espCmdOf 0x7240 ((bytesOf s 0x7240 64).map (·.1))) 0x7270) := by
  dsimp only [calm, ringOff, pipelineEmpty, ringOpen, espReports]; decide +kernel

/-- A model of one link with parent `p`, whose bytes `f` bring its CRC to rest. -/
def modelB (p : Byte) (f : List Byte) : List Byte := (1 :: List.replicate 59 0 ++ [0xFF, 0xFF, 0xFF, 0xFF, p, 0, 0, 0] ++ f) ++ List.replicate 4216 0
theorem crcByte_zero {w : Nat} (poly : BitVec w) : ∀ n, crcByte poly n 0#w = 0#w
  | 0 => rfl
  | n + 1 => by simp [crcByte, crcByte_zero poly n]
theorem crcRun_zeros {w : Nat} (poly : BitVec w) : ∀ n, crcRun poly 0#w (List.replicate n 0#8) = 0#w
  | 0 => rfl
  | n + 1 => by simp [List.replicate_succ, crcRun, crcByte_zero, crcRun_zeros poly n]
theorem crcRun_append {w : Nat} (poly : BitVec w) : ∀ (a : List Byte) (c : BitVec w) (b : List Byte),
    crcRun poly c (a ++ b) = crcRun poly (crcRun poly c a) b
  | [], _, _ => rfl
  | _ :: t, _, _ => crcRun_append poly t _ _
theorem crc_modelB (p : Byte) (f : List Byte)
    (h : crcRun 0x82F63B78#32 0xFFFFFFFF#32 ((1 :: List.replicate 59 0) ++ [p, 0, 0, 0] ++ f) = 0#32) :
    crc32c ((modelB p f).take 60 ++ (modelB p f).drop 64) = 0xFFFFFFFF := by
  have e : (modelB p f).take 60 ++ (modelB p f).drop 64 = ((1 :: List.replicate 59 0) ++ [p, 0, 0, 0] ++ f) ++ List.replicate 4216 0 := by
    show _ ++ _ = _
    rw [show (modelB p f).take 60 = 1 :: List.replicate 59 0 from rfl, show (modelB p f).drop 64 = [p, 0, 0, 0] ++ f ++ List.replicate 4216 0 from rfl]
    simp only [List.append_assoc]
  rw [e, crc32c, crcRun_append, h]; exact congrArg (· ^^^ 0xFFFFFFFF#32) (crcRun_zeros _ _)
/-- The model in host memory. -/
def envM (m : List Byte) : Env := { Env.quiet with host := { status := .ok, bytes := m } }
/-- Espalier with a command, and with a cycle open or not; with the models. -/
def eC (k : EspCmd) (cy : Option EspCycle) : State := espS (fun e => { e with cmd := some k, cycle := cy })
def eD : State := { eC (ecmd 1 0 0x40000000) none with pci := { Pcie.released with up := true, speed := 6, width := 16, fns := [(0, { PciFn.init with bme := true, mse := true })] } }

theorem witness_EspalierLoadsModelsAndMaps_ModelsAndPrimitivesAreLoaded_model :
    calm eD ∧ espReports eD 3 (ecmd 1 0 0x40000000) 0x7230 ∧ espServes eD 3 (ecmd 1 0 0x40000000) 1 ∧ eD.esp.cycle = none := by
  dsimp only [calm, ringOff, pipelineEmpty, ringOpen, espServes, espReports]; decide +kernel

theorem witness_EspalierLoadsModelsAndMaps_ModelsAndPrimitivesAreLoaded_read0 :
    espRead eD 3 0x40000000 4288 (envM (modelB 0xFF [0xD8, 0x13, 0x3A, 0xA0])) = (((modelB 0xFF [0xD8, 0x13, 0x3A, 0xA0]).map (fun b => (b, false)), none), eD) := by
  decide +kernel

theorem witness_EspalierLoadsModelsAndMaps_ModelsAndPrimitivesAreLoaded_read1 :
    espRead eD 3 0x40000000 4288 (envM (modelB 0 [0x9A, 0xFB, 0x39, 0x88])) = (((modelB 0 [0x9A, 0xFB, 0x39, 0x88]).map (fun b => (b, false)), none), eD) := by
  decide +kernel

theorem witness_EspalierLoadsModelsAndMaps_ModelsAndPrimitivesAreLoaded_read2 :
    espRead eD 3 0x40000000 4288 (envM ((modelB 0 [0, 0, 0, 0]).set 0 9)) = ((((modelB 0 [0, 0, 0, 0]).set 0 9).map (fun b => (b, false)), none), eD) := by
  decide +kernel

theorem witness_EspalierLoadsModelsAndMaps_ModelsAndPrimitivesAreLoaded_modelValid :
    modelValid (modelB 0xFF [0xD8, 0x13, 0x3A, 0xA0]) = true ∧ modelRefused (modelB 0xFF [0xD8, 0x13, 0x3A, 0xA0]) 10 = false := by
  constructor
  · unfold modelValid; rw [crc_modelB _ _ (by decide +kernel)]; decide +kernel
  · decide +kernel
theorem witness_EspalierLoadsModelsAndMaps_ModelsAndPrimitivesAreLoaded_modelRefused :
    modelValid (modelB 0 [0x9A, 0xFB, 0x39, 0x88]) = true ∧ modelRefused (modelB 0 [0x9A, 0xFB, 0x39, 0x88]) 10 = true := by
  constructor
  · unfold modelValid; rw [crc_modelB _ _ (by decide +kernel)]; decide +kernel
  · decide +kernel
theorem witness_EspalierLoadsModelsAndMaps_ModelsAndPrimitivesAreLoaded_modelInvalid : modelValid ((modelB 0 [0, 0, 0, 0]).set 0 9) = false := by decide +kernel

theorem witness_EspalierLoadsModelsAndMaps_ModelsAndPrimitivesAreLoaded_inCycle :
    (let s := eC (ecmd 1 0 0x10000) (some (cyc none))
    calm s ∧ espReports s 3 (ecmd 1 0 0x10000) 0x7230 ∧ espServes s 3 (ecmd 1 0 0x10000) 1 ∧ s.esp.cycle ≠ none) ∧
    espServes (eC (ecmd 2 1 0x7000) (some (cyc none))) 3 (ecmd 2 1 0x7000) 2 := by
  dsimp only [calm, ringOff, pipelineEmpty, ringOpen, espServes, espReports]; decide +kernel

theorem witness_EspalierLoadsModelsAndMaps_ModelsAndPrimitivesAreLoaded_primitives0 :
    (let s := eC (ecmd 2 1 0x7000) none
    calm s ∧ espReports s 3 (ecmd 2 1 0x7000) 0x7230 ∧ espServes s 3 (ecmd 2 1 0x7000) 2 ∧ s.esp.cycle = none ∧ (ecmd 2 1 0x7000).count = 1) := by
  dsimp only [calm, ringOff, pipelineEmpty, ringOpen, espServes, espReports]; decide +kernel

theorem witness_EspalierLoadsModelsAndMaps_ModelsAndPrimitivesAreLoaded_primitives0Read :
    (let s := eC (ecmd 2 1 0x7000) none
    espRead s 3 0x7000 64 Env.quiet = ((bytesOf s 0x7000 64, none), s) ∧ (bytesOf s 0x7000 64).length = 64 ∧ (bytesOf s 0x7000 64).any (·.2) = false) := by decide +kernel

theorem witness_EspalierLoadsModelsAndMaps_ModelsAndPrimitivesAreLoaded_primitives1 :
    (let s := eC (ecmd 2 1 0x7040) none
    calm s ∧ espReports s 3 (ecmd 2 1 0x7040) 0x7230 ∧ espServes s 3 (ecmd 2 1 0x7040) 2 ∧ s.esp.cycle = none ∧ (ecmd 2 1 0x7040).count = 1) := by
  dsimp only [calm, ringOff, pipelineEmpty, ringOpen, espServes, espReports]; decide +kernel

theorem witness_EspalierLoadsModelsAndMaps_ModelsAndPrimitivesAreLoaded_primitives1Read :
    (let s := eC (ecmd 2 1 0x7040) none
    espRead s 3 0x7040 64 Env.quiet = ((bytesOf s 0x7040 64, none), s) ∧ (bytesOf s 0x7040 64).length = 64 ∧ (bytesOf s 0x7040 64).any (·.2) = false) := by decide +kernel

theorem witness_EspalierLoadsModelsAndMaps_ModelsAndPrimitivesAreLoaded_primitives2 :
    (let s := eC (ecmd 2 1 0x14000) none
    calm s ∧ espReports s 3 (ecmd 2 1 0x14000) 0x7230 ∧ espServes s 3 (ecmd 2 1 0x14000) 2 ∧ s.esp.cycle = none ∧ (ecmd 2 1 0x14000).count = 1) := by
  dsimp only [calm, ringOff, pipelineEmpty, ringOpen, espServes, espReports]; decide +kernel

theorem witness_EspalierLoadsModelsAndMaps_ModelsAndPrimitivesAreLoaded_primitives2Read :
    (let s := eC (ecmd 2 1 0x14000) none
    espRead s 3 0x14000 64 Env.quiet = ((bytesOf s 0x14000 64, none), s) ∧ (bytesOf s 0x14000 64).length = 64 ∧ (bytesOf s 0x14000 64).any (·.2) = false) := by decide +kernel

theorem witness_EspalierLoadsModelsAndMaps_ModelsAndPrimitivesAreLoaded_entries :
    entryValid (memGets (espS id) 0x7000 64) = true ∧ entryAllowed (memGets (espS id) 0x7000 64) = true ∧
    entryValid (memGets (espS id) 0x7040 64) = true ∧ entryAllowed (memGets (espS id) 0x7040 64) = false ∧ entryValid (memGets (espS id) 0x14000 64) = false := by decide +kernel

/-- A front epoch, and Espalier with it. -/
def epoch1 (n : Nat) (x : Bool) : EspMap := { EspMap.none with epoch := n, expired := x }
def mapK (n : Nat) : EspCmd := { ecmd 3 0 0x7080 with arg := n }
def eM (n : Nat) : State := espS (fun e => { e with cmd := some (mapK n), front := epoch1 5 false })

theorem witness_EspalierLoadsModelsAndMaps_MapsAreLoadedAndSwapped :
    (∀ n ∈ [0, 4, 5], let s := eM n
    calm s ∧ espServes s 3 (mapK n) 3 ∧ s.esp.batch = none ∧ s.esp.check = none ∧ s.esp.back = none ∧ espReports s 3 (mapK n) 0x7230) ∧
    (mapK 5).arg = (eM 5).esp.front.epoch ∧ (mapK 4).arg ≠ 0 ∧ (mapK 4).arg ≠ (eM 4).esp.front.epoch ∧ (mapK 4).mask = 0 ∧
    espRead (eM 4) 3 0x7080 64 Env.quiet = ((bytesOf (eM 4) 0x7080 64, none), eM 4) ∧ (bytesOf (eM 4) 0x7080 64).any (·.2) = false ∧
    (let h := memGets (eM 4) 0x7080 64
    bytesAt h 60 4 = (crc32c (h.take 60)).toNat ∧ ((h.drop 49).take 11).all (· == 0) = true) := by
  dsimp only [calm, ringOff, pipelineEmpty, ringOpen, espServes, espReports]; decide +kernel

theorem witness_EspalierLoadsModelsAndMaps_MapsAreLoadedAndSwapped_swap :
    (let s := espS (fun e => { e with cmd := some (mapK 4), back := some (mapK 4, epoch1 4 false) })
    calm s ∧ s.esp.bound = some 3 ∧ s.esp.back = some (mapK 4, epoch1 4 false) ∧ espReports s 3 (mapK 4) 0x7230 ∧ espServes s 3 (mapK 4) 3 ∧ s.esp.batch = none ∧
    s.esp.check = none ∧ s.esp.back ≠ none) ∧
    (let s : State := { eM 4 with gtc := 3200000000 }
    calm s ∧ s.esp.bound ≠ none ∧ s.esp.front.epoch ≠ 0 ∧ s.esp.front.expired = false ∧ s.esp.front.base + 32000000 * s.esp.front.slice ≤ s.gtc) ∧
    (eM 4).gtc < (eM 4).esp.front.base + 32000000 * (eM 4).esp.front.slice ∧ (espS id).esp.front.epoch = 0 ∧
    (epoch1 5 true).expired = true := by
  dsimp only [calm, ringOff, pipelineEmpty, ringOpen, espServes, espReports]; decide +kernel

/-- Espalier with a stop command and a model of one sphere of radius r. -/
def sphere1 (r : Byte) : List Byte := ((List.replicate 64 0).set 0 1) ++ (((List.replicate 64 0).set 0 0xFF).set 2 1).set 23 r
def eT (a : Nat) (r : Byte) (v : Bool) : State := espS (fun e => { e with cmd := some (ecmd 4 1 a), model := sphere1 r, validating := v })

theorem witness_EspalierStopsCyclesAndBatches_StopsAreHeldAndValidated_stop0 :
    (let s := eT 0x70C0 1 false
    calm s ∧ s.rcd.ring.length < 16000 ∧ espServes s 3 (ecmd 4 1 0x70C0) 4 ∧ s.esp.validating = false ∧ (ecmd 4 1 0x70C0).count = 1 ∧ espReports s 3 (ecmd 4 1 0x70C0) 0x7230) := by
  dsimp only [calm, ringOff, pipelineEmpty, ringOpen, espServes, espReports]; decide +kernel

theorem witness_EspalierStopsCyclesAndBatches_StopsAreHeldAndValidated_stop0Read :
    (let s := eT 0x70C0 1 false
    espRead s 3 0x70C0 32 Env.quiet = ((bytesOf s 0x70C0 32, none), s) ∧ (bytesOf s 0x70C0 32).length = 32 ∧ (bytesOf s 0x70C0 32).any (·.2) = false) := by decide +kernel

theorem witness_EspalierStopsCyclesAndBatches_StopsAreHeldAndValidated_stop1 :
    (let s := eT 0x70E0 1 false
    calm s ∧ s.rcd.ring.length < 16000 ∧ espServes s 3 (ecmd 4 1 0x70E0) 4 ∧ s.esp.validating = false ∧ (ecmd 4 1 0x70E0).count = 1 ∧ espReports s 3 (ecmd 4 1 0x70E0) 0x7230) := by
  dsimp only [calm, ringOff, pipelineEmpty, ringOpen, espServes, espReports]; decide +kernel

theorem witness_EspalierStopsCyclesAndBatches_StopsAreHeldAndValidated_stop1Read :
    (let s := eT 0x70E0 1 false
    espRead s 3 0x70E0 32 Env.quiet = ((bytesOf s 0x70E0 32, none), s) ∧ (bytesOf s 0x70E0 32).length = 32 ∧ (bytesOf s 0x70E0 32).any (·.2) = false) := by decide +kernel

theorem witness_EspalierStopsCyclesAndBatches_StopsAreHeldAndValidated_stops :
    bytesAt (memGets (espS id) 0x70C0 32) 0 1 ≤ 8 ∧ (((memGets (espS id) 0x70C0 32).drop 1).take 15).all (· == 0) = true ∧
    stopPairs (eT 0x70C0 1 false) [] ≤ 131072 ∧ 131072 < stopPairs (eT 0x70C0 8 false) [] ∧ 8 < bytesAt (memGets (espS id) 0x70E0 32) 0 1 := by decide +kernel

theorem witness_EspalierStopsCyclesAndBatches_StopsAreHeldAndValidated_more :
    espServes (eT 0x70C0 8 false) 3 (ecmd 4 1 0x70C0) 4 ∧ espReports (eT 0x70C0 8 false) 3 (ecmd 4 1 0x70C0) 0x7230 ∧ calm (eT 0x70C0 8 false) := by
  dsimp only [calm, ringOff, pipelineEmpty, ringOpen, espServes, espReports]; decide +kernel

theorem witness_EspalierStopsCyclesAndBatches_StopsAreHeldAndValidated_wait :
    espServes (eT 0x70C0 1 true) 3 (ecmd 4 1 0x70C0) 4 ∧ (eT 0x70C0 1 true).esp.validating = true ∧ calm (eT 0x70C0 1 true) := by
  dsimp only [calm, ringOff, pipelineEmpty, ringOpen, espServes]; decide +kernel

theorem witness_EspalierStopsCyclesAndBatches_StopsAreHeldAndValidated_validated :
    (let s := espS (fun e => { e with validating := true, front := epoch1 5 false })
    calm s ∧ s.rcd.ring.length < 16000 ∧ s.esp.bound ≠ none ∧ s.esp.validating = true ∧ s.esp.due = none ∧ s.esp.cmd = none ∧ s.esp.stops.length = 1 ∧
    Tbl.get [] s.esp.charges (6 : BitVec 7).toNat = [] ∧ (selectStop s [(0, 1, 0)]).unsafeStop = true ∧ (selectStop s [(0, 0, 0)]).unsafeStop = false) ∧
    (⟨0, 0, 0⟩ : PairCounts) ≠ ⟨0, 1, 0⟩ := by
  dsimp only [calm, ringOff, pipelineEmpty, ringOpen]; decide

/-- Espalier with a command in or out of a cycle, with a validated stop. -/
def best1 : EspCand := { score := 9, index := 0, batch := 1, epoch := 5, path := [1], pose := List.replicate 29 0 }
def stop1 : EspVal := { epoch := 5, alt := 0, unsafeStop := false, noAdm := false, n2 := 0, n3 := 0, prims := [] }
def eV (k : Option EspCmd) (cy : Option EspCycle) (g : Nat) : State :=
  { espS (fun e => { e with cmd := k, cycle := cy, front := epoch1 5 false, valid := some stop1, fresh := true }) with gtc := g }

theorem witness_EspalierStopsCyclesAndBatches_CyclesOpenCloseAndExpire_again :
    (let s := eV (some (ecmd 5 0 0)) (some (cyc none)) 0
    calm s ∧ s.rcd.ring.length < 16000 ∧ espServes s 3 (ecmd 5 0 0) 5 ∧ espReports s 3 (ecmd 5 0 0) 0x7230 ∧ s.esp.cycle ≠ none) := by
  dsimp only [calm, ringOff, pipelineEmpty, ringOpen, espServes, espReports]; decide +kernel

theorem witness_EspalierStopsCyclesAndBatches_CyclesOpenCloseAndExpire :
    (let s := eV (some (ecmd 5 0 0)) none 0
    calm s ∧ espServes s 3 (ecmd 5 0 0) 5 ∧ espReports s 3 (ecmd 5 0 0) 0x7230 ∧ s.esp.cycle = none ∧
    writePlaces s 3 2 (ecmd 5 0 0).dst 256 = ([(.hbm 0x7800, 256)], true)) := by
  dsimp only [calm, ringOff, pipelineEmpty, ringOpen, espServes, espReports]; decide +kernel

theorem witness_EspalierStopsCyclesAndBatches_CyclesOpenCloseAndExpire_noCycle :
    (let s := eV (some (ecmd 7 0 0)) none 0
    calm s ∧ espServes s 3 (ecmd 7 0 0) 7 ∧ s.esp.check = none ∧ s.esp.batch = none ∧ espReports s 3 (ecmd 7 0 0) 0x7230) := by
  dsimp only [calm, ringOff, pipelineEmpty, ringOpen, espServes, espReports]; decide +kernel

theorem witness_EspalierStopsCyclesAndBatches_CyclesOpenCloseAndExpire_close :
    (∀ g ∈ [50, 51], let s := eV (some (ecmd 7 0 0)) (some (cyc (some best1))) g
    calm s ∧ espServes s 3 (ecmd 7 0 0) 7 ∧ espReports s 3 (ecmd 7 0 0) 0x7230 ∧ s.esp.cycle = some (cyc (some best1)) ∧ s.esp.pubPlace = none ∧
    (liveVal s 11 0x22 3).toNat.testBit 48 = false ∧ s.esp.valid = some stop1 ∧ s.esp.fresh = true) ∧
    (cyc (some best1)).inc = some best1 ∧ (cyc none).copy = [] ∧ (cyc none).done = 0xFFFF ∧ 50 ≤ (cyc none).deadline ∧ (cyc none).deadline < 51 ∧
    (let s := eV none (some (cyc none)) 50
    calm s ∧ s.esp.bound = some 3 ∧ s.esp.cycle = some (cyc none) ∧ (cyc none).deadline ≤ s.gtc ∧ s.esp.due = none ∧ s.esp.batch = none ∧ s.esp.validating = false) ∧
    (eV none (some (cyc none)) 49).gtc < (cyc none).deadline := by
  dsimp only [calm, ringOff, pipelineEmpty, ringOpen, espServes, espReports]; decide +kernel

/-- Espalier with a batch to start, and with one running or a candidate in double check. -/
def test1 : EspTest := { score := 7, path := [1], pre := 0 }
def batch1 : EspBatch := { epoch := 5, num := 1, pose := List.replicate 29 0, tests := [test1] }
def eB (cy : Option EspCycle) (b : Option EspBatch) (ck : Option (EspCand × (Nat × Nat × Nat) × Nat)) : State :=
  espS (fun e => { e with cmd := some (ecmd 6 1 0x7100), cycle := cy, batch := b, check := ck, front := epoch1 5 false })
def cres (n : BitVec 32) (l : BitVec 7) : CandResult := { counts := ⟨0, n, 0⟩, prim := 0, sample := 0, lane := l }

theorem witness_EspalierStopsCyclesAndBatches_BatchesAreTestedTwice_batch0 :
    (let s := eB none none none
    calm s ∧ s.rcd.ring.length < 16000 ∧ espServes s 3 (ecmd 6 1 0x7100) 6 ∧ s.esp.batch = none ∧ s.esp.check = none ∧ espReports s 3 (ecmd 6 1 0x7100) 0x7230) := by
  dsimp only [calm, ringOff, pipelineEmpty, ringOpen, espServes, espReports]; decide +kernel

theorem witness_EspalierStopsCyclesAndBatches_BatchesAreTestedTwice_batch1 :
    (let s := eB (some (cyc none)) none none
    calm s ∧ s.rcd.ring.length < 16000 ∧ espServes s 3 (ecmd 6 1 0x7100) 6 ∧ s.esp.batch = none ∧ s.esp.check = none ∧ espReports s 3 (ecmd 6 1 0x7100) 0x7230) := by
  dsimp only [calm, ringOff, pipelineEmpty, ringOpen, espServes, espReports]; decide +kernel

theorem witness_EspalierStopsCyclesAndBatches_BatchesAreTestedTwice_read :
    (let s := eB (some (cyc none)) none none
    s.esp.cycle = some (cyc none) ∧ (ecmd 6 1 0x7100).count = 1 ∧ espRead s 3 0x7100 64 Env.quiet = ((bytesOf s 0x7100 64, none), s) ∧
    (bytesOf s 0x7100 64).any (·.2) = false ∧ espRead s 3 (0x7100 + 64) 136 (envAfter Env.quiet 64) = ((bytesOf s 0x7140 136, none), s) ∧
    (bytesOf s 0x7140 136).length = 136) := by decide +kernel

theorem witness_EspalierStopsCyclesAndBatches_BatchesAreTestedTwice_header :
    (let b := memGets (espS id) 0x7100 64
    bytesAt b 60 4 = (crc32c (b.take 60)).toNat ∧ bytesAt b 29 3 = 0 ∧ ((b.drop 40).take 20).all (· == 0) = true ∧
    (candOf (eB (some (cyc none)) none none) (bytesAt b 28 1) (bytesOf (espS id) 0x7140 136)).isSome = true) ∧
    (eB (some (cyc none)) (some batch1) none).esp.batch ≠ none ∧ espServes (eB (some (cyc none)) (some batch1) none) 3 (ecmd 6 1 0x7100) 6 := by
  dsimp only [espServes]; decide +kernel

theorem witness_EspalierStopsCyclesAndBatches_BatchesAreTestedTwice_complete :
    (let s := eB (some (cyc none)) (some batch1) none
    calm s ∧ s.esp.bound = some 3 ∧ s.esp.batch = some batch1 ∧ s.esp.cmd = some (ecmd 6 1 0x7100) ∧ s.esp.cycle = some (cyc none) ∧ batch1.tests = [test1] ∧
    (ecmd 6 1 0x7100).dst % 4096 + 16 ≤ 4096 ∧ xlat s 3 0x7800 .write none = .ok (.hbm 0x7800) ∧ stepHolder s 0xFFFF (.hbm 0x7800) = none ∧
    (∀ r ∈ [cres 0 1, cres 1 1], espReports (storeCells s 0x7800 (resultBytes (verdictOf s test1 r) r) false) 3 (ecmd 6 1 0x7100) 0x7230) ∧ 0x7230 + 8 ≤ 0x7800 ∧
    verdictOf s test1 (cres 0 1) = 0 ∧ verdictOf s test1 (cres 1 1) ≠ 0) := by
  dsimp only [calm, ringOff, pipelineEmpty, ringOpen, espReports]; decide +kernel

theorem witness_EspalierStopsCyclesAndBatches_BatchesAreTestedTwice_check :
    (let s := eB (some (cyc none)) none (some (best1, (0, 0, 0), 4))
    calm s ∧ s.rcd.ring.length < 16000 ∧ s.esp.check = some (best1, (0, 0, 0), 4) ∧ s.esp.cycle = some (cyc none) ∧ Tbl.get [] s.esp.charges (2 : BitVec 7).toNat = [] ∧
    Tbl.get [] s.esp.charges 4 = [] ∧ espBlocked s (pairNat (cres 1 2).counts) = true) ∧
    pairNat (cres 0 2).counts = (0, 0, 0) ∧ pairNat (cres 1 2).counts ≠ (0, 0, 0) ∧ pairNat (cres 0 3).counts = (0, 0, 0) ∧
    pairNat (cres 1 3).counts = pairNat (cres 1 2).counts ∧ pairNat (cres 2 3).counts ≠ (0, 0, 0) ∧ pairNat (cres 2 3).counts ≠ pairNat (cres 1 2).counts := by
  dsimp only [calm, ringOff, pipelineEmpty, ringOpen]; decide

/-! ### Recorder -/

/-- A record, and the recorder with it in the ring or being programmed at an operation. -/
def rec1 (c v : Nat) : Rec := { code := c, sev := v, flags := 0, srcClass := 13, srcIndex := 0, seq := 1, pos := 0, pcc := 0, gtc := 0, payload := [] }
def rcS (f : Recorder → Recorder) : State :=
  { dev with rcd := f { dev.rcd with log := { dev.rcd.log with segs := [⟨56, 0, []⟩], erased := [57, 58] } } }
def rcOp (k : Nat) : State := rcS (fun r => { r with op := some ⟨1, rec1 0x3002 2, true, k, 0⟩, ring := [⟨rec1 0x3002 2, false⟩] })

theorem witness_RecorderKeepsItsRing_RecordsAreProgrammed :
    (ph .off).phase = .off ∧ dev.rcd.op = none ∧ (scn .run false false false).thm.nvOpen = false ∧ dev.pwr.warn = false ∧ dev.rcd.ckptWait = none ∧ dev.rcd.ring = [] ∧
    (rcOp 4).phase ≠ .off ∧ (rcOp 4).rcd.log.segs = [⟨56, 0, []⟩] ∧ ([] : List NvSlot).length < 1024 ∧ (getBlk (rcOp 4) 56).retired = false ∧
    (getBlk (rcOp 4) 56).erases < 90000 ∧ (getBlk (rcOp 4) 56).retries = 0 ∧ 2 ≤ (rcOp 4).rcd.log.erased.length ∧ (rcOp 4).rcd.missed.all (· == 0) = true ∧
    (rcOp 4).rcd.op = some ⟨1, rec1 0x3002 2, true, 4, 0⟩ ∧ (rcOp 4).rcd.ring = [⟨rec1 0x3002 2, false⟩] ∧ (rcOp 3).rcd.op = some ⟨1, rec1 0x3002 2, true, 3, 0⟩ ∧
    (getBlk (rcOp 3) 56).fails < 3 := by decide

theorem witness_RecorderKeepsItsRing_RecordsAreProgrammed_begin :
    (let s := rcS (fun r => { r with ring := [⟨rec1 0x3002 2, false⟩] })
    s.rcd.op = none ∧ s.thm.nvOpen = true ∧ s.rcd.ckptWait = none ∧ s.rcd.frozen = false ∧ s.rcd.ring = [⟨rec1 0x3002 2, false⟩] ∧ s.rcd.missed.all (· == 0) = true ∧
    (getBlk s 56).retired = false ∧ 2 ≤ s.rcd.log.erased.length) ∧ isService (rec1 0x3002 2) = false ∧ (rec1 0x3002 2).code ∈ exemptCodes ∧ (rec1 0x2052 5).sev = 5 := by decide

/-- Block 60 of the log being erased, a rate window, and a freeze. -/
def erS60 (l : List Nat) : State := rcS (fun r => { r with log := { r.log with erased := l, erasing := some 60 } })
def win (n : Nat) : RateWin := ⟨0x7001, 0, 1, n, 0, 0⟩

theorem witness_RecorderKeepsItsRing_RecorderEvents :
    (scn .run false false false).thm.nvOpen = false ∧ dev.rcd.log.erasing ≠ some 60 ∧ dev.rcd.ckpt.erasing ≠ some 60 ∧ dev.rcd.svc.erasing ≠ some 60 ∧
    (erS60 [57, 58]).thm.nvOpen = true ∧ (erS60 [57, 58]).pwr.warn = false ∧ (erS60 [57, 58]).phase ≠ .off ∧
    (erS60 [57, 58]).rcd.log.erasing = some (60 : BitVec 9).toNat ∧ 2 ≤ (erS60 [57, 58]).rcd.log.erased.length ∧ (getBlk (erS60 [57, 58]) 60).erases + 1 < 90000 ∧
    calm (erS60 [57, 58]) ∧ (∀ w ∈ dev.rcd.rates, w.code ≠ (0x7001 : BitVec 16).toNat) ∧ dev.err.ringDue = false ∧
    (rcS (fun r => { r with rates := [win 0] })).rcd.rates = [win 0] ∧ (win 0).code = (0x7001 : BitVec 16).toNat ∧ (win 0).supp = 0 ∧ (win 3).supp ≠ 0 ∧
    ringOff (rcS (fun r => { r with rates := [win 3] })) ∧ ringOpen (rcS (fun r => { r with rates := [win 3] })) ∧ dev.rcd.frozen = false := by
  dsimp only [ringOff, ringOpen, calm, pipelineEmpty]; decide

theorem witness_RecorderKeepsItsRing_RecorderEvents_freeze :
    (let s := rcS (fun r => { r with frozen := true })
    s.rcd.frozen = true ∧ ringOff s ∧ s.rcd.ring.length < 16320) ∧ dev.phase ≠ .off ∧ dev.thm.nvOpen = true := by
  dsimp only [ringOff]; decide

theorem witness_RecorderKeepsItsRing_RecorderEvents_retire :
    (let s := erS60 ((List.range 400).map (· + 100))
    s.thm.nvOpen = true ∧ s.rcd.log.erasing = some 60 ∧ 2 ≤ s.rcd.log.erased.length ∧ calm s ∧ (getBlk s 60).retired = false ∧ 60 ∉ s.rcd.log.erased ∧
    384 < usable s s.rcd.log) := by
  dsimp only [calm, ringOff, pipelineEmpty, ringOpen]; decide +kernel

/-! ### Chorno -/

/-- A beacon, and the device with its Chorno as given. -/
def bcn (g : BitVec 16) (e : Nat) (ok : Bool) : BeaconMsg := { frame := 9, mute := 0, guardHit := g, crcOk := ok, errNs := e }
def chS (f : Chorno → Chorno) : State := { dev with chn := f dev.chn }

theorem witness_ChornoBusIsServed_BeaconsSynchronise :
    calm dev ∧ (ph .off).phase = .off ∧ calm (ph .off) ∧ dev.phase ≠ .off ∧ (bcn 0 0 false).crcOk = false ∧ (bcn 2 0 true).crcOk = true ∧
    (bcn 2 0 true).guardHit.getLsbD dev.straps.chnSlot.toNat = false ∧ dev.chn.sync = false ∧ dev.chn.selfM = false ∧
    (chS (fun c => { c with sync := true })).chn.sync = true ∧ (bcn 2 200 true).errNs * 20 ≤ 4000 + 1024 * chnAge (chS (fun c => { c with sync := true })) ∧
    ¬ ((bcn 2 201 true).errNs * 20 ≤ 4000 + 1024 * chnAge (chS (fun c => { c with sync := true }))) ∧
    calm (chS (fun c => { c with sync := true, selfM := true, run := 15 })) ∧ 15 ≤ (chS (fun c => { c with sync := true, selfM := true, run := 15 })).chn.run ∧
    (chS (fun c => { c with sync := true, selfM := true, run := 14 })).chn.run < 15 ∧ (bcn 1 0 true).guardHit.getLsbD 0 = true ∧
    (chS (fun c => { c with sync := true, hits := List.replicate 3 true })).chn.hits.length < 64 ∧
    3 ≤ chnHits (chS (fun c => { c with sync := true, hits := List.replicate 3 true })) ∧ calm (chS (fun c => { c with sync := true, hits := List.replicate 3 true })) := by
  dsimp only [calm, ringOff, pipelineEmpty, ringOpen]; decide

/-- A synchronised device with a report or a direct record. -/
def syS (f : Chorno → Chorno) (g : Pipeline → Pipeline) : State := { dev with chn := f { dev.chn with sync := true }, err := g dev.err }

theorem witness_ChornoBusIsServed_DeviceSlotsSendOneMessage :
    ringOff (syS id id) ∧ ringOpen (syS id id) ∧ (ph .off).phase = .off ∧ dev.chn.sync = false ∧ (syS id id).phase ≠ .off ∧ (syS id id).chn.sync = true ∧
    chnSilent (syS id id) = false ∧ (syS (fun c => { c with cmdM := true }) id).chn.cmdM = true ∧ chnSilent (syS (fun c => { c with frames := 60 }) id) = true ∧
    (syS id id).chn.selfM = false ∧ (syS id id).chn.cmdM = false ∧ (syS id id).chn.clash = false ∧
    (syS (fun c => { c with ans := some (0x83, [1]) }) id).chn.ans = some (0x83, [1]) ∧ (syS id id).chn.ans = none ∧ (syS id id).chn.done = [] ∧
    (syS id id).bist.repeatDue = false ∧ (syS id id).chn.holdDue = false ∧ (syS id id).err.folded = [] ∧ (syS id id).chn.txq = [] ∧
    (syS id (fun e => { e with reports := [rec1 1 2] })).err.reports = rec1 1 2 :: [] ∧ (syS id (fun e => { e with direct := [rec1 1 0] })).err.direct = [rec1 1 0] ∧
    (syS id id).err.reports = [] ∧ (syS id id).err.direct = [] ∧ pipelineEmpty (syS id id) := by
  dsimp only [ringOff, pipelineEmpty, ringOpen]; decide

theorem witness_ChornoBusIsServed_DeviceSlotsSendOneMessage_collisions :
    (let s := syS (fun c => { c with colls := List.replicate 3 true }) id
    s.chn.colls.length < 64 ∧ 3 ≤ chnColls s ∧ pipelineEmpty s ∧ chnSilent s = false ∧ ringOff s ∧ ringOpen s ∧ s.err.reports = [] ∧ s.err.direct = []) := by
  dsimp only [ringOff, pipelineEmpty, ringOpen]; decide

/-- A burst for slot `d` with a sequence number; 48 bytes of a program; the device with grants, and with a last answer. -/
def hd (d n : Byte) : ChnHdr := { dst := d, seq := n }
def prog48 : List Byte := List.replicate 48 0
def grS4 (l : List Nat) : State := { dev with trd := { dev.trd with grants := l } }
def noTrd : State := { dev with trd := { dev.trd with owner := false } }

theorem witness_ChornoBusIsServed_CommandsAreAnsweredOnce :
    ringOff dev ∧ ringOpen dev ∧ (ph .off).phase = .off ∧ (hd 3 1).dst.toNat ≠ dev.straps.chnSlot.toNat ∧ (hd 3 1).dst ≠ 0xFF ∧
    (hd 0 1).dst.toNat = dev.straps.chnSlot.toNat ∧ (chS (fun c => { c with last := some (1, 0x83, [1]) })).chn.last = some ((hd 0 1).seq.toNat, 0x83, [1]) ∧
    dev.chn.last = none ∧ 256 < (List.replicate 257 (0 : Byte)).length ∧ 5 < (6 : Byte).toNat ∧ (2 : Byte).toNat ≤ (2 : Byte).toNat ∧
    0 < prog48.length ∧ prog48.length ≤ 256 ∧ 2 ≤ (5 : Byte).toNat ∧ (5 : Byte).toNat ≤ 5 ∧ noTreadle noTrd = true ∧ 48 ≤ prog48.length ∧ prog48.length % 8 = 0 ∧
    ringOff noTrd ∧ ringOpen noTrd := by
  dsimp only [ringOff, ringOpen]; decide

theorem witness_ChornoBusIsServed_CommandsAreAnsweredOnce_more :
    noTreadle dev = false ∧ dev.chn.ids.length < 4 ∧ bytesAt prog48 4 1 ≤ 3 ∧ (getQ dev 1023).entries = [] ∧ (getQ dev 1023).valid = true ∧
    ctxGone dev (getQ dev 1023) = false ∧ 1 < (2 : Byte).toNat ∧ (getQ dev 6).valid = false ∧ (5 : BitVec 16).toNat ≤ 1022 ∧ (getQ dev 5).valid = true ∧
    (getQ dev 5).priv = 1 ∧ (getQ dev 5).fn = 0 ∧ (5 : BitVec 16).toNat ∈ (grS4 [5]).trd.grants ∧ (5 : BitVec 16).toNat ∉ dev.trd.grants ∧
    4 ≤ (grS4 [1, 2, 3, 4]).trd.grants.length ∧ (5 : BitVec 16).toNat ∉ (grS4 [1, 2, 3, 4]).trd.grants ∧ noTreadle (grS4 [1, 2, 3, 4]) = false ∧
    dev.trd.grants.length < 4 := by decide

theorem witness_ChornoBusIsServed_ChornoReadsAndPushes :
    setRow (1 : Byte).toNat (0xFFF : BitVec 16).toNat = none ∧ (setRow (1 : Byte).toNat (0x20 : BitVec 16).toNat).elim false (fun r => !r.perCtx) = true ∧
    aonServes 1 0 = true ∧ (setRow 1 0).elim false (fun r => !r.perCtx) = true ∧ aonServes 1 0x20 = false ∧ noTreadle noTrd = true ∧ 3 < (4 : Byte).toNat ∧
    (3 : Byte).toNat ≤ 3 ∧ (List.replicate 256 (0 : Byte)).length = 256 ∧ (16383 : BitVec 16).toNat ≤ 16383 ∧ ¬ ((16384 : BitVec 16).toNat ≤ 16383) ∧
    powerState dev = 2 ∧ dev.brl.verify = none ∧ ¬ (powerState (ph .stay) = 2 ∨ powerState (ph .stay) = 3) ∧ (ph .stay).phase ≠ .off ∧ (hd 0xFF 0).dst = 0xFF ∧
    dev.chn.asm = none ∧ (chS (fun c => { c with asm := some ⟨1, 2, 1, [], 0⟩, frames := 100 })).chn.asm = some ⟨1, 2, 1, [], 0⟩ ∧
    (0 : Nat) + 100 ≤ (chS (fun c => { c with asm := some ⟨1, 2, 1, [], 0⟩, frames := 100 })).chn.frames ∧
    (chS (fun c => { c with asm := some ⟨1, 2, 1, [], 0⟩, frames := 99 })).chn.frames < 0 + 100 ∧ (ph .oosHold).phase = .oosHold ∧ pcReqLow dev = false ∧
    dev.phase ≠ .oosHold := by decide

/-! ### SMBus -/

theorem witness_SmbusIsServed_SmbusReadsAnswer :
    (ph .off).phase = .off ∧ dev.phase ≠ .off ∧ dev.smb.page = 0 ∧ ({ dev with smb := { dev.smb with page := 2 } } : State).smb.page ≠ 0 ∧
    uncoreTemp dev = some 0 ∧ dev.fuses.gradeW = 1000 ∧ ({ dev with fuses := { dev.fuses with gradeW := 600 } } : State).fuses.gradeW ≠ 1000 := by decide

theorem witness_SmbusIsServed_SmbusReadsAnswer_hottest :
    hottest dev = some (0, 0) := by decide +kernel

theorem witness_SmbusIsServed_SmbusWritesAndAlerts_alert :
    smbAlert { dev with smb := { dev.smb with pec := true } } = true ∧ smbAlert { dev with smb := { dev.smb with acked := 0xFFFF } } = false := by
  constructor
  · unfold smbAlert statusWord
    cases Config.mfrStatus (chnFlags { dev with smb := { dev.smb with pec := true } }) <;> decide
  · unfold smbAlert
    show (_ &&& 0#16 != 0#16) = false
    simp

theorem witness_SmbusIsServed_SmbusWritesAndAlerts :
    (ph .off).phase = .off ∧ dev.phase ≠ .off ∧ (2 : Byte).toNat ≤ 2 ∧ 2 < (3 : Byte).toNat ∧ (3 : Byte).toNat ≤ 3 ∧ 3 < (4 : Byte).toNat ∧ ringOff dev ∧ ringOpen dev := by
  dsimp only [ringOff, ringOpen]; decide

/-! ### PCIe -/

/-- The link up, and a copy of three bytes from the host that waits for its data. -/
def pcU (f : Pcie → Pcie) : State := { dev with pci := f pciUp }
def hostX : Xfer :=
  { ctx := 3, tag := some 4, data := none,
    trig := { kind := 1, engine := 0, object := 2, done := 0xFFFF, thresh := 5, raw := (((List.replicate 64 0).set 19 0x40).set 25 0x70).set 32 3, order := 0, inStep := none } }
def hostR : State := { pcU (fun p => { p with reads := [(4, ⟨3, 0, 0, 3, 0⟩)], nextTag := 5 }) with shut := [(0, [hostX])] }

theorem witness_HostLinkErrorsAndFunctionResets_HostReadsAreAnswered :
    Tbl.has (pcU id).pci.reads 4 = false ∧ dev.pci.up = false ∧ (4 : Nat) < hostR.pci.nextTag ∧ (pcU id).pci.up = true ∧ (pcU id).pci.nextTag ≤ 4 ∧ calm (pcU id) ∧
    hostR.pci.reads = [(4, ⟨3, 0, 0, 3, 0⟩)] ∧ hostR.pci.up = true ∧ engineQ hostR 0 = [hostX] ∧ hostX.tag = some 4 ∧ hostX.trig.kind = 1 ∧ hostX.trig.done = 0xFFFF ∧
    hostX.trig.inStep = none ∧ destHeld hostR hostX = false ∧ hostX.ctx < 256 ∧ (getC hostR hostX.ctx).fault = 0 ∧ 0 < hostX.trig.len ∧
    hostX.trig.src % 4096 + hostX.trig.len ≤ 4096 ∧ hostX.trig.dst % 4096 + hostX.trig.len ≤ 4096 ∧
    xlat hostR hostX.ctx hostX.trig.dst .write none = .ok (.hbm 0x7000) ∧ hostOk hostR 0 = true ∧ hostX.trig.len = 3 ∧ calm hostR := by
  dsimp only [calm, ringOff, pipelineEmpty, ringOpen]; decide

theorem witness_HostLinkErrorsAndFunctionResets_HostReadsAreAnswered_source :
    (match xlat hostR hostX.ctx hostX.trig.src .read none with
    | .ok (.host f _) => f == 0
    | _ => false) = true := by decide

theorem witness_HostLinkErrorsAndFunctionResets_PcieErrorsAreReported :
    (ph .stay).phase ≠ .run ∧ dev.phase = .run ∧ calm dev := by
  dsimp only [calm, ringOff, pipelineEmpty, ringOpen]; decide

theorem witness_HostLinkErrorsAndFunctionResets_HostLinkComesAndGoes :
    dev.pci.up = false ∧ dev.pci.perst = false ∧ (getF dev 0).inReset = false ∧ dev.phase = .run ∧ (0 : BitVec 4).toNat = 0 ∧ 6 < (7 : BitVec 4).toNat ∧
    (3 : Byte).toNat ∉ [1, 2, 4, 8, 16] ∧ calm dev ∧ dev.rcd.ring.length < 16000 ∧ (6 : BitVec 4).toNat = 6 ∧ (16 : Byte).toNat = 16 ∧
    (8 : Byte).toNat ∈ [1, 2, 4, 8, 16] ∧ ¬ ((6 : BitVec 4).toNat = 6 ∧ (8 : Byte).toNat = 16) ∧ (pcU id).pci.up = true ∧ calm (pcU id) ∧ (pcU id).pci.reads = [] := by
  dsimp only [calm, ringOff, pipelineEmpty, ringOpen]; decide

theorem witness_HostLinkErrorsAndFunctionResets_FunctionResetsAreEntered :
    fnEnabled (pcU id) (1 : BitVec 6).toNat = false ∧ dev.pci.up = false ∧ (ph .stay).phase ≠ .run ∧ calm (pcU id) ∧ (pcU id).pci.up = true ∧ (pcU id).phase = .run ∧
    fnEnabled (pcU (fun p => { p with vfEnable := true, numVfs := 3 })) (3 : BitVec 6).toNat = true ∧ (3 : BitVec 6) ≠ 0 ∧
    calm (pcU (fun p => { p with vfEnable := true, numVfs := 3 })) ∧ (pcU id).pci.perst = false ∧ (pcU (fun p => { p with perst := true })).pci.perst = true ∧
    (ph .stay).pci.perst = false := by
  dsimp only [calm, ringOff, pipelineEmpty, ringOpen]; decide

/-- The image of an administrator queue in the bootstrap window. -/
def q0img : List Byte := memGets dev 0x3000 48
def bootS (p : Phase) (w : Bool) : State :=
  { pcU (fun x => { x with q0Image := if w then q0img else List.replicate 48 0 }) with phase := p }
def bootQ (q : Queue) : State := { bootS .run true with queues := [(0, q), (1023, Queue.chorno)] }
def tkv : State := { bootS .run true with trd := { dev.trd with owner := false, takeover := 1 } }

theorem witness_HostWritesTakeEffect_BootstrapCreatesQueueZero :
    barOk (bootS .run true) 0 = true ∧ barOk tkv 0 = true ∧ tkv.phase = .run ∧ tkv.trd.owner = false ∧ tkv.trd.takeover ≠ 0 ∧ dev.trd.owner = true ∧
    (getF (bootS .run true) 0).inReset = false ∧ barOk (bootS .stay true) 0 = true ∧ (bootS .stay true).phase ≠ .run ∧
    imageOk (bootS .run true) (bootS .run true).pci.q0Image = true ∧ bytesAt (bootS .run true).pci.q0Image 10 1 = 1 ∧
    imageOk (bootS .run false) (bootS .run false).pci.q0Image = false ∧ q0Idle (bootQ queue5) = false ∧ q0Idle (bootS .run true) = true ∧
    ringOff (bootS .run true) ∧ ringOpen (bootS .run true) ∧ (getQ (bootS .run true) 0).valid = false ∧
    (getQ (bootQ { queue5 with stopped := true }) 0).stopped = true ∧ (getQ (bootQ { queue5 with stopped := true }) 0).entries = [] ∧ queue5.enabled = true := by
  dsimp only [ringOff, ringOpen]; decide

theorem witness_HostWritesTakeEffect_BootstrapCreatesQueueZero_descriptor :
    (let q : Queue := { queue5 with stopped := true, running := none }
    calm (bootQ q) ∧ badDescriptor (bootQ q) 0 = true ∧ badDescriptor (bootQ { q with crc := crc32c q.image }) 0 = false) := by
  dsimp only [calm, ringOff, pipelineEmpty, ringOpen]; decide +kernel

theorem witness_HostWritesTakeEffect_BarWritesTakeEffect :
    barOk dev 0 = false ∧ barOk (devQ queue5) (0 : BitVec 6).toNat = true ∧ ([1] : List Byte) ≠ [] ∧ calm (devQ queue5) ∧ (0x50 : BitVec 32).toNat < 0x4000 ∧
    (0x50 : BitVec 32).toNat % 16 = 0 ∧ ([3, 0, 0, 0] : List Byte).length = 4 ∧ (getF (devQ queue5) 0).inReset = false ∧ (0x50 : BitVec 32).toNat / 16 = 5 ∧
    (getQ (devQ queue5) 5).valid = true ∧ (getQ (devQ queue5) 5).fn = 0 ∧ idxSub queue5.tail queue5.done ≤ idxSub (leNat [3, 0, 0, 0]) queue5.done ∧
    idxSub (leNat [16, 0, 0, 0]) queue5.done ≤ 2 ^ queue5.cmdLog2 ∧ (0x54 : BitVec 32).toNat % 16 = 4 ∧
    idxSub queue5.done (leNat [0, 0, 0, 0]) ≤ idxSub queue5.done queue5.cplHead ∧ 8 ≤ (0x58 : BitVec 32).toNat % 16 ∧ 0x18000 ≤ (0x18000 : BitVec 32).toNat ∧
    0x74 ≤ (0x74 : BitVec 32).toNat ∧ (0x3F : BitVec 32).toNat < 0x40 ∧ 0x40 ≤ (0x6F : BitVec 32).toNat ∧ (0x6F : BitVec 32).toNat + ([1] : List Byte).length ≤ 0x70 ∧
    (3 : BitVec 3) ≠ 0 ∧ (3 : BitVec 3) ≠ 2 := by
  dsimp only [calm, ringOff, pipelineEmpty, ringOpen]; decide

/-- Function 0 with a vector pending. -/
def pcV (l : List Nat) : State := pcU (fun p => { p with fns := [(0, { PciFn.init with bme := true, mse := true, msixEn := true, pending := l })] })

theorem witness_HostWritesTakeEffect_ConfigurationIsWritten :
    dev.pci.up = false ∧ (pcU id).pci.up = true ∧ fnEnabled (pcU id) 0 = true ∧ (getF (pcU id) 0).inReset = false ∧ (getF (pcU id) 0).pending = [] ∧
    (let s := pcU (fun p => { p with vfEnable := true, numVfs := 3 })
    s.pci.up = true ∧ fnEnabled s (3 : BitVec 6).toNat = true ∧ (getF s 3).inReset = false ∧ (3 : BitVec 6).toNat ≠ 0 ∧ s.pci.vfEnable = true ∧ (getF s 3).pending = []) ∧
    (pcU id).pci.vfEnable = false ∧ (63 : BitVec 16).toNat ≤ 63 ∧ 63 < (64 : BitVec 16).toNat ∧ barOk dev 0 = false ∧ vectorCount 0 ≤ (2048 : BitVec 12).toNat ∧
    barOk (pcV [7]) (0 : BitVec 6).toNat = true ∧ (2047 : BitVec 12).toNat < vectorCount 0 ∧ (getF (pcV [7]) 0).pending = [(7 : BitVec 12).toNat] ∧
    (getF (pcV [7]) 0).bme = true ∧ (getF (pcV [7]) 0).msixEn = true ∧ (getF (pcV [7]) 0).msixMask = false ∧ (getF (pcV []) 0).pending = [] := by decide

end Sys2Proof.Tests
end

section
/-! ### Frames of records: what a record and an accepted event leave as it was -/

namespace Sys2Proof.Machine

/-- State `t` differs from `x` in the recorder, the error pipeline and Chorno alone. -/
def recordsOnly (x t : State) : Prop := t = { x with rcd := t.rcd, err := t.err, chn := t.chn }

/-- A reading of the state that does not look at records finds the same. -/
theorem recordsOnly_keeps {β : Type} {x t : State} (h : recordsOnly x t) (f : State → β)
    (hf : ∀ r e c, f { x with rcd := r, err := e, chn := c } = f x) : f t = f x := by
  rw [h]
  exact hf _ _ _

/-- A setting that has one reset value for every part and profile reads the same in states with the same settings. -/
theorem liveVal_congr {s t : State} (h : t.sets = s.sets) {blk idx : Nat} (cap : ¬ (blk = 1 ∧ idx = 0x20))
    (pub : ¬ (blk = 11 ∧ idx = 0x22)) (ctx : Nat) : liveVal t blk idx ctx = liveVal s blk idx ctx := by
  have r : setReset t blk idx = setReset s blk idx := by
    unfold setReset
    rw [if_neg cap, if_neg cap, if_neg pub, if_neg pub]
  unfold liveVal hdCell setCell
  rw [r, h]

/-- A direct record with the host ring off changes what records change, and no more. -/
theorem record_recordsOnly {s : State} (h : ringOff s) (code sev cls idx : Nat) (pl : List Byte) :
    recordsOnly s (record s code sev cls idx pl) := by
  unfold recordsOnly
  rw [record_frame h]

/-- A direct record into an open ring. -/
theorem record_recorded {s : State} (h : ringOff s) (o : ringOpen s) (code sev cls idx : Nat) (pl : List Byte) :
    recorded s (record s code sev cls idx pl) code sev cls idx := by
  refine ⟨record_last h o code sev cls idx pl, ?_⟩
  have f := record_frame h code sev cls idx pl
  rw [record_rcd h o] at f
  conv_lhs => rw [f]
  rw [record_rcd h o]

/-- A ring without a freeze takes a record while it has a slot for its severity (20 R687). -/
theorem ringAdd_room {s : State} {r : Rec} (thaw : s.rcd.frozen = false) (room : s.rcd.ring.length < 16384)
    (slot : s.rcd.ring.length < 16320 ∨ 4 ≤ r.sev) :
    ringAdd s r = { s with rcd := { s.rcd with ring := s.rcd.ring ++ [⟨r, false⟩] } } := by
  have full : ¬ (s.rcd.ring.length ≥ 16384 ∨ (s.rcd.ring.length ≥ 16320 ∧ r.sev < 4)) := by omega
  unfold ringAdd
  simp only [thaw, full, Bool.false_eq_true, if_false]

/-- A severe direct record stands last in a volatile ring that is not full. -/
theorem record_last_severe {s : State} (h : ringOff s) (thaw : s.rcd.frozen = false) (room : s.rcd.ring.length < 16384) {sev : Nat}
    (severe : 4 ≤ sev) (code cls idx : Nat) (pl : List Byte) : lastRecord (record s code sev cls idx pl) code sev cls idx := by
  have add := ringAdd_room (s := (formRec s code sev 0 cls idx pl).2) (r := recOf s code sev cls idx pl) thaw room (.inr severe)
  refine ⟨⟨recOf s code sev cls idx pl, false⟩, ?_, rfl, rfl, rfl, rfl⟩
  rw [record_off h, recordRaw_off h, offerDirect_frame, add]
  simp

/-- An event accepted in a calm state. -/
theorem accept_accepted {s : State} (c : calm s) (code sev cls idx ctx dom : Nat) (pl : List Byte) :
    accepted s (accept s code sev cls idx ctx dom pl) code sev := by
  obtain ⟨f, _, _, i⟩ := accept_calm c code sev cls idx ctx dom pl
  exact ⟨i, f⟩

/-- A reading of the state that looks at no record and no error finds the same after an accepted event. -/
theorem accepted_keeps {β : Type} {x t : State} {code sev : Nat} (h : accepted x t code sev) (f : State → β)
    (hf : ∀ r e, f { x with rcd := r, err := e } = f x) : f t = f x := by
  rw [h.2]
  exact hf _ _

/-- Reading a queue of the pipeline just written. -/
@[simp] theorem entriesOf_setEntries (p : Pipeline) (n : Nat) (l : List Entry) (k : Nat) (a : Tbl Nat) :
    entriesOf { setEntries p n l with nextId := k, accepted := a } n = l := by
  rcases n with _ | _ | _ | n <;> rfl

/-- Writing a queue of the pipeline owes the host ring nothing, and leaves the handlers and the safe state as they are. -/
theorem setEntries_others (p : Pipeline) (n : Nat) (l : List Entry) :
    (setEntries p n l).ringDue = p.ringDue ∧ (setEntries p n l).handlers = p.handlers ∧ (setEntries p n l).safe = p.safe := by
  rcases n with _ | _ | _ | n <;> exact ⟨rfl, rfl, rfl⟩

/-- The record of an entry leaves the queues of the pipeline as they are. -/
theorem entryRecord_entriesOf {s : State} (h : ringOff s) (code sev fl cls idx : Nat) (pl : List Byte) (n : Nat) :
    entriesOf (entryRecord s code sev fl cls idx pl).err n = entriesOf s.err n := by
  rw [entryRecord_frame h]
  rcases n with _ | _ | _ | n <;> rfl

/-- An event that meets no entry of its code in its queue, and none in handling, becomes the queue's last entry; all else that
changes is its record and its report. -/
theorem accept_append {s : State} (h : ringOff s) (safe : s.err.safe = false) (idle : s.err.handlers = []) {code sev : Nat}
    (new : ∀ e ∈ entriesOf s.err (queueOf code sev), e.code ≠ code) (room : (entriesOf s.err (queueOf code sev)).length < 64)
    (cls idx ctx dom : Nat) (pl : List Byte) :
    let t := accept s code sev cls idx ctx dom pl
    recordsOnly s t ∧ ringOff t ∧ t.err.handlers = [] ∧ t.err.safe = false ∧
    ∃ e, e.code = code ∧ e.sev = sev ∧
      entriesOf t.err (queueOf code sev) = entriesOf s.err (queueOf code sev) ++ [e] := by
  intro t
  have f := entryRecord_frame h code sev 0 cls idx pl
  let e : Entry := { id := (entryRecord s code sev 0 cls idx pl).err.nextId, code := code, sev := sev, srcClass := cls, srcIndex := idx,
                     ctx := ctx, domain := dom, key := keyOf code sev cls idx ctx dom, arrivals := 1, payload := pl }
  have none : (entriesOf s.err (queueOf code sev)).find? (fun e => e.code == code && e.srcClass == cls && e.srcIndex == idx &&
      e.ctx == ctx && !inHandling s.err e.id) = none := by
    rw [List.find?_eq_none]
    intro x hx
    simp [new x hx]
  have core : acceptCore s code sev cls idx ctx dom pl false =
      (let u := entryRecord s code sev 0 cls idx pl
       let k := setEntries u.err (queueOf code sev) (entriesOf s.err (queueOf code sev) ++ [e])
       { u with err := { k with nextId := k.nextId + 1, accepted := bumpTbl 0xFFFFFFFF k.accepted (queueOf code sev) } }) := by
    unfold acceptCore
    simp [safe, none, idle, Nat.not_le.mpr room, entryRecord_entriesOf h, e]
  have kept : let k := (acceptCore s code sev cls idx ctx dom pl false).err
      k.ringDue = false ∧ k.handlers = [] ∧ k.safe = false := by
    obtain ⟨d, hs, sf⟩ := setEntries_others (entryRecord s code sev 0 cls idx pl).err (queueOf code sev)
      (entriesOf s.err (queueOf code sev) ++ [e])
    rw [core]
    dsimp only
    rw [d, hs, sf, f]
    exact ⟨h.2, idle, safe⟩
  obtain ⟨due, hs, sf⟩ := kept
  have eq : t = acceptCore s code sev cls idx ctx dom pl false := by
    simp [t, accept, settleRing, due]
  have only : recordsOnly s t := by
    unfold recordsOnly
    rw [eq, core]
    dsimp only
    rw [f]
  refine ⟨only, ringOff_of h (recordsOnly_keeps only State.sets fun _ _ _ => rfl) (by rw [eq, due, h.2]), eq ▸ hs, eq ▸ sf, e, rfl, rfl, ?_⟩
  rw [eq, core]
  exact entriesOf_setEntries _ _ _ _ _

end Sys2Proof.Machine
end

section
/-! ### Time synchronisation -/
namespace Sys2Proof.Machine

/-- Reading the port just changed. -/
@[simp] theorem getL_updL_same (s : State) (p : Nat) (f : LinkPort → LinkPort) : getL (updL s p f) p = f (getL s p) :=
  Tbl.get_put_same _ _ _ _
/-- Reading another port than the one just changed. -/
theorem getL_updL_ne (s : State) {p k : Nat} (h : k ≠ p) (f : LinkPort → LinkPort) : getL (updL s p f) k = getL s k :=
  Tbl.get_put_ne _ _ h _

/-- TIM.STATUS[state] follows what holds now, and a change from `old` is recorded (17 R601): the last part of settleTime. -/
def announceTime (old : Nat) (s : State) : State :=
  let v := timeState s
  if v = old then s
  else
    let s := { s with time := { s.time with state := v, hops := if v = 0 ∧ s.time.parent = 7 then 255 else s.time.hops } }
    if v = 2 then timeRec s 0x7051 0 s.time.parent 0
    else if v = 3 then timeRec s 0x7052 0 s.time.parent 0
    else timeRec s 0x7053 2 s.time.parent 0

/-- The time parent and the hops that hold now (17 R597, R605, R606): the first part of settleTime. -/
def parentNow (s : State) : TimeSync :=
  let t := s.time
  if !timOn s ∨ t.lost then { t with parent := 7 }
  else if isRoot s then { t with parent := 7, hops := 0 }
  else if t.hops = 0 then { t with parent := 7, hops := 255 }
  else if t.parent < 6 ∧ !(advPorts s).contains t.parent then { t with parent := 7 } else t

/-- Roots conflict only where the device is to be a root itself. -/
def rootsClash (s : State) : Bool := timRoot s && timOn s && !s.time.lost && lowerRoot s

/-- Time is settled in three parts: the parent, a conflict of roots, the state. -/
theorem settleTime_eq (s : State) :
    settleTime s =
      (let x : State := { s with time := { parentNow s with conflict := rootsClash s } }
       announceTime s.time.state (if rootsClash s && !s.time.conflict then timeRec x 0x7055 2 ((bestPort x).getD 7) 0 else x)) := rfl

/-- Without a conflict of roots the parent follows and then the state. -/
theorem settleTime_eq_of_noClash {s : State} (h : rootsClash s = false) :
    settleTime s = announceTime s.time.state { s with time := { parentNow s with conflict := false } } := by
  rw [settleTime_eq, h]; rfl

/-- A device that synchronises no time has no parent. -/
theorem settleTime_unsynced {s : State} (h : timOn s = false ∨ s.time.lost = true) :
    settleTime s = announceTime s.time.state { s with time := { s.time with parent := 7, conflict := false } } := by
  have clash : rootsClash s = false := by unfold rootsClash; obtain h | h := h <;> simp [h]
  have now : parentNow s = { s.time with parent := 7 } := by unfold parentNow; obtain h | h := h <;> simp [h]
  rw [settleTime_eq_of_noClash clash, now]

/-- A device that is no root, and whose parent, if it has one, still advertises a root, keeps its parent and its hops. -/
theorem settleTime_follows {s : State} (root : timRoot s = false) (on : timOn s = true) (lost : s.time.lost = false)
    (hops : s.time.hops ≠ 0) (par : s.time.parent < 6 → s.time.parent ∈ advPorts s) :
    settleTime s = announceTime s.time.state { s with time := { s.time with conflict := false } } := by
  have clash : rootsClash s = false := by simp [rootsClash, root]
  have now : parentNow s = s.time := by
    have : isRoot s = false := by simp [isRoot, root]
    have kept : ¬ (s.time.parent < 6 ∧ s.time.parent ∉ advPorts s) := fun h => h.2 (par h.1)
    simp [parentNow, on, lost, this, hops, kept]
  rw [settleTime_eq_of_noClash clash, now]

/-- A state that stays is not announced. -/
theorem announceTime_same {s : State} {old : Nat} (h : timeState s = old) : announceTime old s = s := by
  simp [announceTime, h]

/-- Synchronisation is gained: TIME_SYNC is recorded directly. -/
theorem announceTime_gained {s : State} {old : Nat} (v : timeState s = 2) (h : old ≠ 2) :
    announceTime old s = timeRec { s with time := { s.time with state := 2 } } 0x7051 0 s.time.parent 0 := by
  simp [announceTime, v, Ne.symm h]

/-- Synchronisation is lost without a parent: TIME_UNSYNC enters the pipeline, and no root is known any more. -/
theorem announceTime_lost {s : State} {old : Nat} (v : timeState s = 0) (h : old ≠ 0) (par : s.time.parent = 7) :
    announceTime old s = timeRec { s with time := { s.time with state := 0, hops := 255 } } 0x7053 2 7 0 := by
  simp [announceTime, v, Ne.symm h, par]

/-- The state of a device that is no root, by its bound and its parent (17 R601). -/
theorem timeState_noRoot {s : State} (root : timRoot s = false) (on : timOn s = true) (lost : s.time.lost = false) :
    timeState s = if 400000000 < rawBound s then 0 else if s.time.parent < 6 then 2
      else if s.time.state = 2 ∨ s.time.state = 3 then 3 else 0 := by
  simp [timeState, isRoot, root, on, lost]

/-- The state of a device that synchronises no time (17 R605, R606). -/
theorem timeState_unsynced {s : State} (h : timOn s = false ∨ s.time.lost = true) : timeState s = 0 := by
  unfold timeState
  obtain h | h := h <;> simp [h]

/-- A device that synchronises no time and was UNSYNC before loses its parent alone. -/
theorem settleTime_stillUnsynced {s : State} (h : timOn s = false ∨ s.time.lost = true) (st : s.time.state = 0) :
    settleTime s = { s with time := { s.time with parent := 7, conflict := false } } := by
  have zero : timeState { s with time := { s.time with parent := 7, conflict := false } } = 0 := timeState_unsynced h
  rw [settleTime_unsynced h, announceTime_same (zero.trans st.symm)]

/-- A device that synchronises no time any more is UNSYNC, which is recorded. -/
theorem settleTime_nowUnsynced {s : State} (h : timOn s = false ∨ s.time.lost = true) (st : s.time.state ≠ 0) :
    settleTime s =
      timeRec { s with time := { s.time with state := 0, parent := 7, hops := 255, conflict := false } } 0x7053 2 7 0 := by
  have zero : timeState { s with time := { s.time with parent := 7, conflict := false } } = 0 := timeState_unsynced h
  rw [settleTime_unsynced h]
  simp only [announceTime, zero, Ne.symm st]
  simp

/-- A direct record of time synchronisation changes what records change, and owes the host ring nothing. -/
theorem timeRec_direct {s : State} (h : ringOff s) (code port amount : Nat) :
    recordsOnly s (timeRec s code 0 port amount) ∧ ringOff (timeRec s code 0 port amount) :=
  ⟨record_recordsOnly h _ _ _ _ _, record_ringOff h _ _ _ _ _⟩

/-- The entry of a loss of synchronisation or of the reference, which is about no port. -/
theorem timeRec_entry (s : State) (code : Nat) : ∃ pl, timeRec s code 2 7 0 = accept s code 2 0x07 0xFFFF 0xFFFF 0xFFFF pl := ⟨_, rfl⟩

/-- A device that has just exchanged with a parent of at most 23 hops is in synchronisation (17 R600, R601). -/
theorem settleTime_synced {s : State} (root : timRoot s = false) (on : timOn s = true) (lost : s.time.lost = false)
    (par : s.time.parent < 6) (adv : s.time.parent ∈ advPorts s) (hops : 1 ≤ s.time.hops ∧ s.time.hops ≤ 24)
    (now : s.time.last = s.aon) (st : s.time.state = 0) (h : ringOff s) :
    recordsOnly { s with time := { s.time with state := 2, conflict := false } } (settleTime s) := by
  have bound : rawBound s ≤ 400000000 := by
    unfold rawBound
    simp only [par, now, Nat.le_add_right, and_self, if_true]
    split <;> omega
  have two : timeState { s with time := { s.time with conflict := false } } = 2 := by
    rw [timeState_noRoot (by exact root) (by exact on) (by exact lost)]
    have : ¬ 400000000 < rawBound { s with time := { s.time with conflict := false } } := Nat.not_lt.2 bound
    simp [this, par]
  rw [settleTime_follows root on lost (by omega) (fun _ => adv), announceTime_gained two (by omega)]
  exact (timeRec_direct (by exact h) _ _ _).1

/-- The one port that is up and has heard of a root is the candidate for time parent (17 R597). -/
theorem advPorts_single {s : State} {p : Nat} (lt : p < 6) (up : (getL s p).up = true) (hops : (getL s p).advHops < 255)
    (others : ∀ k, k < 6 → k ≠ p → (getL s k).up = false) : advPorts s = [p] := by
  have only : advPorts s = (List.range 6).filter (fun k => k == p) := by
    refine List.filter_congr fun k hk => ?_
    by_cases e : k = p
    · simp [e, up, hops]
    · simp [e, others k (List.mem_range.1 hk) e]
  rw [only]
  interval_cases p <;> rfl

/-- The state once a TIME flit-group has been heard on a port: the port's delay, the neighbour's advertisement, the exchange's times. -/
def heardTime (s : State) (p : Nat) (x : TimeFlit) : State :=
  updL s p (fun l => { l with delay := ((x.t2 - x.t1) + (x.t4 - x.t3)) / 2, advSerial := x.rootSerial.toNat,
                              advHops := x.hops.toNat, lastT := x.t3, lastA := x.t4 })

/-- A TIME flit-group on a port that is up is heard; the exchange with the best candidate is followed. -/
theorem execTimeFlitReceive_up {s : State} {port : BitVec 3} (x : TimeFlit) (lt : port.toNat < 6) (up : (getL s port.toNat).up = true) :
    execTimeFlitReceive port x s = .next (
      let t := heardTime s port.toNat x
      if timOn s && !s.time.lost && !isRoot t && bestPort t == some port.toNat then
        settleTime (followParent t port.toNat ((x.t2 - x.t1) - (x.t4 - x.t3)))
      else settleTime t) := by
  unfold execTimeFlitReceive
  simp only [lt, up, and_self, if_true]
  rfl

/-- What a TIME flit-group leaves of the ports: the port it came through has its delay and its advertisement, the others are as they were. -/
theorem heardTime_ports {s t : State} {p : Nat} {x : TimeFlit} (h : t.links = (heardTime s p x).links) :
    (getL t p).delay = ((x.t2 - x.t1) + (x.t4 - x.t3)) / 2 ∧ (getL t p).advSerial = x.rootSerial.toNat ∧
    (getL t p).advHops = x.hops.toNat ∧ ∀ k, k ≠ p → getL t k = getL s k := by
  have e : ∀ k, getL t k = getL (heardTime s p x) k := fun k => congrArg (fun l => Tbl.get LinkPort.init l k) h
  have same : getL (heardTime s p x) p = _ := getL_updL_same s p _
  refine ⟨?_, ?_, ?_, fun k hk => (e k).trans (getL_updL_ne s hk _)⟩ <;> rw [e, same]

/-- What the exchange with a parent makes of the time: the parent, one hop more than it, and now as the time of the exchange. -/
def parentTaken (s : State) (p : Nat) : State :=
  { s with time := { s.time with parent := p, hops := Nat.min 255 ((getL s p).advHops + 1), last := s.aon } }

/-- A new parent more than 1 µs away loads the GTC while no context exists (17 R599). -/
theorem followParent_far {s : State} {p : Nat} {off : Int} (new : s.time.parent ≠ p) (free : ∀ c ∈ s.ctxs, c.2.inUse = false)
    (far : 32000 < off.natAbs) :
    followParent s p off =
      timeRec { parentTaken s p with gtc := ((s.gtc : Int) + off / 32).toNat } 0x7054 0 p (signed64 (off / 32)) := by
  have all : s.ctxs.all (fun e => !e.2.inUse) = true := by simpa [List.all_eq_true] using fun a b h => free (a, b) h
  simp [followParent, all, far, new]
  rfl

/-- An offset of up to 1 µs corrects the rate (17 R598). -/
theorem followParent_near {s : State} {p : Nat} {off : Int} (near : off.natAbs ≤ 32000) :
    followParent s p off = correctRate (parentTaken s p) off := by
  simp [followParent, Nat.not_lt.2 near]
  rfl

/-- The correction of the rate lies within 0.1 ppm, goes towards the parent, and stays within 200 ppm (17 R598). -/
theorem correctRate_bounds (s : State) (off : Int) (lo : -2000000 ≤ s.time.rate) (hi : s.time.rate ≤ 2000000) :
    ∃ r : Int, correctRate s off = { s with freeCtr := s.freeCtr + 1, time := { s.time with rate := r } } ∧
      -2000000 ≤ r ∧ r ≤ 2000000 ∧ (r - s.time.rate).natAbs ≤ 1000 ∧ (0 < off → s.time.rate ≤ r) ∧ (off < 0 → r ≤ s.time.rate) ∧
      (off = 0 → r = s.time.rate) := by
  refine ⟨_, rfl, ?_⟩
  dsimp only [takeFree]
  have d : (Config.freeValue s.freeCtr).toNat % 1001 < 1001 := Nat.mod_lt _ (by decide)
  generalize (Config.freeValue s.freeCtr).toNat % 1001 = d at *
  split <;> [skip; split] <;> omega

/-- A device that is to synchronise no time hears a TIME flit-group and follows no parent (17 R606). -/
theorem timeFlitReceive_off {s : State} {port : BitVec 3} {x : TimeFlit} (lt : port.toNat < 6) (up : (getL s port.toNat).up = true)
    (off : timOn s = false) (st : s.time.state = 0) :
    execTimeFlitReceive port x s =
      .next { heardTime s port.toNat x with time := { s.time with parent := 7, conflict := false } } := by
  have settled : settleTime (heardTime s port.toNat x) = _ := settleTime_stillUnsynced (.inl off) st
  rw [execTimeFlitReceive_up x lt up]
  simp only [off, Bool.false_and, Bool.false_eq_true, if_false, settled]
  rfl

/-- The exchange with the one port that has heard of a root is followed, by a device that is no root and has no parent. -/
theorem execTimeFlitReceive_follows {s : State} {port : BitVec 3} {x : TimeFlit} (lt : port.toNat < 6) (up : (getL s port.toNat).up = true)
    (on : timOn s = true) (root : timRoot s = false) (lost : s.time.lost = false) (hops : x.hops.toNat < 24)
    (others : ∀ k, k < 6 → k ≠ port.toNat → (getL s k).up = false) :
    advPorts (heardTime s port.toNat x) = [port.toNat] ∧
    execTimeFlitReceive port x s =
      .next (settleTime (followParent (heardTime s port.toNat x) port.toNat ((x.t2 - x.t1) - (x.t4 - x.t3)))) := by
  have same : getL (heardTime s port.toNat x) port.toNat = _ := getL_updL_same s _ _
  have adv : advPorts (heardTime s port.toNat x) = [port.toNat] := by
    refine advPorts_single lt (by rw [same]; exact up) (by rw [same]; show x.hops.toNat < 255; omega) fun k hk ne => ?_
    exact (congrArg LinkPort.up (getL_updL_ne s ne _)).trans (others k hk ne)
  have best : bestPort (heardTime s port.toNat x) = some port.toNat := by simp [bestPort, adv]
  have noRoot : isRoot (heardTime s port.toNat x) = false := by
    have : timRoot (heardTime s port.toNat x) = false := root
    simp [isRoot, this]
  refine ⟨adv, ?_⟩
  rw [execTimeFlitReceive_up x lt up]
  simp [on, lost, best, noRoot]

/-- A state that the exchange with a new parent has left settles as synchronised, whatever else but the time the exchange changed. -/
theorem followed_synced {s y : State} {p : Nat} {x : TimeFlit} (lt : p < 6) (on : timOn s = true) (root : timRoot s = false)
    (lost : s.time.lost = false) (st : s.time.state = 0) (hops : x.hops.toNat < 24) (adv : advPorts (heardTime s p x) = [p])
    (ring : ringOff y) (sets : y.sets = s.sets) (links : y.links = (heardTime s p x).links) (aon : y.aon = s.aon) {r : Int}
    (time : y.time = { (parentTaken (heardTime s p x) p).time with rate := r }) :
    let t := settleTime y
    t.links = (heardTime s p x).links ∧ t.gtc = y.gtc ∧ t.time.rate = r ∧
    t.time.state = 2 ∧ t.time.parent = p ∧ t.time.hops = x.hops.toNat + 1 ∧ t.time.last = s.aon := by
  intro t
  have h1 : y.time.hops = x.hops.toNat + 1 := by
    have same : getL (heardTime s p x) p = _ := getL_updL_same s p _
    rw [time]
    simp only [parentTaken, same]
    exact Nat.min_eq_right (by omega)
  have h2 : y.time.parent = p := by rw [time]; rfl
  have h3 : y.time.last = s.aon := by rw [time]; rfl
  have h4 : advPorts y = [p] := by
    rw [← adv]
    unfold advPorts getL
    rw [links]
  have ctl : liveVal y 15 0x10 0 = liveVal s 15 0x10 0 := liveVal_congr sets (by decide) (by decide) 0
  have only := settleTime_synced (s := y) (by unfold timRoot; rw [ctl]; exact root) (by unfold timOn; rw [ctl]; exact on)
    (by rw [time]; exact lost) (by omega) (by rw [h4, h2]; exact List.mem_singleton.2 rfl) (by omega) (by rw [h3, aon])
    (by rw [time]; exact st) ring
  have tm : t.time = { y.time with state := 2, conflict := false } := recordsOnly_keeps only State.time fun _ _ _ => rfl
  refine ⟨(recordsOnly_keeps only State.links fun _ _ _ => rfl).trans links, recordsOnly_keeps only State.gtc fun _ _ _ => rfl, ?_⟩
  rw [tm]
  exact ⟨by rw [time], rfl, h2, h1, h3⟩

/-- A new parent more than 1 µs away sets the GTC while no context exists (17 R599). -/
theorem timeFlitReceive_far {s : State} {port : BitVec 3} {x : TimeFlit} (lt : port.toNat < 6) (up : (getL s port.toNat).up = true)
    (on : timOn s = true) (root : timRoot s = false) (lost : s.time.lost = false) (st : s.time.state = 0) (par : s.time.parent = 7)
    (hops : x.hops.toNat < 24) (ring : ringOff s) (others : ∀ k, k < 6 → k ≠ port.toNat → (getL s k).up = false)
    (free : ∀ c ∈ s.ctxs, c.2.inUse = false) (far : 32000 < ((x.t2 - x.t1) - (x.t4 - x.t3)).natAbs) :
    ∃ t, execTimeFlitReceive port x s = .next t ∧ t.links = (heardTime s port.toNat x).links ∧
      t.gtc = ((s.gtc : Int) + ((x.t2 - x.t1) - (x.t4 - x.t3)) / 32).toNat ∧ t.time.rate = s.time.rate ∧
      t.time.state = 2 ∧ t.time.parent = port.toNat ∧ t.time.hops = x.hops.toNat + 1 ∧ t.time.last = s.aon := by
  obtain ⟨adv, run⟩ := execTimeFlitReceive_follows lt up on root lost hops others
  rw [followParent_far (by show s.time.parent ≠ _; omega) (by exact free) far] at run
  obtain ⟨only, ring'⟩ := timeRec_direct (s := { parentTaken (heardTime s port.toNat x) port.toNat with
    gtc := ((s.gtc : Int) + ((x.t2 - x.t1) - (x.t4 - x.t3)) / 32).toNat }) (by exact ring) 0x7054 port.toNat
    (signed64 (((x.t2 - x.t1) - (x.t4 - x.t3)) / 32))
  obtain ⟨links, gtc, rest⟩ := followed_synced lt on root lost st hops adv ring' (recordsOnly_keeps only State.sets fun _ _ _ => rfl)
    (recordsOnly_keeps only State.links fun _ _ _ => rfl) (recordsOnly_keeps only State.aon fun _ _ _ => rfl)
    (recordsOnly_keeps only State.time fun _ _ _ => rfl)
  exact ⟨_, run, links, gtc.trans (recordsOnly_keeps only State.gtc fun _ _ _ => rfl), rest⟩

/-- An offset of up to 1 µs corrects the rate alone (17 R598). -/
theorem timeFlitReceive_near {s : State} {port : BitVec 3} {x : TimeFlit} (lt : port.toNat < 6) (up : (getL s port.toNat).up = true)
    (on : timOn s = true) (root : timRoot s = false) (lost : s.time.lost = false) (st : s.time.state = 0)
    (hops : x.hops.toNat < 24) (ring : ringOff s) (others : ∀ k, k < 6 → k ≠ port.toNat → (getL s k).up = false)
    (near : ((x.t2 - x.t1) - (x.t4 - x.t3)).natAbs ≤ 32000) (lo : -2000000 ≤ s.time.rate) (hi : s.time.rate ≤ 2000000) :
    let off := (x.t2 - x.t1) - (x.t4 - x.t3)
    ∃ t, execTimeFlitReceive port x s = .next t ∧ t.links = (heardTime s port.toNat x).links ∧ t.gtc = s.gtc ∧
      (t.time.state = 2 ∧ t.time.parent = port.toNat ∧ t.time.hops = x.hops.toNat + 1 ∧ t.time.last = s.aon) ∧
      -2000000 ≤ t.time.rate ∧ t.time.rate ≤ 2000000 ∧ (t.time.rate - s.time.rate).natAbs ≤ 1000 ∧
      (0 < off → s.time.rate ≤ t.time.rate) ∧ (off < 0 → t.time.rate ≤ s.time.rate) ∧ (off = 0 → t.time.rate = s.time.rate) := by
  intro off
  obtain ⟨adv, run⟩ := execTimeFlitReceive_follows lt up on root lost hops others
  rw [followParent_near near] at run
  obtain ⟨r, eq, bounds⟩ := correctRate_bounds (parentTaken (heardTime s port.toNat x) port.toNat) off lo hi
  rw [eq] at run
  obtain ⟨links, gtc, rate, rest⟩ := followed_synced (r := r) lt on root lost st hops adv (y := { parentTaken (heardTime s port.toNat x) port.toNat with
    freeCtr := s.freeCtr + 1, time := { (parentTaken (heardTime s port.toNat x) port.toNat).time with rate := r } })
    (by exact ring) rfl rfl rfl rfl
  refine ⟨_, run, links, gtc, rest, ?_⟩
  simp only [parentTaken, heardTime, updL_freeCtr] at rate bounds ⊢
  rw [rate]
  exact bounds

/-- A device that is no root and has no parent keeps its time state or announces the next one. -/
theorem settleTime_noParent {s : State} (root : timRoot s = false) (on : timOn s = true) (lost : s.time.lost = false)
    (par : s.time.parent = 7) (hops : s.time.hops ≠ 0) (conf : s.time.conflict = false) :
    settleTime s = announceTime s.time.state s := by
  have same : { s with time := { s.time with conflict := false } } = s := by rw [← conf]
  rw [settleTime_follows root on lost hops (by omega), same]

/-- A device without a parent whose bound has grown past 4 ns is UNSYNC (17 R600, R601). -/
theorem settleTime_expired {s : State} (root : timRoot s = false) (on : timOn s = true) (lost : s.time.lost = false)
    (par : s.time.parent = 7) (hops : s.time.hops ≠ 0) (conf : s.time.conflict = false) (far : 400000000 < rawBound s)
    (st : s.time.state ≠ 0) (c : calm s) :
    accepted { s with time := { s.time with state := 0, hops := 255 } } (settleTime s) 0x7053 2 := by
  have zero : timeState s = 0 := by rw [timeState_noRoot root on lost, if_pos far]
  rw [settleTime_noParent root on lost par hops conf, announceTime_lost zero st par]
  exact accept_accepted (by exact c) _ _ _ _ _ _ _

/-- Until then a device in HOLDOVER stays in it. -/
theorem settleTime_holdover {s : State} (root : timRoot s = false) (on : timOn s = true) (lost : s.time.lost = false)
    (par : s.time.parent = 7) (hops : s.time.hops ≠ 0) (conf : s.time.conflict = false) (near : rawBound s ≤ 400000000)
    (st : s.time.state = 3) : settleTime s = s := by
  have three : timeState s = s.time.state := by
    rw [timeState_noRoot root on lost, if_neg (Nat.not_lt.2 near)]
    simp [par, st]
  rw [settleTime_noParent root on lost par hops conf, announceTime_same three]

/-- The two records of a lost reference: TB_REF_LOST, and TIME_UNSYNC where the device was not UNSYNC before (17 R601, R605). -/
theorem tbRefLost_unsync {s : State} (ph : s.phase = .run ∨ s.phase = .reset) (lost : s.time.lost = false) (c : calm s) :
    ∃ t, execTbRefLost s = .next t ∧ inPipeline t 0x7050 2 ∧ (s.time.state ≠ 0 → inPipeline t 0x7053 2) ∧
      t.time.lost = true ∧ t.time.state = 0 ∧ t.time.parent = 7 ∧ t.gtc = s.gtc ∧ t.mem = s.mem ∧ t.ctxs = s.ctxs := by
  obtain ⟨ring, ⟨-, -, -, p3, idle, safe⟩, -⟩ := c
  obtain ⟨pl, rec⟩ := timeRec_entry { s with time := { s.time with lost := true } } 0x7050
  obtain ⟨only, ring1, idle1, safe1, e, ecode, esev, ents⟩ := accept_append (s := { s with time := { s.time with lost := true } })
    (code := 0x7050) (sev := 2) (by exact ring) safe idle (by show ∀ e ∈ s.err.q3, _; simp [p3]) (by show s.err.q3.length < 64; simp [p3])
    7 0xFFFF 0xFFFF 0xFFFF pl
  rw [← rec] at only ring1 idle1 safe1 ents
  have run : execTbRefLost s = .next (settleTime (timeRec { s with time := { s.time with lost := true } } 0x7050 2 7 0)) := by
    simp [execTbRefLost, ph, lost]
  generalize timeRec { s with time := { s.time with lost := true } } 0x7050 2 7 0 = y at *
  have tm : y.time = { s.time with lost := true } := recordsOnly_keeps only State.time fun _ _ _ => rfl
  have gtc : y.gtc = s.gtc := recordsOnly_keeps only State.gtc fun _ _ _ => rfl
  have mem : y.mem = s.mem := recordsOnly_keeps only State.mem fun _ _ _ => rfl
  have ctxs : y.ctxs = s.ctxs := recordsOnly_keeps only State.ctxs fun _ _ _ => rfl
  have q : entriesOf y.err 3 = [e] := ents.trans (congrArg (· ++ [e]) p3)
  have unsync : timOn y = false ∨ y.time.lost = true := .inr (by rw [tm])
  refine ⟨_, run, ?_⟩
  by_cases st : y.time.state = 0
  · rw [settleTime_stillUnsynced unsync st]
    exact ⟨⟨e, q ▸ List.mem_singleton.2 rfl, ecode, esev⟩, fun h => absurd (by rw [tm] at st; exact st) h,
      by rw [tm], st, rfl, gtc, mem, ctxs⟩
  · let u : State := { y with time := { y.time with state := 0, parent := 7, hops := 255, conflict := false } }
    obtain ⟨pl', rec'⟩ := timeRec_entry u 0x7053
    obtain ⟨only', -, -, -, e', code', sev', ents'⟩ := accept_append (s := u) (code := 0x7053) (sev := 2) (by exact ring1) safe1 idle1
      (by show ∀ e ∈ entriesOf y.err 3, _; simp [q, ecode]) (by show (entriesOf y.err 3).length < 64; simp [q])
      7 0xFFFF 0xFFFF 0xFFFF pl'
    rw [settleTime_nowUnsynced unsync st, show _ = _ from rec']
    generalize accept u 0x7053 2 7 0xFFFF 0xFFFF 0xFFFF pl' = t at *
    have q' : entriesOf t.err 3 = [e, e'] := ents'.trans (congrArg (· ++ [e']) q)
    have tm' : t.time = u.time := recordsOnly_keeps only' State.time fun _ _ _ => rfl
    refine ⟨⟨e, by show e ∈ entriesOf t.err 3; simp [q'], ecode, esev⟩, fun _ => ⟨e', by show e' ∈ entriesOf t.err 3; simp [q'], code', sev'⟩,
      by rw [tm']; show y.time.lost = true; rw [tm], by rw [tm'], by rw [tm'],
      (recordsOnly_keeps only' State.gtc fun _ _ _ => rfl).trans gtc, (recordsOnly_keeps only' State.mem fun _ _ _ => rfl).trans mem,
      (recordsOnly_keeps only' State.ctxs fun _ _ _ => rfl).trans ctxs⟩

/-- Settles O51: the exchange through followParent and settleTime, the loss through the two entries of the pipeline. -/
theorem timeFollowsItsParent : Obligations.TimeFollowsItsParent := by
  unfold Obligations.TimeFollowsItsParent
  refine ⟨fun s port x => ⟨fun h => ?_, fun lt up => ⟨fun on st => ?_, fun on root lost st par hops ring others => ⟨fun free far => ?_,
    fun near lo hi => ?_⟩⟩⟩, fun s => ⟨fun on root lost par hops conf => ⟨fun far st c => ?_, fun near st => ?_⟩, fun h => ?_,
    fun ph lost c => ?_⟩⟩
  · have : ¬ (port.toNat < 6 ∧ (getL s port.toNat).up = true) := by
      rintro ⟨lt, up⟩
      obtain h | h := h
      · omega
      · simp [h] at up
    simp only [exec_timeFlitReceive, execTimeFlitReceive, this, if_false]
  · exact ⟨_, timeFlitReceive_off lt up on st, heardTime_ports rfl, rfl, rfl, rfl⟩
  · obtain ⟨t, run, links, gtc, rate, synced⟩ := timeFlitReceive_far lt up on root lost st par hops ring others free far
    exact ⟨t, run, heardTime_ports links, synced, gtc, rate⟩
  · obtain ⟨t, run, links, gtc, synced, bounds⟩ := timeFlitReceive_near lt up on root lost st hops ring others near lo hi
    exact ⟨t, run, heardTime_ports links, synced, gtc, bounds⟩
  · exact ⟨_, rfl, settleTime_expired root on lost par hops conf far st c⟩
  · exact congrArg Host.Outcome.next (settleTime_holdover root on lost par hops conf near st)
  · have : ¬ ((s.phase = .run ∨ s.phase = .reset) ∧ (!s.time.lost) = true) := by
      rintro ⟨ph, l⟩
      obtain ⟨a, b⟩ | h := h
      · exact ph.elim a b
      · simp [h] at l
    simp only [exec_tbRefLost, execTbRefLost, this, if_false]
  · obtain ⟨t, run, ref, unsync, l, st, par, rest⟩ := tbRefLost_unsync ph lost c
    exact ⟨t, run, ref, l, st, par, unsync, rest⟩

end Sys2Proof.Machine
end

section
/-! ### Further laws of tables and of memory: filters, maps, runs of writes, wiping -/

namespace Sys2Proof

variable {α β : Type}

/-- Taking entries out by their numbers: a number that stays reads as before. -/
theorem Tbl.get_filter_key (d : α) (t : Tbl α) (p : Nat → Bool) (k : Nat) :
    Tbl.get d (t.filter (fun e => p e.1)) k = if p k then Tbl.get d t k else d := by
  induction t with
  | nil => simp [Tbl.get]
  | cons e t ih =>
    obtain ⟨j, v⟩ := e
    by_cases hk : k = j
    · subst hk
      by_cases hp : p k <;> simp [hp, Tbl.get, ih]
    · by_cases hp : p j <;> simp [hp, Tbl.get, ih, hk]

/-- A number that is not listed reads as the default. -/
theorem Tbl.get_unlisted (d : α) (t : Tbl α) {k : Nat} (h : k ∉ t.map (·.1)) : Tbl.get d t k = d := by
  induction t with
  | nil => rfl
  | cons e t ih =>
    obtain ⟨j, v⟩ := e
    simp only [List.map_cons, List.mem_cons, not_or] at h
    simp [Tbl.get, h.1, ih h.2]

/-- Taking entries out of a rising table: an entry that stays reads as before. -/
theorem Tbl.get_filter (d : α) (t : Tbl α) (h : Tbl.rising t = true) (q : Nat × α → Bool) (k : Nat) :
    Tbl.get d (t.filter q) k = if q (k, Tbl.get d t k) then Tbl.get d t k else d := by
  rw [Tbl.rising_iff] at h
  induction t with
  | nil => exact (ite_self d).symm
  | cons e t ih =>
    obtain ⟨j, v⟩ := e
    simp only [List.map_cons, List.pairwise_cons] at h
    by_cases hk : k = j
    · subst hk
      by_cases hq : q (k, v)
      · simp [hq, Tbl.get]
      · have gone : k ∉ (t.filter q).map (·.1) := fun hm => by
          obtain ⟨e, he, rfl⟩ := List.mem_map.1 hm
          exact Nat.lt_irrefl _ (h.1 _ (List.mem_map_of_mem (List.mem_of_mem_filter he)))
        simp [hq, Tbl.get, Tbl.get_unlisted d _ gone]
    · have step : Tbl.get d ((j, v) :: t) k = Tbl.get d t k := by simp [Tbl.get, hk]
      rw [step, ← ih h.2]
      by_cases hq : q (j, v) <;> simp [hq, Tbl.get, hk]

/-- Changing every entry by a function changes what every number reads by it. -/
theorem Tbl.get_map (d : α) (t : Tbl α) (f : α → β) (k : Nat) :
    Tbl.get (f d) (t.map (fun e => (e.1, f e.2))) k = f (Tbl.get d t k) := by
  induction t with
  | nil => rfl
  | cons e t ih =>
    obtain ⟨j, v⟩ := e
    by_cases hk : k = j <;> simp [Tbl.get, hk, ih]

/-- A table of a function's values reads as the function. -/
theorem Tbl.get_tabulate (d : α) (l : List Nat) (f : Nat → α) {k : Nat} (h : k ∈ l) :
    Tbl.get d (l.map (fun i => (i, f i))) k = f k := by
  induction l with
  | nil => simp at h
  | cons j l ih =>
    by_cases hk : k = j
    · simp [Tbl.get, hk]
    · simpa [Tbl.get, hk] using ih (by simpa [hk] using h)

/-- A run of writes of one value. -/
theorem Tbl.get_puts (d : α) (l : List Nat) (v : α) (t : Tbl α) (k : Nat) :
    Tbl.get d (l.foldl (fun t j => Tbl.put t j v) t) k = if k ∈ l then v else Tbl.get d t k := by
  induction l generalizing t with
  | nil => simp
  | cons j l ih =>
    rw [List.foldl_cons, ih]
    by_cases hk : k = j
    · simp [hk]
    · simp [hk, Tbl.get_put_ne d t hk]

namespace Machine

/-- Wiping a range: its bytes read zero, the others as before. -/
theorem memGet_memWipe (s : State) (lo hi a : Nat) : memGet (memWipe s lo hi) a = if lo ≤ a ∧ a < hi then 0 else memGet s a := by
  have := Tbl.get_filter_key Mem.empty s.mem.cells (fun k => !(decide (lo ≤ k) && decide (k < hi))) a
  unfold memGet cellGet memWipe
  rw [this]
  by_cases h : lo ≤ a ∧ a < hi
  · simp [h, Mem.empty]
  · rw [if_neg h, if_pos (by simp; omega)]

/-- Wiping a range clears the poison of the granules that begin in it, and no other. -/
theorem isPoison_memWipe (s : State) (lo hi a : Nat) :
    isPoison (memWipe s lo hi) a = (isPoison s a && !(decide (lo ≤ a / 32 * 32) && decide (a / 32 * 32 < hi))) := by
  unfold isPoison memWipe
  rw [Bool.eq_iff_iff]
  simp only [List.contains_iff_mem, List.mem_filter, Bool.and_eq_true]

end Machine
end Sys2Proof
end

section
/-! ### Power domains -/
namespace Sys2Proof.Machine

/-- The state once a commanded domain has reached a state (03 R93). -/
def domainReached (s : State) (d v : Nat) : State :=
  { putDom s d v with pwr := { (putDom s d v).pwr with domTarget := Tbl.del s.pwr.domTarget d } }

/-- The scratchpad of a slot loses its contents where cluster `n` hosts the slot. -/
def wipePad (n : Nat) (t : State) (e : Nat × Slot) : State :=
  if e.2.host = n then memWipe t (padBase 0 e.1) (padBase 0 e.1 + 0x100000) else t

/-- The scratchpads of the slots hosted on a cluster lose their contents. -/
def wipePads (s : State) (n : Nat) : State := s.slots.foldl (wipePad n) s

/-- A program that waits for a domain goes on with the result. -/
def wakeDomain (d : Nat) (result : Word64) (s : State) (e : Nat × Prog) : State :=
  match e.2.wait with
  | .domain d' _ rd => if d' = d then wakeRd s e.1 e.2 rd result else s
  | _ => s

/-- A domain other than Espalier's reaches its state in three parts: the state, the contents of an array that goes OFF, the programs
that wait. -/
theorem domainDone_eq (s : State) {d : Nat} (v r : Nat) (esp : d ≠ 1102) :
    domainDone s d v r =
      (let x := if 512 ≤ d ∧ d < 1024 ∧ v = 0 then wipePads (domainReached s d v) (d - 512) else domainReached s d v
       x.progs.foldl (wakeDomain d (w64 r)) x) := by
  unfold domainDone
  simp only [if_neg esp]
  rfl

/-- Wiping scratchpads changes memory alone. -/
theorem wipePads_frame (s : State) (n : Nat) : wipePads s n = { s with mem := (wipePads s n).mem } := by
  unfold wipePads
  refine List.foldlRecOn (motive := fun t : State => t = { s with mem := t.mem }) _ _ rfl fun t h e _ => ?_
  unfold wipePad
  split
  · unfold memWipe; rw [h]
  · exact h

/-- A domain that keeps its contents, while no program waits. -/
theorem domainDone_idle {s : State} {d v : Nat} (r : Nat) (esp : d ≠ 1102) (plain : ¬ (512 ≤ d ∧ d < 1024 ∧ v = 0)) (idle : s.progs = []) :
    domainDone s d v r = domainReached s d v := by
  rw [domainDone_eq s v r esp, if_neg plain]
  show s.progs.foldl _ _ = _
  rw [idle, List.foldl_nil]

/-- A domain that keeps its contents and that a program waits for: the program goes on. -/
theorem domainDone_wakes {s : State} {d v r k w rd : Nat} {p : Prog} (esp : d ≠ 1102) (plain : ¬ (512 ≤ d ∧ d < 1024 ∧ v = 0))
    (one : s.progs = [(k, p)]) (wait : p.wait = .domain d w rd) :
    domainDone s d v r = wakeRd (domainReached s d v) k p rd (w64 r) := by
  rw [domainDone_eq s v r esp, if_neg plain]
  show s.progs.foldl _ _ = _
  rw [one, List.foldl_cons, List.foldl_nil]
  simp [wakeDomain, wait]

/-- An array that goes OFF while no program waits. -/
theorem domainDone_array {s : State} {d : Nat} (r : Nat) (lo : 512 ≤ d) (hi : d < 1024) (idle : s.progs = []) :
    domainDone s d 0 r = wipePads (domainReached s d 0) (d - 512) := by
  rw [domainDone_eq s 0 r (by omega), if_pos ⟨lo, hi, rfl⟩]
  have : (wipePads (domainReached s d 0) (d - 512)).progs = [] := by rw [wipePads_frame]; exact idle
  simp [this]

/-- A byte and its poison in the scratchpad of a slot hosted on the cluster are gone. -/
theorem wipePads_inside (s : State) {n : Nat} {e : Nat × Slot} (he : e ∈ s.slots) (host : e.2.host = n) {a : Nat} (lo : padBase 0 e.1 ≤ a)
    (hi : a < padBase 0 e.1 + 0x100000) : memGet (wipePads s n) a = 0 ∧ isPoison (wipePads s n) a = false := by
  have key : ∀ (l : List (Nat × Slot)) (t : State), (e ∈ l ∨ memGet t a = 0 ∧ isPoison t a = false) →
      memGet (l.foldl (wipePad n) t) a = 0 ∧ isPoison (l.foldl (wipePad n) t) a = false := by
    intro l
    induction l with
    | nil => intro t h; exact h.resolve_left (by simp)
    | cons f l ih =>
      intro t h
      refine ih _ ?_
      by_cases mem : e ∈ l
      · exact .inl mem
      · refine .inr ?_
        unfold wipePad
        obtain h | ⟨h0, hp⟩ := h
        · obtain rfl : e = f := (List.mem_cons.1 h).resolve_right mem
          have granule : padBase 0 e.1 ≤ a / 32 * 32 ∧ a / 32 * 32 < padBase 0 e.1 + 0x100000 := by
            unfold padBase at *; omega
          rw [if_pos host, memGet_memWipe, isPoison_memWipe, if_pos ⟨lo, hi⟩]
          simp [granule]
        · split
          · rw [memGet_memWipe, isPoison_memWipe, h0, hp]
            simp
          · exact ⟨h0, hp⟩
  exact key s.slots s (.inl he)

/-- Scratchpads lie above the HBM, which wiping them leaves as it is. -/
theorem wipePads_hbm (s : State) (n : Nat) {a : Nat} (h : a < hbmSize) : memGet (wipePads s n) a = memGet s a := by
  unfold wipePads
  refine List.foldlRecOn (motive := fun t => memGet t a = memGet s a) _ _ rfl fun t ht e _ => ?_
  have below : ¬ (padBase 0 e.1 ≤ a ∧ a < padBase 0 e.1 + 0x100000) := by unfold padBase; unfold hbmSize at h; omega
  unfold wipePad
  split
  · rw [memGet_memWipe, if_neg below, ht]
  · exact ht

end Sys2Proof.Machine
end

section
namespace Sys2Proof.Machine

/-- The times at which cluster domains came ON within the last 50 µs. -/
def recentOn (s : State) : List Nat := s.pwr.onTimes.filter (fun x => decide (s.aon < x + 50000))

/-- A cluster domain has come ON now. -/
def cameOn (s : State) : State := { s with pwr := { s.pwr with onTimes := s.aon :: recentOn s } }

/-- A cluster is boot-coppiced (05 Table 5.5). -/
def bootCoppiced (s : State) (d : Nat) : State :=
  { s with bist := { s.bist with bootCop := insertNat s.bist.bootCop d, excluded := insertNat s.bist.excluded d } }

/-- DOMAIN_SWITCH_COMPLETE of a commanded domain. -/
theorem execDomainSwitchComplete_commanded {s : State} {d v : Nat} (h : s.pwr.domTarget.find? (fun e => e.1 == d) = some (d, v)) (ok : Bool) :
    execDomainSwitchComplete d ok s = .next (
      if d < 512 ∧ v = 1 then
        if (recentOn s).length ≥ 8 then s
        else if ok then domainDone (cameOn s) d 1 0
        else domainDone (record (bootCoppiced (cameOn s) d) 0xE002 4 0x0F d (bistPay (cameOn s) d 2 0 d 0 0)) d 3 1
      else domainDone s d v 0) := by
  unfold execDomainSwitchComplete
  rw [h]
  rfl

/-- The row of the settings index of a cluster's state. -/
theorem setRow_clState {n : Nat} (h : n < 512) : setRow 7 (0x400 + n) = some ⟨7, 0x400, 0x5FF, .hd, 4, false, 0xFFFFFFFFFFFFFFFF, 0x0⟩ := by
  have lo : ∀ k, k < 0x400 → ¬ 0x400 + n ≤ k := by omega
  have hi : 0x400 + n ≤ 0x5FF := by omega
  simp [setRow, setRows, setRows0, setRows1, setRows2, lo, hi]

/-- A cluster's state just written is what it reads. -/
theorem liveVal_putLive_clState (s : State) {n : Nat} (h : n < 512) (v : Word64) (g : Nat) :
    liveVal (putLive s 7 (0x400 + n) 0 v g) 7 (0x400 + n) 0 = v := by
  have hd : isHd 7 (0x400 + n) = true := by simp [isHd, setRow_clState h]
  have m : v &&& w64 0xFFFFFFFFFFFFFFFF = v := BitVec.and_allOnes
  unfold liveVal putLive hdCell
  simp [hd, setRow_clState h, m, hdVote]

/-- A write of a hardened setting changes the hardened settings alone. -/
theorem putLive_hd (s : State) {blk idx : Nat} (h : isHd blk idx = true) (ctx : Nat) (v : Word64) (g : Nat) :
    ∃ hard, putLive s blk idx ctx v g = { s with sets := { s.sets with hard := hard } } := by
  unfold putLive
  simp only [h, if_true]
  exact ⟨_, rfl⟩

/-- A cluster out of service behind a failed domain, in a state with the given error pipeline. -/
def standsFailed (n : Nat) (p : Pipeline) (s : State) : Prop :=
  ringOff s ∧ domState s n = 3 ∧ 2 ≤ clState s n ∧ ∀ q, entriesOf s.err q = entriesOf p q

/-- A direct record leaves clusters, domains and errors as they are. -/
theorem standsFailed_recordRaw {n : Nat} {p : Pipeline} {s : State} (h : standsFailed n p s) (code sev cls idx : Nat) (pl : List Byte) :
    standsFailed n p (recordRaw s code sev cls idx pl) := by
  obtain ⟨ring, dom, cl, ents⟩ := h
  have ring' := record_ringOff ring code sev cls idx pl
  rw [record_off ring] at ring'
  have f := recordRaw_frame ring code sev cls idx pl
  refine ⟨ring', by rw [f]; exact dom, by rw [f]; exact cl, fun q => ?_⟩
  rw [f, ← ents q]
  rcases q with _ | _ | _ | q <;> rfl

theorem standsFailed_record {n : Nat} {p : Pipeline} {s : State} (h : standsFailed n p s) (code sev cls idx : Nat) (pl : List Byte) :
    standsFailed n p (record s code sev cls idx pl) := by
  rw [record_off h.1]
  exact standsFailed_recordRaw h code sev cls idx pl

/-- What start-up test and the queue of deep runs say of clusters does not matter to it. -/
theorem standsFailed_bist {n : Nat} {p : Pipeline} {s : State} (h : standsFailed n p s) (b : Bist) (q : List Nat) :
    standsFailed n p { s with bist := b, deepQ := q } := h

/-- Switching a cluster and its array OFF leaves a FAILED domain FAILED. -/
theorem standsFailed_clusterOff {n : Nat} {p : Pipeline} {s : State} (h : standsFailed n p s) : standsFailed n p (clusterOff s n) := by
  obtain ⟨ring, dom, cl, ents⟩ := h
  unfold clusterOff
  simp only [dom, if_true]
  split
  · exact ⟨ring, dom, cl, ents⟩
  · refine ⟨ring, ?_, cl, ents⟩
    rw [domState_putDom_ne s (by omega), dom]

/-- Moving the slots of a cluster leaves clusters, domains and errors as they are. -/
theorem standsFailed_remapFrom {n m : Nat} {p : Pipeline} {s : State} (h : standsFailed n p s) : standsFailed n p (remapFrom s m) := by
  unfold remapFrom
  refine List.foldlRecOn (motive := fun t : State => standsFailed n p t) _ _ h fun t ht e _ => ?_
  dsimp only
  split
  · split
    · exact ht
    · exact ht
  · exact ht

/-- Writing a cluster's state out of service establishes it. -/
theorem standsFailed_writeClState {n : Nat} (lt : n < 512) {s : State} (ring : ringOff s) (dom : domState s n = 3) {v : Word64}
    (out : 2 ≤ v.toNat % 4) : standsFailed n s.err (writeClState s n v) := by
  have hd : isHd 7 (0x400 + n) = true := by simp [isHd, setRow_clState lt]
  obtain ⟨hard, put⟩ := putLive_hd (settleDebt s n) hd 0 v (setGen (settleDebt s n) 7 (0x400 + n) 0)
  have live := liveVal_putLive_clState (settleDebt s n) lt v (setGen (settleDebt s n) 7 (0x400 + n) 0)
  have eq : writeClState s n v = jot (putLive (settleDebt s n) 7 (0x400 + n) 0 v (setGen (settleDebt s n) 7 (0x400 + n) 0)) := rfl
  rw [eq, jot_frame, put] at *
  refine ⟨⟨?_, ring.2⟩, dom, ?_, fun q => rfl⟩
  · have r := ring.1
    rw [liveVal_ring] at r ⊢
    exact r
  · show 2 ≤ (liveVal _ _ _ _).toNat % 4
    rw [← live] at out
    exact out

/-- A cluster is written COPPICED, switched OFF and excluded (14 R500). -/
def coppiced (s : State) (n cause : Nat) : State :=
  let x := clusterOff (writeClState s n (w64 (cause * 0x1000000 + bitsOf (liveVal s 7 (0x400 + n) 0).toNat 23 16 * 0x10000 + 3))) n
  { x with bist := (bootCoppiced x n).bist, deepQ := dropNat x.deepQ n }

/-- Coppicing a cluster: the cluster, its slots, and the records. -/
theorem coppice_eq (s : State) (n cause : Nat) :
    coppice s n cause =
      (let x := record (remapFrom (coppiced s n cause) n) 0x5030 0 0x02 n (brlPay (coppiced s n cause) n 0xFFFF 0 0 0 0 0)
       if x.bist.excluded.length = 16 then recordRaw x 0x5034 2 0x02 n (brlPay x n 0xFFFF 0 0 0 0 0) else x) := by
  unfold coppice coppiced bootCoppiced
  with_reducible rfl

/-- Coppicing takes a cluster out of service. -/
theorem standsFailed_coppice {n : Nat} (lt : n < 512) {s : State} (ring : ringOff s) (dom : domState s n = 3) (cause : Nat) :
    standsFailed n s.err (coppice s n cause) := by
  have out : 2 ≤ (w64 (cause * 0x1000000 + bitsOf (liveVal s 7 (0x400 + n) 0).toNat 23 16 * 0x10000 + 3)).toNat % 4 := by
    simp only [w64, BitVec.toNat_ofNat]; omega
  have cop : standsFailed n s.err (coppiced s n cause) :=
    standsFailed_bist (standsFailed_clusterOff (standsFailed_writeClState lt ring dom out)) _ _
  have noted := standsFailed_record (standsFailed_remapFrom (m := n) cop) 0x5030 0 0x02 n (brlPay (coppiced s n cause) n 0xFFFF 0 0 0 0 0)
  rw [coppice_eq]
  dsimp only
  split
  · exact standsFailed_recordRaw noted _ _ _ _ _
  · exact noted

/-- A rail or domain fault quarantines a cluster in service that has not come back within a day, and switches it OFF (14 R499). -/
theorem quarantine_fault {s : State} {n : Nat} (cl : ¬ 2 ≤ clState s n)
    (fresh : ¬ (getHist s n).returns.any (fun t => decide (s.aon < t + dayNs)) = true) :
    quarantine s n 7 =
      (let y := writeClState s n (w64 (7 * 0x1000000 + bitsOf (liveVal s 7 (0x400 + n) 0).toNat 23 16 * 0x10000 + 8 + 2))
       let x := record (remapFrom y n) 0x5030 0 0x02 n (brlPay y n 0xFFFF 0 0 0 0 0)
       record (clusterOff x n) 0x5033 2 0x02 n (brlPay x n 0xFFFF 0 0 0 0 0)) := by
  unfold quarantine
  rw [if_neg cl, if_neg fresh]
  simp -zeta only [if_true]
  with_reducible rfl

/-- A fault of its rail or domain takes a cluster out of service. -/
theorem standsFailed_quarantine {n : Nat} (lt : n < 512) {s : State} (ring : ringOff s) (dom : domState s n = 3) :
    standsFailed n s.err (quarantine s n 7) := by
  by_cases cl : 2 ≤ clState s n
  · rw [quarantine, if_pos cl]
    exact ⟨ring, dom, cl, fun _ => rfl⟩
  · by_cases back : (getHist s n).returns.any (fun t => decide (s.aon < t + dayNs)) = true
    · rw [quarantine, if_neg cl, if_pos back]
      exact standsFailed_coppice lt ring dom 7
    · have out : 2 ≤ (w64 (7 * 0x1000000 + bitsOf (liveVal s 7 (0x400 + n) 0).toNat 23 16 * 0x10000 + 8 + 2)).toNat % 4 := by
        simp only [w64, BitVec.toNat_ofNat]; omega
      rw [quarantine_fault cl back]
      exact standsFailed_record (standsFailed_clusterOff (standsFailed_record (standsFailed_remapFrom
        (standsFailed_writeClState lt ring dom out)) _ _ _ _ _)) _ _ _ _ _

/-- A program that goes on writes its register and retires into the next word. -/
theorem wakeRd_onward (s : State) {k : Nat} {p : Prog} (lt : k < 64) (next : hasNext p) (rd : BitVec 5) (v : Word64) :
    wakeRd s k p rd.toNat v = putP s k (onward (wrote { p with wait := .none } rd v)) := by
  have next' : hasNext { p with wait := .none } := next
  unfold wakeRd
  rw [retireRd_next s _ next', BitVec.ofNat_toNat, BitVec.setWidth_eq, BitVec.toNat_ofNat, Nat.mod_eq_of_lt lt]

/-- DOMAIN_SWITCH_FAIL of a commanded domain. -/
theorem execDomainSwitchFail_commanded {s : State} {d v : Nat} (h : s.pwr.domTarget.find? (fun e => e.1 == d) = some (d, v)) :
    execDomainSwitchFail d s = .next (domainFailed s d) := by
  unfold execDomainSwitchFail
  rw [h]

/-- A domain fails while no program waits: the error is accepted, and a cluster is taken out of service. -/
theorem domainFailed_idle {s : State} {d : Nat} (esp : d ≠ 1102) (idle : s.progs = []) :
    ∃ pl, domainFailed s d =
      (let t := accept (domainReached s d 3) 0x1050 (if essentialDom d then 5 else 4) 0x00 d 0xFFFF d pl
       if d < 1024 then quarantine t (d % 512) 7 else t) := by
  unfold domainFailed
  rw [domainDone_idle 1 esp (by omega) idle]
  exact ⟨_, rfl⟩

theorem domState_domainReached (s : State) (d v : Nat) : domState (domainReached s d v) d = v := domState_putDom_same s d v

/-- The essential blocks (01 R43). -/
theorem essentialDom_iff (d : Nat) : essentialDom d = true ↔ d = 1100 ∨ d = 1101 ∨ (1116 ≤ d ∧ d ≤ 1120) := by
  simp [essentialDom, or_assoc]

/-- A cluster domain that fails takes its cluster out of service. -/
theorem domainFailed_cluster {s : State} {d : Nat} (lt : d < 512) (idle : s.progs = []) (c : calm s) :
    inPipeline (domainFailed s d) 0x1050 4 ∧ domState (domainFailed s d) d = 3 ∧ 2 ≤ clState (domainFailed s d) d := by
  obtain ⟨pl, eq⟩ := domainFailed_idle (by omega : d ≠ 1102) idle
  have sev : essentialDom d = false := by rw [Bool.eq_false_iff, Ne, essentialDom_iff]; omega
  obtain ⟨frame, ring, -, e, he, code, sv⟩ := accept_calm (s := domainReached s d 3) (by exact c) 0x1050 4 0x00 d 0xFFFF d pl
  simp only [sev, Bool.false_eq_true, if_false, show d < 1024 by omega, if_true, Nat.mod_eq_of_lt lt] at eq
  obtain ⟨-, dom, cl, ents⟩ := standsFailed_quarantine lt ring (by rw [frame]; exact domState_domainReached s d 3)
  rw [eq]
  exact ⟨⟨e, (ents _).symm ▸ he, code, sv⟩, dom, cl⟩

/-- The record of a cluster's failed test, with the cluster boot-coppiced. -/
theorem domainDone_testFailed {s : State} {d : Nat} (lt : d < 512) (idle : s.progs = []) (ring : ringOff s) (o : ringOpen s) (pl : List Byte) :
    let t := domainDone (record (bootCoppiced (cameOn s) d) 0xE002 4 0x0F d pl) d 3 1
    domState t d = 3 ∧ d ∈ t.bist.bootCop ∧ d ∈ t.bist.excluded ∧ lastRecord t 0xE002 4 0x0F d := by
  have only : recordsOnly (bootCoppiced (cameOn s) d) _ := record_recordsOnly (by exact ring) 0xE002 4 0x0F d pl
  have last : lastRecord (record (bootCoppiced (cameOn s) d) 0xE002 4 0x0F d pl) 0xE002 4 0x0F d :=
    record_last (by exact ring) (by exact o) _ _ _ _ _
  generalize record (bootCoppiced (cameOn s) d) 0xE002 4 0x0F d pl = t at *
  have bist : t.bist = (bootCoppiced (cameOn s) d).bist := recordsOnly_keeps only State.bist fun _ _ _ => rfl
  have progs : t.progs = [] := (recordsOnly_keeps only State.progs fun _ _ _ => rfl).trans idle
  rw [domainDone_idle 1 (by omega) (by omega) progs]
  refine ⟨domState_domainReached t d 3, ?_, ?_, last⟩
  · show d ∈ t.bist.bootCop
    rw [bist]
    exact (mem_insertNat _ d d).2 (.inl rfl)
  · show d ∈ t.bist.excluded
    rw [bist]
    exact (mem_insertNat _ d d).2 (.inl rfl)

end Sys2Proof.Machine
end

section
/-! ### Power states and bypass switches -/
namespace Sys2Proof.Machine

/-- State `t` differs from `x` in the axes and in what records change alone. -/
def axesAndRecords (x t : State) : Prop := recordsOnly { x with axes := t.axes } t

/-- The ring takes a given number of records and more. -/
def ringRoom (s : State) (n : Nat) : Prop := s.rcd.frozen = false ∧ s.rcd.ring.length + n < 16320

theorem ringOpen_of_room {s : State} {n : Nat} (h : ringRoom s n) : ringOpen s := ⟨h.1, Nat.lt_of_le_of_lt (Nat.le_add_right _ n) h.2⟩

/-- Opening an axis takes one record at most. -/
theorem openAxis_spec {s : State} {n : Nat} (ring : ringOff s) (room : ringRoom s (n + 1)) (a : Nat) :
    axesAndRecords s (openAxis s a) ∧ ringOff (openAxis s a) ∧ ringRoom (openAxis s a) n := by
  have stay : ∀ x : Tbl Axis, ringRoom { s with axes := x } n := fun _ => ⟨room.1, by have := room.2; simp only; omega⟩
  unfold openAxis
  dsimp only
  split
  · split
    · exact ⟨rfl, ring, stay s.axes⟩
    · have ring' : ringOff (updAxis s a fun x => { x with failed := true }) := ring
      have o : ringOpen (updAxis s a fun x => { x with failed := true }) := ringOpen_of_room room
      have only := record_recordsOnly ring' 0x7021 2 0x07 (2 * a) (portPay (updAxis s a fun x => { x with failed := true }) (2 * a))
      refine ⟨?_, record_ringOff ring' _ _ _ _ _, ?_⟩
      · unfold axesAndRecords
        rw [recordsOnly_keeps only State.axes fun _ _ _ => rfl]
        exact only
      · unfold ringRoom
        rw [record_rcd ring' o]
        refine ⟨room.1, ?_⟩
        have := room.2
        simp only [List.length_append, List.length_singleton, updAxis]
        omega
  · split
    · exact ⟨rfl, ring, stay s.axes⟩
    · exact ⟨rfl, ring, stay _⟩

theorem axesAndRecords_trans {x y z : State} (h : axesAndRecords x y) (k : axesAndRecords y z) : axesAndRecords x z := by
  unfold axesAndRecords recordsOnly at *
  rw [k, h]

/-- Opening all three axes. -/
theorem openAxes_spec {s : State} (ring : ringOff s) (room : ringRoom s 3) :
    let t := openAxis (openAxis (openAxis s 0) 1) 2
    axesAndRecords s t ∧ ringOff t ∧ ringOpen t := by
  obtain ⟨k0, r0, m0⟩ := openAxis_spec ring room 0
  obtain ⟨k1, r1, m1⟩ := openAxis_spec r0 m0 1
  obtain ⟨k2, r2, m2⟩ := openAxis_spec r1 m1 2
  exact ⟨axesAndRecords_trans (axesAndRecords_trans k0 k1) k2, r2, ringOpen_of_room m2⟩

/-- The clusters that the return to FULL leaves OFF (03 R92, 05 R176). -/
def leftOff (s : State) : List Nat :=
  (List.range 512).filter (fun n => s.fuses.coppice.contains n || s.bist.bootCop.contains n || domState s (1024 + n / 8) == 3)

/-- The domains on the return to FULL (03 R111).  Irreducible, so that no comparison of states evaluates it. -/
@[irreducible] def fullDomains (s : State) : Tbl Nat :=
  (((leftOff s).flatMap (fun n => [n, 512 + n])).filter (fun d => domState s d != 3)).foldl (fun t d => Tbl.put t d 0)
    (s.pwr.domains.filter (fun e => e.2 == 3 || e.1 == 1102))

theorem mem_leftOff_pair (s : State) (d : Nat) :
    d ∈ (leftOff s).flatMap (fun n => [n, 512 + n]) ↔
      d < 1024 ∧ (d % 512 ∈ s.fuses.coppice ∨ d % 512 ∈ s.bist.bootCop ∨ domState s (1024 + d % 512 / 8) = 3) := by
  simp only [leftOff, List.mem_flatMap, List.mem_filter, List.mem_range, Bool.or_eq_true, List.contains_iff_mem, beq_iff_eq, or_assoc,
    List.mem_cons, List.not_mem_nil, or_false]
  constructor
  · rintro ⟨n, ⟨lt, h⟩, rfl | rfl⟩
    · rw [Nat.mod_eq_of_lt lt]; exact ⟨by omega, h⟩
    · rw [show (512 + n) % 512 = n by omega]; exact ⟨by omega, h⟩
  · rintro ⟨lt, h⟩
    exact ⟨d % 512, ⟨Nat.mod_lt _ (by decide), h⟩, by omega⟩

/-- What a domain other than Espalier's is on the return to FULL: FAILED as before, OFF where it is coppiced or behind a failed router
tile, else ON. -/
theorem fullDomains_get {s : State} (rising : Tbl.rising s.pwr.domains = true) {d : Nat} (esp : d ≠ 1102) :
    Tbl.get 1 (fullDomains s) d =
      if domState s d = 3 then 3
      else if d < 1024 ∧ (d % 512 ∈ s.fuses.coppice ∨ d % 512 ∈ s.bist.bootCop ∨ domState s (1024 + d % 512 / 8) = 3) then 0 else 1 := by
  unfold fullDomains
  rw [Tbl.get_puts, Tbl.get_filter 1 _ rising, show Tbl.get 1 s.pwr.domains d = domState s d from rfl]
  by_cases h3 : domState s d = 3
  · simp [h3]
  · simp only [List.mem_filter, mem_leftOff_pair]
    simp [h3, esp]

/-- The state on the return to FULL, before the axes reopen. -/
def fullPower (s : State) : State :=
  { s with pwr := { s.pwr with changing := none, single := false, domains := fullDomains s, hbmKept := true } }

/-- The state in SINGLE-CLUSTER with a cluster and a Shuttle, HBM kept or not (03 R109, Table 3.9). -/
def singlePower (s : State) (cl sh keep : Nat) : State :=
  let t := closeAxes { s with pwr := { s.pwr with changing := none, single := true, domains := singleDomains s cl sh, hbmKept := keep == 1 } }
  if keep = 1 then t else memWipe t 0 hbmSize

/-- STATE_CHANGE into SINGLE-CLUSTER. -/
theorem execStateChange_single {s : State} {r : Nat} (h : s.pwr.changing = some r) (single : r % 4 = 3) :
    ∃ pl, execStateChange s = .next (record (singlePower s (bitsOf r 15 7) (bitsOf r 5 2) (bitsOf r 6 6)) 0x1060 0 0x00 0xFFFF pl) := by
  unfold execStateChange
  rw [h]
  dsimp only
  rw [if_pos single]
  exact ⟨_, rfl⟩

/-- STATE_CHANGE back to FULL. -/
theorem execStateChange_full {s : State} {r : Nat} (h : s.pwr.changing = some r) (full : r % 4 ≠ 3) :
    ∃ pl, execStateChange s = .next (record (openAxis (openAxis (openAxis (fullPower s) 0) 1) 2) 0x1060 0 0x00 0xFFFF pl) := by
  unfold execStateChange fullPower fullDomains leftOff
  rw [h]
  dsimp only
  rw [if_neg full]
  exact ⟨_, rfl⟩

/-- What the change to SINGLE-CLUSTER leaves: power, the axes, and memory alone are changed. -/
theorem singlePower_frame (s : State) (cl sh keep : Nat) :
    singlePower s cl sh keep =
      { s with pwr := { s.pwr with changing := none, single := true, domains := singleDomains s cl sh, hbmKept := keep == 1 },
               axes := (closeAxes s).axes, mem := (singlePower s cl sh keep).mem } := by
  unfold singlePower
  generalize singleDomains s cl sh = ds
  split <;> rfl

/-- HBM contents stay or read zero; what lies above the HBM stays. -/
theorem singlePower_mem (s : State) (cl sh keep : Nat) :
    (keep = 1 → (singlePower s cl sh keep).mem = s.mem) ∧
    (keep ≠ 1 → ∀ a, memGet (singlePower s cl sh keep) a = if a < hbmSize then 0 else memGet s a) := by
  refine ⟨fun h => ?_, fun h a => ?_⟩
  · unfold singlePower
    generalize singleDomains s cl sh = ds
    rw [if_pos h]
    rfl
  · unfold singlePower
    generalize singleDomains s cl sh = ds
    rw [if_neg h, memGet_memWipe]
    simp only [Nat.zero_le, true_and]
    rfl

/-- No axis is commanded open once every open command is withdrawn. -/
theorem closeAxes_cmd (s : State) (a : Nat) : (Tbl.get Axis.init (closeAxes s).axes a).cmd = false := by
  have := Tbl.get_map Axis.init s.axes (fun x => { x with cmd := false }) a
  exact congrArg Axis.cmd this

/-- The domains in SINGLE-CLUSTER (03 Table 3.9). -/
theorem singleDomains_get (s : State) (cl sh : Nat) {d : Nat} (le : d ≤ 1120) (ok : domState s d ≠ 3) :
    Tbl.get 1 (singleDomains s cl sh) d =
      if d = cl ∨ d = 512 + cl ∨ d = 1024 + cl / 8 ∨ d = 1100 ∨ d = 1103 + sh ∨ 1116 ≤ d then 1 else 0 := by
  unfold singleDomains
  rw [Tbl.get_tabulate 1 _ _ (List.mem_range.2 (by omega)), if_neg ok]

/-- The change to SINGLE-CLUSTER (03 R109, R111). -/
theorem stateChange_single {s : State} {r : Nat} (h : s.pwr.changing = some r) (single : r % 4 = 3) (ring : ringOff s) (o : ringOpen s) :
    ∃ t, execStateChange s = .next t ∧ lastRecord t 0x1060 0 0x00 0xFFFF ∧
      recordsOnly (singlePower s (r / 128 % 512) (r / 4 % 16) (r / 64 % 2)) t := by
  obtain ⟨pl, eq⟩ := execStateChange_single h single
  have b1 : bitsOf r 15 7 = r / 128 % 512 := by simp [bitsOf, Nat.shiftRight_eq_div_pow]
  have b2 : bitsOf r 5 2 = r / 4 % 16 := by simp [bitsOf, Nat.shiftRight_eq_div_pow]
  have b3 : bitsOf r 6 6 = r / 64 % 2 := by simp [bitsOf, Nat.shiftRight_eq_div_pow]
  rw [b1, b2, b3] at eq
  have frame := singlePower_frame s (r / 128 % 512) (r / 4 % 16) (r / 64 % 2)
  have ring' : ringOff (singlePower s (r / 128 % 512) (r / 4 % 16) (r / 64 % 2)) :=
    ringOff_of ring (by rw [frame]) (by rw [frame])
  have o' : ringOpen (singlePower s (r / 128 % 512) (r / 4 % 16) (r / 64 % 2)) := by
    rw [frame]; exact ⟨o.1, o.2⟩
  exact ⟨_, eq, record_last ring' o' _ _ _ _ _, record_recordsOnly ring' _ _ _ _ _⟩

/-- The return to FULL (03 R110, R111). -/
theorem stateChange_full {s : State} {r : Nat} (h : s.pwr.changing = some r) (full : r % 4 ≠ 3) (ring : ringOff s) (room : ringRoom s 3) :
    ∃ t, execStateChange s = .next t ∧ lastRecord t 0x1060 0 0x00 0xFFFF ∧ axesAndRecords (fullPower s) t := by
  obtain ⟨pl, eq⟩ := execStateChange_full h full
  obtain ⟨only, ring', o'⟩ := openAxes_spec (s := fullPower s)  (by exact ring) (by exact room)
  generalize openAxis (openAxis (openAxis (fullPower s) 0) 1) 2 = x at *
  refine ⟨_, eq, record_last ring' o' _ _ _ _ _, axesAndRecords_trans only ?_⟩
  have k := record_recordsOnly ring' 0x1060 0 0x00 0xFFFF pl
  unfold axesAndRecords
  rw [recordsOnly_keeps k State.axes fun _ _ _ => rfl]
  exact k

end Sys2Proof.Machine
end

section
/-! ### The estimator and the bypass -/
namespace Sys2Proof.Machine

/-- A group with a natural idle, or a forced one, is calibrated now. -/
def calibrated (s : State) (g : Nat) : State := { s with pwr := { s.pwr with calib := Tbl.put s.pwr.calib g s.aon } }

/-- The calibration of a group whose estimate is not stale. -/
theorem calibrate_fresh {s : State} {g : Nat} (h : g ∉ s.pwr.stale) : calibrate s g = calibrated s g := by
  unfold calibrate
  simp only [List.contains_iff_mem, h, if_false]
  rfl

/-- The calibration of a stale group clears the mark with ESTIMATE_FRESH. -/
theorem calibrate_stale {s : State} {g : Nat} (h : g ∈ s.pwr.stale) (ring : ringOff s) (o : ringOpen s) :
    recorded { calibrated s g with pwr := { (calibrated s g).pwr with stale := dropNat s.pwr.stale g } } (calibrate s g) 0x1041 0 0x00 (8 * g) := by
  unfold calibrate
  simp only [List.contains_iff_mem, h, if_true]
  exact record_recorded (by exact ring) (by exact o) _ _ _ _ _

/-- A group is due for a forced quiet window: no calibration and no window for 10 s (03 R115). -/
def quietReady (s : State) (k : Nat) : Prop :=
  Tbl.get 0 s.pwr.calib k + 10000000000 ≤ s.aon ∧
    (Tbl.has s.pwr.forcedAt k = false ∨ Tbl.get 0 s.pwr.forcedAt k + 10000000000 ≤ s.aon)

/-- The test of quietDue. -/
def quietTest (s : State) (k : Nat) : Bool :=
  decide (Tbl.get 0 s.pwr.calib k + 10000000000 ≤ s.aon) &&
    (!Tbl.has s.pwr.forcedAt k || decide (Tbl.get 0 s.pwr.forcedAt k + 10000000000 ≤ s.aon))

theorem quietTest_iff (s : State) (k : Nat) : quietTest s k = true ↔ quietReady s k := by
  simp [quietTest, quietReady]

/-- The groups in rotation that quietDue tests, one after the other. -/
theorem quietDue_eq (s : State) (r : Nat) :
    quietDue s r = ((List.range 64).find? (fun i => quietTest s ((r + i) % 64))).map (fun i => (r + i) % 64) :=
  List.find?_map

/-- No group is due. -/
theorem quietDue_none {s : State} (r : Nat) (h : ∀ k, k < 64 → ¬ quietReady s k) : quietDue s r = none := by
  rw [quietDue_eq, Option.map_eq_none_iff, List.find?_eq_none]
  intro i _
  rw [quietTest_iff]
  exact h _ (Nat.mod_lt (r + i) (by decide))

/-- The first group in rotation that is due. -/
theorem quietDue_first {s : State} {r j : Nat} (lt : j < 64) (before : ∀ i, i < j → ¬ quietReady s ((r + i) % 64))
    (due : quietReady s ((r + j) % 64)) : quietDue s r = some ((r + j) % 64) := by
  have first : (List.range 64).find? (fun i => quietTest s ((r + i) % 64)) = some j := by
    refine List.find?_range_eq_some.2 ⟨(quietTest_iff s _).2 due, List.mem_range.2 lt, fun i hi => ?_⟩
    rw [Bool.not_eq_true', Bool.eq_false_iff, Ne, quietTest_iff]
    exact before i hi
  rw [quietDue_eq, first]
  rfl

/-- The next group in rotation has been given its turn. -/
def turnGiven (s : State) (k : Nat) : State :=
  { s with pwr := { s.pwr with rotation := (k + 1) % 64, forcedAt := Tbl.put s.pwr.forcedAt k s.aon } }

/-- FORCED_QUIET_WINDOW while a window may be given. -/
theorem execForcedQuietWindow_run {s : State} (run : s.phase = .run) (quiet : s.pwr.quiet = none) (warn : s.pwr.warn = false)
    (own : s.trd.owner = true) :
    execForcedQuietWindow s = .next ((quietDue s s.pwr.rotation).elim s fun k =>
      if lockstepGroup s k then record (turnGiven s k) 0x1042 0 0x00 (8 * k) (powerPay (turnGiven s k) k 0 0xFF 0x8000 0 0)
      else { turnGiven s k with pwr := { (turnGiven s k).pwr with quiet := some (k, s.aon) } }) := by
  have go : ¬ (s.phase ≠ .run ∨ s.pwr.quiet.isSome = true ∨ s.pwr.warn = true ∨ (!s.trd.owner) = true) := by
    simp [run, quiet, warn, own]
  unfold execForcedQuietWindow
  rw [if_neg go]
  cases quietDue s s.pwr.rotation <;> rfl

/-- The end of a forced quiet window: its energy is device overhead (03 R114), and the group is calibrated. -/
theorem execQuietWindowEnd_some {s : State} {g t0 : Nat} (quiet : s.pwr.quiet = some (g, t0)) :
    ∃ e : Word64, execQuietWindowEnd s =
      .next (calibrate { s with freeCtr := s.freeCtr + 1, pwr := { s.pwr with quiet := none, overheadE := e } } g) := by
  unfold execQuietWindowEnd
  rw [quiet]
  exact ⟨_, rfl⟩

/-- The estimate of a group has become stale (03 R118). -/
def estimateStaled (s : State) (g : Nat) : State :=
  { s with pwr := { s.pwr with stale := insertNat s.pwr.stale g },
           ctxs := s.ctxs.map (fun e => (e.1, { e.2 with energy := { e.2.energy with stale := true } })) }

/-- ESTIMATE_STALE of a group without a calibration for 120 s. -/
theorem execEstimateStale_old {s : State} {g : BitVec 6} (old : Tbl.get 0 s.pwr.calib g.toNat + 120000000000 ≤ s.aon)
    (fresh : g.toNat ∉ s.pwr.stale) (ring : ringOff s) (o : ringOpen s) :
    ∃ t, execEstimateStale g s = .next t ∧ recordsOnly (estimateStaled s g.toNat) t ∧ lastRecord t 0x1040 0 0x00 (8 * g.toNat) := by
  have go : Tbl.get 0 s.pwr.calib g.toNat + 120000000000 ≤ s.aon ∧ (!s.pwr.stale.contains g.toNat) = true := by simp [old, fresh]
  unfold execEstimateStale
  rw [if_pos go]
  exact ⟨_, rfl, record_recordsOnly (s := estimateStaled s g.toNat) (by exact ring) _ _ _ _ _,
    record_last (s := estimateStaled s g.toNat) (by exact ring) (by exact o) _ _ _ _ _⟩

/-- ESTIMATE_STALE of a group that was calibrated within 120 s, or is stale already. -/
theorem execEstimateStale_other {s : State} {g : BitVec 6} (h : s.aon < Tbl.get 0 s.pwr.calib g.toNat + 120000000000 ∨ g.toNat ∈ s.pwr.stale) :
    execEstimateStale g s = .next s := by
  unfold execEstimateStale
  rw [if_neg]
  rintro ⟨old, fresh⟩
  obtain young | stale := h
  · omega
  · simp [stale] at fresh

/-- A switch that is in none of the states closed, failed, or stuck is open; one that is open is commanded so and nothing else. -/
theorem axisState_open_iff (s : State) (a : Nat) :
    axisState s a = 0 ↔ (let x := Tbl.get Axis.init s.axes a
      x.closeFail = false ∧ x.failed = false ∧ x.openFail = false ∧ x.cmd = true) := by
  unfold axisState
  dsimp only
  split
  · simp [*]
  · split
    · simp [*]
    · split
      · simp [*]
      · split <;> simp [*]

/-- The axis just changed. -/
theorem axis_updAxis (s : State) (a : Nat) (f : Axis → Axis) :
    Tbl.get Axis.init (updAxis s a f).axes a = f (Tbl.get Axis.init s.axes a) := Tbl.get_put_same _ _ _ _

/-- A switch that fails to open leaves its axis closed (02 R84). -/
def openFailed (s : State) (a : Nat) : State := updAxis s a (fun x => { x with cmd := false, openFail := true })

/-- A switch that fails to close (02 R85). -/
def closeFailed (s : State) (a : Nat) : State := updAxis s a (fun x => { x with closeFail := true })

theorem axisState_openFailed {s : State} {a : Nat} (op : axisState s a = 0) : axisState (openFailed s a) a = 3 := by
  obtain ⟨close, failed, -, -⟩ := (axisState_open_iff s a).1 op
  unfold axisState openFailed
  rw [axis_updAxis]
  simp [close, failed]

/-- A switch that fails to close holds FAULT_L low. -/
theorem faultLow_of_closeFail {s : State} {a : Nat} (lt : a < 3) (h : (Tbl.get Axis.init s.axes a).closeFail = true) : faultLow s = true := by
  have stuck : (List.range 3).any (fun a => (Tbl.get Axis.init s.axes a).closeFail) = true :=
    List.any_eq_true.2 ⟨a, List.mem_range.2 lt, h⟩
  unfold faultLow
  rw [stuck, Bool.or_true]

/-- BYPASS_OPEN_FAIL of an axis that is open. -/
theorem execBypassOpenFail_open {s : State} {axis : BitVec 2} (lt : axis.toNat < 3) (op : axisState s axis.toNat = 0) (c : calm s) :
    ∃ t, execBypassOpenFail axis s = .next t ∧ axisState t axis.toNat = 3 ∧ accepted (openFailed s axis.toNat) t 0x7041 4 := by
  have acc := accept_accepted (s := openFailed s axis.toNat) (by exact c) 0x7041 4 0x07 (2 * axis.toNat) 0xFFFF (1094 + 2 * axis.toNat)
    (portPay (openFailed s axis.toNat) (2 * axis.toNat))
  refine ⟨_, by unfold execBypassOpenFail; rw [if_pos ⟨lt, op⟩]; rfl, ?_, acc⟩
  exact (accepted_keeps acc (fun t => axisState t axis.toNat) fun _ _ => rfl).trans (axisState_openFailed op)

/-- BYPASS_CLOSE_FAIL of an axis that is not open. -/
theorem execBypassCloseFail_closed {s : State} {axis : BitVec 2} (lt : axis.toNat < 3) (op : axisState s axis.toNat ≠ 0)
    (new : (Tbl.get Axis.init s.axes axis.toNat).closeFail = false) (on : s.phase ≠ .off) (c : calm s) :
    ∃ t, execBypassCloseFail axis s = .next t ∧ faultLow t = true ∧ accepted (closeFailed s axis.toNat) t 0x7042 4 := by
  have acc := accept_accepted (s := closeFailed s axis.toNat) (by exact c) 0x7042 4 0x07 (2 * axis.toNat) 0xFFFF (1094 + 2 * axis.toNat)
    (portPay (closeFailed s axis.toNat) (2 * axis.toNat))
  refine ⟨_, by unfold execBypassCloseFail; rw [if_pos ⟨lt, op, by simp [new], on⟩]; rfl, faultLow_of_closeFail lt ?_, acc⟩
  rw [accepted_keeps acc State.axes fun _ _ => rfl, closeFailed, axis_updAxis]

end Sys2Proof.Machine
end

section
namespace Sys2Proof.Machine

/-- Settles O39: domains (`domainDone_idle`, `domainDone_testFailed`, `domainFailed_cluster`), power states (`stateChange_single`,
`stateChange_full`), the estimator's windows and the bypass axes, one lemma per command. -/
theorem domainsAndPowerStates : Obligations.DomainsAndPowerStates := by
  unfold Obligations.DomainsAndPowerStates
  refine ⟨fun s d v h esp => ?_, fun s r ring o => ?_, fun s g ring o => ?_, fun s axis => ?_⟩
  · have done := execDomainSwitchComplete_commanded h
    refine ⟨fun on plain idle => ?_, fun on plain k p rd lt one wait next => ?_, fun lo hi v0 idle => ?_, fun lt v1 full ok => ?_,
      fun lt v1 room idle => ⟨?_, fun ring o => ?_⟩, fun lo idle c => ?_, fun lt idle c => ?_⟩
    · rw [exec_domainSwitchComplete, done, if_neg on, domainDone_idle 0 esp plain idle]
      rfl
    · rw [exec_domainSwitchComplete, done, if_neg on, domainDone_wakes esp plain one wait, wakeRd_onward _ lt next]
      rfl
    · subst v0
      refine ⟨_, (done true).trans (by rw [if_neg (by omega), domainDone_array 0 lo hi idle]), ?_, fun e he host a la ha => ?_,
        fun a ha => ?_, ?_⟩
      · rw [wipePads_frame]; exact domState_domainReached s d 0
      · exact wipePads_inside (domainReached s d 0) he host la ha
      · exact wipePads_hbm (domainReached s d 0) _ ha
      · exact wipePads_frame (domainReached s d 0) _
    · rw [exec_domainSwitchComplete, done, if_pos ⟨lt, v1⟩, if_pos (by exact full)]
    · have room' : ¬ (recentOn s).length ≥ 8 := Nat.not_le.2 room
      rw [exec_domainSwitchComplete, done, if_pos ⟨lt, v1⟩, if_neg room', if_pos rfl,
        domainDone_idle (s := cameOn s) 0 esp (by omega) idle, v1]
      rfl
    · have room' : ¬ (recentOn s).length ≥ 8 := Nat.not_le.2 room
      exact ⟨_, (done false).trans (by rw [if_pos ⟨lt, v1⟩, if_neg room', if_neg (by decide)]),
        domainDone_testFailed lt idle ring o _⟩
    · obtain ⟨pl, eq⟩ := domainFailed_idle esp idle
      rw [if_neg (by omega)] at eq
      refine ⟨_, (execDomainSwitchFail_commanded h).trans (congrArg _ eq), ?_⟩
      have sev : (if essentialDom d then 5 else 4) = if d = 1100 ∨ d = 1101 ∨ (1116 ≤ d ∧ d ≤ 1120) then 5 else 4 := by
        simp only [essentialDom_iff]
      rw [sev]
      exact accept_accepted (by exact c) _ _ _ _ _ _ _
    · exact ⟨_, execDomainSwitchFail_commanded h, domainFailed_cluster lt idle c⟩
  · refine ⟨fun none => ?_, fun some single => ?_, fun some full room rising => ?_⟩
    · rw [exec_stateChange, execStateChange, none]
    · obtain ⟨t, run, last, only⟩ := stateChange_single some single ring o
      have frame := singlePower_frame s (r / 128 % 512) (r / 4 % 16) (r / 64 % 2)
      obtain ⟨kept, lost⟩ := singlePower_mem s (r / 128 % 512) (r / 4 % 16) (r / 64 % 2)
      generalize singlePower s (r / 128 % 512) (r / 4 % 16) (r / 64 % 2) = x at *
      have pwr : t.pwr = x.pwr := recordsOnly_keeps only State.pwr fun _ _ _ => rfl
      have mem : t.mem = x.mem := recordsOnly_keeps only State.mem fun _ _ _ => rfl
      have cells : ∀ a, memGet t a = memGet x a := fun a => congrArg (fun m : Mem => cellGet m.cells a) mem
      refine ⟨t, run, by rw [pwr, frame], by rw [pwr, frame], last, fun d le ok => ?_, fun a => ?_, fun k => mem.trans (kept k),
        fun k => ⟨fun a ha => ?_, fun a ha => ?_⟩, ?_⟩
      · have dom : t.pwr.domains = singleDomains s (r / 128 % 512) (r / 4 % 16) := by rw [pwr, frame]
        rw [domState, dom]
        exact singleDomains_get s _ _ le ok
      · rw [recordsOnly_keeps only State.axes fun _ _ _ => rfl, frame]
        exact closeAxes_cmd s a
      · rw [cells, lost (by omega), if_pos ha]
      · rw [cells, lost (by omega), if_neg (by omega)]
      · rw [recordsOnly_keeps only State.ctxs fun _ _ _ => rfl, frame]
    · obtain ⟨t, run, last, only⟩ := stateChange_full some full ring ⟨o.1, by omega⟩
      have pwr : t.pwr = (fullPower s).pwr := recordsOnly_keeps only State.pwr fun _ _ _ => rfl
      have dom : ∀ d, domState t d = Tbl.get 1 (fullDomains s) d := fun d => by rw [domState, pwr]; rfl
      refine ⟨t, run, by rw [pwr]; rfl, by rw [pwr]; rfl, last, fun d lt => ?_, fun d ge esp => ?_,
        recordsOnly_keeps only State.mem fun _ _ _ => rfl, recordsOnly_keeps only State.ctxs fun _ _ _ => rfl⟩
      · rw [dom, fullDomains_get rising (by omega)]
        simp only [lt, true_and]
      · rw [dom, fullDomains_get rising esp]
        simp only [Nat.not_lt.2 ge, false_and, if_false]
  · refine ⟨fun run => ⟨fun fresh => ?_, fun stale => ?_⟩, fun ph => ?_, fun quiet => ?_, fun t0 quiet => ?_, fun run quiet warn own =>
      ⟨fun never => ?_, fun j lt before due => ⟨fun lock => ?_, fun lock => ?_⟩⟩, fun idle => ?_, fun young => ?_, fun old fresh => ?_⟩
    · rw [exec_naturalIdleCalibration, execNaturalIdleCalibration, if_pos run, calibrate_fresh fresh]
      rfl
    · exact ⟨_, by rw [exec_naturalIdleCalibration, execNaturalIdleCalibration, if_pos run], calibrate_stale stale ring o⟩
    · rw [exec_naturalIdleCalibration, execNaturalIdleCalibration, if_neg ph]
    · rw [exec_quietWindowEnd, execQuietWindowEnd, quiet]
    · obtain ⟨e, run⟩ := execQuietWindowEnd_some quiet
      refine ⟨e, fun fresh => ?_, fun stale => ⟨_, run, calibrate_stale (by exact stale) (by exact ring) (by exact o)⟩⟩
      rw [exec_quietWindowEnd, run, calibrate_fresh (by exact fresh)]
      rfl
    · rw [exec_forcedQuietWindow, execForcedQuietWindow_run run quiet warn own, quietDue_none _ never]
      rfl
    · rw [exec_forcedQuietWindow, execForcedQuietWindow_run run quiet warn own, quietDue_first lt before due, Option.elim_some,
        if_neg (by rw [lock]; decide)]
      rfl
    · refine ⟨_, (execForcedQuietWindow_run run quiet warn own).trans (by rw [quietDue_first lt before due, Option.elim_some, if_pos lock]), ?_⟩
      exact record_recorded (by exact ring) (by exact o) _ _ _ _ _
    · have stop : s.phase ≠ .run ∨ s.pwr.quiet.isSome = true ∨ s.pwr.warn = true ∨ (!s.trd.owner) = true :=
        idle.imp_right (Or.imp Option.isSome_iff_ne_none.2 .inl)
      rw [exec_forcedQuietWindow, execForcedQuietWindow, if_pos stop]
    · exact execEstimateStale_other young
    · obtain ⟨t, run, only, last⟩ := execEstimateStale_old old fresh ring o
      refine ⟨t, run, ?_, fun e he => ?_, last, recordsOnly_keeps only State.mem fun _ _ _ => rfl⟩
      · rw [recordsOnly_keeps only State.pwr fun _ _ _ => rfl]
        exact (mem_insertNat _ _ _).2 (.inl rfl)
      · rw [recordsOnly_keeps only State.ctxs fun _ _ _ => rfl] at he
        obtain ⟨f, -, rfl⟩ := List.mem_map.1 he
        rfl
  · refine ⟨fun lt => ⟨?_, ?_⟩, fun lt op c => ?_, fun op => ?_, fun lt op cf ph c => ?_, fun op => ?_⟩
    · rw [exec_extestEnter, execExtestEnter, if_pos lt]
      rfl
    · rw [exec_extestExit, execExtestExit, if_pos lt]
      rfl
    · exact execBypassOpenFail_open lt op c
    · rw [exec_bypassOpenFail, execBypassOpenFail, if_neg (fun h => op h.2)]
    · exact execBypassCloseFail_closed lt op cf ph c
    · rw [exec_bypassCloseFail, execBypassCloseFail, if_neg (fun h => h.2.1 op)]

end Sys2Proof.Machine
end

section
/-! ### Power-up and power-down -/
namespace Sys2Proof.Machine

/-- The domains of KEEP-ALIVE (03 Table 3.9). -/
theorem keepAliveDomains_get {d : Nat} (le : d ≤ 1120) :
    Tbl.get 1 keepAliveDomains d = if d = 1100 ∨ 1117 ≤ d then 1 else 0 := by
  unfold keepAliveDomains
  rw [Tbl.get_tabulate 1 _ _ (List.mem_range.2 (by omega))]
  congr 1
  rw [eq_iff_iff]
  omega

/-- State `t` has every VIN12 rail off (03 Table 3.7): what that takes away from `x`, and that fuses and settings stay. -/
def railsDown (x t : State) : Prop :=
  t.pwr.pwrGood = false ∧ t.ctxs = [] ∧ t.progs = [] ∧ t.slots = [] ∧ (∀ a, memGet t a = 0) ∧
  (∀ d, d ≤ 1120 → domState t d = if d = 1100 ∨ 1117 ≤ d then 1 else 0) ∧
  (∀ q, q ≠ 1023 → (getQ t q).valid = false) ∧ (getQ t 1023).enabled = true ∧ t.fuses = x.fuses ∧ t.sets = x.sets

theorem railsOff_railsDown (s : State) : railsDown s (railsOff s) := by
  unfold railsOff
  refine ⟨rfl, rfl, rfl, rfl, fun _ => rfl, fun d le => ?_, fun q ne => ?_, rfl, rfl, rfl⟩
  · dsimp only [domState]
    exact keepAliveDomains_get le
  · simp [getQ, Tbl.get, ne, Queue.absent]

/-- The phase, the Treadles and the records of a device with its rails off do not matter to what is gone. -/
theorem railsDown_later {x t : State} (h : railsDown x t) (p : Phase) (d : Trd) (r : Recorder) :
    railsDown x { t with phase := p, trd := d, rcd := r } := h

theorem railsDown_recordsOnly {x t u : State} (h : railsDown x t) (only : recordsOnly t u) : railsDown x u := by
  rw [only]
  exact h

/-! What the rails going off leaves as it was. -/

@[simp] theorem railsOff_pending (s : State) : (railsOff s).pending = s.pending := rfl
@[simp] theorem railsOff_gtc (s : State) : (railsOff s).gtc = s.gtc := rfl
@[simp] theorem railsOff_aon (s : State) : (railsOff s).aon = s.aon := rfl
@[simp] theorem railsOff_straps (s : State) : (railsOff s).straps = s.straps := rfl
@[simp] theorem railsOff_bist (s : State) : (railsOff s).bist = s.bist := rfl
@[simp] theorem railsOff_rcd (s : State) : (railsOff s).rcd = s.rcd := rfl
@[simp] theorem railsOff_smb (s : State) : (railsOff s).smb = s.smb := rfl
@[simp] theorem railsOff_pwrEn (s : State) : (railsOff s).pwr.pwrEn = s.pwr.pwrEn := rfl
@[simp] theorem railsOff_vin12 (s : State) : (railsOff s).pwr.vin12 = s.pwr.vin12 := rfl

theorem railsOff_ringOff {s : State} (h : ringOff s) : ringOff (railsOff s) := ringOff_of h rfl rfl

/-- A power-down while no context is left and no freeze holds (03 Table 3.7). -/
theorem powerDown_idle {s : State} (open' : s.rcd.frozen = false) (idle : liveCtxs s = []) :
    ∃ trd pl, powerDown s =
      record (storeCounter { railsOff s with phase := .keepAlive, trd := trd }) 0x1002 0 0x00 0xFFFF pl := by
  have thaw : endFreeze s = s := by simp [endFreeze, open']
  have ended : endAll s 0x011B = s := by simp [endAll, idle]
  unfold powerDown
  rw [thaw, ended]
  exact ⟨_, _, rfl⟩

/-- The power-down reaches KEEP-ALIVE and is recorded. -/
theorem powerDown_spec {s : State} (ring : ringOff s) (o : ringOpen s) (idle : liveCtxs s = []) :
    let t := powerDown s
    t.phase = .keepAlive ∧ railsDown s t ∧ t.pwr.pwrEn = s.pwr.pwrEn ∧ lastRecord t 0x1002 0 0x00 0xFFFF ∧ t.rcd.ctrStored = powerOnSec s := by
  obtain ⟨trd, pl, eq⟩ := powerDown_idle o.1 idle
  have down := railsOff_railsDown s
  have ring' := railsOff_ringOff ring
  have rcd := railsOff_rcd s
  have aon := railsOff_aon s
  have en := railsOff_pwrEn s
  generalize railsOff s = x at *
  have down' := railsDown_later down .keepAlive trd (storeCounter { x with phase := .keepAlive, trd := trd }).rcd
  have ring2 : ringOff (storeCounter { x with phase := .keepAlive, trd := trd }) := ring'
  have o2 : ringOpen (storeCounter { x with phase := .keepAlive, trd := trd }) := by
    unfold storeCounter ringOpen
    dsimp only
    rw [rcd]
    exact o
  have only := record_recordsOnly ring2 0x1002 0 0x00 0xFFFF pl
  rw [eq]
  refine ⟨recordsOnly_keeps only State.phase fun _ _ _ => rfl, railsDown_recordsOnly (by exact down') only,
    (recordsOnly_keeps only (fun t => t.pwr.pwrEn) fun _ _ _ => rfl).trans en, record_last ring2 o2 _ _ _ _ _, ?_⟩
  rw [record_rcd ring2 o2]
  show powerOnSec { x with phase := .keepAlive, trd := trd } = _
  unfold powerOnSec
  dsimp only
  rw [rcd, aon]

/-- PWR_EN_DEASSERT of a device that is not off: with the rails up a power-down, in the thermal wait its end, else it is noted. -/
theorem execPwrEnDeassert_eq {s : State} (en : s.pwr.pwrEn = true) (on : s.phase ≠ .off) :
    execPwrEnDeassert s = .next (
      let x : State := { s with pwr := { s.pwr with pwrEn := false } }
      if s.phase ∈ [Phase.run, .reset, .test, .stay, .oosHold, .pcHeld] then powerDown x
      else if s.phase = .thermWait then { x with phase := .keepAlive } else x) := by
  have go : ¬ (s.phase = .off ∨ (!s.pwr.pwrEn) = true) := by simp [en, on]
  unfold execPwrEnDeassert
  rw [if_neg go]
  dsimp only
  split
  case h_1 h | h_2 h | h_3 h | h_4 h | h_5 h | h_6 h => rw [if_pos (by simp [h])]
  case h_7 h => rw [if_neg (by simp [h]), if_pos h]
  case h_8 h1 h2 h3 h4 h5 h6 h7 => rw [if_neg (by simpa using ⟨h1, h2, h3, h4, h5, h6⟩), if_neg h7]

/-- VIN12 is gone, and the SMBus has latched it (21 Tables 21.9, 21.10). -/
def vin12Gone (s : State) : State :=
  { s with pwr := { s.pwr with vin12 := false, railsOk := false }, smb := { s.smb with vinUv := true, inUv := true } }

/-- VIN12_LOSS of a device with its rails up and PWR_EN asserted. -/
theorem execVin12Loss_up {s : State} (en : s.pwr.pwrEn = true)
    (up : s.phase ∈ [Phase.run, .reset, .test, .stay, .oosHold, .pcHeld, .scan]) :
    execVin12Loss s = .next { railsOff (vin12Gone s) with phase := .keepAlive } := by
  have on : s.phase ≠ .off := by rintro h; simp [h] at up
  have latch : latchVin { s with pwr := { s.pwr with vin12 := false, railsOk := false } } = vin12Gone s := by
    unfold latchVin
    rw [if_pos ⟨en, on⟩]
    rfl
  have phase : (vin12Gone s).phase = s.phase := rfl
  unfold execVin12Loss
  rw [if_neg on, latch]
  dsimp only
  rw [phase]
  split
  case h_1 | h_2 | h_3 | h_4 | h_5 | h_6 | h_7 => rfl
  case h_8 h => simp [h] at up
  case h_9 h1 h2 h3 h4 h5 h6 h7 _ => exact absurd up (by simpa using ⟨h1, h2, h3, h4, h5, h6, h7⟩)

/-- The loss of VIN12 leaves KEEP-ALIVE and every record (03 R101). -/
theorem vin12Loss_spec {s : State} (en : s.pwr.pwrEn = true)
    (up : s.phase ∈ [Phase.run, .reset, .test, .stay, .oosHold, .pcHeld, .scan]) :
    ∃ t, execVin12Loss s = .next t ∧ (t.phase = .keepAlive ∧ railsDown s t) ∧ t.pwr.vin12 = false ∧ t.rcd = s.rcd ∧ t.smb.vinUv = true := by
  have down := railsOff_railsDown (vin12Gone s)
  have vin := railsOff_vin12 (vin12Gone s)
  have smb : (railsOff (vin12Gone s)).smb.vinUv = true := by rw [railsOff_smb]; rfl
  have rcd := railsOff_rcd (vin12Gone s)
  refine ⟨_, execVin12Loss_up en up, ?_⟩
  generalize railsOff (vin12Gone s) = x at *
  exact ⟨⟨rfl, down⟩, vin, rcd, smb⟩

end Sys2Proof.Machine
end

section
/-! ### The always-on supply -/
namespace Sys2Proof.Machine

/-- The recorder as the always-on logic finds it when it starts (20 R682). -/
def resumedRecorder (c : Recorder) : Recorder :=
  { Recorder.fresh with posBase := c.ctrStored + 60, pcc := c.pcc, ctrStored := c.ctrStored + 60, ctrWrites := c.ctrWrites + 1,
                        pcMarked := true, log := c.log, ckpt := c.ckpt, svc := c.svc, blocks := c.blocks, ckpts := c.ckpts,
                        wearAdv := c.wearAdv }

/-- The state in which the always-on logic starts, before any rail (03 R94). -/
def alwaysOnStart (s : State) (straps : Straps) (tbRef : Bool) : State :=
  { State.reset with
    pending := s.pending, out := s.out, freeCtr := s.freeCtr, fuses := { s.fuses with prog := [] }, rcd := resumedRecorder s.rcd,
    bist := { Bist.passed with kaFailed := if tbRef then 0 else 8, secret := false, bootCop := s.bist.bootCop,
                               scanLock := s.bist.scanLock, depth := 0 },
    straps := straps, phase := .kaTest, rst := { Resets.none with oos := s.rst.oos, history := s.rst.history },
    pwr := { Power.released with vin12 := s.pwr.vin12, railsOk := s.pwr.railsOk, pwrEn := s.pwr.pwrEn, warn := s.pwr.warn } }

/-- The record of a reserved profile strap, which goes out as a REPORT (02 R79, 15 R514). -/
def strapInvalid (s : State) : State :=
  let r := (formRec { s with phase := .strapBad } 0xE021 5 0 0x0F 0xFFFF (bistPay s 0xFFFF 0 0 0xFFFF 0 0)).1
  let t := (formRec { s with phase := .strapBad } 0xE021 5 0 0x0F 0xFFFF (bistPay s 0xFFFF 0 0 0xFFFF 0 0)).2
  addReport (ringAdd t r) r

/-- VAUX33_RISE of a device that is off. -/
theorem execVaux33Rise_off {s : State} (off : s.phase = .off) (straps : Straps) (tbRef : Bool) :
    execVaux33Rise straps tbRef s = .next (
      let x : State := { railsOff (alwaysOnStart s straps tbRef) with phase := .kaTest }
      if straps.profile.toNat ≥ 2 then strapInvalid x else x) := by
  unfold execVaux33Rise
  rw [if_neg (by simp [off])]
  rfl

/-- VAUX33_LOSS while no record is being programmed. -/
theorem execVaux33Loss_on {s : State} (on : s.phase ≠ .off) (op : s.rcd.op = none) :
    execVaux33Loss s = .next (
      let x := railsOff s
      { x with phase := .off, gtc := 0, aon := 0,
               pwr := { x.pwr with vaux33 := false, domains := (List.range 1121).map (fun d => (d, 0)) },
               rcd := { x.rcd with ring := [], pcMarked := true, frozen := false, rates := [], warnDrain := [], ckptWait := none },
               bist := { x.bist with secret := false, bootCop := [], senseOff := false, scanOn := false },
               thm := { x.thm with latched := false, latchV := 0, latchR := false, latchS := 0 },
               rst := { x.rst with pcReq := false, seq := 0 }, axes := [], sets := { regs := [], hard := [] } }) := by
  have cut : cutProgram s = s := by unfold cutProgram; rw [op]
  unfold execVaux33Loss
  rw [if_neg on, cut]

/-- The record of a reserved profile strap stands last, and nothing else but the phase and the reports has changed. -/
theorem strapInvalid_spec {s : State} (o : ringOpen s) :
    recordsOnly { s with phase := .strapBad } (strapInvalid s) ∧ lastRecord (strapInvalid s) 0xE021 5 0x0F 0xFFFF ∧
    (strapInvalid s).rcd = { s.rcd with seq := (s.rcd.seq + 1) % 65536, ring := (strapInvalid s).rcd.ring } := by
  have len := o.2
  have add := ringAdd_room (s := (formRec { s with phase := .strapBad } 0xE021 5 0 0x0F 0xFFFF (bistPay s 0xFFFF 0 0 0xFFFF 0 0)).2)
    (r := (formRec { s with phase := .strapBad } 0xE021 5 0 0x0F 0xFFFF (bistPay s 0xFFFF 0 0 0xFFFF 0 0)).1) o.1
    (Nat.lt_trans len (by decide)) (.inl len)
  have eq : strapInvalid s = _ := addReport_frame _ _
  rw [add] at eq
  generalize strapInvalid s = t at *
  rw [eq]
  refine ⟨rfl, ⟨⟨(formRec { s with phase := .strapBad } 0xE021 5 0 0x0F 0xFFFF (bistPay s 0xFFFF 0 0 0xFFFF 0 0)).1, false⟩,
    ?_, rfl, rfl, rfl, rfl⟩, rfl⟩
  simp

end Sys2Proof.Machine
end

section
/-! ### What the always-on supply brings and takes away (03 R94, R126, 20 R682) -/
namespace Sys2Proof.Machine

/-- State `t` is the start of the always-on logic out of `s`. -/
def alwaysOnUp (s t : State) (straps : Straps) (tbRef : Bool) : Prop :=
  t.straps = straps ∧ t.gtc = 0 ∧ t.aon = 0 ∧
  t.rcd.posBase = s.rcd.ctrStored + 60 ∧ t.rcd.log = s.rcd.log ∧ t.fuses = { s.fuses with prog := [] } ∧ t.sets = State.reset.sets ∧
  t.bist.kaFailed = (if tbRef then 0 else 8) ∧ t.ctxs = [] ∧ t.progs = [] ∧ t.pending = s.pending ∧ (∀ a, memGet t a = 0) ∧
  (∀ d, d ≤ 1120 → domState t d = if d = 1100 ∨ 1117 ≤ d then 1 else 0)

theorem alwaysOnStart_up (s : State) (straps : Straps) (tbRef : Bool) :
    alwaysOnUp s { railsOff (alwaysOnStart s straps tbRef) with phase := .kaTest } straps tbRef ∧
    (railsOff (alwaysOnStart s straps tbRef)).rcd = resumedRecorder s.rcd := by
  obtain ⟨_, ctxs, progs, _, mem, doms, _, _, fuses, sets⟩ := railsOff_railsDown (alwaysOnStart s straps tbRef)
  have straps' := railsOff_straps (alwaysOnStart s straps tbRef)
  have gtc := railsOff_gtc (alwaysOnStart s straps tbRef)
  have aon := railsOff_aon (alwaysOnStart s straps tbRef)
  have rcd := railsOff_rcd (alwaysOnStart s straps tbRef)
  have bist := railsOff_bist (alwaysOnStart s straps tbRef)
  have pending := railsOff_pending (alwaysOnStart s straps tbRef)
  generalize railsOff (alwaysOnStart s straps tbRef) = x at *
  refine ⟨⟨straps', gtc, aon, ?_, ?_, fuses, sets, ?_, ctxs, progs, pending, mem, doms⟩, rcd⟩
  · dsimp only; rw [rcd]; rfl
  · dsimp only; rw [rcd]; rfl
  · dsimp only; rw [bist]; rfl

/-- The record of a reserved profile takes nothing of the start away. -/
theorem alwaysOnUp_strapInvalid {s x : State} {straps : Straps} {tbRef : Bool} (up : alwaysOnUp s x straps tbRef) (o : ringOpen x) :
    alwaysOnUp s (strapInvalid x) straps tbRef := by
  obtain ⟨only, _, rcd⟩ := strapInvalid_spec o
  generalize strapInvalid x = t at *
  unfold alwaysOnUp at *
  have pos : t.rcd.posBase = x.rcd.posBase := by rw [rcd]
  have log : t.rcd.log = x.rcd.log := by rw [rcd]
  rw [pos, log, only]
  exact up

/-- VAUX33_RISE of a device that is off: the keep-alive phase, or the hold of a reserved profile (02 R79). -/
theorem vaux33Rise_spec {s : State} (off : s.phase = .off) (straps : Straps) (tbRef : Bool) :
    ∃ t, execVaux33Rise straps tbRef s = .next t ∧ alwaysOnUp s t straps tbRef ∧
      (straps.profile.toNat < 2 → t.phase = .kaTest ∧ t.rcd.ring = []) ∧
      (2 ≤ straps.profile.toNat → t.phase = .strapBad ∧ lastRecord t 0xE021 5 0x0F 0xFFFF) := by
  obtain ⟨up, rcd⟩ := alwaysOnStart_up s straps tbRef
  have eq := execVaux33Rise_off off straps tbRef
  generalize railsOff (alwaysOnStart s straps tbRef) = y at *
  by_cases bad : straps.profile.toNat ≥ 2
  · have o : ringOpen { y with phase := .kaTest } := by
      unfold ringOpen
      dsimp only
      rw [rcd]
      exact ⟨rfl, Nat.zero_lt_succ _⟩
    obtain ⟨only, last, _⟩ := strapInvalid_spec o
    dsimp only at eq
    rw [if_pos bad] at eq
    exact ⟨_, eq, alwaysOnUp_strapInvalid up o, fun lt => absurd bad (by omega),
      fun _ => ⟨recordsOnly_keeps only State.phase fun _ _ _ => rfl, last⟩⟩
  · dsimp only at eq
    rw [if_neg bad] at eq
    refine ⟨_, eq, up, fun _ => ⟨rfl, ?_⟩, fun ge => absurd ge bad⟩
    dsimp only
    rw [rcd]
    rfl

/-- State `t` has lost the always-on supply of `s` (02 R62). -/
def alwaysOnGone (s t : State) : Prop :=
  t.phase = .off ∧ t.pwr.vaux33 = false ∧ t.rcd.ring = [] ∧
  t.rcd.pcMarked = true ∧ t.rcd.log = s.rcd.log ∧ t.ctxs = [] ∧ t.progs = [] ∧ t.slots = [] ∧ t.sets = State.reset.sets ∧
  t.fuses = s.fuses ∧ (∀ a, memGet t a = 0) ∧ (∀ d, d ≤ 1120 → domState t d = 0) ∧ t.pending = s.pending

/-- VAUX33_LOSS while no record is being programmed leaves the nonvolatile log and the fuses alone. -/
theorem vaux33Loss_spec {s : State} (on : s.phase ≠ .off) (op : s.rcd.op = none) :
    ∃ t, execVaux33Loss s = .next t ∧ alwaysOnGone s t := by
  obtain ⟨_, ctxs, progs, slots, mem, _, _, _, fuses, _⟩ := railsOff_railsDown s
  have rcd := railsOff_rcd s
  have pending := railsOff_pending s
  refine ⟨_, execVaux33Loss_on on op, ?_⟩
  generalize railsOff s = x at *
  refine ⟨rfl, rfl, rfl, rfl, ?_, ctxs, progs, slots, rfl, fuses, mem, fun d le => ?_, pending⟩
  · dsimp only; rw [rcd]
  · dsimp only [domState]
    exact Tbl.get_tabulate 1 _ (fun _ => 0) (List.mem_range.2 (by omega))

end Sys2Proof.Machine
end

section
/-! ### The keep-alive phase (05 R170, R173) -/
namespace Sys2Proof.Machine

/-- The blocks that the keep-alive phase tests. -/
def keepAliveTested (d : Nat) : Prop := d = 1100 ∨ d = 1117 ∨ d = 1118 ∨ d = 1119 ∨ d = 1120

/-- The bit of such a block in the essential-failure mask. -/
def keepAliveBit (d : Nat) : BitVec 7 :=
  if d = 1100 then 1 else if d = 1118 then 8 else if d = 1119 then 16 else if d = 1117 then 32 else 64

theorem keepAliveBlock_of {d : Nat} (h : keepAliveTested d) : keepAliveBlock d = true := by
  rcases h with rfl | rfl | rfl | rfl | rfl <;> rfl

theorem essentialBlock_of {d : Nat} (h : keepAliveTested d) : essentialBlock d = true := by
  rcases h with rfl | rfl | rfl | rfl | rfl <;> rfl

/-- Blocks at and above 1,024 are their own domain. -/
theorem blockDomain_of {d : Nat} (h : keepAliveTested d) : blockDomain d = d := by
  unfold keepAliveTested at h
  exact if_neg (by omega)

theorem essentialBits_none {s : State} (h : s.bist.failed = []) : essentialBits s = 0 := by
  unfold essentialBits
  rw [h]
  rfl

theorem essentialBits_single {s : State} {d : Nat} (h : s.bist.failed = [d]) (k : keepAliveTested d) :
    essentialBits s = keepAliveBit d := by
  unfold essentialBits
  rw [h]
  rcases k with rfl | rfl | rfl | rfl | rfl <;> rfl

/-- The signatures that a cause leaves in the registers of the first failure (05 R161). -/
def signaturesOf : BistCause → Word64 × Word64
  | .signature o x => (o, x)
  | _ => (0, 0)

/-- State `t` is `s` with the test of block `d` failed first, for the cause `c`. -/
def failedFirst (s t : State) (d : Nat) (c : BistCause) : Prop :=
  ∃ r, recordsOnly s r ∧ lastRecord r 0xE002 4 0x0F d ∧
    t = { r with bist := { s.bist with failed := [d], firstFail := d, obsSig := (signaturesOf c).1, expSig := (signaturesOf c).2 } }

/-- The first failing keep-alive block, by a signature or a memory test: one record, and the registers of the first failure. -/
theorem bistFail_first {s : State} (ring : ringOff s) (o : ringOpen s) (none : s.bist.failed = []) {d : Nat} (k : keepAliveTested d)
    {c : BistCause} (plain : c ≠ .timeout ∧ c ≠ .romCrc) : failedFirst s (bistFail s d c) d c := by
  have eq : ∃ pl, bistFail s d c =
      (let t := record s 0xE002 4 0x0F d pl
       let b := { t.bist with failed := insertNat t.bist.failed d }
       { t with bist := if t.bist.failed.isEmpty then { b with firstFail := d, obsSig := (signaturesOf c).1, expSig := (signaturesOf c).2 }
                        else b }) := by
    unfold bistFail
    rw [blockDomain_of k]
    cases c with
    | signature obs exp => exact ⟨_, if_pos (essentialBlock_of k)⟩
    | mbist => exact ⟨_, if_pos (essentialBlock_of k)⟩
    | timeout => exact absurd rfl plain.1
    | romCrc => exact absurd rfl plain.2
  obtain ⟨pl, eq⟩ := eq
  have only := record_recordsOnly ring 0xE002 4 0x0F d pl
  have bist : (record s 0xE002 4 0x0F d pl).bist = s.bist := recordsOnly_keeps only State.bist fun _ _ _ => rfl
  refine ⟨record s 0xE002 4 0x0F d pl, only, record_last ring o _ _ _ _ _, ?_⟩
  rw [eq]
  dsimp only
  rw [bist, none]
  rfl

/-- Without PWR_EN nothing powers up. -/
theorem tryPowerUp_off {s : State} (en : s.pwr.pwrEn = false) : tryPowerUp s = s := by
  unfold tryPowerUp
  rw [if_neg (by simp [en])]

/-- The blocks that the end of the keep-alive phase counts as failed: the timebase without a reference, and those that failed their test. -/
def keepAliveFails (s : State) (fails : List BistFail) : List BistFail :=
  (if s.bist.kaFailed.getLsbD 3 then [(⟨1118, .mbist⟩ : BistFail)] else []) ++ fails.filter (fun f => keepAliveBlock f.domain)

/-- The end of the keep-alive phase with the essential-failure mask `f`. -/
def keepAliveEnd (s : State) (f : BitVec 7) : State :=
  { s with phase := .keepAlive, bist := { s.bist with kaFailed := f, secret := !f.getLsbD 4 && !s.bist.senseOff },
           trd := { s.trd with aFailed := f.getLsbD 0 } }

/-- KEEP_ALIVE_REACHED in the keep-alive phase. -/
theorem execKeepAliveReached_eq {s : State} (p : s.phase = .kaTest) (fails : List BistFail) (nv : Bool) :
    execKeepAliveReached fails nv s = .next (
      let t := (keepAliveFails s fails).foldl (fun s f => if s.bist.failed.contains f.domain then s else bistFail s f.domain f.cause) s
      let x := keepAliveEnd t (t.bist.kaFailed ||| essentialBits t)
      tryPowerUp (if nv then x
        else accept { x with rst := { x.rst with oos := true } } 0xA030 2 0x0D 0 0xFFFF 0xFFFF (pay [(2, 0), (2, 0xFFFF)]))) := by
  unfold execKeepAliveReached
  rw [if_neg (by simp [p])]
  rfl

/-- KEEP_ALIVE_REACHED with every block passed, PWR_EN deasserted. -/
theorem execKeepAliveReached_passed {s : State} (p : s.phase = .kaTest) (en : s.pwr.pwrEn = false) (none : s.bist.failed = [])
    (ref : s.bist.kaFailed = 0) :
    execKeepAliveReached [] true s = .next (keepAliveEnd s 0) := by
  have l : keepAliveFails s [] = [] := by simp [keepAliveFails, ref]
  have mask : s.bist.kaFailed ||| essentialBits s = 0 := by rw [ref, essentialBits_none none]; rfl
  rw [execKeepAliveReached_eq p, l]
  dsimp only [List.foldl_nil]
  rw [mask, if_pos rfl, tryPowerUp_off (by exact en)]

/-- KEEP_ALIVE_REACHED with a service log that cannot be read: OUT_OF_SERVICE is set. -/
theorem execKeepAliveReached_unreadable {s : State} (p : s.phase = .kaTest) (en : s.pwr.pwrEn = false) (none : s.bist.failed = [])
    (ref : s.bist.kaFailed = 0) (c : calm s) :
    let up := keepAliveEnd s 0
    ∃ t, execKeepAliveReached [] false s = .next t ∧ accepted { up with rst := { up.rst with oos := true } } t 0xA030 2 := by
  intro up
  have l : keepAliveFails s [] = [] := by simp [keepAliveFails, ref]
  have mask : s.bist.kaFailed ||| essentialBits s = 0 := by rw [ref, essentialBits_none none]; rfl
  have acc := accept_accepted (s := { up with rst := { up.rst with oos := true } }) c 0xA030 2 0x0D 0 0xFFFF 0xFFFF
    (pay [(2, 0), (2, 0xFFFF)])
  have en' := (accepted_keeps acc (fun t => t.pwr.pwrEn) fun _ _ => rfl).trans en
  refine ⟨_, ?_, acc⟩
  rw [execKeepAliveReached_eq p, l]
  dsimp only [List.foldl_nil]
  rw [mask, if_neg (by decide)]
  exact congrArg _ (tryPowerUp_off en')

/-- KEEP_ALIVE_REACHED with one failed block: it is recorded and kept in the mask. -/
theorem execKeepAliveReached_lost {s : State} (p : s.phase = .kaTest) (en : s.pwr.pwrEn = false) (none : s.bist.failed = [])
    (ring : ringOff s) (o : ringOpen s) {fails : List BistFail} {d : Nat} {c : BistCause} (k : keepAliveTested d)
    (plain : c ≠ .timeout ∧ c ≠ .romCrc) (l : keepAliveFails s fails = [⟨d, c⟩])
    (mask : s.bist.kaFailed ||| keepAliveBit d = keepAliveBit d) :
    ∃ t, execKeepAliveReached fails true s = .next t ∧ t.bist.obsSig = (signaturesOf c).1 ∧ t.bist.expSig = (signaturesOf c).2 ∧
      (t.phase = .keepAlive ∧ t.bist.failed = [d] ∧ t.bist.kaFailed = keepAliveBit d ∧
        t.bist.firstFail = d ∧ lastRecord t 0xE002 4 0x0F d ∧ t.sets = s.sets ∧ t.pwr = s.pwr) := by
  obtain ⟨r, only, last, eq⟩ := bistFail_first ring o none k plain
  have fold : (keepAliveFails s fails).foldl (fun s f => if s.bist.failed.contains f.domain then s else bistFail s f.domain f.cause) s =
      bistFail s d c := by
    rw [l, List.foldl_cons, List.foldl_nil, none]
    rfl
  have bits := essentialBits_single (s := bistFail s d c) (by rw [eq]) k
  have ka : (bistFail s d c).bist.kaFailed = s.bist.kaFailed := by rw [eq]
  have pwr : (bistFail s d c).pwr = s.pwr := by rw [eq]; exact recordsOnly_keeps only State.pwr fun _ _ _ => rfl
  have sets : (bistFail s d c).sets = s.sets := by rw [eq]; exact recordsOnly_keeps only State.sets fun _ _ _ => rfl
  refine ⟨keepAliveEnd (bistFail s d c) (keepAliveBit d), ?_, ?_⟩
  · rw [execKeepAliveReached_eq p, fold]
    dsimp only
    rw [ka, bits, mask, if_pos rfl]
    exact congrArg _ (tryPowerUp_off ((congrArg Power.pwrEn pwr).trans en))
  · generalize bistFail s d c = x at *
    subst eq
    exact ⟨rfl, rfl, rfl, rfl, rfl, rfl, last, sets, pwr⟩

end Sys2Proof.Machine
end

section
/-! ### The power-up (03 R95, 04 R145, 05 R173) -/
namespace Sys2Proof.Machine

/-- The power cycle is counted when the rails come up (20 R684): a chip that lost power forgets what the cycle clears. -/
def cycleCounted (s : State) : State :=
  if s.rcd.pcMarked then
    { s with rcd := { s.rcd with pcc := Nat.min 0xFFFFFF (s.rcd.pcc + 1), pcMarked := false, wearCrit := false },
             bist := { s.bist with bootCop := [], senseOff := false, scanOn := false },
             thm := { s.thm with latched := false, latchV := 0, latchR := false, latchS := 0 },
             rst := { s.rst with pcReq := false, seq := 0 }, axes := [],
             sets := { s.sets with hard := [] } }
  else s

/-- The VIN12 rails are up. -/
def railsUp (s : State) : State :=
  let x := storeCounter (cycleCounted s)
  { x with pwr := { x.pwr with domains := allOn x, pwrGood := true, fullPace := true, capTarget := 900, hbmKept := true,
                               warnBlock := false },
           thm := { x.thm with targets := [] } }

/-- The power-up has been recorded. -/
def poweredUp (s : State) : State :=
  record (railsUp s) 0x1001 0 0x00 0xFFFF (powerPay (railsUp s) 0xFFFF 0xFF 0xFF 0x8000 0 0)

/-- A keep-alive block has failed, and the device stays in reset. -/
def essentialHeld (s : State) : State :=
  { heldPower s .stay with
    bist := { s.bist with stay := true, essential := s.bist.kaFailed, depth := 0, excluded := excludedAfter s, repeatDue := true } }

theorem powerUp_eq (s : State) :
    powerUp s = if (poweredUp s).bist.kaFailed ≠ 0 then bistSummary (essentialHeld (poweredUp s)) 0xE004 5
      else startTest (poweredUp s) 1 := rfl

/-- The host ring's control is an ordinary setting: hardened ones do not matter to it. -/
theorem ringOff_congr {s t : State} (h : ringOff s) (hs : t.sets.regs = s.sets.regs) (he : t.err.ringDue = s.err.ringDue) : ringOff t := by
  unfold ringOff at *
  rw [liveVal_ring] at *
  rw [hs, he]
  exact h

/-- What the counted power cycle leaves as it was, and what it counts. -/
theorem cycleCounted_spec (s : State) :
    let t := cycleCounted s
    t.sets.regs = s.sets.regs ∧ t.err = s.err ∧ t.rcd.frozen = s.rcd.frozen ∧ t.rcd.ring = s.rcd.ring ∧
    t.bist.kaFailed = s.bist.kaFailed ∧ t.rcd.pcMarked = false ∧
    t.rcd.pcc = if s.rcd.pcMarked then Nat.min 0xFFFFFF (s.rcd.pcc + 1) else s.rcd.pcc := by
  unfold cycleCounted
  cases marked : s.rcd.pcMarked
  · exact ⟨rfl, rfl, rfl, rfl, rfl, marked, rfl⟩
  · exact ⟨rfl, rfl, rfl, rfl, rfl, rfl, rfl⟩

/-- The rails coming up: the records' ring is as open as it was, and the power cycle is counted once. -/
theorem railsUp_spec {s : State} (ring : ringOff s) (o : ringOpen s) :
    let t := railsUp s
    ringOff t ∧ ringOpen t ∧ t.bist.kaFailed = s.bist.kaFailed ∧ t.pwr.pwrGood = true ∧ t.rcd.pcMarked = false ∧
    t.rcd.pcc = if s.rcd.pcMarked then Nat.min 0xFFFFFF (s.rcd.pcc + 1) else s.rcd.pcc := by
  obtain ⟨regs, err, frozen, ring', ka, marked, pcc⟩ := cycleCounted_spec s
  unfold railsUp
  generalize cycleCounted s = x at *
  have open' : x.rcd.frozen = false ∧ x.rcd.ring.length < 16320 := by rw [frozen, ring']; exact o
  exact ⟨ringOff_congr ring regs (congrArg Pipeline.ringDue err), ⟨open'.1, open'.2⟩, ka, rfl, marked, pcc⟩

/-- The recorded power-up. -/
theorem poweredUp_spec {s : State} (ring : ringOff s) (o : ringOpen s) :
    let t := poweredUp s
    ringOff t ∧ t.rcd.frozen = false ∧ t.rcd.ring.length < 16384 ∧ t.bist.kaFailed = s.bist.kaFailed ∧ t.pwr.pwrGood = true ∧
    lastRecord t 0x1001 0 0x00 0xFFFF ∧ t.rcd.pcMarked = false ∧
    t.rcd.pcc = if s.rcd.pcMarked then Nat.min 0xFFFFFF (s.rcd.pcc + 1) else s.rcd.pcc := by
  obtain ⟨ring', o', ka, good, marked, pcc⟩ := railsUp_spec ring o
  unfold poweredUp
  generalize railsUp s = x at *
  generalize powerPay x 0xFFFF 0xFF 0xFF 0x8000 0 0 = pl
  have only := record_recordsOnly ring' 0x1001 0 0x00 0xFFFF pl
  have rcd := record_rcd ring' o' 0x1001 0 0x00 0xFFFF pl
  have len := o'.2
  refine ⟨record_ringOff ring' _ _ _ _ _, ?_, ?_, (recordsOnly_keeps only (fun t => t.bist.kaFailed) fun _ _ _ => rfl).trans ka,
    (recordsOnly_keeps only (fun t => t.pwr.pwrGood) fun _ _ _ => rfl).trans good, record_last ring' o' _ _ _ _ _, ?_, ?_⟩
  · rw [rcd]; exact o'.1
  · rw [rcd, List.length_append, List.length_singleton]; omega
  · rw [rcd]; exact marked
  · rw [rcd]; exact pcc

/-- With no keep-alive block failed, the power-up starts the FULL test from Phase 1. -/
theorem powerUp_test {s : State} (ring : ringOff s) (o : ringOpen s) (ka : s.bist.kaFailed = 0) :
    let t := powerUp s
    t.phase = .test ∧ t.bist.depth = 1 ∧ t.bist.phase = 1 ∧ t.pwr.pwrGood = true ∧ lastRecord t 0x1001 0 0x00 0xFFFF ∧
    t.rcd.pcc = (if s.rcd.pcMarked then Nat.min 0xFFFFFF (s.rcd.pcc + 1) else s.rcd.pcc) ∧ t.rcd.pcMarked = false := by
  obtain ⟨_, _, _, ka', good, last, marked, pcc⟩ := poweredUp_spec ring o
  rw [powerUp_eq]
  generalize poweredUp s = x at *
  rw [if_neg (by simp [ka', ka])]
  exact ⟨rfl, rfl, rfl, good, last, pcc, marked⟩

/-- With a keep-alive block failed, the device stays in reset with its failures in the summary. -/
theorem powerUp_stay {s : State} (ring : ringOff s) (o : ringOpen s) (ka : s.bist.kaFailed ≠ 0) :
    let t := powerUp s
    t.phase = .stay ∧ t.bist.essential = s.bist.kaFailed ∧ lastRecord t 0xE004 5 0x0F 0xFFFF := by
  obtain ⟨ring', thaw, room, ka', _⟩ := poweredUp_spec ring o
  rw [powerUp_eq]
  generalize poweredUp s = x at *
  rw [if_pos (by rw [ka']; exact ka)]
  have ringH : ringOff (essentialHeld x) := ringOff_of ring' rfl rfl
  have thawH : (essentialHeld x).rcd.frozen = false := thaw
  have roomH : (essentialHeld x).rcd.ring.length < 16384 := room
  have phase : (essentialHeld x).phase = .stay := rfl
  have essential : (essentialHeld x).bist.essential = s.bist.kaFailed := ka'
  generalize essentialHeld x = y at *
  unfold bistSummary
  generalize summaryPay y (bistResult y) (bistCounts y) y.bist.essential.toNat = pl
  have only := record_recordsOnly ringH 0xE004 5 0x0F 0xFFFF pl
  exact ⟨(recordsOnly_keeps only State.phase fun _ _ _ => rfl).trans phase,
    (recordsOnly_keeps only (fun t => t.bist.essential) fun _ _ _ => rfl).trans essential,
    record_last_severe ringH thawH roomH (by decide) _ _ _ _⟩

/-- A device with PWR_EN asserted and its rails in range powers up, or waits while it is hot (04 R145). -/
theorem tryPowerUp_ready {s : State} (p : s.phase = .keepAlive ∨ s.phase = .thermWait) (en : s.pwr.pwrEn = true)
    (ok : s.pwr.railsOk = true) (free : s.pwr.warnBlock = false) :
    tryPowerUp s = if thermalClear s then powerUp s else { s with phase := .thermWait } := by
  unfold tryPowerUp
  rw [if_pos ⟨p, en, ok, by simp [free]⟩]

/-- The three ways into the power-up: PWR_EN, the rails, and the end of the thermal wait. -/
theorem exec_tryPowerUp {s : State} {i : Instr}
    (h : (i = .pwrEnAssert true ∧ s.pwr.pwrEn = false ∧ s.phase = .keepAlive) ∨ (i = .railsInRange ∧ s.pwr.pwrEn = true ∧ s.phase = .keepAlive) ∨
      (i = .thermalWaitEnd ∧ s.pwr.pwrEn = true ∧ s.pwr.railsOk = true ∧ s.phase = .thermWait)) (free : s.pwr.warnBlock = false) :
    ∃ p : Power, exec i s = .next (tryPowerUp { s with pwr := p }) ∧
      (s.phase = .keepAlive ∨ s.phase = .thermWait) ∧ p.pwrEn = true ∧ p.railsOk = true ∧ p.warnBlock = false := by
  rcases h with ⟨rfl, en, p⟩ | ⟨rfl, en, p⟩ | ⟨rfl, en, ok, p⟩
  · refine ⟨{ s.pwr with pwrEn := true, railsOk := true, warnBlock := s.pwr.warnBlock && s.pwr.warn }, ?_, .inl p, rfl, rfl, by simp [free]⟩
    show execPwrEnAssert true s = _
    unfold execPwrEnAssert
    rw [if_neg (by simp [en, p])]
    dsimp only
    rw [if_neg (by simp [p])]
  · refine ⟨{ s.pwr with railsOk := true, vin12 := true }, ?_, .inl p, en, rfl, free⟩
    show execRailsInRange s = _
    unfold execRailsInRange
    rw [if_neg (by simp [p])]
    dsimp only
    rw [if_neg (by simp [p])]
  · refine ⟨s.pwr, ?_, .inr p, en, ok, free⟩
    show execThermalWaitEnd s = _
    unfold execThermalWaitEnd
    rw [if_pos p]

end Sys2Proof.Machine
end

section
/-! ### O37: the always-on supply, the power-up and the power-down -/
namespace Sys2Proof.Machine

/-! Commands that find nothing to do. -/

theorem execVaux33Rise_on {s : State} (on : s.phase ≠ .off) (straps : Straps) (tbRef : Bool) :
    execVaux33Rise straps tbRef s = .next s := by
  unfold execVaux33Rise
  rw [if_pos on]

theorem execVaux33Loss_off {s : State} (off : s.phase = .off) : execVaux33Loss s = .next s := by
  unfold execVaux33Loss
  rw [if_pos off]

theorem execKeepAliveReached_late {s : State} (late : s.phase ≠ .kaTest) (fails : List BistFail) (nv : Bool) :
    execKeepAliveReached fails nv s = .next s := by
  unfold execKeepAliveReached
  rw [if_pos late]

theorem execPwrEnAssert_noted {s : State} (noted : s.phase = .off ∨ s.pwr.pwrEn = true) (railsOk : Bool) :
    execPwrEnAssert railsOk s = .next s := by
  unfold execPwrEnAssert
  rw [if_pos noted]

theorem execThermalWaitEnd_noWait {s : State} (noWait : s.phase ≠ .thermWait) : execThermalWaitEnd s = .next s := by
  unfold execThermalWaitEnd
  rw [if_neg noWait]

theorem execPwrEnDeassert_off {s : State} (off : s.phase = .off) : execPwrEnDeassert s = .next s := by
  unfold execPwrEnDeassert
  rw [if_pos (.inl off)]

/-- Settles O37: VAUX33 (`vaux33Rise_spec`, `vaux33Loss_spec`), the keep-alive phase (`execKeepAliveReached_lost`), the power-up
(`powerUp_test`, `powerUp_stay`) and the power-down (`powerDown_spec`, `vin12Loss_spec`). -/
theorem alwaysOnPowerUpAndPowerDown : Obligations.AlwaysOnPowerUpAndPowerDown := by
  unfold Obligations.AlwaysOnPowerUpAndPowerDown
  refine ⟨fun s straps tbRef => ?_, fun s ring o => ?_, fun s en => ?_⟩
  · refine ⟨fun on => execVaux33Rise_on on straps tbRef, fun off => ?_, execVaux33Loss_off, fun on op => vaux33Loss_spec on op⟩
    obtain ⟨t, run, ⟨st, gtc, aon, pos, log, fuses, sets, ka, ctxs, progs, pending, mem, dom⟩, ok, bad⟩ := vaux33Rise_spec off straps tbRef
    exact ⟨t, run, st, gtc, aon, pos, log, fuses, sets, ka, ctxs, progs, pending, mem, dom, ok, bad⟩
  · refine ⟨execKeepAliveReached_late, fun p en none => ⟨fun ref => ⟨?_, fun empty => ?_⟩, fun lost => ?_, fun ref d obs exp k => ?_⟩,
      fun i h free => ?_, fun noted => execPwrEnAssert_noted noted true, execThermalWaitEnd_noWait⟩
    · exact execKeepAliveReached_passed p en none ref
    · exact execKeepAliveReached_unreadable p en none ref ⟨ring, empty, o⟩
    · have l : keepAliveFails s [] = [⟨1118, .mbist⟩] := by simp [keepAliveFails, lost]
      obtain ⟨t, run, _, _, facts⟩ := execKeepAliveReached_lost (c := .mbist) p en none ring o (.inr (.inr (.inl rfl))) ⟨nofun, nofun⟩ l
        (by rw [lost]; rfl)
      exact ⟨t, run, facts⟩
    · have l : keepAliveFails s [⟨d, .signature obs exp⟩] = [⟨d, .signature obs exp⟩] := by
        simp [keepAliveFails, ref, keepAliveBlock_of k]
      exact execKeepAliveReached_lost (c := .signature obs exp) p en none ring o k ⟨nofun, nofun⟩ l (by rw [ref]; exact BitVec.zero_or)
    · obtain ⟨pw, run, p, en, ok, free'⟩ := exec_tryPowerUp h free
      have ready := tryPowerUp_ready (s := { s with pwr := pw }) p en ok free'
      have clear : thermalClear { s with pwr := pw } = thermalClear s := rfl
      rw [ready, clear] at run
      refine ⟨fun hot => ?_, fun cool ka => ?_, fun cool ka => ?_⟩
      · rw [hot] at run
        exact ⟨_, run, rfl, rfl⟩
      · rw [cool, if_pos rfl] at run
        exact ⟨_, run, powerUp_test (s := { s with pwr := pw }) (ringOff_of ring rfl rfl) ⟨o.1, o.2⟩ ka⟩
      · rw [cool, if_pos rfl] at run
        exact ⟨_, run, powerUp_stay (s := { s with pwr := pw }) (ringOff_of ring rfl rfl) ⟨o.1, o.2⟩ ka⟩
  · intro low main
    refine ⟨fun up ring o idle esp => ?_, fun wait => ?_, fun early => ?_, execPwrEnDeassert_off, fun up => ?_⟩
    · have on : s.phase ≠ .off := by rintro h; simp [main, h] at up
      have run := execPwrEnDeassert_eq en on
      dsimp only at run
      rw [if_pos up] at run
      obtain ⟨phase, down, off, last, ctr⟩ := powerDown_spec (s := { s with pwr := { s.pwr with pwrEn := false } })
        (ringOff_of ring rfl rfl) ⟨o.1, o.2⟩ idle
      exact ⟨_, run, ⟨phase, down⟩, off, last, ctr⟩
    · have run := execPwrEnDeassert_eq en (by simp [wait])
      dsimp only at run
      rwa [if_neg (by simp [wait]), if_pos wait] at run
    · have on : s.phase ≠ .off := by rintro h; simp [h] at early
      have run := execPwrEnDeassert_eq en on
      dsimp only at run
      rwa [if_neg (fun up => by cases e : s.phase <;> simp [e] at early up), if_neg (fun wait => by simp [wait] at early)] at run
    · have up' : s.phase ∈ [Phase.run, .reset, .test, .stay, .oosHold, .pcHeld, .scan] := by
        rcases up with up | up
        · exact List.mem_append_left [Phase.scan] up
        · simp [up]
      exact vin12Loss_spec en up'

end Sys2Proof.Machine
end

section
/-! ### Power and energy instructions (07 R263, R264) -/
namespace Sys2Proof.Machine

/-- PWRDOM of a program that may issue it (R263, 03 R92, R93). -/
theorem execPwrdom_issues {s : State} {slot : BitVec 6} {p : Prog} (h : issues s slot p) (next : hasNext p) (priv : 1 ≤ p.priv)
    (rd ra : BitVec 5) (imm : Word32) :
    execPwrdom slot rd ra imm s = .next (
      let d := (p.reg ra).toNat
      let v := imm.toNat
      if pwrdomOk d v = false then ended s slot p 0x0002
      else if domState s d = 3 then retired s slot p rd 1
      else if domState s d = v ∧ Tbl.has s.pwr.domTarget d = false then retired s slot p rd 0
      else if breaksDep s d v = true ∨ (v ≠ 1 ∧ domBusy s d = true) then ended s slot p 0x0006
      else putP { s with pwr := { s.pwr with domTarget := Tbl.put s.pwr.domTarget d v } } slot.toNat
        { p with wait := .domain d v rd.toNat }) := by
  unfold execPwrdom
  rw [onPriv_issues h priv]
  simp only [retireRd_next s slot next, Bool.not_eq_true', Bool.or_eq_true, Bool.and_eq_true, decide_eq_true_eq]
  rfl

/-- An energy record of a context without an accounting ring starts its interval anew, and no more (03 R112, R113). -/
theorem energyRecord_noRing {s : State} {c : Nat} (ring : acctQueue s c = none) (part killed : Bool) :
    energyRecord s c part killed =
      { putC s c { getC s c with energy := ⟨s.gtc, false, false⟩ } with freeCtr := s.freeCtr + 5 } := by
  unfold energyRecord takeFree updC
  dsimp only
  split
  · rfl
  · rename_i h
    rw [show acctQueue s c = some _ from h] at ring
    cases ring

/-- Partial records of a list of contexts, none of which has a ring. -/
theorem energyRecords_noRing (l : List Nat) (s : State) (ring : ∀ c, acctQueue s c = none) :
    let t := l.foldl (fun s c => energyRecord s c true false) s
    t = { s with ctxs := t.ctxs, freeCtr := t.freeCtr } ∧
    (∀ c ∈ l, getC t c = { getC s c with energy := ⟨s.gtc, false, false⟩ }) ∧ (∀ c, c ∉ l → getC t c = getC s c) := by
  induction l generalizing s with
  | nil => exact ⟨rfl, fun _ h => absurd h List.not_mem_nil, fun _ _ => rfl⟩
  | cons c l ih =>
    have one := energyRecord_noRing (ring c) true false
    have same : getC (energyRecord s c true false) c = { getC s c with energy := ⟨s.gtc, false, false⟩ } := by
      rw [one]; exact getC_putC_same _ _ _
    have other : ∀ {d}, d ≠ c → getC (energyRecord s c true false) d = getC s d := fun h => by
      rw [one]; exact getC_putC_ne s h _
    obtain ⟨frame, inside, outside⟩ := ih (energyRecord s c true false) (fun d => by rw [one]; exact ring d)
    have gtc : (energyRecord s c true false).gtc = s.gtc := by rw [one]; rfl
    rw [gtc] at inside
    refine ⟨?_, fun d hd => ?_, fun d hd => ?_⟩
    · rw [List.foldl_cons, frame, one]; rfl
    · by_cases mem : d ∈ l
      · rw [List.foldl_cons, inside d mem]
        by_cases e : d = c
        · rw [e, same]
        · rw [other e]
      · obtain rfl : d = c := (List.mem_cons.1 hd).resolve_right mem
        rw [List.foldl_cons, outside d mem, same]
    · obtain ⟨ne, mem⟩ := not_or.1 (mt List.mem_cons.2 hd)
      rw [List.foldl_cons, outside d mem, other ne]

/-- An instruction on the selected context runs on it where it is allocated and inside no fence. -/
theorem onCtx_issues {s : State} {slot : BitVec 6} {p : Prog} (h : issues s slot p) (sel : p.sel < 256) (free : isFenced s p.sel = false)
    (use : (getC s p.sel).inUse = true) (f : Prog → Nat → State) : onCtx s slot f = f p p.sel := by
  unfold onCtx
  rw [onProg_issues h, if_neg (by omega), if_neg (by simp [free]), if_neg (by simp [use])]

/-- ACCT of the selected context. -/
theorem execAcct_selected {s : State} {slot : BitVec 6} {p : Prog} (h : issues s slot p) (next : hasNext p) (sel : p.sel < 256)
    (free : isFenced s p.sel = false) (use : (getC s p.sel).inUse = true) (run : (getC s p.sel).ended = false)
    (ring : acctQueue s p.sel = none) :
    ∃ t, execAcct slot 0 s = .next t ∧ getP t slot.toNat = some (onward p) ∧
      getC t p.sel = { getC s p.sel with energy := ⟨s.gtc, false, false⟩ } ∧ (∀ c, c ≠ p.sel → getC t c = getC s c) ∧
      t = { s with progs := t.progs, ctxs := t.ctxs, freeCtr := t.freeCtr } := by
  refine ⟨_, ?_, getP_putP_same (energyRecord s p.sel true false) _ _, ?_⟩
  · unfold execAcct
    rw [if_neg (by decide), if_pos rfl, onCtx_issues h sel free use, run, if_neg (by decide), retire_next _ _ next]
  · rw [energyRecord_noRing ring]
    exact ⟨getC_putC_same _ _ _, fun c ne => getC_putC_ne s ne _, rfl⟩

/-- ACCT of every running context. -/
theorem execAcct_all {s : State} {slot : BitVec 6} {p : Prog} (h : issues s slot p) (next : hasNext p) (priv : 1 ≤ p.priv)
    (ring : ∀ c, acctQueue s c = none) :
    ∃ t, execAcct slot 1 s = .next t ∧ getP t slot.toNat = some (onward p) ∧
      (∀ c ∈ liveCtxs s, getC t c = { getC s c with energy := ⟨s.gtc, false, false⟩ }) ∧
      (∀ c, c ∉ liveCtxs s → getC t c = getC s c) ∧ t = { s with progs := t.progs, ctxs := t.ctxs, freeCtr := t.freeCtr } := by
  obtain ⟨frame, inside, outside⟩ := energyRecords_noRing (liveCtxs s) s ring
  refine ⟨_, ?_, getP_putP_same ((liveCtxs s).foldl (fun s c => energyRecord s c true false) s) _ _, inside, outside, ?_⟩
  · unfold execAcct
    rw [if_pos rfl, onPriv_issues h priv, retire_next _ _ next]
  · generalize (liveCtxs s).foldl (fun s c => energyRecord s c true false) s = t at *
    rw [frame]
    rfl

/-- TSNAP with its operand in memory that takes it writes the readings and retires (R264). -/
theorem execTsnap_written {s t : State} {slot : BitVec 6} {p : Prog} (h : issues s slot p) (priv : 1 ≤ p.priv) {ra : BitVec 5}
    (ok : progWrite s p (p.reg ra) (tsnapBytes s) 4 = .ok t) : execTsnap slot ra s = .next (retire t slot p) := by
  unfold execTsnap
  rw [onPriv_issues h priv, ok]

/-- TSNAP with an operand that memory does not take ends its program. -/
theorem execTsnap_fault {s : State} {slot : BitVec 6} {p : Prog} (h : issues s slot p) (priv : 1 ≤ p.priv) {ra : BitVec 5} {st : Nat}
    (bad : progWrite s p (p.reg ra) (tsnapBytes s) 4 = .error st) : execTsnap slot ra s = .next (ended s slot p st) := by
  unfold execTsnap
  rw [onPriv_issues h priv, bad]
  rfl

end Sys2Proof.Machine
end

section
/-! ### Clusters: their states and domains -/
namespace Sys2Proof

/-- A read of a table finds a listed entry where the number is listed. -/
theorem Tbl.get_listed {α : Type} (d : α) {t : Tbl α} {e : Nat × α} (h : e ∈ t) : (e.1, Tbl.get d t e.1) ∈ t := by
  induction t with
  | nil => cases h
  | cons f t ih =>
    obtain ⟨k, v⟩ := f
    by_cases hk : e.1 = k
    · simp [Tbl.get, hk]
    · have tail : e ∈ t := (List.mem_cons.1 h).resolve_left fun eq => hk (congrArg Prod.fst eq)
      simp only [Tbl.get, if_neg hk]
      exact List.mem_cons_of_mem _ (ih tail)

namespace Machine

/-- A cluster that hosts no slot moves none when it leaves service. -/
theorem remapFrom_none {s : State} {n : Nat} (free : ∀ e ∈ s.slots, e.2.host ≠ n) : remapFrom s n = s := by
  unfold remapFrom
  refine List.foldlRecOn (motive := fun t => t = s) _ _ rfl fun t ht e he => ?_
  have other : (getS s e.1).host ≠ n := free _ (Tbl.get_listed Slot.idle he)
  subst ht
  dsimp only
  rw [if_neg fun h => other h.1]

/-- Moving the slots of a cluster changes slots, the Shuttles' queues and the tiles under check alone. -/
theorem remapFrom_frame (s : State) (n : Nat) :
    remapFrom s n = { s with slots := (remapFrom s n).slots, shut := (remapFrom s n).shut, chk := (remapFrom s n).chk } := by
  unfold remapFrom
  refine List.foldlRecOn (motive := fun t : State => t = { s with slots := t.slots, shut := t.shut, chk := t.chk }) _ _ rfl
    fun t ht e _ => ?_
  dsimp only
  split
  · split
    · unfold rerunOn updS
      rw [ht]
      rfl
    · rw [ht]
      rfl
  · exact ht

/-- A write of a cluster's state changes hardened settings, Burling's progress and the standby's journal alone. -/
theorem writeClState_frame (s : State) {n : Nat} (lt : n < 512) (v : Word64) :
    writeClState s n v = { s with sets := { s.sets with hard := (writeClState s n v).sets.hard }, brl := (writeClState s n v).brl,
                                  trd := (writeClState s n v).trd } := by
  have hd : isHd 7 (0x400 + n) = true := by simp [isHd, setRow_clState lt]
  obtain ⟨hard, put⟩ := putLive_hd (settleDebt s n) hd 0 v (setGen (settleDebt s n) 7 (0x400 + n) 0)
  have eq : writeClState s n v = jot (putLive (settleDebt s n) 7 (0x400 + n) 0 v (setGen (settleDebt s n) 7 (0x400 + n) 0)) := rfl
  rw [eq, jot_frame, put]
  rfl

/-- The word just written is the cluster's. -/
theorem clState_writeClState_same (s : State) {n : Nat} (lt : n < 512) (v : Word64) : clState (writeClState s n v) n = v.toNat % 4 := by
  have live := liveVal_putLive_clState (settleDebt s n) lt v (setGen (settleDebt s n) 7 (0x400 + n) 0)
  have eq : writeClState s n v = jot (putLive (settleDebt s n) 7 (0x400 + n) 0 v (setGen (settleDebt s n) 7 (0x400 + n) 0)) := rfl
  rw [eq, jot_frame]
  exact congrArg (fun w : Word64 => w.toNat % 4) live

/-- The state of a cluster is that of the copies of its setting. -/
theorem clState_congr {s t : State} {k : Nat} (lt : k < 512) (h : hdCell t 7 (0x400 + k) = hdCell s 7 (0x400 + k)) :
    clState t k = clState s k := by
  have hd : isHd 7 (0x400 + k) = true := by simp [isHd, setRow_clState lt]
  unfold clState liveVal
  rw [if_pos hd, if_pos hd, h]

/-- The state of every other cluster stays. -/
theorem clState_writeClState_ne (s : State) {n k : Nat} (lt : n < 512) (ltk : k < 512) (ne : k ≠ n) (v : Word64) :
    clState (writeClState s n v) k = clState s k := by
  have eq : writeClState s n v = jot (putLive (settleDebt s n) 7 (0x400 + n) 0 v (setGen (settleDebt s n) 7 (0x400 + n) 0)) := rfl
  have place : setPlace 7 (0x400 + k) 0 ≠ setPlace 7 (0x400 + n) 0 := by unfold setPlace; omega
  have hd : isHd 7 (0x400 + n) = true := by simp [isHd, setRow_clState lt]
  rw [eq, jot_frame]
  refine clState_congr ltk ?_
  unfold hdCell putLive
  rw [if_pos hd]
  exact Tbl.get_put_ne _ _ place _

/-- Switching a cluster OFF changes domains alone. -/
theorem clusterOff_frame (s : State) (n : Nat) :
    clusterOff s n = { s with pwr := { s.pwr with domains := (clusterOff s n).pwr.domains } } := by
  unfold clusterOff putDom
  dsimp only
  split <;> split <;> rfl

/-- Switching a cluster OFF: its domain and its array's are OFF, but for FAILED ones, and every other domain is as it was. -/
theorem domState_clusterOff (s : State) (n d : Nat) :
    domState (clusterOff s n) d = if domState s d ≠ 3 ∧ (d = n ∨ d = 512 + n) then 0 else domState s d := by
  have put : ∀ (x : State) (m e : Nat),
      domState (if domState x m = 3 then x else putDom x m 0) e = if domState x e ≠ 3 ∧ e = m then 0 else domState x e := by
    intro x m e
    by_cases em : e = m
    · subst em
      by_cases f : domState x e = 3 <;> simp [f]
    · by_cases f : domState x m = 3 <;> simp [f, em, domState_putDom_ne x em]
  unfold clusterOff
  dsimp only
  rw [put, put]
  by_cases a : d = n
  · subst a
    by_cases f : domState s d = 3 <;> simp [f]
  · by_cases b : d = 512 + n <;> simp [a, b]

end Machine
end Sys2Proof
end

section
/-! ### CSTATE (07 R265, R272, 14 R497, R501) -/
namespace Sys2Proof.Machine

/-- A number dropped from a list is not in it. -/
theorem not_mem_dropNat (l : List Nat) (n : Nat) : n ∉ dropNat l n := by simp [dropNat]

/-- In `x` cluster `n` of `s` is in state `st`, with its domains, its exclusion and the queue of deep runs to match; the ordinary
settings, memory, contexts, slots, records and errors are those of `s`. -/
def clusterTaken (s x : State) (n st : Nat) : Prop :=
  x = { s with sets := { s.sets with hard := x.sets.hard }, brl := x.brl, trd := x.trd, pwr := x.pwr, bist := x.bist, deepQ := x.deepQ,
               history := x.history } ∧
  clState x n = st ∧ n ∉ x.deepQ ∧ (st < 2 → domState x n = 1 ∧ domState x (512 + n) = 1) ∧
  (st = 3 → n ∈ x.bist.excluded ∧ domState x n ≠ 1)

/-- The histories of clusters do not matter to it. -/
theorem clusterTaken_of_updHist {s x : State} {m n st : Nat} {f : ClHistory → ClHistory} (h : clusterTaken (updHist s m f) x n st) :
    clusterTaken s x n st := h

/-- The word of a cluster's state carries the state in its two lowest bits. -/
theorem stateWord (c r : Nat) {st : Nat} (lt : st < 4) : (w64 (c * 0x1000000 + r * 0x10000 + st)).toNat % 4 = st := by
  simp only [w64, BitVec.toNat_ofNat]
  omega

/-- What coppicing changes. -/
theorem coppiced_taken (s : State) {n : Nat} (lt : n < 512) (cause : Nat) : clusterTaken s (coppiced s n cause) n 3 := by
  have cl := clState_writeClState_same s lt (w64 (cause * 0x1000000 + bitsOf (liveVal s 7 (0x400 + n) 0).toNat 23 16 * 0x10000 + 3))
  rw [stateWord _ _ (by decide)] at cl
  have frame := writeClState_frame s lt (w64 (cause * 0x1000000 + bitsOf (liveVal s 7 (0x400 + n) 0).toNat 23 16 * 0x10000 + 3))
  unfold coppiced
  generalize writeClState s n (w64 (cause * 0x1000000 + bitsOf (liveVal s 7 (0x400 + n) 0).toNat 23 16 * 0x10000 + 3)) = y at *
  have off := clusterOff_frame y n
  have dom := domState_clusterOff y n n
  generalize clusterOff y n = z at *
  refine ⟨?_, ?_, not_mem_dropNat _ _, nofun, fun _ => ⟨(mem_insertNat _ _ _).2 (.inl rfl), ?_⟩⟩
  · dsimp only
    rw [off, frame]
  · rw [off]
    exact cl
  · show domState z n ≠ 1
    rw [dom]
    by_cases f : domState y n = 3 <;> simp [f]

/-- Coppicing a cluster that hosts no slot records the change, and no lack of headroom but at 16 excluded clusters. -/
theorem coppice_taken {s : State} {n : Nat} (lt : n < 512) (free : ∀ e ∈ s.slots, e.2.host ≠ n) (ring : ringOff s)
    (room : (insertNat s.bist.excluded n).length ≠ 16) (cause : Nat) :
    ∃ x pl, coppice s n cause = record x 0x5030 0 0x02 n pl ∧ clusterTaken s x n 3 := by
  have taken := coppiced_taken s lt cause
  have excluded : (coppiced s n cause).bist.excluded = insertNat s.bist.excluded n := by
    unfold coppiced bootCoppiced
    dsimp only
    rw [clusterOff_frame, writeClState_frame s lt]
  refine ⟨coppiced s n cause, brlPay (coppiced s n cause) n 0xFFFF 0 0 0 0 0, ?_, taken⟩
  rw [coppice_eq]
  generalize coppiced s n cause = x at *
  obtain ⟨frame, _⟩ := taken
  have ring' : ringOff x := ringOff_congr ring (by rw [frame]) (by rw [frame])
  rw [remapFrom_none (s := x) (by rw [frame]; exact free)]
  refine if_neg ?_
  rw [recordsOnly_keeps (record_recordsOnly ring' _ _ _ _ _) (fun t => t.bist.excluded) fun _ _ _ => rfl, excluded]
  exact room

/-- Withdrawing a cluster that hosts no slot. -/
theorem outOfService_taken {s : State} {n : Nat} (lt : n < 512) (free : ∀ e ∈ s.slots, e.2.host ≠ n) :
    ∃ x pl, outOfService s n = record x 0x5030 0 0x02 n pl ∧ clusterTaken s x n 2 := by
  have frame := writeClState_frame { s with deepQ := dropNat s.deepQ n } lt
    (w64 (8 * 0x1000000 + bitsOf (liveVal s 7 (0x400 + n) 0).toNat 23 16 * 0x10000 + 2))
  have cl := clState_writeClState_same { s with deepQ := dropNat s.deepQ n } lt
    (w64 (8 * 0x1000000 + bitsOf (liveVal s 7 (0x400 + n) 0).toNat 23 16 * 0x10000 + 2))
  rw [stateWord _ _ (by decide)] at cl
  unfold outOfService
  dsimp only
  generalize writeClState { s with deepQ := dropNat s.deepQ n } n
    (w64 (8 * 0x1000000 + bitsOf (liveVal s 7 (0x400 + n) 0).toNat 23 16 * 0x10000 + 2)) = x at *
  refine ⟨x, _, by rw [remapFrom_none (s := x) (by rw [frame]; exact free)], by rw [frame], cl, ?_, nofun, nofun⟩
  rw [frame]
  exact not_mem_dropNat _ _

/-- Returning a cluster to service, ACTIVE or SUSPECT. -/
theorem intoService_taken (s : State) {n st : Nat} (lt : n < 512) (lts : st < 2) :
    ∃ x pl, intoService s n st = record x 0x5030 0 0x02 n pl ∧ clusterTaken s x n st := by
  refine ⟨_, _, rfl, ?_⟩
  generalize (if st = 0 then Nat.min 255 (bitsOf (liveVal s 7 (0x400 + n) 0).toNat 23 16 + 1)
    else bitsOf (liveVal s 7 (0x400 + n) 0).toNat 23 16) = r
  have frame := writeClState_frame s lt (w64 (8 * 0x1000000 + r * 0x10000 + st))
  have cl := clState_writeClState_same s lt (w64 (8 * 0x1000000 + r * 0x10000 + st))
  rw [stateWord _ _ (by omega)] at cl
  generalize writeClState s n (w64 (8 * 0x1000000 + r * 0x10000 + st)) = y at *
  refine ⟨?_, cl, not_mem_dropNat _ _, fun _ => ⟨domState_putDom_same _ _ _, ?_⟩, fun h => absurd h (by omega)⟩
  · unfold updB putDom
    dsimp only
    rw [frame]
  · exact (domState_putDom_ne _ (by omega) _).trans (domState_putDom_same _ _ _)

/-- CSTATE to a new state, with the test passed where the state asks for one: one record, and result 0. -/
theorem setCluster_taken {s : State} {n st : Nat} {test : Bool} (lt : n < 512) (lts : st < 4) (free : ∀ e ∈ s.slots, e.2.host ≠ n)
    (ring : ringOff s) (room : (insertNat s.bist.excluded n).length ≠ 16) (new : clState s n ≠ st)
    (pass : st < 2 → test = true ∧ neverOn s n = false) :
    ∃ x pl, setCluster s n st test = (0, record x 0x5030 0 0x02 n pl) ∧ clusterTaken s x n st := by
  let u := updHist s n fun h => { h with returns := [] }
  have step : setCluster s n st test = if st = 3 then (0, coppice u n 8) else if st = 2 then (0, outOfService u n) else (0, intoService u n st) := by
    unfold setCluster
    have same : clState u n ≠ st := new
    dsimp only
    rw [if_neg same]
    split
    · rfl
    · split
      · rfl
      · obtain ⟨ok, on⟩ := pass (by omega)
        have on' : neverOn u n = false := on
        rw [if_neg (by simp [on', u]), if_neg (by simp [ok])]
  rw [step]
  by_cases three : st = 3
  · obtain ⟨x, pl, eq, taken⟩ := coppice_taken (s := u) lt free ring room 8
    exact ⟨x, pl, by rw [if_pos three, eq], three ▸ clusterTaken_of_updHist taken⟩
  · by_cases two : st = 2
    · obtain ⟨x, pl, eq, taken⟩ := outOfService_taken (s := u) lt free
      exact ⟨x, pl, by rw [if_neg three, if_pos two, eq], two ▸ clusterTaken_of_updHist taken⟩
    · obtain ⟨x, pl, eq, taken⟩ := intoService_taken u lt (st := st) (by omega)
      exact ⟨x, pl, by rw [if_neg three, if_neg two, eq], clusterTaken_of_updHist taken⟩

/-- CSTATE on a cluster: 1 for a fuse-coppiced one, a wait for a busy one, else the change and its result. -/
theorem execCstate_issues {s : State} {slot : BitVec 6} {p : Prog} (h : issues s slot p) (next : hasNext p) (priv : 2 ≤ p.priv)
    {ra : BitVec 5} (le : (p.reg ra).toNat ≤ 511) (rd : BitVec 5) {imm : Word32} (leI : imm.toNat ≤ 3) (test : Bool) :
    execCstate slot rd ra imm test s = .next (
      let n := (p.reg ra).toNat
      if s.fuses.coppice.contains n = true then retired s slot p rd 1
      else if clBusy s n = true then s
      else retired (setCluster s n imm.toNat test).2 slot p rd (w64 (setCluster s n imm.toNat test).1)) := by
  unfold execCstate
  rw [onPriv_issues h priv]
  dsimp only
  rw [if_neg (by omega)]
  simp only [retireRd_next _ slot next]
  rfl

/-- CSTATE to a new state takes the cluster there and records it. -/
theorem execCstate_taken {s : State} {slot : BitVec 6} {p : Prog} (h : issues s slot p) (next : hasNext p) (priv : 2 ≤ p.priv)
    {ra : BitVec 5} (le : (p.reg ra).toNat ≤ 511) (rd : BitVec 5) {imm : Word32} (leI : imm.toNat ≤ 3) {test : Bool}
    (unfused : s.fuses.coppice.contains (p.reg ra).toNat = false) (idle : clBusy s (p.reg ra).toNat = false)
    (free : ∀ e ∈ s.slots, e.2.host ≠ (p.reg ra).toNat) (ring : ringOff s) (o : ringOpen s) (new : clState s (p.reg ra).toNat ≠ imm.toNat)
    (room : (insertNat s.bist.excluded (p.reg ra).toNat).length ≠ 16)
    (pass : imm.toNat < 2 → test = true ∧ neverOn s (p.reg ra).toNat = false) :
    let n := (p.reg ra).toNat
    ∃ t, execCstate slot rd ra imm test s = .next t ∧ getP t slot.toNat = some (onward (wrote p rd 0)) ∧
      clState t n = imm.toNat ∧ lastRecord t 0x5030 0 0x02 n ∧ n ∉ t.deepQ ∧
      (imm.toNat < 2 → domState t n = 1 ∧ domState t (512 + n) = 1) ∧
      (imm.toNat = 3 → n ∈ t.bist.excluded ∧ domState t n ≠ 1) ∧ t.mem = s.mem ∧ t.ctxs = s.ctxs := by
  intro n
  obtain ⟨x, pl, eq, frame, cl, deep, on, out⟩ := setCluster_taken (n := n) (by omega) (by omega) free ring room new pass
  have ring' : ringOff x := ringOff_congr ring (by rw [frame]) (by rw [frame])
  have o' : ringOpen x := by rw [frame]; exact ⟨o.1, o.2⟩
  have mem : x.mem = s.mem := by rw [frame]
  have ctxs : x.ctxs = s.ctxs := by rw [frame]
  have run := execCstate_issues h next priv le rd leI test
  dsimp only at run
  rw [if_neg (by rw [unfused]; decide), if_neg (by rw [idle]; decide), eq] at run
  have only := record_recordsOnly ring' 0x5030 0 0x02 n pl
  have last := record_last ring' o' 0x5030 0 0x02 n pl
  refine ⟨_, run, getP_putP_same _ _ _, ?_⟩
  generalize record x 0x5030 0 0x02 n pl = y at *
  refine ⟨?_, last, ?_, fun lo => ⟨?_, ?_⟩, fun th => ⟨?_, ?_⟩, ?_, ?_⟩
  · exact (recordsOnly_keeps only (clState · n) fun _ _ _ => rfl).trans cl
  · exact (recordsOnly_keeps only State.deepQ fun _ _ _ => rfl) ▸ deep
  · exact (recordsOnly_keeps only (domState · n) fun _ _ _ => rfl).trans (on lo).1
  · exact (recordsOnly_keeps only (domState · (512 + n)) fun _ _ _ => rfl).trans (on lo).2
  · exact (recordsOnly_keeps only State.bist fun _ _ _ => rfl) ▸ (out th).1
  · exact (recordsOnly_keeps only (domState · n) fun _ _ _ => rfl) ▸ (out th).2
  · exact (recordsOnly_keeps only State.mem fun _ _ _ => rfl).trans mem
  · exact (recordsOnly_keeps only State.ctxs fun _ _ _ => rfl).trans ctxs

end Sys2Proof.Machine
end

section
/-! ### Burling, log and message instructions (07 R265, R267, R268, 14 R475 to R478, R498) -/
namespace Sys2Proof.Machine

/-- An instruction goes on with a memory operand that can be read. -/
theorem withOper_read {s s' : State} {slot : BitVec 6} {p : Prog} {addr : Word64} {n align : Nat} {env : Env} {b : List Byte}
    (ok : progRead s p addr n align env = (.ok b, s')) (f : List Byte → State → State) :
    withOper s slot p addr n align env f = f b s' := by
  unfold withOper
  rw [ok]

/-- The program waits for the verification of the staging half. -/
def awaitsVerify (s : State) (slot : BitVec 6) (p : Prog) (rd : BitVec 5) : State :=
  putP { s with brl := { s.brl with verify := some slot.toNat, stageUe := false } } slot.toNat { p with wait := .verify rd.toNat }

/-- BINST while no verification is in progress. -/
theorem execBinst_issues {s : State} {slot : BitVec 6} {p : Prog} (h : issues s slot p) (priv : 2 ≤ p.priv) (idle : s.brl.verify = none)
    (rd ra rb : BitVec 5) (env : Env) :
    execBinst slot rd ra rb env s = .next (
      let n := (p.reg rb).toNat
      if n = 0 then awaitsVerify s slot p rd
      else if 4194304 < n then
        retireRd (record { s with chn := { s.chn with pushId := none, chunks := [] } } 0x5011 2 0x0B (trdIdx s) (packPay s [] 2)) slot p rd 2
      else withOper s slot p (p.reg ra) n 8 env fun b s =>
        awaitsVerify { s with chn := { s.chn with pushId := none, chunks := [] }, brl := { s.brl with staging := b } } slot p rd) := by
  unfold execBinst
  rw [onPriv_issues h priv]
  dsimp only
  rw [idle, if_neg (by decide)]
  rfl

/-- A pack too long for the staging half is refused, and a push in progress with it (R475, R477). -/
theorem execBinst_refused {s : State} {slot : BitVec 6} {p : Prog} (h : issues s slot p) (next : hasNext p) (priv : 2 ≤ p.priv)
    (idle : s.brl.verify = none) (rd ra : BitVec 5) {rb : BitVec 5} (env : Env) (long : 4194304 < (p.reg rb).toNat) (ring : ringOff s)
    (o : ringOpen s) :
    ∃ t, execBinst slot rd ra rb env s = .next t ∧ getP t slot.toNat = some (onward (wrote p rd 2)) ∧
      lastRecord t 0x5011 2 0x0B (trdIdx s) ∧ t.brl = s.brl ∧ t.chn.pushId = none := by
  have ring' : ringOff { s with chn := { s.chn with pushId := none, chunks := [] } } := ring
  have only := record_recordsOnly ring' 0x5011 2 0x0B (trdIdx s) (packPay s [] 2)
  have last := record_last ring' (by exact o) 0x5011 2 0x0B (trdIdx s) (packPay s [] 2)
  have chn := congrArg (fun t => t.chn.pushId) (record_frame ring' 0x5011 2 0x0B (trdIdx s) (packPay s [] 2))
  have run := execBinst_issues h priv idle rd ra rb env
  dsimp only at run
  rw [if_neg (by omega), if_pos long, retireRd_next _ slot next] at run
  generalize record { s with chn := { s.chn with pushId := none, chunks := [] } } 0x5011 2 0x0B (trdIdx s) (packPay s [] 2) = t at *
  exact ⟨_, run, getP_putP_same _ _ _, last, recordsOnly_keeps only State.brl fun _ _ _ => rfl, chn⟩

/-- BKEY selects a key slot that is not blank, and is MALFORMED for another. -/
theorem execBkey_issues {s : State} {slot : BitVec 6} {p : Prog} (h : issues s slot p) (next : hasNext p) (priv : 2 ≤ p.priv) (imm : Word32) :
    execBkey slot imm s = .next (if 3 < imm.toNat ∨ keyBlank s imm.toNat = true then ended s slot p 0x0002
      else putP { s with trd := { s.trd with bkey := imm.toNat } } slot.toNat (onward p)) := by
  unfold execBkey
  rw [onPriv_issues h priv, retire_next _ _ next]
  rfl

/-- BDEEP of a cluster. -/
theorem execBdeep_issues {s : State} {slot : BitVec 6} {p : Prog} (h : issues s slot p) (next : hasNext p) (priv : 2 ≤ p.priv)
    (rd : BitVec 5) {ra : BitVec 5} (le : (p.reg ra).toNat ≤ 511) :
    execBdeep slot rd ra s = .next (
      let n := (p.reg ra).toNat
      if clState s n ≠ 2 then retired s slot p rd 1
      else retired (jot { s with deepQ := if n ∈ s.deepQ then s.deepQ else s.deepQ ++ [n] }) slot p rd 0) := by
  unfold execBdeep
  rw [onPriv_issues h priv]
  dsimp only
  rw [if_neg (by omega)]
  simp only [retireRd_next _ slot next, List.contains_iff_mem]
  rfl

/-- LOG of an event outside the programs' codes or severities is MALFORMED (R267). -/
theorem execLog_malformed {s : State} {slot : BitVec 6} {p : Prog} (h : issues s slot p) {ra : BitVec 5} (rb : BitVec 5) {imm : Word32}
    (env : Env) (bad : (p.reg ra).toNat % 65536 < 0xC800 ∨ 0xCFFF < (p.reg ra).toNat % 65536 ∨ 5 < imm.toNat) :
    execLog slot ra rb imm env s = .next (ended s slot p 0x0002) := by
  unfold execLog
  rw [onProg_issues h]
  dsimp only
  rw [if_pos bad]
  rfl

/-- LOG of a program's event records it under the program's queue (R267). -/
theorem execLog_recorded {s s' : State} {slot : BitVec 6} {p : Prog} (h : issues s slot p) (next : hasNext p) {ra rb : BitVec 5}
    {imm : Word32} {env : Env} {b : List Byte} (lo : 0xC800 ≤ (p.reg ra).toNat % 65536) (hi : (p.reg ra).toNat % 65536 ≤ 0xCFFF)
    (sev : imm.toNat ≤ 5) (ok : progRead s p (p.reg rb) 32 8 env = (.ok b, s')) (ring : ringOff s') (o : ringOpen s') :
    ∃ t, execLog slot ra rb imm env s = .next t ∧ getP t slot.toNat = some (onward p) ∧
      lastRecord t ((p.reg ra).toNat % 65536) imm.toNat 0x11 p.queue ∧ t.mem = s'.mem ∧ t.ctxs = s'.ctxs ∧ t.sets = s'.sets ∧
      t.queues = s'.queues := by
  have run : ∃ pl, execLog slot ra rb imm env s =
      .next (putP (record s' ((p.reg ra).toNat % 65536) imm.toNat 0x11 p.queue pl) slot.toNat (onward p)) := by
    unfold execLog
    rw [onProg_issues h]
    dsimp only
    rw [if_neg (by omega), withOper_read ok, retire_next _ _ next]
    exact ⟨_, rfl⟩
  obtain ⟨pl, run⟩ := run
  have only := record_recordsOnly ring ((p.reg ra).toNat % 65536) imm.toNat 0x11 p.queue pl
  have last := record_last ring o ((p.reg ra).toNat % 65536) imm.toNat 0x11 p.queue pl
  generalize record s' ((p.reg ra).toNat % 65536) imm.toNat 0x11 p.queue pl = t at *
  refine ⟨_, run, getP_putP_same _ _ _, last, ?_, ?_, ?_, ?_⟩
  · exact recordsOnly_keeps only State.mem fun _ _ _ => rfl
  · exact recordsOnly_keeps only State.ctxs fun _ _ _ => rfl
  · exact recordsOnly_keeps only State.sets fun _ _ _ => rfl
  · exact recordsOnly_keeps only State.queues fun _ _ _ => rfl

/-- SEND of a message of a wrong length is MALFORMED (R268). -/
theorem execSend_malformed {s : State} {slot : BitVec 6} {p : Prog} (h : issues s slot p) (priv : 1 ≤ p.priv) (rd ra : BitVec 5)
    {rb : BitVec 5} (env : Env) (bad : (p.reg rb).toNat < 1 ∨ 64 < (p.reg rb).toNat) :
    execSend slot rd ra rb env s = .next (ended s slot p 0x0002) := by
  unfold execSend
  rw [onPriv_issues h priv]
  dsimp only
  rw [if_pos bad]
  rfl

/-- SEND of a message that can be read (R268). -/
theorem execSend_read {s s' : State} {slot : BitVec 6} {p : Prog} (h : issues s slot p) (next : hasNext p) (priv : 1 ≤ p.priv)
    (rd : BitVec 5) {ra rb : BitVec 5} {env : Env} {b : List Byte} (lo : 1 ≤ (p.reg rb).toNat) (hi : (p.reg rb).toNat ≤ 64)
    (ok : progRead s p (p.reg ra) (p.reg rb).toNat 1 env = (.ok b, s')) :
    execSend slot rd ra rb env s = .next (
      if 16 ≤ s'.chn.txq.length then retired s' slot p rd 1
      else if (s'.chn.selfM || s'.chn.cmdM || s'.chn.clash) = true then retired s' slot p rd 2
      else retired { s' with chn := { s'.chn with txq := s'.chn.txq ++ [(s'.chn.frames, b)] } } slot p rd 0) := by
  unfold execSend
  rw [onPriv_issues h priv]
  dsimp only
  rw [if_neg (by omega), withOper_read ok]
  simp only [retireRd_next _ slot next]
  rfl

/-- Settles O21: one lemma per instruction, CSTATE through `setCluster_taken`. -/
theorem deviceInstructionsTakeEffect : Obligations.DeviceInstructionsTakeEffect := by
  unfold Obligations.DeviceInstructionsTakeEffect
  refine ⟨fun s slot rd ra imm p h next priv => ?_, fun s slot ra p h next => ⟨?_, ?_, fun priv => ⟨?_, ?_⟩⟩,
    fun s s' slot rd ra rb imm env b p h next priv => ?_, fun s slot rd ra imm test p h next priv => ?_,
    fun s s' slot rd ra rb imm env b p h next => ?_⟩
  · have run := execPwrdom_issues h next priv rd ra imm
    dsimp only at run
    rw [exec_pwrdom, run]
    refine ⟨fun no => ?_, fun ok failed => ?_, fun ok failed there => ?_, fun ok failed there bad => ?_, fun ok failed there bad => ?_⟩
    · rw [if_pos no]
    · rw [if_neg (by simp [ok]), if_pos failed]
    · rw [if_neg (by simp [ok]), if_neg failed, if_pos there]
    · rw [if_neg (by simp [ok]), if_neg failed, if_neg there, if_pos bad]
    · rw [if_neg (by simp [ok]), if_neg failed, if_neg there, if_neg bad]
  · exact fun sel free use live ring => execAcct_selected h next sel free use live ring
  · exact fun priv ring => execAcct_all h next priv ring
  · exact fun s' ok => execTsnap_written h priv ok
  · exact fun st bad => execTsnap_fault h priv bad
  · refine ⟨fun idle => ⟨fun zero => ?_, fun n0 le ok => ?_, fun long ring o => ?_⟩, fun le key => ?_, fun bad => ?_, fun le => ⟨fun no => ?_,
      fun quarantined => ?_⟩⟩
    · have run := execBinst_issues h priv idle rd ra rb env
      dsimp only at run
      rw [exec_binst, run, if_pos zero]
      rfl
    · have run := execBinst_issues h priv idle rd ra rb env
      dsimp only at run
      rw [exec_binst, run, if_neg n0, if_neg (by omega), withOper_read ok]
      rfl
    · exact execBinst_refused h next priv idle rd ra env long ring o
    · rw [exec_bkey, execBkey_issues h next priv, if_neg (by rw [key]; rintro (lt | no); exacts [by omega, nomatch no])]
    · rw [exec_bkey, execBkey_issues h next priv, if_pos bad]
    · exact (execBdeep_issues h next priv rd le).trans (congrArg _ (if_pos no))
    · refine ⟨_, (execBdeep_issues h next priv rd le).trans (congrArg _ (if_neg (not_not.2 quarantined))), getP_putP_same _ _ _, ?_, ?_⟩
      · rw [jot_frame]; rfl
      · rw [jot_frame]; rfl
  · intro n le leI
    refine ⟨fun fused => ?_, fun unfused busy => ?_, fun unfused idle free ring o new room pass =>
      execCstate_taken h next priv le rd leI unfused idle free ring o new room pass⟩
    · have run := execCstate_issues h next priv le rd leI test
      dsimp only at run
      rw [exec_cstate, run, if_pos fused]
    · have run := execCstate_issues h next priv le rd leI test
      dsimp only at run
      rw [exec_cstate, run, if_neg (by rw [unfused]; decide), if_pos busy]
  · refine ⟨fun bad => execLog_malformed h rb env bad, fun lo hi sev ok ring o => execLog_recorded h next lo hi sev ok ring o,
      fun priv bad => execSend_malformed h priv rd ra env bad, fun priv lo hi ok => ?_⟩
    rw [exec_send, execSend_read h next priv rd lo hi ok]
    refine ⟨fun full => ?_, fun room muted => ?_, fun room open' => ?_⟩
    · rw [if_pos full]
    · rw [if_neg (by omega), if_pos muted]
    · rw [if_neg (by omega), if_neg (by rw [open']; decide)]

end Sys2Proof.Machine
end

section
/-! ### Power warnings (03 R100, R102, R119, R122, Table 3.8) -/
namespace Sys2Proof.Machine

/-- The two oldest records of the highest severity in the ring. -/
def oldestSevere (s : State) : List Rec :=
  ((s.rcd.ring.filter (fun r => r.body.sev == s.rcd.ring.foldl (fun m r => Nat.max m r.body.sev) 0)).take 2).map (·.body)

/-- State `t` is `s` with the warning of a code in force (03 Table 3.8). -/
def warningHeld (s t : State) (code : Nat) : Prop :=
  t.pwr.warn = true ∧ lastRecord t code 2 0x00 0xFFFF ∧ (∀ a, (Tbl.get Axis.init t.axes a).cmd = false) ∧
  (∃ r, t.rcd.warnDrain = r :: oldestSevere s ∧ r.code = code) ∧ t.rcd.ctrStored = powerOnSec s ∧ t.phase = s.phase ∧ t.mem = s.mem ∧
  t.ctxs = s.ctxs ∧ t.sets = s.sets

/-- The response to a warning while no freeze holds. -/
theorem warnResponse_eq {s : State} (thaw : s.rcd.frozen = false) (code : Nat) :
    ∃ pl, warnResponse s code =
      (let y := record s code 2 0x00 0xFFFF pl
       storeCounter (closeAxes { y with
         pwr := { y.pwr with warn := true },
         rcd := { y.rcd with warnDrain := (y.rcd.ring.drop s.rcd.ring.length).map (·.body) ++ oldestSevere s } })) := by
  have frz : endFreeze s = s := by simp [endFreeze, thaw]
  unfold warnResponse
  rw [frz]
  dsimp only
  rw [List.map_append]
  exact ⟨_, rfl⟩

/-- The response to a warning: what it brings about, and what else it may change. -/
theorem warnResponse_spec {s : State} (ring : ringOff s) (o : ringOpen s) (code : Nat) :
    let t := warnResponse s code
    warningHeld s t code ∧ t.smb = s.smb ∧ t.esp = s.esp := by
  obtain ⟨pl, eq⟩ := warnResponse_eq o.1 code
  have only := record_recordsOnly ring code 2 0x00 0xFFFF pl
  have last := record_last ring o code 2 0x00 0xFFFF pl
  have rcd := record_rcd ring o code 2 0x00 0xFFFF pl
  have new : (recOf s code 2 0x00 0xFFFF pl).code = code := rfl
  rw [eq]
  generalize recOf s code 2 0x00 0xFFFF pl = r at *
  generalize record s code 2 0x00 0xFFFF pl = y at *
  have own : y.rcd.ring.drop s.rcd.ring.length = [⟨r, false⟩] := by rw [rcd]; exact List.drop_left
  refine ⟨⟨rfl, last, closeAxes_cmd _, ⟨r, ?_, new⟩, ?_, ?_, ?_, ?_, ?_⟩, ?_, ?_⟩
  · simp only [storeCounter, closeAxes, own, List.map_cons, List.map_nil, List.singleton_append]
  · show y.rcd.posBase + y.aon / 1000000000 = s.rcd.posBase + s.aon / 1000000000
    rw [rcd, recordsOnly_keeps only State.aon fun _ _ _ => rfl]
  · exact recordsOnly_keeps only State.phase fun _ _ _ => rfl
  · exact recordsOnly_keeps only State.mem fun _ _ _ => rfl
  · exact recordsOnly_keeps only State.ctxs fun _ _ _ => rfl
  · exact recordsOnly_keeps only State.sets fun _ _ _ => rfl
  · exact recordsOnly_keeps only State.smb fun _ _ _ => rfl
  · exact recordsOnly_keeps only State.esp fun _ _ _ => rfl

/-- An unbound Espalier publishes nothing on a warning. -/
theorem warned_unbound {s t : State} (free : t.esp.bound = none) : warned s t = t := by
  have : forceWarn t = t := by simp [forceWarn, free]
  simp [warned, this]

/-- The phases in which the response of Table 3.8 begins at its second row. -/
def warnPhase (p : Phase) : Prop := p ∈ [Phase.run, .reset, .stay, .oosHold, .pcHeld, .scan]

theorem warnPhase_cases {p : Phase} (h : warnPhase p) : p = .run ∨ p = .reset ∨ p = .stay ∨ p = .oosHold ∨ p = .pcHeld ∨ p = .scan := by
  simpa [warnPhase] using h

/-- PWR_WARN with the device powered. -/
theorem pwrWarn_response {s : State} (clear : s.pwr.warn = false) (main : warnPhase s.phase) : pwrWarn s = warnResponse s 0x1010 := by
  unfold pwrWarn
  rcases warnPhase_cases main with h | h | h | h | h | h <;> simp [h, clear]

/-- VIN12_UNDERVOLTAGE is latched for the SMBus while PWR_EN is asserted. -/
theorem latchVin_on {s : State} (en : s.pwr.pwrEn = true) (on : s.phase ≠ .off) :
    latchVin s = { s with smb := { s.smb with vinUv := true, inUv := true } } := by
  unfold latchVin
  rw [if_pos ⟨en, on⟩]

/-- VIN12_UNDERVOLTAGE with the device powered. -/
theorem vin12Undervoltage_response {s : State} (en : s.pwr.pwrEn = true) (clear : s.pwr.warn = false) (main : warnPhase s.phase) :
    vin12Undervoltage s = warnResponse { s with smb := { s.smb with vinUv := true, inUv := true } } 0x1021 := by
  unfold vin12Undervoltage
  rcases warnPhase_cases main with h | h | h | h | h | h <;> simp [latchVin_on en, h, clear]

/-- PWR_WARN, the device powered and Espalier not bound. -/
theorem execPwrWarn_held {s : State} (ring : ringOff s) (o : ringOpen s) (free : s.esp.bound = none) (clear : s.pwr.warn = false)
    (main : warnPhase s.phase) : ∃ t, execPwrWarn s = .next t ∧ warningHeld s t 0x1010 := by
  obtain ⟨held, _, esp⟩ := warnResponse_spec ring o 0x1010
  refine ⟨_, ?_, held⟩
  unfold execPwrWarn
  rw [pwrWarn_response clear main, warned_unbound (by rw [esp]; exact free)]

/-- VIN12_UNDERVOLTAGE, the device powered and Espalier not bound. -/
theorem execVin12Undervoltage_held {s : State} (ring : ringOff s) (o : ringOpen s) (free : s.esp.bound = none) (en : s.pwr.pwrEn = true)
    (clear : s.pwr.warn = false) (main : warnPhase s.phase) :
    ∃ t, execVin12Undervoltage s = .next t ∧ warningHeld s t 0x1021 ∧ t.smb.vinUv = true ∧ t.smb.inUv = true := by
  obtain ⟨held, smb, esp⟩ := warnResponse_spec (s := { s with smb := { s.smb with vinUv := true, inUv := true } }) (ringOff_of ring rfl rfl)
    ⟨o.1, o.2⟩ 0x1021
  refine ⟨_, ?_, held, by rw [smb], by rw [smb]⟩
  unfold execVin12Undervoltage
  rw [vin12Undervoltage_response en clear main, warned_unbound (by rw [esp]; exact free)]

/-- A warning in keep-alive is recorded, and no more (03 R119). -/
theorem execPwrWarn_keepAlive {s : State} (ring : ringOff s) (o : ringOpen s) (free : s.esp.bound = none) (clear : s.pwr.warn = false)
    (low : s.phase = .keepAlive) :
    ∃ t, execPwrWarn s = .next t ∧ recorded { s with pwr := { s.pwr with warn := true } } t 0x1010 2 0x00 0xFFFF := by
  have eq : ∃ pl, pwrWarn s = record { s with pwr := { s.pwr with warn := true } } 0x1010 2 0x00 0xFFFF pl := by
    unfold pwrWarn
    rw [if_neg (by simp [low, clear]), low]
    exact ⟨_, rfl⟩
  obtain ⟨pl, eq⟩ := eq
  have noted := record_recorded (s := { s with pwr := { s.pwr with warn := true } }) (ringOff_of ring rfl rfl) ⟨o.1, o.2⟩ 0x1010 2 0x00 0xFFFF pl
  refine ⟨_, ?_, noted⟩
  unfold execPwrWarn
  rw [eq]
  generalize record { s with pwr := { s.pwr with warn := true } } 0x1010 2 0x00 0xFFFF pl = t at *
  rw [warned_unbound (by rw [noted.2]; exact free)]

/-- A warning in the thermal wait ends the power-up (03 R119). -/
theorem execPwrWarn_thermWait {s : State} (free : s.esp.bound = none) (clear : s.pwr.warn = false) (wait : s.phase = .thermWait) :
    execPwrWarn s = .next { s with phase := .keepAlive, pwr := { s.pwr with warn := true, warnBlock := true } } := by
  have eq : pwrWarn s = { s with phase := .keepAlive, pwr := { s.pwr with warn := true, warnBlock := true } } := by
    unfold pwrWarn
    rw [if_neg (by simp [wait, clear]), wait]
  unfold execPwrWarn
  rw [eq, warned_unbound (by exact free)]

/-- A warning in force, or a device that is off, takes no further one. -/
theorem execPwrWarn_noted {s : State} (noted : s.pwr.warn = true ∨ s.phase = .off) (free : s.esp.bound = none) :
    execPwrWarn s = .next s := by
  unfold execPwrWarn pwrWarn
  rw [if_pos noted.symm, warned_unbound free]

/-- An undervoltage under a warning in force is latched, and no more. -/
theorem execVin12Undervoltage_latched {s : State} (en : s.pwr.pwrEn = true) (on : s.phase ≠ .off) (free : s.esp.bound = none)
    (warn : s.pwr.warn = true) :
    execVin12Undervoltage s = .next { s with smb := { s.smb with vinUv := true, inUv := true } } := by
  unfold execVin12Undervoltage vin12Undervoltage
  rw [latchVin_on en on]
  dsimp only
  rw [if_pos warn, warned_unbound (by exact free)]

/-- A switch that nothing keeps closed is commanded open in a released device (05 R175). -/
theorem openAxis_ready {s : State} {a : Nat} (run : s.phase = .run) (clear : s.pwr.warn = false) (passed : s.bist.failed = [])
    (ok : (Tbl.get Axis.init s.axes a).failed = false ∧ (Tbl.get Axis.init s.axes a).openFail = false ∧
      (Tbl.get Axis.init s.axes a).closeFail = false) :
    openAxis s a = updAxis s a (fun x => { x with cmd := true }) := by
  obtain ⟨failed, op, close⟩ := ok
  unfold openAxis
  simp [run, clear, passed, failed, op, close]

/-- The other axes than the one just changed. -/
theorem axis_updAxis_ne (s : State) {a b : Nat} (h : b ≠ a) (f : Axis → Axis) :
    Tbl.get Axis.init (updAxis s a f).axes b = Tbl.get Axis.init s.axes b := Tbl.get_put_ne _ _ h _

/-- Three switches that nothing keeps closed open together. -/
theorem openAxes_ready {s : State} (run : s.phase = .run) (clear : s.pwr.warn = false) (passed : s.bist.failed = [])
    (ok : ∀ a, a < 3 → (Tbl.get Axis.init s.axes a).failed = false ∧ (Tbl.get Axis.init s.axes a).openFail = false ∧
      (Tbl.get Axis.init s.axes a).closeFail = false) :
    let t := openAxis (openAxis (openAxis s 0) 1) 2
    t = { s with axes := t.axes } ∧ ∀ a, a < 3 → axisState t a = 0 := by
  let f : Axis → Axis := fun x => { x with cmd := true }
  have e0 : openAxis s 0 = updAxis s 0 f := openAxis_ready run clear passed (ok 0 (by decide))
  have e1 : openAxis (updAxis s 0 f) 1 = updAxis (updAxis s 0 f) 1 f := openAxis_ready run clear passed
    (by rw [axis_updAxis_ne s (by decide)]; exact ok 1 (by decide))
  have e2 : openAxis (updAxis (updAxis s 0 f) 1 f) 2 = updAxis (updAxis (updAxis s 0 f) 1 f) 2 f := openAxis_ready run clear passed
    (by rw [axis_updAxis_ne _ (by decide), axis_updAxis_ne s (by decide)]; exact ok 2 (by decide))
  intro t
  have eq : t = updAxis (updAxis (updAxis s 0 f) 1 f) 2 f := by rw [← e2, ← e1, ← e0]
  have axis : ∀ a, a < 3 → Tbl.get Axis.init t.axes a = f (Tbl.get Axis.init s.axes a) := by
    intro a lt
    rw [eq]
    obtain rfl | rfl | rfl : a = 0 ∨ a = 1 ∨ a = 2 := by omega
    · rw [axis_updAxis_ne _ (by decide), axis_updAxis_ne _ (by decide), axis_updAxis]
    · rw [axis_updAxis_ne _ (by decide), axis_updAxis, axis_updAxis_ne _ (by decide)]
    · rw [axis_updAxis, axis_updAxis_ne _ (by decide), axis_updAxis_ne _ (by decide)]
  refine ⟨by rw [eq]; rfl, fun a lt => ?_⟩
  obtain ⟨failed, op, close⟩ := ok a lt
  rw [axisState_open_iff]
  dsimp only
  rw [axis a lt]
  exact ⟨close, failed, op, rfl⟩

/-- PWR_WARN_CLEARED in a released device whose switches are sound: issue resumes and the axes reopen (03 R102). -/
theorem execPwrWarnCleared_reopens {s : State} (ring : ringOff s) (o : ringOpen s) (warn : s.pwr.warn = true) (run : s.phase = .run)
    (passed : s.bist.failed = [])
    (ok : ∀ a, a < 3 → (Tbl.get Axis.init s.axes a).failed = false ∧ (Tbl.get Axis.init s.axes a).openFail = false ∧
      (Tbl.get Axis.init s.axes a).closeFail = false) :
    ∃ t, execPwrWarnCleared s = .next t ∧ t.pwr.warn = false ∧ t.rcd.warnDrain = [] ∧ lastRecord t 0x1011 0 0x00 0xFFFF ∧
      (∀ a, a < 3 → axisState t a = 0) ∧ t.mem = s.mem ∧ t.ctxs = s.ctxs := by
  let x : State := { s with pwr := { s.pwr with warn := false }, rcd := { s.rcd with warnDrain := [] } }
  have go : ∃ pl, execPwrWarnCleared s = .next (
      let y := record x 0x1011 0 0x00 0xFFFF pl
      if y.phase = .run then openAxis (openAxis (openAxis y 0) 1) 2 else y) := by
    unfold execPwrWarnCleared
    rw [if_neg (by simp [warn, run])]
    exact ⟨_, rfl⟩
  obtain ⟨pl, eq⟩ := go
  have ringX : ringOff x := ring
  have oX : ringOpen x := o
  have only := record_recordsOnly ringX 0x1011 0 0x00 0xFFFF pl
  have last := record_last ringX oX 0x1011 0 0x00 0xFFFF pl
  have drain : (record x 0x1011 0 0x00 0xFFFF pl).rcd.warnDrain = [] := by rw [record_rcd ringX oX]
  generalize record x 0x1011 0 0x00 0xFFFF pl = y at *
  have phase : y.phase = .run := (recordsOnly_keeps only State.phase fun _ _ _ => rfl).trans run
  have warnY : y.pwr.warn = false := recordsOnly_keeps only (fun t => t.pwr.warn) fun _ _ _ => rfl
  have axes : y.axes = s.axes := recordsOnly_keeps only State.axes fun _ _ _ => rfl
  obtain ⟨frame, opened⟩ := openAxes_ready phase warnY ((recordsOnly_keeps only (fun t => t.bist.failed) fun _ _ _ => rfl).trans passed)
    (by rw [axes]; exact ok)
  dsimp only at eq
  rw [if_pos phase] at eq
  refine ⟨_, eq, ?_⟩
  generalize openAxis (openAxis (openAxis y 0) 1) 2 = t at *
  refine ⟨by rw [frame]; exact warnY, by rw [frame]; exact drain, by rw [frame]; exact last, opened, ?_, ?_⟩
  · rw [frame]; exact recordsOnly_keeps only State.mem fun _ _ _ => rfl
  · rw [frame]; exact recordsOnly_keeps only State.ctxs fun _ _ _ => rfl

end Sys2Proof.Machine
end

section
/-! ### Rail faults (03 R121, 14 R499, R500) -/
namespace Sys2Proof.Machine

/-- State `s` keeps what a rail fault of a group leaves of `x`: memory, PWR_GOOD, an empty pipeline and the host ring off. -/
def outsideGroup (x s : State) : Prop := ringOff s ∧ pipelineEmpty s ∧ s.mem = x.mem ∧ s.pwr.pwrGood = x.pwr.pwrGood

/-- Besides, cluster `k` is out of service and not ON. -/
def standsDown (x s : State) (k : Nat) : Prop := outsideGroup x s ∧ domState s k ≠ 1 ∧ 2 ≤ clState s k

theorem standsDown_recordsOnly {x s t : State} {k : Nat} (h : standsDown x s k) (only : recordsOnly s t) (ring : ringOff t)
    (empty : pipelineEmpty t) : standsDown x t k := by
  obtain ⟨⟨_, _, mem, good⟩, dom, cl⟩ := h
  refine ⟨⟨ring, empty, ?_, ?_⟩, ?_, ?_⟩
  · exact (recordsOnly_keeps only State.mem fun _ _ _ => rfl).trans mem
  · exact (recordsOnly_keeps only (fun t => t.pwr.pwrGood) fun _ _ _ => rfl).trans good
  · exact (recordsOnly_keeps only (domState · k) fun _ _ _ => rfl) ▸ dom
  · exact (recordsOnly_keeps only (clState · k) fun _ _ _ => rfl) ▸ cl

/-- A direct record enters nothing into the pipeline. -/
theorem record_pipelineEmpty {s : State} (h : ringOff s) (e : pipelineEmpty s) (code sev cls idx : Nat) (pl : List Byte) :
    pipelineEmpty (record s code sev cls idx pl) := by
  rw [record_frame h]
  exact e

theorem standsDown_record {x s : State} {k : Nat} (h : standsDown x s k) (code sev cls idx : Nat) (pl : List Byte) :
    standsDown x (record s code sev cls idx pl) k :=
  standsDown_recordsOnly h (record_recordsOnly h.1.1 _ _ _ _ _) (record_ringOff h.1.1 _ _ _ _ _) (record_pipelineEmpty h.1.1 h.1.2.1 _ _ _ _ _)

theorem standsDown_recordRaw {x s : State} {k : Nat} (h : standsDown x s k) (code sev cls idx : Nat) (pl : List Byte) :
    standsDown x (recordRaw s code sev cls idx pl) k := by
  rw [← record_off h.1.1]
  exact standsDown_record h _ _ _ _ _

theorem standsDown_remapFrom {x s : State} {k : Nat} (h : standsDown x s k) (n : Nat) : standsDown x (remapFrom s n) k := by
  rw [remapFrom_frame]
  exact h

theorem standsDown_clusterOff {x s : State} {k : Nat} (h : standsDown x s k) (n : Nat) : standsDown x (clusterOff s n) k := by
  obtain ⟨⟨ring, empty, mem, good⟩, dom, cl⟩ := h
  have off := domState_clusterOff s n k
  rw [clusterOff_frame] at off ⊢
  refine ⟨⟨ring, empty, mem, good⟩, ?_, cl⟩
  rw [off]
  split
  · decide
  · exact dom

/-- What start-up test and the queue of deep runs say of clusters does not matter to it. -/
theorem standsDown_bist {x s : State} {k : Nat} (h : standsDown x s k) (b : Bist) (q : List Nat) :
    standsDown x { s with bist := b, deepQ := q } k := h

/-- Cluster `n` is not ON while it is taken out of service; every cluster that stands down already stands down after. -/
def comesDown (x s : State) (n k : Nat) : Prop := standsDown x s k ∨ k = n ∧ outsideGroup x s ∧ domState s n ≠ 1

/-- Writing a cluster's state out of service. -/
theorem standsDown_writeClState {x s : State} {n k : Nat} (lt : n < 512) (ltk : k < 512) (h : comesDown x s n k) {v : Word64}
    (out : 2 ≤ v.toNat % 4) : standsDown x (writeClState s n v) k := by
  have same := clState_writeClState_same s lt v
  have other := fun ne => clState_writeClState_ne s lt ltk ne v
  have frame := writeClState_frame s lt v
  generalize writeClState s n v = t at *
  have outside : outsideGroup x s → outsideGroup x t := fun ⟨ring, empty, mem, good⟩ =>
    ⟨ringOff_congr ring (by rw [frame]) (by rw [frame]), by rw [frame]; exact empty, by rw [frame]; exact mem, by rw [frame]; exact good⟩
  have dom : domState t k = domState s k := by rw [frame]; rfl
  by_cases e : k = n
  · have down : outsideGroup x s ∧ domState s k ≠ 1 := by
      obtain ⟨o, d, -⟩ | ⟨rfl, o, d⟩ := h
      · exact ⟨o, d⟩
      · exact ⟨o, d⟩
    refine ⟨outside down.1, by rw [dom]; exact down.2, ?_⟩
    rw [e, same]
    exact out
  · obtain ⟨o, d, cl⟩ := h.resolve_right fun hk => e hk.1
    exact ⟨outside o, by rw [dom]; exact d, by rw [other e]; exact cl⟩

/-- Coppicing a cluster that comes down. -/
theorem standsDown_coppice {x s : State} {n k : Nat} (lt : n < 512) (ltk : k < 512) (h : comesDown x s n k) (cause : Nat) :
    standsDown x (coppice s n cause) k := by
  have cop : standsDown x (coppiced s n cause) k :=
    standsDown_bist (standsDown_clusterOff (standsDown_writeClState lt ltk h (by rw [stateWord _ _ (by decide)]; decide)) n) _ _
  have noted := standsDown_record (standsDown_remapFrom cop n) 0x5030 0 0x02 n (brlPay (coppiced s n cause) n 0xFFFF 0 0 0 0 0)
  rw [coppice_eq]
  dsimp only
  split
  · exact standsDown_recordRaw noted _ _ _ _ _
  · exact noted

/-- A rail fault of a cluster that is not ON takes it out of service. -/
theorem standsDown_quarantine {x s : State} {n k : Nat} (lt : n < 512) (ltk : k < 512) (h : comesDown x s n k) :
    standsDown x (quarantine s n 7) k := by
  by_cases cl : 2 ≤ clState s n
  · rw [quarantine, if_pos cl]
    obtain h | ⟨rfl, o, d⟩ := h
    · exact h
    · exact ⟨o, d, cl⟩
  · by_cases back : (getHist s n).returns.any (fun t => decide (s.aon < t + dayNs)) = true
    · rw [quarantine, if_neg cl, if_pos back]
      exact standsDown_coppice lt ltk h 7
    · have out : 2 ≤ (w64 (7 * 0x1000000 + bitsOf (liveVal s 7 (0x400 + n) 0).toNat 23 16 * 0x10000 + 8 + 2)).toNat % 4 := by
        simp only [w64, BitVec.toNat_ofNat]; omega
      rw [quarantine_fault cl back]
      exact standsDown_record (standsDown_clusterOff (standsDown_record (standsDown_remapFrom
        (standsDown_writeClState lt ltk h out) _) _ _ _ _ _) _) _ _ _ _ _

/-- A cluster of a group whose rail has failed: its domain goes OFF, and it is quarantined. -/
def clusterFaulted (s : State) (n : Nat) : State := quarantine (if domState s n = 1 then putDom s n 0 else s) n 7

theorem standsDown_clusterFaulted {x s : State} {n k : Nat} (lt : n < 512) (ltk : k < 512)
    (h : standsDown x s k ∨ k = n ∧ outsideGroup x s) : standsDown x (clusterFaulted s n) k := by
  refine standsDown_quarantine lt ltk ?_
  by_cases on : domState s n = 1
  · rw [if_pos on]
    have off := domState_putDom_same s n 0
    obtain ⟨o, d, cl⟩ | ⟨rfl, o⟩ := h
    · refine .inl ⟨o, ?_, cl⟩
      rw [domState_putDom_ne s (fun e : k = n => d (e ▸ on))]
      exact d
    · exact .inr ⟨rfl, o, by rw [off]; decide⟩
  · rw [if_neg on]
    exact h.imp_right fun ⟨e, o⟩ => ⟨e, o, on⟩

/-- A list of clusters that lose their rail one after the other. -/
theorem standsDown_clustersFaulted {x : State} {k : Nat} (ltk : k < 512) (l : List Nat) (lt : ∀ n ∈ l, n < 512) {s : State}
    (o : outsideGroup x s) (h : standsDown x s k ∨ k ∈ l) : standsDown x (l.foldl clusterFaulted s) k := by
  induction l generalizing s with
  | nil => exact h.resolve_right List.not_mem_nil
  | cons n l ih =>
    have ltn := lt n List.mem_cons_self
    refine ih (fun m hm => lt m (List.mem_cons_of_mem _ hm)) (standsDown_clusterFaulted (k := n) ltn ltn (.inr ⟨rfl, o⟩)).1 ?_
    obtain h | h := h
    · exact .inl (standsDown_clusterFaulted ltn ltk (.inl h))
    · exact (List.mem_cons.1 h).imp_left fun e => standsDown_clusterFaulted ltn ltk (.inr ⟨e, o⟩)

/-- The clusters of a group. -/
def groupClusters (g : Nat) : List Nat := (List.range 8).map (8 * g + ·)

/-- PWR_GOOD goes low with any rail (03 R96). -/
def powerBad (s : State) : State := { s with pwr := { s.pwr with pwrGood := false } }

/-- RAIL_FAULT of a group's island. -/
theorem execRailFault_group {s : State} (good : s.pwr.pwrGood = true) {g : Nat} (lt : g < 64) :
    ∃ pl, execRailFault (.group g) s =
      .next (accept ((groupClusters g).foldl clusterFaulted (powerBad s)) 0x1020 4 0x00 (8 * g) 0xFFFF (8 * g) pl) := by
  unfold execRailFault groupClusters
  rw [if_neg (by simp [good]), List.foldl_map]
  dsimp only
  rw [if_pos lt]
  exact ⟨_, rfl⟩

/-- A group's island out of regulation takes its eight clusters down and out of service. -/
theorem railFault_group {s : State} (good : s.pwr.pwrGood = true) (c : calm s) {g : Nat} (lt : g < 64) :
    ∃ t, execRailFault (.group g) s = .next t ∧ inPipeline t 0x1020 4 ∧ t.pwr.pwrGood = false ∧
      (∀ i, i < 8 → domState t (8 * g + i) ≠ 1 ∧ 2 ≤ clState t (8 * g + i)) ∧ t.mem = s.mem := by
  obtain ⟨pl, run⟩ := execRailFault_group good lt
  obtain ⟨ring, empty, -⟩ := c
  have outside : outsideGroup (powerBad s) (powerBad s) := ⟨ring, empty, rfl, rfl⟩
  have member : ∀ i, i < 8 → 8 * g + i ∈ groupClusters g := fun i hi => List.mem_map.2 ⟨i, List.mem_range.2 hi, rfl⟩
  have below : ∀ n ∈ groupClusters g, n < 512 := by
    intro n hn
    obtain ⟨i, hi, rfl⟩ := List.mem_map.1 hn
    have := List.mem_range.1 hi
    omega
  have down : ∀ i, i < 8 → standsDown (powerBad s) ((groupClusters g).foldl clusterFaulted (powerBad s)) (8 * g + i) := fun i hi =>
    standsDown_clustersFaulted (by omega) _ below outside (.inr (member i hi))
  generalize (groupClusters g).foldl clusterFaulted (powerBad s) = y at *
  obtain ⟨⟨ringY, emptyY, memY, goodY⟩, -⟩ := down 0 (by decide)
  obtain ⟨frame, -, -, pipe⟩ := accept_empty ringY emptyY 0x1020 4 0x00 (8 * g) 0xFFFF (8 * g) pl
  refine ⟨_, run, pipe, ?_, fun i hi => ?_, ?_⟩
  · rw [frame]; exact goodY
  · rw [frame]; exact (down i hi).2
  · rw [frame]; exact memY

/-- Every rail but a group's and Espalier's: an error of the whole chip (03 R121). -/
theorem railFault_chip {s : State} (good : s.pwr.pwrGood = true) (c : calm s) {r : Rail} (chip : r ∈ [Rail.vunc, .vtrd, .vphy, .vsp, .hbm]) :
    ∃ t, execRailFault r s = .next t ∧ accepted (powerBad s) t 0x1020 5 := by
  have run : ∃ d pl, execRailFault r s = .next (accept (powerBad s) 0x1020 5 0x00 d 0xFFFF d pl) := by
    unfold execRailFault
    rw [if_neg (by simp [good])]
    simp only [List.mem_cons, List.not_mem_nil, or_false] at chip
    obtain rfl | rfl | rfl | rfl | rfl := chip <;> exact ⟨_, _, rfl⟩
  obtain ⟨d, pl, run⟩ := run
  exact ⟨_, run, accept_accepted (by exact c) _ _ _ _ _ _ _⟩

/-- Espalier's rail, while it is not bound: its domain goes OFF. -/
theorem railFault_espalier {s : State} (good : s.pwr.pwrGood = true) (c : calm s) (free : s.esp.bound = none) :
    ∃ t, execRailFault .vesp s = .next t ∧ accepted (putDom (powerBad s) 1102 0) t 0x1020 4 := by
  have off : unbindEsp (putDom (powerBad s) 1102 0) = putDom (powerBad s) 1102 0 := by
    unfold unbindEsp
    rw [if_pos (by simp [putDom, powerBad, free])]
  have run : ∃ pl, execRailFault .vesp s = .next (accept (unbindEsp (putDom (powerBad s) 1102 0)) 0x1020 4 0x00 1102 0xFFFF 1102 pl) := by
    unfold execRailFault
    rw [if_neg (by simp [good])]
    exact ⟨_, rfl⟩
  obtain ⟨pl, run⟩ := run
  rw [off] at run
  exact ⟨_, run, accept_accepted (by exact c) _ _ _ _ _ _ _⟩

end Sys2Proof.Machine
end

section
/-! ### The cap meter (03 R105, R106, R124) -/
namespace Sys2Proof.Machine

/-- The samples with the newest one, at most 100. -/
def sampled (s : State) (mV mA : Nat) : List Nat := (mV * mA / 1000 :: s.pwr.meter).take 100

/-- The averages of the samples pass a limit of the cap or of the part. -/
def overCap (s : State) (m : List Nat) : Prop :=
  let cap := (liveVal s 1 0x20 0).toNat * 1000
  avgMw m 100 > cap ∨ avgMw m 10 * 10 > cap * 11 ∨ avgMw m 2 * 4 > s.fuses.gradeW * 1000 * 5

/-- The state with the sample taken. -/
def metered (s : State) (mV mA : Nat) : State := { s with pwr := { s.pwr with meter := sampled s mV mA, iin := mA } }

/-- The limit test of the cap meter. -/
def overCapTest (s : State) (m : List Nat) : Bool :=
  decide (avgMw m 100 > (liveVal s 1 0x20 0).toNat * 1000) || decide (avgMw m 10 * 10 > (liveVal s 1 0x20 0).toNat * 1000 * 11) ||
    decide (avgMw m 2 * 4 > s.fuses.gradeW * 1000 * 5)

theorem overCapTest_iff (s : State) (m : List Nat) : overCapTest s m = true ↔ overCap s m := by
  simp [overCapTest, overCap, or_assoc]

/-- Duty gating applies (03 R106). -/
def dutyGated (s : State) : State :=
  { s with pwr := { s.pwr with gating := true },
           ctxs := s.ctxs.map (fun e => (e.1, { e.2 with energy := { e.2.energy with gated := true } })) }

/-- CAP_METER_SAMPLE with the rails up: the cap target first, then duty gating, then CAP_EXCEEDED. -/
theorem execCapMeterSample_good {s : State} (good : s.pwr.pwrGood = true) (mV mA : Nat) :
    ∃ pl, execCapMeterSample mV mA s = .next (
      let x := metered s mV mA
      if overCapTest s (sampled s mV mA) = true then
        if 550 < s.pwr.capTarget then { x with pwr := { x.pwr with capTarget := Nat.max 550 (s.pwr.capTarget - 5) } }
        else if s.pwr.gating = false then record (dutyGated x) 0x1030 0 0x00 0xFFFF pl
        else if s.pwr.exceeded = false then accept { x with pwr := { x.pwr with exceeded := true } } 0x1031 2 0x00 0xFFFF 0xFFFF 0xFFFF pl
        else x
      else { x with pwr := { x.pwr with gating := false, exceeded := false, capTarget := Nat.min 900 (s.pwr.capTarget + 5) } }) := by
  unfold execCapMeterSample
  rw [if_neg (by simp [good])]
  simp only [Bool.not_eq_true']
  exact ⟨_, rfl⟩

/-- Settles O38: warnings (`warnResponse_spec`), rail faults (`standsDown_clustersFaulted`), the cap meter (`execCapMeterSample_good`). -/
theorem powerEventsLimitIssue : Obligations.PowerEventsLimitIssue := by
  unfold Obligations.PowerEventsLimitIssue
  refine ⟨fun s ring o free => ⟨fun noted => execPwrWarn_noted noted free, fun clear main => execPwrWarn_held ring o free clear main,
    fun clear wait => execPwrWarn_thermWait free clear wait, fun clear low => execPwrWarn_keepAlive ring o free clear low,
    fun en on warn => execVin12Undervoltage_latched en on free warn,
    fun en clear main => execVin12Undervoltage_held ring o free en clear main, fun noted => ?_,
    fun warn run passed ok => execPwrWarnCleared_reopens ring o warn run passed ok⟩,
    fun s => ⟨fun on low => ?_, fun noted => ?_, fun bad r => ?_, fun good c => ⟨fun r chip => railFault_chip good c chip,
      fun free => railFault_espalier good c free, fun g lt _ => railFault_group good c lt⟩⟩, fun s mV mA good c => ?_⟩
  · rw [exec_pwrWarnCleared, execPwrWarnCleared, if_pos (noted.imp_left (by simp))]
  · rw [exec_powerCycleMark, execPowerCycleMark, if_neg (by simp [on, low])]
  · rw [exec_powerCycleMark, execPowerCycleMark, if_pos noted]
  · rw [exec_railFault, execRailFault, if_pos (by simp [bad])]
  · obtain ⟨pl, run⟩ := execCapMeterSample_good good mV mA
    intro m cap avg hot now
    have test := overCapTest_iff s (sampled s mV mA)
    dsimp only at run
    refine ⟨fun h high => ?_, fun h floor off => ?_, fun h floor on first => ?_, fun h floor on again => ?_, fun h => ?_⟩
    · rw [exec_capMeterSample, run, if_pos (test.2 h), if_pos high]
      rfl
    · rw [if_pos (test.2 h), if_neg (by omega), if_pos off] at run
      have ring : ringOff (dutyGated (metered s mV mA)) := ringOff_of c.1 rfl rfl
      have only := record_recordsOnly ring 0x1030 0 0x00 0xFFFF pl
      have last := record_last ring c.2.2 0x1030 0 0x00 0xFFFF pl
      refine ⟨_, run, ?_⟩
      generalize record (dutyGated (metered s mV mA)) 0x1030 0 0x00 0xFFFF pl = t at *
      refine ⟨last, recordsOnly_keeps only State.pwr fun _ _ _ => rfl, fun e he => ?_, recordsOnly_keeps only State.mem fun _ _ _ => rfl,
        recordsOnly_keeps only State.sets fun _ _ _ => rfl⟩
      rw [recordsOnly_keeps only State.ctxs fun _ _ _ => rfl] at he
      obtain ⟨f, -, rfl⟩ := List.mem_map.1 he
      rfl
    · rw [if_pos (test.2 h), if_neg (by omega), if_neg (by simp [on]), if_pos first] at run
      exact ⟨_, run, accept_accepted (s := { metered s mV mA with pwr := { (metered s mV mA).pwr with exceeded := true } })
        ⟨ringOff_of c.1 rfl rfl, c.2.1, c.2.2⟩ _ _ _ _ _ _ _⟩
    · rw [exec_capMeterSample, run, if_pos (test.2 h), if_neg (by omega), if_neg (by simp [on]), if_neg (by simp [again])]
      rfl
    · rw [exec_capMeterSample, run, if_neg (mt test.1 h)]
      rfl

end Sys2Proof.Machine
end

section
/-! ### O41: a switch that failed to close, listed behind a sound entry of its axis -/
namespace Sys2Proof.Machine

/-- Writing clusters' states and switching clusters OFF leaves the axes and the test's outcome as they are. -/
theorem releaseHeld_axes (s : State) : (releaseHeld s).axes = s.axes ∧ (releaseHeld s).bist = s.bist := by
  unfold releaseHeld
  refine List.foldlRecOn (motive := fun t : State => t.axes = s.axes ∧ t.bist = s.bist) _ _ ⟨rfl, rfl⟩ fun t ht n hn => ?_
  dsimp only
  split
  · rw [writeClState_frame t (List.mem_range.1 hn)]
    exact ht
  · exact ht

theorem heldOff_axes (s : State) : (heldOff s).axes = s.axes ∧ (heldOff s).bist = s.bist := by
  unfold heldOff
  refine List.foldlRecOn (motive := fun t : State => t.axes = s.axes ∧ t.bist = s.bist) _ _ ⟨rfl, rfl⟩ fun t ht n _ => ?_
  dsimp only
  split
  · rw [clusterOff_frame]
    exact ht
  · exact ht

/-- Opening an axis, with no block failed, mends no switch that failed to close. -/
theorem openAxis_closeFail {s : State} (passed : s.bist.failed = []) (a : Nat) :
    (openAxis s a).bist = s.bist ∧
    ∀ b, (Tbl.get Axis.init (openAxis s a).axes b).closeFail = (Tbl.get Axis.init s.axes b).closeFail := by
  unfold openAxis
  rw [passed]
  simp only [List.contains_nil, Bool.or_self, Bool.false_eq_true, if_false]
  split
  · exact ⟨rfl, fun _ => rfl⟩
  · refine ⟨rfl, fun b => ?_⟩
    by_cases e : b = a
    · rw [e, axis_updAxis]
    · rw [axis_updAxis_ne s e]

/-- The switches as the release finds them (05 R175): those that failed to close, whatever the entry that their axis reads. -/
def stuckAxes (s : State) : Tbl Axis := (s.axes.filter (fun e => e.2.closeFail)).map (fun e => (e.1, { Axis.init with closeFail := true }))

/-- The host error ring is off while every setting is at its reset value. -/
theorem ringOff_reset {s : State} (regs : s.sets.regs = []) (due : s.err.ringDue = false) : ringOff s := by
  unfold ringOff
  rw [liveVal_ring, regs]
  exact ⟨by decide, due⟩

/-- The installation of the resident pack, a direct record, changes neither the axes nor the test's outcome. -/
theorem residentPack_axes {s : State} (ring : ringOff s) : (residentPack s).axes = s.axes ∧ (residentPack s).bist = s.bist := by
  let x : State := { s with brl := { s.brl with pack := none, packNo := s.brl.packNo + 1, packAt := s.gtc, curItem := 0 } }
  have eq : ∃ pl, residentPack s = record x 0x5012 0 0x0B (trdIdx x) pl := ⟨_, rfl⟩
  obtain ⟨pl, eq⟩ := eq
  rw [eq, record_frame (s := x) ring]
  exact ⟨rfl, rfl⟩

/-- The release, with no block failed, up to the clusters held and the axes. -/
theorem release_eq {s : State} (passed : s.bist.failed = []) :
    ∃ y, release s = openAxis (openAxis (openAxis (heldOff (releaseHeld y)) 0) 1) 2 ∧ y.axes = stuckAxes s ∧ y.bist = s.bist := by
  unfold release
  rw [passed]
  dsimp only
  rw [if_neg (by decide)]
  refine ⟨_, rfl, ?_⟩
  unfold putDom
  dsimp only
  split
  · exact residentPack_axes (ringOff_reset rfl rfl)
  · exact ⟨rfl, rfl⟩

/-- The release leaves the test's outcome, and stuck exactly the switches that `stuckAxes` lists. -/
theorem release_closeFail {s : State} (passed : s.bist.failed = []) :
    (release s).bist = s.bist ∧
    ∀ a, (Tbl.get Axis.init (release s).axes a).closeFail = (Tbl.get Axis.init (stuckAxes s) a).closeFail := by
  obtain ⟨y, eq, axes, bist⟩ := release_eq passed
  obtain ⟨axesH, bistH⟩ := heldOff_axes (releaseHeld y)
  obtain ⟨axesR, bistR⟩ := releaseHeld_axes y
  have b : (heldOff (releaseHeld y)).bist = s.bist := by rw [bistH, bistR, bist]
  obtain ⟨b0, c0⟩ := openAxis_closeFail (by rw [b, passed]) 0
  obtain ⟨b1, c1⟩ := openAxis_closeFail (by rw [b0, b, passed]) 1
  obtain ⟨b2, c2⟩ := openAxis_closeFail (by rw [b1, b0, b, passed]) 2
  exact ⟨by rw [eq, b2, b1, b0, b], fun a => by rw [eq, c2, c1, c0, axesH, axesR, axes]⟩

/-- A switch that failed to close reads so, whatever else its axis holds. -/
theorem axisState_stuck {s : State} {a : Nat} (h : (Tbl.get Axis.init s.axes a).closeFail = true) : axisState s a = 4 := by
  unfold axisState
  exact if_pos h

/-- Phase 5 without a failed block and with at most 16 excluded clusters holds nothing in reset (05 R170, R171). -/
theorem execStartUpTestEnd_passed {s : State} (test : s.phase = .test) (five : s.bist.phase = 5) (warn : s.pwr.warn = false)
    (passed : s.bist.failed = []) (few : (excludedAfter s).length ≤ 16) (micros : Word32) :
    execStartUpTestEnd micros s = .next (afterTest { s with
      bist := { s.bist with micros := micros, phase := 0, excluded := excludedAfter s, essential := 0, stay := false, repeatDue := true },
      rst := { s.rst with runs := [] } }) := by
  let x : State := { s with bist := { s.bist with micros := micros, phase := 0 }, rst := { s.rst with runs := [] } }
  have boot : (s.bist.failed.filter (fun d => decide (d < 512))).foldl insertNat s.bist.bootCop = s.bist.bootCop := by rw [passed]; rfl
  have ess : essentialBits x = 0 := essentialBits_none passed
  have free : (decide ((excludedAfter x).length > 16) || decide (essentialBits x ≠ 0)) = false := by
    rw [ess, Bool.or_eq_false_iff]
    exact ⟨decide_eq_false (Nat.not_lt.2 few), rfl⟩
  unfold execStartUpTestEnd
  rw [if_neg (by simp [test, five, warn])]
  dsimp only
  rw [boot]
  refine congrArg _ ((if_neg (by rw [show _ = false from free]; decide)).trans ?_)
  rw [show _ = false from free, show essentialBits _ = 0 from ess]
  rfl

/-- After a passed test without a hold or a scan request comes the release. -/
theorem afterTest_release {s : State} (ring : ringOff s) (passed : s.bist.failed = []) (oos : s.rst.oos = false) (pc : s.rst.pcReq = false)
    (scan : s.bist.scanPend = false) : ∃ v, afterTest s = release v ∧ v.axes = s.axes ∧ v.bist = s.bist := by
  have only : recordsOnly s (bistSummary s 0xE001 0) := record_recordsOnly ring _ _ _ _ _
  unfold afterTest
  generalize bistSummary s 0xE001 0 = v at *
  have bist : v.bist = s.bist := recordsOnly_keeps only State.bist fun _ _ _ => rfl
  have rst : v.rst = s.rst := recordsOnly_keeps only State.rst fun _ _ _ => rfl
  obtain ⟨kept, -⟩ := release_closeFail (s := v) (by rw [bist]; exact passed)
  refine ⟨v, ?_, recordsOnly_keeps only State.axes fun _ _ _ => rfl, bist⟩
  have free : (if v.rst.oos = true then heldPower v .oosHold else if v.rst.pcReq = true then heldPower v .pcHeld else release v) = release v := by
    simp [rst, oos, pc]
  dsimp only
  rw [free, if_neg (by simp [kept, bist, scan])]

/-- A test about to be decided on a device whose table of axes lists axis 0 twice: first sound, then with a switch that failed to close.
Every axis reads sound. -/
def stuckBehindSound : State :=
  { State.reset with
    phase := .test, bist := { State.reset.bist with phase := 5 },
    axes := [(0, Axis.init), (0, { Axis.init with closeFail := true })] }

theorem stuckBehindSound_reads (a : Nat) : Tbl.get Axis.init stuckBehindSound.axes a = Axis.init := by
  by_cases h : a = 0 <;> simp [stuckBehindSound, Tbl.get, h]

/-- Refutes O41 by its clause (2), which opens all three axes for every state whose axes read sound: the clause does not ask for a table of
axes in rising order (`Tbl.rising`), and in one that lists axis 0 twice (`stuckBehindSound`) the release keeps the later entry, a switch
that failed to close, so that the axis reads 4 and not open. -/
theorem not_startupTestScanAndFuses : ¬ Obligations.StartupTestScanAndFuses := by
  unfold Obligations.StartupTestScanAndFuses
  rintro ⟨-, phase5, -⟩
  have ring : ringOff stuckBehindSound := ringOff_reset rfl rfl
  have few : (excludedAfter stuckBehindSound).length ≤ 16 := by decide +kernel
  obtain ⟨released, -⟩ := phase5 stuckBehindSound 0 rfl rfl rfl rfl ring ⟨rfl, by decide⟩
  obtain ⟨t, run, -, -, -, -, -, -, opened, -⟩ := released rfl few rfl rfl fun a => by rw [stuckBehindSound_reads]; rfl
  rw [exec_startUpTestEnd, execStartUpTestEnd_passed rfl rfl rfl rfl few] at run
  obtain ⟨v, eq, axes, bist⟩ := afterTest_release (s := { stuckBehindSound with
    bist := { stuckBehindSound.bist with micros := 0, phase := 0, excluded := excludedAfter stuckBehindSound, essential := 0, stay := false,
                                         repeatDue := true },
    rst := { stuckBehindSound.rst with runs := [] } }) (ringOff_of ring rfl rfl) rfl rfl rfl rfl
  rw [eq] at run
  obtain ⟨-, close⟩ := release_closeFail (s := v) (by rw [bist]; rfl)
  have stuck : axisState (release v) 0 = 4 := axisState_stuck (by rw [close, stuckAxes, axes]; decide)
  rw [Host.Outcome.next.inj run, opened 0 (by decide)] at stuck
  exact absurd stuck (by decide)

end Sys2Proof.Machine
end

section
/-! ### The recorder's nonvolatile array: program operations and erases of the durable log -/

namespace Sys2Proof.Machine

/-- Changing the wear data of one block changes it there and leaves every other block's as it was. -/
theorem getBlk_of_updBlk {s t : State} {b : Nat} {f : NvBlock → NvBlock} (h : t.rcd.blocks = (updBlk s b f).rcd.blocks) :
    getBlk t b = f (getBlk s b) ∧ ∀ k, k ≠ b → getBlk t k = getBlk s k := by
  refine ⟨?_, fun k hk => ?_⟩ <;> unfold getBlk <;> rw [h]
  · exact Tbl.get_put_same _ _ _ _
  · exact Tbl.get_put_ne _ _ hk _

@[simp] theorem getBlk_updBlk_same (s : State) (b : Nat) (f : NvBlock → NvBlock) : getBlk (updBlk s b f) b = f (getBlk s b) :=
  (getBlk_of_updBlk rfl).1

/-- The wear data reads the same in states with the same table of blocks. -/
theorem getBlk_congr {s t : State} (h : t.rcd.blocks = s.rcd.blocks) (k : Nat) : getBlk t k = getBlk s k := by
  unfold getBlk
  rw [h]

/-- A region with two erased blocks starts no erase (20 R690). -/
theorem startErase_spare {s : State} {n : Nat} (spare : 2 ≤ (regionOf s.rcd n).erased.length) : startErase s n = s := by
  unfold startErase
  exact if_pos (.inl spare)

/-- A block without retries and with fewer than 90,000 erases causes no WEAR_ADVISORY (20 Table 20.6). -/
theorem wearAdvise_unworn {s : State} {b : Nat} (young : (getBlk s b).erases < 90000)
    (unworn : (getBlk s b).retries = 0 ∨ (getBlk s b).ops < 64) : wearAdvise s b = s := by
  unfold wearAdvise
  refine if_neg ?_
  rintro ⟨-, -, old | ⟨ops, many⟩⟩
  · omega
  · rcases unworn with none | few
    · rw [none] at many
      omega
    · omega

/-- The durable log writes into segment `g`, whose block is sound and without wear, with two erased blocks in reserve. -/
structure LogOpen (s : State) (g : NvSeg) : Prop where
  segs : s.rcd.log.segs = [g]
  room : g.slots.length < 1024
  sound : (getBlk s g.block).retired = false
  young : (getBlk s g.block).erases < 90000
  unworn : (getBlk s g.block).retries = 0
  spare : 2 ≤ s.rcd.log.erased.length

section
variable {s : State} {g : NvSeg}

theorem LogOpen.writeBlock (h : LogOpen s g) : writeBlock s s.rcd.log = some g.block := by
  unfold Machine.writeBlock
  rw [h.segs]
  exact if_pos ⟨h.room, by simp [h.sound]⟩

/-- The log stays open where the log and the wear of its newest block stay. -/
theorem LogOpen.congr {t : State} (h : LogOpen s g) (log : t.rcd.log = s.rcd.log)
    (sound : (getBlk t g.block).retired = (getBlk s g.block).retired) (young : (getBlk t g.block).erases = (getBlk s g.block).erases)
    (unworn : (getBlk t g.block).retries = (getBlk s g.block).retries) : LogOpen t g where
  segs := log ▸ h.segs
  room := h.room
  sound := sound ▸ h.sound
  young := young ▸ h.young
  unworn := unworn ▸ h.unworn
  spare := log ▸ h.spare

/-- The log of a recorder with slot `x` written behind those of its newest segment. -/
def logWith (r : NvRegion) (g : NvSeg) (x : List Byte) : NvRegion :=
  { r with segs := [{ g with slots := g.slots ++ [⟨x⟩] }], next := r.next + 1 }

/-- A slot goes behind the newest one of the segment that is open (20 R684). -/
theorem LogOpen.appendSlot (h : LogOpen s g) (x : List Byte) :
    appendSlot s 1 ⟨x⟩ = { s with rcd := { s.rcd with log := logWith s.rcd.log g x } } := by
  unfold Machine.appendSlot
  simp [regionOf, updRegion, logWith, h.segs, h.room, h.sound]

/-- The wear data of a block after an operation that took no retry, and after one that failed besides. -/
def operated (k : NvBlock) : NvBlock := { k with ops := k.ops + 1 }
def failedOnce (k : NvBlock) : NvBlock := { k with fails := k.fails + 1 }

/-- One more operation leaves the log open. -/
theorem LogOpen.operated (h : LogOpen s g) : LogOpen (updBlk s g.block operated) g :=
  h.congr rfl (by simp [Machine.operated]) (by simp [Machine.operated]) (by simp [Machine.operated])

/-- A record that stands at the head of the ring is released once it is durable; nothing was missed (20 R687, R688). -/
theorem recDurable_head {o : NvOp} (log : o.region = 1) (head : s.rcd.ring = [⟨o.body, false⟩])
    (kept : s.rcd.missed.all (· == 0) = true) : recDurable s o = { s with rcd := { s.rcd with op := none, ring := [] } } := by
  unfold recDurable
  rw [log]
  simp only [head, List.head?_cons, Option.elim_some, beq_self_eq_true, if_true]
  unfold releaseHead
  simp only [List.drop_succ_cons, List.drop_zero, kept, if_true]

/-- What an operation that failed does to block `b` and to the record being programmed into the durable log (20 R690, R691). -/
def tornInto (o : NvOp) (b : Nat) (s : State) : State :=
  let t := appendSlot (takeFree s).2 1 ⟨tornBytes o.body.bytes o.op (takeFree s).1⟩
  let u := updBlk t b failedOnce
  { u with rcd := { u.rcd with op := if u.pwr.warn then none else some { o with op := 0 }, tornTot := satAdd 255 u.rcd.tornTot 1 } }

/-- What one operation of a record of the durable log does once the operation is counted: the next one, the end, or a torn slot. -/
def programOutcome (o : NvOp) (b : Nat) (ok : Bool) (s : State) : State :=
  if ok then
    if o.op < 4 then { s with rcd := { s.rcd with op := some { o with op := o.op + 1 } } }
    else recDurable (appendSlot s 1 ⟨o.body.bytes⟩) o
  else if 4 ≤ (getBlk (tornInto o b s) b).fails then retireBlock (tornInto o b s) 1 b else tornInto o b s

variable {o : NvOp}

/-- A program operation of a record of the durable log, in the block that is open. -/
theorem execRecordProgramStep_log (h : LogOpen s g) (on : s.phase ≠ .off) (op : s.rcd.op = some o) (log : o.region = 1) (ok : Bool) :
    execRecordProgramStep 0 ok s =
      .next (startErase (wearAdvise (programOutcome o g.block ok (updBlk s g.block operated)) g.block) 1) := by
  have wear : (fun k : NvBlock => { k with ops := k.ops + 1, retries := k.retries + Nat.min 1 0 }) = operated := rfl
  have failed : (fun k : NvBlock => { k with fails := k.fails + 1 }) = failedOnce := rfl
  obtain ⟨_, body, ring, k, retry⟩ := o
  obtain rfl := log
  unfold execRecordProgramStep
  simp only [on, op, regionOf, h.writeBlock, if_false, wear, failed, programOutcome, tornInto, ge_iff_le]

/-- An operation that is neither the last nor fails leaves the next one to be done (20 R689). -/
theorem programOutcome_onward (lt : o.op < 4) (b : Nat) :
    programOutcome o b true s = { s with rcd := { s.rcd with op := some { o with op := o.op + 1 } } } := if_pos lt

/-- The last operation puts the record into the log's next slot and out of the ring (20 R688, R689). -/
theorem programOutcome_durable (h : LogOpen s g) (log : o.region = 1) (last : 4 ≤ o.op) (head : s.rcd.ring = [⟨o.body, false⟩])
    (kept : s.rcd.missed.all (· == 0) = true) :
    programOutcome o g.block true s =
      { s with rcd := { s.rcd with op := none, ring := [], log := logWith s.rcd.log g o.body.bytes } } := by
  unfold programOutcome
  rw [if_pos rfl, if_neg (Nat.not_lt.2 last), h.appendSlot]
  exact recDurable_head log head kept

/-- An operation that fails leaves a torn slot and the record at its first operation; below four failures the block stays in use
(20 R690, R691). -/
theorem programOutcome_torn (h : LogOpen s g) (warn : s.pwr.warn = false) (few : (getBlk s g.block).fails < 3) :
    let u := updBlk s g.block failedOnce
    programOutcome o g.block false s = { u with freeCtr := s.freeCtr + 1, rcd := { u.rcd with
      op := some { o with op := 0 }, tornTot := satAdd 255 s.rcd.tornTot 1,
      log := logWith s.rcd.log g (tornBytes o.body.bytes o.op (takeFree s).1) } } := by
  intro u
  have taken : LogOpen (takeFree s).2 g := h.congr rfl rfl rfl rfl
  have torn : tornInto o g.block s = { u with freeCtr := s.freeCtr + 1, rcd := { u.rcd with
      op := some { o with op := 0 }, tornTot := satAdd 255 s.rcd.tornTot 1,
      log := logWith s.rcd.log g (tornBytes o.body.bytes o.op (takeFree s).1) } } := by
    unfold tornInto
    rw [taken.appendSlot]
    simp only [updBlk, takeFree, warn, Bool.false_eq_true, if_false, u]
    rfl
  have wear : getBlk (tornInto o g.block s) g.block = failedOnce (getBlk s g.block) := (getBlk_of_updBlk (by rw [torn])).1
  have fails : ¬ 4 ≤ (getBlk (tornInto o g.block s) g.block).fails := by
    rw [wear]
    exact Nat.not_le.2 (Nat.succ_lt_succ few)
  exact (if_neg fails).trans torn

/-- Block `b` has served one more operation, which took no retry and leaves it with this many failures; no other block's wear changes. -/
def usedOnce (s t : State) (b fails : Nat) : Prop :=
  getBlk t b = { getBlk s b with ops := (getBlk s b).ops + 1, fails := fails } ∧ ∀ k, k ≠ b → getBlk t k = getBlk s k

theorem usedOnce_operated {s t : State} {b : Nat} (h : t.rcd.blocks = (updBlk s b operated).rcd.blocks) :
    usedOnce s t b (getBlk s b).fails := getBlk_of_updBlk h

theorem usedOnce_failed {s t : State} {b : Nat} (h : t.rcd.blocks = (updBlk (updBlk s b operated) b failedOnce).rcd.blocks) :
    usedOnce s t b ((getBlk s b).fails + 1) := by
  obtain ⟨same, others⟩ := getBlk_of_updBlk h
  refine ⟨?_, fun k hk => (others k hk).trans ((getBlk_of_updBlk rfl).2 k hk)⟩
  rw [same, getBlk_updBlk_same]
  rfl

/-- Where the block is unworn and the reserve is there, an operation has its outcome and no more: no wear event, no erase. -/
theorem execRecordProgramStep_outcome {t : State} {ok : Bool} {n : Nat} (h : LogOpen s g) (on : s.phase ≠ .off) (op : s.rcd.op = some o)
    (log : o.region = 1) (outcome : programOutcome o g.block ok (updBlk s g.block operated) = t) (used : usedOnce s t g.block n)
    (reserve : t.rcd.log.erased = s.rcd.log.erased) : execRecordProgramStep 0 ok s = .next t := by
  rw [execRecordProgramStep_log h on op log, outcome, wearAdvise_unworn (used.1 ▸ h.young) (.inl (used.1 ▸ h.unworn)),
    startErase_spare (n := 1) (show 2 ≤ t.rcd.log.erased.length from reserve ▸ h.spare)]

/-- Where nothing is being programmed, the step is that of the record that it picks while the write window is open (20 R688, 04 R153). -/
theorem execRecordProgramStep_picks (n : Nat) (ok : Bool) (on : s.phase ≠ .off) (idle : s.rcd.op = none) (opened : s.thm.nvOpen = true)
    (still : (pickNext s).phase = s.phase) (picked : (pickNext s).rcd.op = some o) :
    execRecordProgramStep n ok s = execRecordProgramStep n ok (pickNext s) := by
  unfold execRecordProgramStep
  simp only [on, idle, opened, still, picked, if_true, if_false]

/-- A record that no limit holds back is picked for the durable log (20 R688, R694). -/
theorem pickNext_exempt (h : LogOpen s g) (warn : s.pwr.warn = false) (none : s.rcd.ckptWait = none) (thaw : s.rcd.frozen = false)
    {x : RingRec} (head : s.rcd.ring = [x]) (plain : isService x.body = false) (exempt : x.body.sev = 5 ∨ x.body.code ∈ exemptCodes) :
    pickNext s = { s with rcd := { s.rcd with op := some ⟨1, x.body, true, 0, 0⟩ } } := by
  have passes : admitRec s x.body = (true, s) := if_pos (by simpa using exempt)
  unfold pickNext
  simp only [warn, none, thaw, head, Bool.false_eq_true, if_false, List.length_singleton, pickRing, plain, h.writeBlock, passes,
    Bool.false_and, Option.isNone_some, if_true]

/-- The first operation of a record that no limit holds back picks it and leaves its second operation to be done (20 R688, R689). -/
theorem execRecordProgramStep_begins (h : LogOpen s g) (on : s.phase ≠ .off) (warn : s.pwr.warn = false) (idle : s.rcd.op = none)
    (opened : s.thm.nvOpen = true) (none : s.rcd.ckptWait = none) (thaw : s.rcd.frozen = false) {x : RingRec} (head : s.rcd.ring = [x])
    (plain : isService x.body = false) (exempt : x.body.sev = 5 ∨ x.body.code ∈ exemptCodes) :
    let u := updBlk s g.block operated
    execRecordProgramStep 0 true s = .next { u with rcd := { u.rcd with op := some ⟨1, x.body, true, 1, 0⟩ } } := by
  intro u
  let y : State := { s with rcd := { s.rcd with op := some ⟨1, x.body, true, 0, 0⟩ } }
  have picks : pickNext s = y := pickNext_exempt h warn none thaw head plain exempt
  have writes : LogOpen y g := h.congr rfl rfl rfl rfl
  have onward : programOutcome ⟨1, x.body, true, 0, 0⟩ g.block true (updBlk y g.block operated) =
      { u with rcd := { u.rcd with op := some ⟨1, x.body, true, 1, 0⟩ } } := programOutcome_onward (Nat.succ_pos 3) g.block
  rw [execRecordProgramStep_picks 0 true on idle opened (by rw [picks]) (by rw [picks]), picks]
  exact execRecordProgramStep_outcome writes on rfl rfl onward (usedOnce_operated rfl) rfl

/-- While the write window is closed, or with nothing to be picked, no record is begun. -/
theorem execRecordProgramStep_idle (n : Nat) (ok : Bool) (idle : s.rcd.op = none) (same : s.thm.nvOpen = true → pickNext s = s) :
    execRecordProgramStep n ok s = .next s := by
  unfold execRecordProgramStep
  split
  · rfl
  · cases opened : s.thm.nvOpen
    · simp [idle]
    · simp [idle, same opened]

/-- No checkpoint waits, and the ring is empty or frozen: nothing is picked (20 R688, R696). -/
theorem pickNext_empty (warn : s.pwr.warn = false) (none : s.rcd.ckptWait = none) (empty : s.rcd.ring = [] ∨ s.rcd.frozen = true) :
    pickNext s = s := by
  unfold pickNext
  rw [warn, none]
  simp only [Bool.false_eq_true, if_false]
  split
  · rfl
  · rename_i thaw
    rw [empty.resolve_right thaw]
    simp [pickRing, empty.resolve_right thaw]

end

/-! #### Erases, and blocks that are retired -/

/-- A record changes neither the durable log nor the wear data: it goes to the volatile ring. -/
theorem ringAdd_array (s : State) (r : Rec) : (ringAdd s r).rcd.log = s.rcd.log ∧ (ringAdd s r).rcd.blocks = s.rcd.blocks := by
  unfold ringAdd
  dsimp only
  split
  · exact ⟨rfl, rfl⟩
  · split <;> exact ⟨rfl, rfl⟩

/-- An event that becomes an entry of its own leaves the durable log and the wear data as they are. -/
theorem accept_append_array {s : State} (h : ringOff s) (safe : s.err.safe = false) (idle : s.err.handlers = []) {code sev : Nat}
    (new : ∀ e ∈ entriesOf s.err (queueOf code sev), e.code ≠ code) (room : (entriesOf s.err (queueOf code sev)).length < 64)
    (cls idx ctx dom : Nat) (pl : List Byte) :
    let t := accept s code sev cls idx ctx dom pl
    t.rcd.log = s.rcd.log ∧ t.rcd.blocks = s.rcd.blocks := by
  intro t
  have none : (entriesOf s.err (queueOf code sev)).find? (fun e => e.code == code && e.srcClass == cls && e.srcIndex == idx &&
      e.ctx == ctx && !inHandling s.err e.id) = none := by
    rw [List.find?_eq_none]
    intro x hx
    simp [new x hx]
  have core : (acceptCore s code sev cls idx ctx dom pl false).rcd = (entryRecord s code sev 0 cls idx pl).rcd ∧
      (acceptCore s code sev cls idx ctx dom pl false).err.ringDue = (entryRecord s code sev 0 cls idx pl).err.ringDue := by
    unfold acceptCore
    simp [safe, none, idle, Nat.not_le.mpr room, (setEntries_others _ _ _).1]
  obtain ⟨rcd, due⟩ := core
  have paid : t = acceptCore s code sev cls idx ctx dom pl false := by
    have f := entryRecord_frame h code sev 0 cls idx pl
    rw [f] at due
    simp [t, accept, settleRing, due, h.2]
  rw [paid, rcd, entryRecord_frame h]
  exact ringAdd_array _ _

/-- State `t` has the durable log, the wear data, the memory and the contexts of `s`. -/
def keepsLog (s t : State) : Prop := t.rcd.log = s.rcd.log ∧ t.rcd.blocks = s.rcd.blocks ∧ t.mem = s.mem ∧ t.ctxs = s.ctxs

theorem keepsLog_trans {x y z : State} (h : keepsLog x y) (k : keepsLog y z) : keepsLog x z := by
  obtain ⟨log, blocks, mem, ctxs⟩ := h
  obtain ⟨log', blocks', mem', ctxs'⟩ := k
  exact ⟨log'.trans log, blocks'.trans blocks, mem'.trans mem, ctxs'.trans ctxs⟩

/-- An event of severity 2 of the recorder, among entries of other codes, goes behind them and keeps the log. -/
theorem accept_recorderEvent {s : State} (h : ringOff s) (safe : s.err.safe = false) (idle : s.err.handlers = []) {code : Nat}
    (q3 : queueOf code 2 = 3) (new : ∀ e ∈ s.err.q3, e.code ≠ code) (room : s.err.q3.length < 64) (pl : List Byte) :
    let t := accept s code 2 0x0D 0 0xFFFF 0xFFFF pl
    keepsLog s t ∧ ringOff t ∧ t.err.safe = false ∧ t.err.handlers = [] ∧
      ∃ e, e.code = code ∧ e.sev = 2 ∧ t.err.q3 = s.err.q3 ++ [e] := by
  intro t
  have queue : ∀ p : Pipeline, entriesOf p (queueOf code 2) = p.q3 := fun p => by rw [q3]; rfl
  obtain ⟨log, blocks⟩ :=
    accept_append_array h safe idle (by rw [queue]; exact new) (by rw [queue]; exact room) 0x0D 0 0xFFFF 0xFFFF pl
  obtain ⟨only, off, idle', safe', e, ec, es, entries⟩ :=
    accept_append h safe idle (by rw [queue]; exact new) (by rw [queue]; exact room) 0x0D 0 0xFFFF 0xFFFF pl
  rw [queue, queue] at entries
  exact ⟨⟨log, blocks, recordsOnly_keeps only State.mem fun _ _ _ => rfl, recordsOnly_keeps only State.ctxs fun _ _ _ => rfl⟩,
    off, safe', idle', e, ec, es, entries⟩

/-- WEAR_CRITICAL keeps the log and the entries of other codes. -/
theorem wearCritical_keeps {s : State} (h : ringOff s) (safe : s.err.safe = false) (idle : s.err.handlers = [])
    (new : ∀ e ∈ s.err.q3, e.code ≠ 0xA012) (room : s.err.q3.length < 64) :
    keepsLog s (wearCritical s) ∧ ∀ e ∈ s.err.q3, e ∈ (wearCritical s).err.q3 := by
  unfold wearCritical
  split
  · exact ⟨⟨rfl, rfl, rfl, rfl⟩, fun _ he => he⟩
  · obtain ⟨keeps, -, -, -, e, -, -, q3⟩ := accept_recorderEvent (s := { s with rcd := { s.rcd with wearCrit := true } })
      (code := 0xA012) (ringOff_of h rfl rfl) safe idle rfl new room (wearPay s 0xFFFF)
    exact ⟨keeps, fun x hx => q3 ▸ List.mem_append_left _ hx⟩

/-- The wear data of a block that is retired. -/
def retiredOnce (k : NvBlock) : NvBlock := { k with retired := true }

/-- Block `b` out of use and out of the reserve of the durable log. -/
def takenOut (s : State) (b : Nat) : State :=
  let u := updBlk s b retiredOnce
  { u with rcd := { u.rcd with log := { u.rcd.log with
    erased := dropNat u.rcd.log.erased b, erasing := if u.rcd.log.erasing = some b then none else u.rcd.log.erasing } } }

theorem takenOut_frame (s : State) (b : Nat) : takenOut s b = { s with rcd := (takenOut s b).rcd } := rfl

theorem getBlk_takenOut (s : State) (b : Nat) : getBlk (takenOut s b) b = retiredOnce (getBlk s b) :=
  (getBlk_of_updBlk (s := s) (f := retiredOnce) rfl).1

/-- The block being erased, which is not in the reserve, leaves the log without an erase and changes it no more. -/
theorem log_takenOut {s : State} {b : Nat} (erasing : s.rcd.log.erasing = some b) (other : b ∉ s.rcd.log.erased) :
    (takenOut s b).rcd.log = { s.rcd.log with erasing := none } := by
  have all : dropNat s.rcd.log.erased b = s.rcd.log.erased :=
    List.filter_eq_self.2 fun x hx => bne_iff_ne.2 fun eq => other (eq ▸ hx)
  unfold takenOut updBlk
  simp only [erasing, if_true, all]

/-- Retiring a sound block of the durable log takes it out and accepts WEAR_RETIRED, and WEAR_CRITICAL where few blocks are left
(20 Table 20.6). -/
theorem retireBlock_log {s : State} {b : Nat} (sound : (getBlk s b).retired = false) :
    let w := accept (takenOut s b) 0xA011 2 0x0D 0 0xFFFF 0xFFFF (wearPay (takenOut s b) b)
    retireBlock s 1 b = if usable w w.rcd.log < 384 then wearCritical w else w := by
  intro w
  unfold retireBlock
  rw [sound]
  rfl

/-- A block of the durable log retired in a calm state, whatever the count of blocks left. -/
theorem retireBlock_calm {s : State} {b : Nat} (c : calm s) (sound : (getBlk s b).retired = false) :
    keepsLog (takenOut s b) (retireBlock s 1 b) ∧ inPipeline (retireBlock s 1 b) 0xA011 2 := by
  obtain ⟨ring, ⟨-, -, -, q3, idle, safe⟩, -⟩ := c
  have empty : (takenOut s b).err.q3 = [] := q3
  obtain ⟨keeps, off, safe', idle', e, code, sev, held⟩ := accept_recorderEvent (s := takenOut s b) (code := 0xA011)
    (ringOff_of ring rfl rfl) safe idle rfl (by simp [empty]) (by simp [empty]) (wearPay (takenOut s b) b)
  rw [empty, List.nil_append] at held
  rw [retireBlock_log sound]
  split
  · obtain ⟨more, kept⟩ := wearCritical_keeps off safe' idle' (by simp [held, code]) (by simp [held])
    exact ⟨keepsLog_trans keeps more, e, kept e (by simp [held]), code, sev⟩
  · exact ⟨keeps, e, List.mem_of_mem_head? (by rw [show entriesOf _ (queueOf 0xA011 2) = _ from held]; rfl), code, sev⟩

/-- The wear data of a block after an erase (20 R701). -/
def erasedOnce (k : NvBlock) : NvBlock := { k with erases := k.erases + 1, fails := 0, retries := 0, ops := 0 }

/-- Block `b` stands last among the erased blocks of the durable log. -/
def givenBack (s : State) (b : Nat) : State :=
  { s with rcd := { s.rcd with log := { s.rcd.log with erasing := none, erased := s.rcd.log.erased ++ [b] } } }

/-- An erase of a block of the durable log ends: the block is retired, or goes to the erased blocks of its region (20 R690). -/
theorem execEraseComplete_log {s : State} {block : BitVec 9} (opened : s.thm.nvOpen = true) (warn : s.pwr.warn = false)
    (on : s.phase ≠ .off) (erasing : s.rcd.log.erasing = some block.toNat) (ok : Bool) :
    let u := updBlk s block.toNat erasedOnce
    execEraseComplete block ok s = .next (
      if !ok ∨ (getBlk u block.toNat).erases ≥ 100000 then startErase (retireBlock u 1 block.toNat) 1
      else startErase (wearAdvise (givenBack u block.toNat) block.toNat) 1) := by
  intro u
  have wear : (fun k : NvBlock => { k with erases := k.erases + 1, fails := 0, retries := 0, ops := 0 }) = erasedOnce := rfl
  have go : ¬ ((1 : Nat) = 0 ∨ (!s.thm.nvOpen) = true ∨ s.pwr.warn = true ∨ s.phase = .off) := by simp [opened, warn, on]
  unfold execEraseComplete
  simp only [erasing, if_true, go, if_false, wear, updRegion]
  rfl

/-- A good erase gives the block back, unworn. -/
theorem execEraseComplete_good {s : State} {block : BitVec 9} (opened : s.thm.nvOpen = true) (warn : s.pwr.warn = false)
    (on : s.phase ≠ .off) (erasing : s.rcd.log.erasing = some block.toNat) (spare : 2 ≤ s.rcd.log.erased.length)
    (young : (getBlk s block.toNat).erases + 1 < 90000) :
    execEraseComplete block true s = .next (givenBack (updBlk s block.toNat erasedOnce) block.toNat) := by
  let t := givenBack (updBlk s block.toNat erasedOnce) block.toNat
  have wear : getBlk t block.toNat = erasedOnce (getBlk s block.toNat) := (getBlk_of_updBlk rfl).1
  have more : 2 ≤ t.rcd.log.erased.length := by
    rw [show t.rcd.log.erased = s.rcd.log.erased ++ [block.toNat] from rfl, List.length_append]
    exact Nat.le_add_right_of_le spare
  have keep : ¬ ((!true) = true ∨ (getBlk (updBlk s block.toNat erasedOnce) block.toNat).erases ≥ 100000) := by
    rw [getBlk_updBlk_same]
    simp only [erasedOnce, Bool.not_true, Bool.false_eq_true, false_or]
    omega
  rw [execEraseComplete_log opened warn on erasing, if_neg keep]
  rw [wearAdvise_unworn (s := t) (wear ▸ young) (.inl (by rw [wear]; rfl)), startErase_spare (n := 1) more]

/-- A failed erase retires the block; the erased blocks there are suffice, so that no other erase begins. -/
theorem execEraseComplete_failed {s : State} {block : BitVec 9} (opened : s.thm.nvOpen = true) (warn : s.pwr.warn = false)
    (on : s.phase ≠ .off) (erasing : s.rcd.log.erasing = some block.toNat) (spare : 2 ≤ s.rcd.log.erased.length) (c : calm s)
    (sound : (getBlk s block.toNat).retired = false) (other : block.toNat ∉ s.rcd.log.erased) :
    ∃ t, execEraseComplete block false s = .next t ∧ (getBlk t block.toNat).retired = true ∧ t.rcd.log.erasing = none ∧
      t.rcd.log.segs = s.rcd.log.segs ∧ inPipeline t 0xA011 2 ∧ t.mem = s.mem ∧ t.ctxs = s.ctxs := by
  let u := updBlk s block.toNat erasedOnce
  obtain ⟨⟨log, blocks, mem, ctxs⟩, held⟩ :=
    retireBlock_calm (s := u) (b := block.toNat) ⟨ringOff_of c.1 rfl rfl, c.2.1, c.2.2⟩ (by rw [getBlk_updBlk_same]; exact sound)
  have log : (retireBlock u 1 block.toNat).rcd.log = { s.rcd.log with erasing := none } := log.trans (log_takenOut (s := u) erasing other)
  have retired : (getBlk (retireBlock u 1 block.toNat) block.toNat).retired = true := by
    rw [getBlk_congr blocks, getBlk_takenOut, retiredOnce]
  rw [takenOut_frame] at mem ctxs
  refine ⟨retireBlock u 1 block.toNat, ?_, retired, by rw [log], by rw [log], held, mem, ctxs⟩
  rw [execEraseComplete_log opened warn on erasing, if_pos (.inl rfl), startErase_spare (n := 1)]
  exact (congrArg (2 ≤ ·.erased.length) log).mpr spare

/-- Without an erase that may end of this block, the end of one changes nothing. -/
theorem execEraseComplete_noErase {s : State} {block : BitVec 9} {ok : Bool}
    (h : s.thm.nvOpen = false ∨ s.pwr.warn = true ∨ s.phase = .off ∨
      (s.rcd.log.erasing ≠ some block.toNat ∧ s.rcd.ckpt.erasing ≠ some block.toNat ∧ s.rcd.svc.erasing ≠ some block.toNat)) :
    execEraseComplete block ok s = .next s := by
  unfold execEraseComplete
  refine congrArg Host.Outcome.next (if_pos ?_)
  rcases h with closed | warn | off | ⟨log, ckpt, svc⟩
  · simp [closed]
  · simp [warn]
  · simp [off]
  · simp [log, ckpt, svc]

/-! #### Rate windows and freezes -/

/-- Without a debt of the host ring there is nothing to settle. -/
theorem settleRing_paid {s : State} (paid : s.err.ringDue = false) : settleRing s = s := by
  unfold settleRing
  simp [paid]

theorem execRateWindowClose_none {s : State} {code : BitVec 16} (none : ∀ w ∈ s.rcd.rates, w.code ≠ code.toNat)
    (paid : s.err.ringDue = false) : execRateWindowClose code s = .next s := by
  have find : s.rcd.rates.find? (fun w => w.code == code.toNat) = Option.none := List.find?_eq_none.2 fun w hw => by simp [none w hw]
  unfold execRateWindowClose closeWindow
  rw [find]
  exact congrArg Host.Outcome.next (settleRing_paid paid)

/-- The only window closes: what it suppressed is recorded (20 R693). -/
theorem execRateWindowClose_only {s : State} {code : BitVec 16} {w : RateWin} (only : s.rcd.rates = [w]) (same : w.code = code.toNat)
    (ring : ringOff s) :
    let x : State := { s with rcd := { s.rcd with rates := [] } }
    (w.supp = 0 → execRateWindowClose code s = .next x) ∧
    (w.supp ≠ 0 → ringOpen s → ∃ t, execRateWindowClose code s = .next t ∧ recorded x t 0xA001 0 0x0D 0) := by
  intro x
  have off : ringOff x := ringOff_of ring rfl rfl
  have close : closeWindow s code.toNat = if w.supp = 0 then x
      else recordRaw x 0xA001 0 0x0D 0 (pay [(2, w.code), (2, 0), (4, w.supp), (8, w.first), (8, w.last), (4, 0)]) := by
    unfold closeWindow
    simp only [only, same, List.find?_cons_of_pos, beq_self_eq_true, List.filter_cons, bne_self_eq_false, List.filter_nil,
      Bool.false_eq_true, if_false, x]
  unfold execRateWindowClose
  rw [close]
  refine ⟨fun none => ?_, fun some o => ⟨_, rfl, ?_⟩⟩
  · rw [if_pos none]
    exact congrArg Host.Outcome.next (settleRing_paid off.2)
  · rw [if_neg some]
    exact record_recorded off o _ _ _ _ _

theorem execFreezeLimitExpiry_thawed {s : State} (thawed : s.rcd.frozen = false) (paid : s.err.ringDue = false) :
    execFreezeLimitExpiry s = .next s := by
  unfold execFreezeLimitExpiry endFreeze
  rw [thawed]
  exact congrArg Host.Outcome.next (settleRing_paid paid)

/-- A freeze ends with its summary in the ring it opens again (20 R695, R697). -/
theorem execFreezeLimitExpiry_frozen {s : State} (frozen : s.rcd.frozen = true) (ring : ringOff s) (room : s.rcd.ring.length < 16320) :
    ∃ t, execFreezeLimitExpiry s = .next t ∧
      recorded { s with rcd := { s.rcd with frozen := false, frzCounts := [0, 0, 0, 0, 0, 0], freezeReg := 0 } } t 0xA003 0 0x0D 0 := by
  let x : State := { s with rcd := { s.rcd with frozen := false, frzCounts := [0, 0, 0, 0, 0, 0], freezeReg := 0 } }
  have off : ringOff x := ringOff_of ring rfl rfl
  have o : ringOpen x := ⟨rfl, room⟩
  unfold execFreezeLimitExpiry endFreeze
  rw [if_pos frozen]
  exact ⟨_, rfl, record_recorded off o _ _ _ _ _⟩

/-! #### The obligation -/

/-- Settles O56: an operation on the open log has its outcome alone (`execRecordProgramStep_outcome`), and a retired block is taken out
of the log whether or not WEAR_CRITICAL follows (`retireBlock_calm`). -/
theorem recorderKeepsItsRing : Obligations.RecorderKeepsItsRing := by
  unfold Obligations.RecorderKeepsItsRing
  refine ⟨fun s n ok => ⟨fun off => ?_, fun idle closed => ?_, fun idle warn none empty => ?_, ?_⟩,
    fun s block code ok => ⟨execEraseComplete_noErase,
      fun opened warn on erasing spare => ⟨fun young => ?_, fun c sound other _ => ?_⟩,
      execRateWindowClose_none, fun w only same ring => execRateWindowClose_only only same ring,
      fun h => ?_, fun on opened => ?_, execFreezeLimitExpiry_thawed, execFreezeLimitExpiry_frozen⟩⟩
  · exact congrArg Host.Outcome.next (if_pos off)
  · exact execRecordProgramStep_idle n ok idle fun opened => by simp [closed] at opened
  · exact execRecordProgramStep_idle n ok idle fun _ => pickNext_empty warn none empty
  · intro g on warn segs room sound young unworn spare kept b used
    have h : LogOpen s g := ⟨segs, room, sound, young, unworn, spare⟩
    refine ⟨fun o op log => ⟨fun lt => ?_, fun last head => ?_, fun few => ?_⟩, fun x idle opened none thaw head plain exempt => ?_⟩
    · have used := usedOnce_operated (s := s) (b := b) rfl
      exact ⟨_, execRecordProgramStep_outcome h on op log (programOutcome_onward lt b) used rfl, used, rfl⟩
    · have used := usedOnce_operated (s := s) (b := b) rfl
      exact ⟨_, execRecordProgramStep_outcome h on op log (programOutcome_durable h.operated log last head kept) used rfl, used, rfl⟩
    · have used := usedOnce_failed (s := s) (b := b) rfl
      have torn := programOutcome_torn (o := o) h.operated warn (by rw [getBlk_updBlk_same]; exact few)
      exact ⟨_, execRecordProgramStep_outcome h on op log torn used rfl, used, rfl, rfl, rfl, rfl, _, rfl⟩
    · exact ⟨_, execRecordProgramStep_begins h on warn idle opened none thaw head plain exempt, usedOnce_operated rfl, rfl⟩
  · exact ⟨_, execEraseComplete_good opened warn on erasing spare young, (getBlk_of_updBlk rfl).1, (getBlk_of_updBlk rfl).2, rfl⟩
  · exact execEraseComplete_failed opened warn on erasing spare c sound other
  · exact congrArg Host.Outcome.next (if_pos (by simpa using h))
  · exact congrArg Host.Outcome.next (if_neg (by simp [on, opened]))

end Sys2Proof.Machine
end

section
/-! ### The release after power-up (05 R160, 06 R193, R197, 15 R537, 17 R587, R597, 21 R717) -/
namespace Sys2Proof.Machine
/-- Queue 1023 alone is listed at the release: every other number reads as the absent queue. -/
theorem getQ_reset (q : Nat) : getQ State.reset q = if q = 1023 then Queue.chorno else Queue.absent := rfl

/-- Settles O3: every clause is read off the reset state, the queues by `getQ_reset`. -/
theorem resetLeavesTheSpecifiedState : Obligations.ResetLeavesTheSpecifiedState := by
  unfold Obligations.ResetLeavesTheSpecifiedState
  have valid (q : Nat) : (getQ State.reset q).valid = decide (q = 1023) := by
    rw [getQ_reset]
    split
    · simp [*, Queue.chorno]
    · simp [*, Queue.absent]
  have pipeline : pipelineEmpty State.reset := ⟨rfl, rfl, rfl, rfl, rfl, rfl⟩
  have canonical : memCanonical State.reset := ⟨rfl, List.Pairwise.nil⟩
  exact ⟨⟨rfl, rfl, rfl, rfl, valid, rfl, rfl, fun _ => rfl, fun _ => rfl, pipeline, rfl, fun _ => ⟨rfl, rfl, rfl⟩, fun _ => rfl, rfl,
    rfl, fun _ => rfl⟩, canonical, fun _ => rfl, fun _ => rfl⟩
end Sys2Proof.Machine
end

section
/-! ### The memory list of a state: what keeps it canonical

An invariant of the memory alone, so a function of the model that does not write memory keeps it by one equation (`f_mem`), and one
that may write it by one implication (`f_canonical`); each is a `simp` lemma that the functions above it are read through.  An
equation that holds by unfolding is proved by `(rfl)`, and the lemmas that need it under a hypothesis ask `simp` for
`-implicitDefEqProofs`, so that it is used as an equation when a hypothesis is discharged. -/
namespace Sys2Proof.Machine

/-- The canonical form of 13 and log 2, as a property of the memory. -/
def Mem.canonical (m : Mem) : Prop := Mem.wf m.cells = true ∧ m.poison.Pairwise (· < ·)

theorem memCanonical_iff (s : State) : memCanonical s ↔ s.mem.canonical := Iff.rfl

/-- The outcome of a command, where it is a state, has a canonical memory. -/
def Res.canonical : Res → Prop
  | .next t => t.mem.canonical
  | _ => True

@[simp] theorem Res.canonical_next (t : State) : Res.canonical (.next t) ↔ t.mem.canonical := Iff.rfl

@[simp] theorem foldl_mem {α : Type} {f : State → α → State} (hf : ∀ s x, (f s x).mem = s.mem) (l : List α) (s : State) :
    (l.foldl f s).mem = s.mem := by
  induction l generalizing s with
  | nil => rfl
  | cons x l ih => exact (ih _).trans (hf s x)

@[simp] theorem foldl_canonical {α : Type} {f : State → α → State}
    (hf : ∀ s x, s.mem.canonical → (f s x).mem.canonical) (l : List α) {s : State} (h : s.mem.canonical) :
    (l.foldl f s).mem.canonical := by
  induction l generalizing s with
  | nil => exact h
  | cons x l ih => exact ih (hf s x h)

theorem foldl_snd_canonical {α β : Type} {f : β × State → α → β × State}
    (hf : ∀ a x, a.2.mem.canonical → (f a x).2.mem.canonical) (l : List α) {b : β} {s : State} (h : s.mem.canonical) :
    (l.foldl f (b, s)).2.mem.canonical :=
  List.foldlRecOn l f (motive := fun a : β × State => a.2.mem.canonical) h fun a ha x _ => hf a x ha

theorem foldl_ok_canonical {α ε : Type} {f : Except ε State → α → Except ε State}
    (hf : ∀ a x t, (∀ s, a = .ok s → s.mem.canonical) → f a x = .ok t → t.mem.canonical) (l : List α) {a : Except ε State}
    (ha : ∀ s, a = .ok s → s.mem.canonical) {t : State} (e : l.foldl f a = .ok t) : t.mem.canonical :=
  List.foldlRecOn l f (motive := fun a => ∀ t, a = .ok t → t.mem.canonical) ha (fun a ha x _ t => hf a x t ha) t e

/-- A state that a pair was taken apart into keeps what the pair's state had. -/
theorem canonical_snd {α : Type} {p : α × State} {a : α} {t : State} (e : p = (a, t)) (h : p.2.mem.canonical) :
    t.mem.canonical := by
  subst e; exact h

@[simp] theorem canonical_nil : Mem.canonical ⟨[], []⟩ := ⟨rfl, List.Pairwise.nil⟩

@[simp] theorem memWipe_mem_canonical {s : State} (h : s.mem.canonical) (lo hi : Nat) : (memWipe s lo hi).mem.canonical :=
  memWipe_canonical s lo hi h

end Sys2Proof.Machine
end

section
/-! ### What keeps the memory canonical: free values, tables, memory and records (13, 15) -/
namespace Sys2Proof.Machine

@[simp] theorem putLive_mem (s : State) (blk idx ctx : Nat) (v : Word64) (gen : Nat) :
    (putLive s blk idx ctx v gen).mem = s.mem := by
  unfold putLive
  (repeat' split) <;> simp

@[simp] theorem takeFree_mem (s : State) : (takeFree s).2.mem = s.mem := (rfl)

@[simp] theorem updQ_mem (s : State) (q : Nat) (f : Queue → Queue) : (updQ s q f).mem = s.mem := (rfl)

@[simp] theorem updC_mem (s : State) (c : Nat) (f : Ctx → Ctx) : (updC s c f).mem = s.mem := (rfl)

@[simp] theorem updS_mem (s : State) (k : Nat) (f : Slot → Slot) : (updS s k f).mem = s.mem := (rfl)

@[simp] theorem memPut_mem_canonical {s : State} (h : s.mem.canonical) (a : Nat) (b : Byte) :
    (memPut s a b).mem.canonical := memPut_canonical s a b h

@[simp] theorem memPuts_mem_canonical {s : State} (h : s.mem.canonical) (a : Nat) (l : List Byte) :
    (memPuts s a l).mem.canonical := memPuts_canonical s a l h

@[simp] theorem setPoison_mem_canonical {s : State} (h : s.mem.canonical) (a : Nat) :
    (setPoison s a).mem.canonical := setPoison_canonical s a h

@[simp] theorem clearPoison_mem_canonical {s : State} (h : s.mem.canonical) (a : Nat) :
    (clearPoison s a).mem.canonical := clearPoison_canonical s a h

@[simp] theorem raiseVec_mem (s : State) (f v : Nat) : (raiseVec s f v).mem = s.mem := by
  simp only [raiseVec]
  (repeat' split) <;> simp

@[simp] theorem formRec_mem (s : State) (code sev flags cls idx : Nat) (payload : List Byte) :
    (formRec s code sev flags cls idx payload).2.mem = s.mem := (rfl)

@[simp] theorem ringAdd_mem (s : State) (r : Rec) : (ringAdd s r).mem = s.mem := by
  simp only [ringAdd]
  (repeat' split) <;> simp

@[simp] theorem hostRing_mem (s : State) (r : Rec) : (hostRing s r).mem = s.mem := by
  simp only [hostRing]
  (repeat' split) <;> simp

@[simp] theorem offerDirect_mem (s : State) (r : Rec) : (offerDirect s r).mem = s.mem := by
  unfold offerDirect
  (repeat' split) <;> simp

@[simp] theorem recordRaw_mem (s : State) (code sev cls idx : Nat) (payload : List Byte) :
    (recordRaw s code sev cls idx payload).mem = s.mem := by simp [recordRaw]

@[simp] theorem endFreeze_mem (s : State) : (endFreeze s).mem = s.mem := by
  unfold endFreeze
  split <;> simp

end Sys2Proof.Machine
end

section
/-! ### What keeps the memory canonical: Espalier's publications, resets and the error pipeline (15, 16, 19) -/
namespace Sys2Proof.Machine

@[simp] theorem pubWrite_canonical {s : State} (h : s.mem.canonical) (p : Place) (b : List Byte) :
    (pubWrite s p b).mem.canonical := by
  unfold pubWrite
  split
  · exact foldl_canonical (fun _ _ h => by simp [h]) _ (by simp [h])
  · exact foldl_canonical (fun _ _ h => by simp [h]) _ (by simp [h])
  · split <;> simp [h]

@[simp] theorem pubPieces_canonical {s : State} (h : s.mem.canonical) (l : List (Place × Nat)) (b : List Byte) :
    (pubPieces s l b).mem.canonical := by
  unfold pubPieces
  split
  · exact h
  · exact pubWrite_canonical h _ _
  · extract_lets put s1 s2
    have put_canonical : ∀ {s : State} p l, s.mem.canonical → (put s p l).mem.canonical := by
      intro s p l h
      unfold put
      (repeat' split) <;> simp [h]
    clear_value put
    have h1 : s1.mem.canonical := put_canonical _ _ h
    have h2 : s2.mem.canonical := by
      unfold s2
      split <;> exact put_canonical _ _ h1
    exact put_canonical _ _ h2

@[simp] theorem publishRaw_canonical {s : State} (h : s.mem.canonical) (kind flags : Nat) (v : EspVal) :
    (publishRaw s kind flags v).2.mem.canonical := by
  simp only [publishRaw]
  (repeat' split) <;> simp [h]

@[simp] theorem freeCounts_mem (n : Nat) (s : State) : (freeCounts n s).2.mem = s.mem := by
  induction n generalizing s with
  | zero => rfl
  | succ n ih => simp [freeCounts, ih]

@[simp] theorem stopNow_mem (s : State) : (stopNow s).2.mem = s.mem := by
  unfold stopNow
  split
  · rfl
  · exact freeCounts_mem _ _

@[simp] theorem forcedRaw_canonical {s : State} (h : s.mem.canonical) : (forcedRaw s).2.mem.canonical := by
  unfold forcedRaw
  split <;> simp [h]

@[simp] theorem forcedStop_canonical {s : State} (h : s.mem.canonical) : (forcedStop s).mem.canonical := by
  simp only [forcedStop]
  (repeat' split) <;> simp [h]

@[simp] theorem unbindEsp_canonical {s : State} (h : s.mem.canonical) : (unbindEsp s).mem.canonical := by
  unfold unbindEsp
  split <;> simp [h]

@[simp] theorem chipRaise_canonical {s : State} (h : s.mem.canonical) : (chipRaise s).mem.canonical := by
  simp only [chipRaise]
  (repeat' split) <;> simp [h]

@[simp] theorem abortSlice_mem (s : State) (n : Nat) : (abortSlice s n).mem = s.mem := by
  unfold abortSlice
  split <;> simp

@[simp] theorem abortSlices_mem (s : State) (level : Nat) (cs es : List Nat) :
    (abortSlices s level cs es).mem = s.mem := by simp [abortSlices]

@[simp] theorem raiseRun_canonical {s : State} (h : s.mem.canonical) (r : ResetRun) (inner : Tbl ResetRun) :
    (raiseRun s r inner).2.mem.canonical := by
  unfold raiseRun
  split <;> simp [h]

@[simp] theorem startReset_canonical {s : State} (h : s.mem.canonical) (level target cause : Nat) (engines more : List Nat)
    (origin : Nat) (esc ovr counts : Bool) (waiters : List (Nat × Nat)) (handlers : List Nat) :
    (startReset s level target cause engines more origin esc ovr counts waiters handlers).2.mem.canonical := by
  simp only [startReset]
  (repeat' split) <;> simp [h]

@[simp] theorem chipReset_canonical {s : State} (h : s.mem.canonical) (cause : Nat) :
    (chipReset s cause).mem.canonical := by simp [chipReset, h]

@[simp] theorem finishEntry_mem (s : State) (id : Nat) : (finishEntry s id).mem = s.mem := (rfl)

@[simp] theorem addReport_mem (s : State) (r : Rec) : (addReport s r).mem = s.mem := by
  simp only [addReport]
  (repeat' split) <;> simp

@[simp] theorem entryRecord_mem (s : State) (code sev flags cls idx : Nat) (payload : List Byte) :
    (entryRecord s code sev flags cls idx payload).mem = s.mem := by simp [entryRecord]

@[simp] theorem enterSafe_canonical {s : State} (h : s.mem.canonical) (p0Full : Bool) (cause : Nat) :
    (enterSafe s p0Full cause).mem.canonical := by
  simp only [enterSafe]
  (repeat' split) <;> simp [h]

@[simp] theorem raiseLevel_canonical {s : State} (h : s.mem.canonical) (n : Nat) (x : Handling) (lv tg : Nat) (es : List Nat)
    (ovr : Bool) : (raiseLevel s n x lv tg es ovr).mem.canonical := by
  simp only [raiseLevel]
  simp [h]

@[simp] theorem escalate_canonical {s : State} (h : s.mem.canonical) (n : Nat) (x : Handling) (ovr : Bool) :
    (escalate s n x ovr).mem.canonical := by
  simp only [escalate]
  simp [h]

@[simp] theorem acceptCore_canonical {s : State} (h : s.mem.canonical) (code sev cls idx ctx domain : Nat)
    (payload : List Byte) (done : Bool) : (acceptCore s code sev cls idx ctx domain payload done).mem.canonical := by
  simp only [acceptCore]
  (repeat' split) <;> simp [h]

@[simp] theorem settleRing_canonical {s : State} (h : s.mem.canonical) : (settleRing s).mem.canonical := by
  unfold settleRing
  split <;> simp [h]

@[simp] theorem record_canonical {s : State} (h : s.mem.canonical) (code sev cls idx : Nat) (payload : List Byte) :
    (record s code sev cls idx payload).mem.canonical := by simp [record, h]

@[simp] theorem accept_canonical {s : State} (h : s.mem.canonical) (code sev cls idx ctx domain : Nat) (payload : List Byte) :
    (accept s code sev cls idx ctx domain payload).mem.canonical := by simp [accept, h]

@[simp] theorem acceptDone_canonical {s : State} (h : s.mem.canonical) (code sev cls idx : Nat) (payload : List Byte) :
    (acceptDone s code sev cls idx payload).mem.canonical := by simp [acceptDone, h]

@[simp] theorem beginReset_canonical {s : State} (h : s.mem.canonical) (level target cause : Nat) (waiters : List (Nat × Nat))
    (handlers : List Nat) : (beginReset s level target cause waiters handlers).2.mem.canonical := by simp [beginReset, h]

@[simp] theorem hostWrite_canonical {s : State} (h : s.mem.canonical) (f addr : Nat) (bytes : List Byte) (cls : Nat)
    (ep : Bool) : (hostWrite s f addr bytes cls ep).mem.canonical := by
  unfold hostWrite
  (repeat' split) <;> simp [h]

end Sys2Proof.Machine
end

section
/-! ### What keeps the memory canonical: Hexah programs and arithmetic (06, 07) -/
namespace Sys2Proof.Machine

@[simp] theorem jot_mem (s : State) : (jot s).mem = s.mem := by
  unfold jot
  split <;> simp

@[simp] theorem stopQueue_mem (s : State) (q : Nat) : (stopQueue s q).mem = s.mem := by
  unfold stopQueue
  split <;> simp

@[simp] theorem settleQueue_canonical {s : State} (h : s.mem.canonical) (q : Nat) : (settleQueue s q).mem.canonical := by
  simp only [settleQueue]
  (repeat' split) <;> simp [h]

@[simp] theorem endWith_mem (s : State) (slot : Nat) (p : Prog) (status faultAt : Nat) (rst : Option (Nat × Nat)) :
    (endWith s slot p status faultAt rst).mem = s.mem := by simp [endWith]

@[simp] theorem endAt_mem (s : State) (slot : BitVec 6) (p : Prog) (status : Nat) :
    (endAt s slot p status).mem = s.mem := by simp [endAt]

@[simp] theorem retireTo_mem (s : State) (slot : BitVec 6) (p : Prog) (target : Int) :
    (retireTo s slot p target).mem = s.mem := by
  unfold retireTo
  split <;> simp

@[simp] theorem retire_mem (s : State) (slot : BitVec 6) (p : Prog) : (retire s slot p).mem = s.mem := by simp [retire]

@[simp] theorem retireRd_mem (s : State) (slot : BitVec 6) (p : Prog) (rd : BitVec 5) (v : Word64) :
    (retireRd s slot p rd v).mem = s.mem := by simp [retireRd]

@[simp] theorem onProg_canonical {s : State} (h : s.mem.canonical) {slot : BitVec 6} {f : Prog → State} (hf : ∀ p, (f p).mem.canonical) :
    (onProg s slot f).mem.canonical := by
  unfold onProg
  split
  · exact hf _
  · exact h

@[simp] theorem onPriv_canonical {s : State} (h : s.mem.canonical) {slot : BitVec 6} {n : Nat} {f : Prog → State}
    (hf : ∀ p, (f p).mem.canonical) : (onPriv s slot n f).mem.canonical := by
  refine onProg_canonical h fun p => ?_
  split
  · simpa using h
  · exact hf p

@[simp] theorem parkOn_mem (s : State) (slot : BitVec 6) (p : Prog) (w : WaitOn) : (parkOn s slot p w).mem = s.mem := (rfl)

@[simp] theorem wakeRd_mem (s : State) (n : Nat) (p : Prog) (rd : Nat) (v : Word64) :
    (wakeRd s n p rd v).mem = s.mem := by simp [wakeRd]

@[simp] theorem watchRestart_mem (s : State) (c : Nat) : (watchRestart s c).mem = s.mem := by
  unfold watchRestart
  split <;> simp

@[simp] theorem aluR_canonical {s : State} (h : s.mem.canonical) (op : Word64 → Word64 → Word64) (slot : BitVec 6)
    (rd ra rb : BitVec 5) : Res.canonical (aluR op slot rd ra rb s) := by simp [aluR, h]

@[simp] theorem aluI_canonical {s : State} (h : s.mem.canonical) (op : Word64 → Word64 → Word64) (slot : BitVec 6)
    (rd ra : BitVec 5) (imm : Word32) : Res.canonical (aluI op slot rd ra imm s) := by simp [aluI, h]

@[simp] theorem shiftI_canonical {s : State} (h : s.mem.canonical) (op : Word64 → Nat → Word64) (slot : BitVec 6)
    (rd ra : BitVec 5) (imm : Word32) : Res.canonical (shiftI op slot rd ra imm s) := by
  simp only [shiftI, Res.canonical_next]
  (repeat' split) <;> simp [h]

@[simp] theorem branchIf_canonical {s : State} (h : s.mem.canonical) (cond : Word64 → Word64 → Bool) (slot : BitVec 6)
    (ra rb : BitVec 5) (off : Word32) : Res.canonical (branchIf cond slot ra rb off s) := by simp [branchIf, h]

@[simp] theorem execAdd_canonical {s : State} (h : s.mem.canonical) (slot : BitVec 6) (rd ra rb : BitVec 5) :
    Res.canonical (execAdd slot rd ra rb s) := aluR_canonical h ..

@[simp] theorem execSub_canonical {s : State} (h : s.mem.canonical) (slot : BitVec 6) (rd ra rb : BitVec 5) :
    Res.canonical (execSub slot rd ra rb s) := aluR_canonical h ..

@[simp] theorem execMul_canonical {s : State} (h : s.mem.canonical) (slot : BitVec 6) (rd ra rb : BitVec 5) :
    Res.canonical (execMul slot rd ra rb s) := aluR_canonical h ..

@[simp] theorem execMulhu_canonical {s : State} (h : s.mem.canonical) (slot : BitVec 6) (rd ra rb : BitVec 5) :
    Res.canonical (execMulhu slot rd ra rb s) := aluR_canonical h ..

@[simp] theorem execDivu_canonical {s : State} (h : s.mem.canonical) (slot : BitVec 6) (rd ra rb : BitVec 5) :
    Res.canonical (execDivu slot rd ra rb s) := aluR_canonical h ..

@[simp] theorem execRemu_canonical {s : State} (h : s.mem.canonical) (slot : BitVec 6) (rd ra rb : BitVec 5) :
    Res.canonical (execRemu slot rd ra rb s) := aluR_canonical h ..

@[simp] theorem execAnd_canonical {s : State} (h : s.mem.canonical) (slot : BitVec 6) (rd ra rb : BitVec 5) :
    Res.canonical (execAnd slot rd ra rb s) := aluR_canonical h ..

@[simp] theorem execOr_canonical {s : State} (h : s.mem.canonical) (slot : BitVec 6) (rd ra rb : BitVec 5) :
    Res.canonical (execOr slot rd ra rb s) := aluR_canonical h ..

@[simp] theorem execXor_canonical {s : State} (h : s.mem.canonical) (slot : BitVec 6) (rd ra rb : BitVec 5) :
    Res.canonical (execXor slot rd ra rb s) := aluR_canonical h ..

@[simp] theorem execShl_canonical {s : State} (h : s.mem.canonical) (slot : BitVec 6) (rd ra rb : BitVec 5) :
    Res.canonical (execShl slot rd ra rb s) := aluR_canonical h ..

@[simp] theorem execShr_canonical {s : State} (h : s.mem.canonical) (slot : BitVec 6) (rd ra rb : BitVec 5) :
    Res.canonical (execShr slot rd ra rb s) := aluR_canonical h ..

@[simp] theorem execSar_canonical {s : State} (h : s.mem.canonical) (slot : BitVec 6) (rd ra rb : BitVec 5) :
    Res.canonical (execSar slot rd ra rb s) := aluR_canonical h ..

@[simp] theorem execSlt_canonical {s : State} (h : s.mem.canonical) (slot : BitVec 6) (rd ra rb : BitVec 5) :
    Res.canonical (execSlt slot rd ra rb s) := aluR_canonical h ..

@[simp] theorem execSltu_canonical {s : State} (h : s.mem.canonical) (slot : BitVec 6) (rd ra rb : BitVec 5) :
    Res.canonical (execSltu slot rd ra rb s) := aluR_canonical h ..

@[simp] theorem execSeq_canonical {s : State} (h : s.mem.canonical) (slot : BitVec 6) (rd ra rb : BitVec 5) :
    Res.canonical (execSeq slot rd ra rb s) := aluR_canonical h ..

@[simp] theorem execAddi_canonical {s : State} (h : s.mem.canonical) (slot : BitVec 6) (rd ra : BitVec 5) (imm : Word32) :
    Res.canonical (execAddi slot rd ra imm s) := aluI_canonical h ..

@[simp] theorem execAndi_canonical {s : State} (h : s.mem.canonical) (slot : BitVec 6) (rd ra : BitVec 5) (imm : Word32) :
    Res.canonical (execAndi slot rd ra imm s) := aluI_canonical h ..

@[simp] theorem execOri_canonical {s : State} (h : s.mem.canonical) (slot : BitVec 6) (rd ra : BitVec 5) (imm : Word32) :
    Res.canonical (execOri slot rd ra imm s) := aluI_canonical h ..

@[simp] theorem execXori_canonical {s : State} (h : s.mem.canonical) (slot : BitVec 6) (rd ra : BitVec 5) (imm : Word32) :
    Res.canonical (execXori slot rd ra imm s) := aluI_canonical h ..

@[simp] theorem execShli_canonical {s : State} (h : s.mem.canonical) (slot : BitVec 6) (rd ra : BitVec 5) (imm : Word32) :
    Res.canonical (execShli slot rd ra imm s) := shiftI_canonical h ..

@[simp] theorem execShri_canonical {s : State} (h : s.mem.canonical) (slot : BitVec 6) (rd ra : BitVec 5) (imm : Word32) :
    Res.canonical (execShri slot rd ra imm s) := shiftI_canonical h ..

@[simp] theorem execSari_canonical {s : State} (h : s.mem.canonical) (slot : BitVec 6) (rd ra : BitVec 5) (imm : Word32) :
    Res.canonical (execSari slot rd ra imm s) := shiftI_canonical h ..

@[simp] theorem execMovi_canonical {s : State} (h : s.mem.canonical) (slot : BitVec 6) (rd : BitVec 5) (imm : Word32) :
    Res.canonical (execMovi slot rd imm s) := by simp [execMovi, h]

@[simp] theorem execLdih_canonical {s : State} (h : s.mem.canonical) (slot : BitVec 6) (rd ra : BitVec 5) (imm : Word32) :
    Res.canonical (execLdih slot rd ra imm s) := by simp [execLdih, h]

@[simp] theorem execGtc_canonical {s : State} (h : s.mem.canonical) (slot : BitVec 6) (rd : BitVec 5) :
    Res.canonical (execGtc slot rd s) := by simp [execGtc, h]

@[simp] theorem execBeq_canonical {s : State} (h : s.mem.canonical) (slot : BitVec 6) (ra rb : BitVec 5) (off : Word32) :
    Res.canonical (execBeq slot ra rb off s) := branchIf_canonical h ..

@[simp] theorem execBne_canonical {s : State} (h : s.mem.canonical) (slot : BitVec 6) (ra rb : BitVec 5) (off : Word32) :
    Res.canonical (execBne slot ra rb off s) := branchIf_canonical h ..

@[simp] theorem execBlt_canonical {s : State} (h : s.mem.canonical) (slot : BitVec 6) (ra rb : BitVec 5) (off : Word32) :
    Res.canonical (execBlt slot ra rb off s) := branchIf_canonical h ..

@[simp] theorem execBge_canonical {s : State} (h : s.mem.canonical) (slot : BitVec 6) (ra rb : BitVec 5) (off : Word32) :
    Res.canonical (execBge slot ra rb off s) := branchIf_canonical h ..

@[simp] theorem execBltu_canonical {s : State} (h : s.mem.canonical) (slot : BitVec 6) (ra rb : BitVec 5) (off : Word32) :
    Res.canonical (execBltu slot ra rb off s) := branchIf_canonical h ..

@[simp] theorem execBgeu_canonical {s : State} (h : s.mem.canonical) (slot : BitVec 6) (ra rb : BitVec 5) (off : Word32) :
    Res.canonical (execBgeu slot ra rb off s) := branchIf_canonical h ..

@[simp] theorem execJal_canonical {s : State} (h : s.mem.canonical) (slot : BitVec 6) (rd : BitVec 5) (off : Word32) :
    Res.canonical (execJal slot rd off s) := by simp [execJal, h]

@[simp] theorem execJr_canonical {s : State} (h : s.mem.canonical) (slot : BitVec 6) (rd ra : BitVec 5) :
    Res.canonical (execJr slot rd ra s) := by simp [execJr, h]

@[simp] theorem execEndProg_canonical {s : State} (h : s.mem.canonical) (slot : BitVec 6) :
    Res.canonical (execEndProg slot s) := by simp [execEndProg, h]

end Sys2Proof.Machine
end

section
/-! ### What keeps the memory canonical: ports and the abort of a collective (17, 18) -/
namespace Sys2Proof.Machine

@[simp] theorem emit_mem (s : State) (p kind flags seq poison : Nat) (payload : List Byte) :
    (emit s p kind flags seq poison payload).mem = s.mem := (rfl)

@[simp] theorem emitFlit_mem (s : State) (p : Nat) (f : LinkFlit) : (emitFlit s p f).mem = s.mem := (rfl)

@[simp] theorem pump_mem (p n : Nat) (s : State) : (pump p n s).mem = s.mem := by
  induction n generalizing s with
  | zero => rfl
  | succ n ih =>
    unfold pump
    dsimp only
    split
    · rfl
    · split <;> simp [ih]

@[simp] theorem pumpPort_mem (s : State) (p : Nat) : (pumpPort s p).mem = s.mem := pump_mem _ _ _

@[simp] theorem linkSend_mem (s : State) (p vc kind : Nat) (fields : List Nat) (data : List Byte) (pois : List Nat) :
    (linkSend s p vc kind fields data pois).mem = s.mem := by simp [linkSend]

@[simp] theorem resend_mem (s : State) (p : Nat) : (resend s p).mem = s.mem := by
  refine (foldl_mem (fun s f => emitFlit_mem _ _ _) _ _).trans ?_
  simp

@[simp] theorem updG_mem (s : State) (c g : Nat) (f : ColGroup → ColGroup) : (updG s c g f).mem = s.mem := (rfl)

@[simp] theorem colRec_canonical {s : State} (h : s.mem.canonical) (code c g : Nat) (x : Col) (cause port : Nat) :
    (colRec s code c g x cause port).mem.canonical := by simp [colRec, h]

@[simp] theorem sendAbort_mem (s : State) (c g seq cause : Nat) : (sendAbort s c g seq cause).mem = s.mem := by simp [sendAbort]

@[simp] theorem originate_canonical {s : State} (h : s.mem.canonical) (c g : Nat) (x : Col) (cause port : Nat) (quiet : Bool) :
    (originate s c g x cause port quiet).mem.canonical := by
  unfold originate
  split <;> simp [h]

@[simp] theorem abortGroup_canonical {s : State} (h : s.mem.canonical) (c g cause port : Nat) (quiet : Bool) :
    (abortGroup s c g cause port quiet).mem.canonical := by
  refine foldl_canonical (fun s e h => ?_) _ h
  simp [h]

@[simp] theorem endCollectives_canonical {s : State} (h : s.mem.canonical) (c : Nat) : (endCollectives s c).mem.canonical := by
  unfold endCollectives
  dsimp only
  refine foldl_canonical (fun s g h => ?_) _ h
  split
  · exact h
  · exact abortGroup_canonical h ..

end Sys2Proof.Machine
end

section
/-! ### What keeps the memory canonical: owners, partitions and the end of a context (09, 16) -/
namespace Sys2Proof.Machine

@[simp] theorem storeCells_canonical {s : State} (h : s.mem.canonical) (a : Nat) (bytes : List Byte) (poisoned : Bool) :
    (storeCells s a bytes poisoned).mem.canonical := by
  refine foldl_canonical (fun s e h => ?_) _ (by simp [h])
  (repeat' split) <;> simp [h]

@[simp] theorem placeWriteNow_canonical {s : State} (h : s.mem.canonical) (p : Place) (bytes : List Byte) (poisoned : Bool)
    (cls : Nat) : (placeWriteNow s p bytes poisoned cls).mem.canonical := by
  unfold placeWriteNow
  (repeat' split) <;> simp [h]

@[simp] theorem placeWrite_canonical {s : State} (h : s.mem.canonical) (p : Place) (bytes : List Byte) (poisoned : Bool)
    (cls : Nat) : (placeWrite s p bytes poisoned cls).mem.canonical := by
  unfold placeWrite
  split <;> simp [h]

@[simp] theorem sendPairEnd_mem (s : State) (c : Nat) : (sendPairEnd s c).mem = s.mem := by
  unfold sendPairEnd
  split <;> simp

@[simp] theorem settleOwners_mem (s : State) : (settleOwners s).mem = s.mem := by simp [settleOwners]

@[simp] theorem energyRecord_canonical {s : State} (h : s.mem.canonical) (c : Nat) (part killed : Bool) :
    (energyRecord s c part killed).mem.canonical := by
  simp only [energyRecord]
  (repeat' split) <;> simp -implicitDefEqProofs [h]

@[simp] theorem abortWaiters_mem (s : State) (c : Nat) : (abortWaiters s c).mem = s.mem := by
  refine foldl_mem (fun s e => ?_) _ _
  (repeat' split) <;> simp

@[simp] theorem dropJobs_mem (s : State) (c : Nat) : (dropJobs s c).mem = s.mem := by
  refine foldl_mem (fun s e => ?_) _ _
  (repeat' split) <;> simp

@[simp] theorem endCtx_canonical {s : State} (h : s.mem.canonical) (c status : Nat) (killed : Bool) :
    (endCtx s c status killed).mem.canonical := by
  unfold endCtx
  extract_lets x s1 s2 s3 s4 s5 s6 _ _ s7 s8 a s9
  split
  · exact h
  · have h1 : s1.mem.canonical := by
      unfold s1
      split
      · exact unbindEsp_canonical h
      · exact h
    have h2 : s2.mem.canonical := by
      unfold s2
      rw [dropJobs_mem]
      exact endCollectives_canonical (by simpa using h1) c
    have h4 : s4.mem.canonical := by
      clear_value s2
      exact energyRecord_canonical (by exact h2) ..
    have h6 : s6.mem.canonical := by
      clear_value s4
      exact foldl_canonical (fun s w h => placeWrite_canonical h ..) _ (by exact h4)
    have h8 : s8.mem.canonical := by simpa [s8] using h6
    clear_value s8
    have h9 : s9.mem.canonical := by
      unfold s9
      split
      · exact record_canonical h8 ..
      · exact h8
    refine foldl_canonical (fun s e h => ?_) _ h9
    split
    · exact settleQueue_canonical h _
    · exact h

@[simp] theorem freeCtx_canonical {s : State} (h : s.mem.canonical) (c : Nat) : (freeCtx s c).mem.canonical := by
  refine foldl_canonical (fun s e h => ?_) _ (by simp [h])
  (repeat' split) <;> simp [h]

@[simp] theorem endAll_canonical {s : State} (h : s.mem.canonical) (status : Nat) : (endAll s status).mem.canonical := by
  refine foldl_canonical (fun s e h => ?_) _ h
  simp [h]

@[simp] theorem faultCtx_canonical {s : State} (h : s.mem.canonical) (c status addr slot shed lane host : Nat)
    (isIndex : Bool) : (faultCtx s c status addr slot shed lane host isIndex).mem.canonical := by
  simp only [faultCtx]
  (repeat' split) <;> simp -implicitDefEqProofs [h]

@[simp] theorem updX_mem (s : State) (f : Esp → Esp) : (updX s f).mem = s.mem := (rfl)

@[simp] theorem holdPublish_mem (s : State) : (holdPublish s).mem = s.mem := by
  unfold holdPublish
  split <;> simp

@[simp] theorem settleEsp_canonical {s : State} (h : s.mem.canonical) (commit : Bool) : (settleEsp s commit).mem.canonical := by
  unfold settleEsp
  extract_lets v c exist want fail s1 s2
  have h1 : s1.mem.canonical := by
    unfold s1
    split
    · exact h
    · exact unbindEsp_canonical h
  have h2 : s2.mem.canonical := by
    unfold s2
    split
    · exact accept_canonical h1 ..
    · exact h1
  split
  · refine record_canonical ?_ ..
    rw [holdPublish_mem]
    exact h2
  · exact h2

end Sys2Proof.Machine
end

section
/-! ### What keeps the memory canonical: cluster states and placement (09, 14) -/
namespace Sys2Proof.Machine

@[simp] theorem rerunOn_mem (s : State) (k host : Nat) : (rerunOn s k host).mem = s.mem := (rfl)

@[simp] theorem remapFrom_mem (s : State) (n : Nat) : (remapFrom s n).mem = s.mem := by
  refine foldl_mem (fun s e => ?_) _ _
  dsimp only
  (repeat' split) <;> simp

@[simp] theorem settleDebt_mem (s : State) (n : Nat) : (settleDebt s n).mem = s.mem := (rfl)

@[simp] theorem writeClState_mem (s : State) (n : Nat) (v : Word64) : (writeClState s n v).mem = s.mem := by simp [writeClState]

@[simp] theorem updAxis_mem (s : State) (a : Nat) (f : Axis → Axis) : (updAxis s a f).mem = s.mem := (rfl)

@[simp] theorem closeAxes_mem (s : State) : (closeAxes s).mem = s.mem := (rfl)

@[simp] theorem openAxis_canonical {s : State} (h : s.mem.canonical) (a : Nat) : (openAxis s a).mem.canonical := by
  simp only [openAxis]
  (repeat' split) <;> simp -implicitDefEqProofs [h]

@[simp] theorem residentPack_canonical {s : State} (h : s.mem.canonical) :
    (residentPack s).mem.canonical := by simp [residentPack, h]

@[simp] theorem updHist_mem (s : State) (n : Nat) (f : ClHistory → ClHistory) : (updHist s n f).mem = s.mem := (rfl)

@[simp] theorem clusterOff_mem (s : State) (n : Nat) : (clusterOff s n).mem = s.mem := by
  simp only [clusterOff]
  (repeat' split) <;> simp

@[simp] theorem coppice_canonical {s : State} (h : s.mem.canonical) (n cause : Nat) : (coppice s n cause).mem.canonical := by
  simp only [coppice]
  (repeat' split) <;> simp [h]

@[simp] theorem quarantine_canonical {s : State} (h : s.mem.canonical) (n cause : Nat) :
    (quarantine s n cause).mem.canonical := by
  unfold quarantine
  (repeat' split) <;> simp [h]

@[simp] theorem suspect_canonical {s : State} (h : s.mem.canonical) (n : Nat) : (suspect s n).mem.canonical := by
  unfold suspect
  split <;> simp [h]

@[simp] theorem charge_canonical {s : State} (h : s.mem.canonical) (n : Nat) : (charge s n).mem.canonical := by
  simp only [charge]
  (repeat' split) <;> simp -implicitDefEqProofs [h]

end Sys2Proof.Machine
end

section
/-! ### What keeps the memory canonical: reading memory (13) -/
namespace Sys2Proof.Machine

@[simp] theorem settleScrub_canonical {s : State} (h : s.mem.canonical) (k : Nat) : (settleScrub s k).mem.canonical := by
  simp only [settleScrub]
  (repeat' split) <;> simp -implicitDefEqProofs [h]

@[simp] theorem corrected_mem (s : State) (g : Nat) : (corrected s g).mem = s.mem := (rfl)

@[simp] theorem hbmDecode_canonical {s : State} (h : s.mem.canonical) (g : Nat) (c : SynClass) (ctx agent : Nat) :
    (hbmDecode s g c ctx agent).mem.canonical := by
  unfold hbmDecode
  extract_lets k a scrub
  split
  rename_i syn s1 e
  extract_lets fix s2 p s3
  have h1 : s1.mem.canonical := canonical_snd e (by simpa using h)
  have fix_canonical : ∀ {s : State} code cls, s.mem.canonical → (fix s code cls).mem.canonical := by
    intro s code cls h
    unfold fix
    extract_lets e known rep wasHard s2 isHard fl p s3 s4
    have h3 : s3.mem.canonical := record_canonical (by simpa [s2] using h) ..
    refine settleScrub_canonical ?_ _
    unfold s4
    split
    · exact record_canonical h3 ..
    · exact h3
  split
  · exact h1
  · exact h1
  · split
    · exact h1
    · exact fix_canonical _ _ h1
  · exact fix_canonical _ _ h1
  · have h2 : s3.mem.canonical := accept_canonical (by exact setPoison_mem_canonical h1 _) ..
    split
    · exact accept_canonical (by exact h2) ..
    · exact h2

@[simp] theorem padDecode_canonical {s : State} (h : s.mem.canonical) (cluster g : Nat) (cell : Option Nat) (c : SynClass)
    (ctx agent : Nat) : (padDecode s cluster g cell c ctx agent).mem.canonical := by
  unfold padDecode
  split
  rename_i syn s1 e
  have h1 : s1.mem.canonical := canonical_snd e (by simpa using h)
  extract_lets p pois _ s2 s3
  split
  · exact h1
  · exact h1
  · split
    · exact h1
    · exact record_canonical (by exact h1) ..
  · exact record_canonical (by exact h1) ..
  · have h2 : s2.mem.canonical := by
      cases cell with
      | none => exact h1
      | some a => exact setPoison_mem_canonical h1 a
    exact charge_canonical (accept_canonical (by exact h2) ..) _

@[simp] theorem readHbm_canonical {s : State} (h : s.mem.canonical) (a n : Nat) (env : Env) (ctx agent : Nat) :
    (readHbm s a n env ctx agent).2.mem.canonical := by
  refine foldl_canonical (fun s e h => ?_) _ h
  (repeat' split) <;> simp [h]

@[simp] theorem readPad_canonical {s : State} (h : s.mem.canonical) (part slot off n : Nat) (env : Env) (ctx agent : Nat) :
    (readPad s part slot off n env ctx agent).2.mem.canonical := by
  refine foldl_canonical (fun s e h => ?_) _ h
  (repeat' split) <;> simp [h]

@[simp] theorem setAer_mem (s : State) (b : Nat) : (setAer s b).mem = s.mem := (rfl)

@[simp] theorem hostEnd_canonical {s : State} (h : s.mem.canonical) (f bus : Nat) (st : HostStatus) (ctx agent : Nat) :
    (hostEnd s f bus st ctx agent).2.mem.canonical := by
  unfold hostEnd
  (repeat' split) <;> simp -implicitDefEqProofs [h]

@[simp] theorem readPlace_canonical {s : State} (h : s.mem.canonical) (p : Place) (n : Nat) (env : Env) (ctx agent : Nat) :
    (readPlace s p n env ctx agent).2.mem.canonical := by
  unfold readPlace
  split <;> simp [h]

@[simp] theorem readMarked_canonical {s : State} (h : s.mem.canonical) (p : Place) (n : Nat) (env : Env) (ctx agent : Nat) :
    (readMarked s p n env ctx agent).2.mem.canonical := by
  simp only [readMarked]
  (repeat' split) <;> simp [h]

@[simp] theorem storeMarked_canonical {s : State} (h : s.mem.canonical) (a : Nat) (l : Marked) :
    (storeMarked s a l).mem.canonical := by
  refine foldl_canonical (fun s g h => ?_) _ (memPuts_mem_canonical h _ _)
  dsimp only
  (repeat' split) <;> simp [h]

@[simp] theorem writeMarked_canonical {s : State} (h : s.mem.canonical) (p : Place) (l : Marked) (cls : Nat) :
    (writeMarked s p l cls).mem.canonical := by
  unfold writeMarked
  split <;> simp [h]

@[simp] theorem xlatE_canonical {s : State} (h : s.mem.canonical) (c va : Nat) (k : Access) (own : Option Nat) (env : Env) :
    (xlatE s c va k own env).2.mem.canonical := by
  unfold xlatE
  dsimp only
  split
  · exact h
  · refine foldl_canonical (fun s a h => ?_) _ h
    split <;> simp [h]

@[simp] theorem queuePlace_canonical {s : State} (h : s.mem.canonical) (d : Queue) (addr : Nat) (k : Access) (env : Env) :
    (queuePlace s d addr k env).2.mem.canonical := by
  unfold queuePlace
  (repeat' split) <;> simp [h]

@[simp] theorem queueRead_canonical {s : State} (h : s.mem.canonical) (d : Queue) (agent n addr len : Nat) (env : Env) (acc : List Byte) :
    (queueRead d agent n addr len env acc s).2.mem.canonical := by
  induction n generalizing s addr len env acc with
  | zero => exact h
  | succ n ih =>
    unfold queueRead
    split
    · exact h
    · split
      · exact h
      · extract_lets m
        split
        case h_1 e =>
          have h1 := canonical_snd e (queuePlace_canonical h ..)
          extract_lets isHost
          split
          · exact h1
          · split
            rename_i e
            have h2 := canonical_snd e (readPlace_canonical h1 ..)
            split
            · exact h2
            · exact ih h2 ..
        case h_2 e => exact faultCtx_canonical (canonical_snd e (queuePlace_canonical h ..)) ..
        case h_3 e => exact canonical_snd e (queuePlace_canonical h ..)

@[simp] theorem progRead_canonical {s : State} (h : s.mem.canonical) (p : Prog) (addr : Word64) (n align : Nat) (env : Env) :
    (progRead s p addr n align env).2.mem.canonical := by
  unfold progRead
  split <;> simp [h]

@[simp] theorem writePieces_canonical {s : State} (h : s.mem.canonical) (cls : Nat) (l : List (Place × Nat)) (b : List Byte) :
    (writePieces s cls l b).mem.canonical := by
  induction l generalizing s b with
  | nil => exact h
  | cons x l ih => exact ih (placeWrite_canonical h ..) _

theorem progWrite_canonical {s t : State} (h : s.mem.canonical) {p : Prog} {addr : Word64} {b : List Byte} {align : Nat}
    (e : progWrite s p addr b align = .ok t) : t.mem.canonical := by
  unfold progWrite at e
  split at e
  · cases e
  · split at e
    · cases e
      exact writePieces_canonical h ..
    · cases e

end Sys2Proof.Machine
end

section
/-! ### What keeps the memory canonical: the memory of a slot, sync objects and Shuttles (09, 10) -/
namespace Sys2Proof.Machine

@[simp] theorem slotXlat_canonical {s : State} (h : s.mem.canonical) (k : Nat) (x : Slot) (va : Nat) (a : Access) (env : Env) :
    (slotXlat s k x va a env).2.mem.canonical := by
  unfold slotXlat
  split
  case h_1 e => exact canonical_snd e (xlatE_canonical h ..)
  case h_2 => exact xlatE_canonical h ..

@[simp] theorem applyHeld_canonical {s : State} (h : s.mem.canonical) (c : Nat) (l : List (Nat × Slot)) :
    (applyHeld s c l).mem.canonical := by
  refine foldl_canonical (fun s e h => ?_) _ h
  (repeat' split) <;> simp [h]

@[simp] theorem atomicNow_canonical {s : State} (h : s.mem.canonical) (p : Place) (op width : Nat) (val cmp : Word64)
    (pois : Bool) (env : Env) (ctx : Nat) :
    (atomicNow s p op width val cmp pois env ctx).2.mem.canonical := by simp [atomicNow, h]

@[simp] theorem applyAtomics_canonical {s : State} (h : s.mem.canonical) (l : List (Nat × Slot)) (ordered : Bool) (ctx : Nat) :
    (applyAtomics s l ordered ctx).mem.canonical := by
  refine foldl_canonical (fun s e h => ?_) _ h
  simp [h]

@[simp] theorem startOp_mem (s : State) (e : Nat) : (startOp s e).mem = s.mem := by
  unfold startOp
  (repeat' split) <;> simp

@[simp] theorem enqueue_mem (s : State) (c : Nat) (t : Trig) : (enqueue s c t).mem = s.mem := by
  unfold enqueue
  split <;> simp

@[simp] theorem syncPut_mem (s : State) (c o : Nat) (v : Word64) : (syncPut s c o v).mem = s.mem := by
  simp only [syncPut]
  (repeat' split) <;> simp

@[simp] theorem syncBump_mem (s : State) (c o : Nat) : (syncBump s c o).mem = s.mem := by
  unfold syncBump
  split <;> simp

@[simp] theorem shutRead_canonical {s : State} (h : s.mem.canonical) (c agent fuel va n : Nat) (env : Env) (acc : Marked) :
    (shutRead c agent fuel va n env acc s).2.mem.canonical := by
  induction fuel generalizing s va n env acc with
  | zero => exact h
  | succ fuel ih =>
    unfold shutRead
    dsimp only
    split
    · exact h
    · split
      case h_1 e =>
        have h1 := canonical_snd e (xlatE_canonical h ..)
        split
        · exact h1
        · exact ih (readMarked_canonical h1 ..) ..
      case h_2 e => exact canonical_snd e (xlatE_canonical h ..)

@[simp] theorem shutWrite_canonical {s : State} (h : s.mem.canonical) (c : Nat) (own : Option (Nat × Nat × Nat)) (fuel va : Nat)
    (l : Marked) (env : Env) : (shutWrite c own fuel va l env s).2.mem.canonical := by
  induction fuel generalizing s va l with
  | zero => exact h
  | succ fuel ih =>
    unfold shutWrite
    dsimp only
    split
    · exact h
    · split
      case h_1 e =>
        have h1 := canonical_snd e (xlatE_canonical h ..)
        split
        · exact h1
        · split
          · exact ih (writeMarked_canonical h1 ..) ..
          · split
            · exact h1
            · split
              · exact h1
              · exact ih (by simpa using h1) ..
      case h_2 e => exact canonical_snd e (xlatE_canonical h ..)

@[simp] theorem sendLinkOp_mem (s : State) (c : Nat) (t : Trig) (data : List Byte) (pois : List Nat) :
    (sendLinkOp s c t data pois).mem = s.mem := by simp [sendLinkOp]

@[simp] theorem performOp_canonical {s : State} (h : s.mem.canonical) (e : Nat) (x : Xfer) (rest : List Xfer) (env : Env) :
    (performOp s e x rest env).mem.canonical := by
  unfold performOp
  extract_lets t pages
  split
  rename_i l bad s1 eq
  have h1 : s1.mem.canonical := by
    split at eq
    · cases eq; exact h
    · exact canonical_snd eq (shutRead_canonical h ..)
  have sent : ∀ {s : State} (l : List Xfer), s.mem.canonical → (startOp (putEngine s e l) e).mem.canonical :=
    fun _ h => by simpa using h
  split
  · split
    · exact faultCtx_canonical (sent _ h1) ..
    · split
      · extract_lets s2
        split
        · exact faultCtx_canonical (by exact h1) ..
        · exact h1
      · simpa using h1
  · split
    rename_i bad s2 eq
    have h2 : s2.mem.canonical := by
      split at eq
      · cases eq; exact shutWrite_canonical h1 ..
      · exact canonical_snd eq (shutWrite_canonical h1 ..)
    dsimp only
    split
    · exact faultCtx_canonical (sent _ h2) ..
    · simpa using sent rest h2

@[simp] theorem countDrain_mem (s : State) (c : Nat) : (countDrain s c).mem = s.mem := (rfl)

@[simp] theorem hostAnswer_canonical {s : State} (h : s.mem.canonical) (n : Nat) (d : HostData) :
    (hostAnswer s n d).mem.canonical := by
  simp only [hostAnswer]
  (repeat' split) <;> simp -implicitDefEqProofs [h]

@[simp] theorem execTriggeredOpComplete_canonical {s : State} (h : s.mem.canonical) (engine : Nat) (env : Env) :
    Res.canonical (execTriggeredOpComplete engine env s) := by
  simp only [execTriggeredOpComplete, Res.canonical_next]
  (repeat' split) <;> simp [h]

@[simp] theorem armTrig_mem (s : State) (c : Nat) (b : List Byte) (me : Option (Nat × Nat × Nat)) :
    (armTrig s c b me).2.mem = s.mem := by
  simp only [armTrig]
  (repeat' split) <;> simp

end Sys2Proof.Machine
end

section
/-! ### What keeps the memory canonical: threads (10) -/
namespace Sys2Proof.Machine

@[simp] theorem putShed_mem (s : State) (r : Run) (h : Shed) : (putShed s r h).mem = s.mem := (rfl)

@[simp] theorem advance_mem (s : State) (r : Run) (h : Shed) : (advance s r h).mem = s.mem := (rfl)

@[simp] theorem threadFault_canonical {s : State} (h : s.mem.canonical) (r : Run) (status addr lane : Nat) :
    (threadFault s r status addr lane).mem.canonical := by simp [threadFault, h]

@[simp] theorem indexFault_canonical {s : State} (h : s.mem.canonical) (r : Run) (status lane : Nat) :
    (indexFault s r status lane).mem.canonical := by simp [indexFault, h]

@[simp] theorem illegal_canonical {s : State} (h : s.mem.canonical) (r : Run) :
    (illegal s r).mem.canonical := by simp [illegal, h]

@[simp] theorem consume_canonical {s : State} (h : s.mem.canonical) (r : Run) (lane : Nat) :
    (consume s r lane).mem.canonical := by simp [consume, h]

@[simp] theorem passOver_mem (s : State) (r : Run) : (passOver s r).mem = s.mem := (rfl)

@[simp] theorem onShed_canonical {s : State} (h : s.mem.canonical) {w : ShedRef} {tv : Bool} {f : Run → State}
    (hf : ∀ r, (f r).mem.canonical) : (onShed s w tv f).mem.canonical := by
  unfold onShed
  split
  · exact hf _
  · exact h

@[simp] theorem perThread_canonical {s : State} (h : s.mem.canonical) {w : ShedRef} {g : BitVec 4} {ok tv : Bool} {f : Run → Half → State}
    (hf : ∀ r m, (f r m).mem.canonical) : (perThread s w g ok tv f).mem.canonical := by
  refine onShed_canonical h fun r => ?_
  (repeat' split) <;> simp [h, hf]

@[simp] theorem perShed_canonical {s : State} (h : s.mem.canonical) {w : ShedRef} {g : BitVec 4} {ok tv : Bool} {f : Run → State}
    (hf : ∀ r, (f r).mem.canonical) : (perShed s w g ok tv f).mem.canonical := by
  refine onShed_canonical h fun r => ?_
  (repeat' split) <;> simp [h, hf]

@[simp] theorem writeLanes_mem (s : State) (r : Run) (m : Half) (rd : BitVec 6) (v : Nat → Word64 × Bool) :
    (writeLanes s r m rd v).mem = s.mem := (rfl)

@[simp] theorem scalarR_canonical {s : State} (h : s.mem.canonical) (op : Word64 → Word64 → Word64) (w : ShedRef) (f : T3) :
    Res.canonical (scalarR op w f s) := by simp [scalarR, h]

@[simp] theorem scalarI_canonical {s : State} (h : s.mem.canonical) (op : Word64 → Word32 → Word64) (ok : TI → Bool)
    (w : ShedRef) (f : TI) : Res.canonical (scalarI op ok w f s) := by simp [scalarI, h]

@[simp] theorem execNop_canonical {s : State} (h : s.mem.canonical) (w : ShedRef) (f : T3) :
    Res.canonical (execNop w f s) := by simp [execNop, h]

@[simp] theorem execThreadAdd_canonical {s : State} (h : s.mem.canonical) (w : ShedRef) (f : T3) :
    Res.canonical (execThreadAdd w f s) := scalarR_canonical h ..

@[simp] theorem execThreadSub_canonical {s : State} (h : s.mem.canonical) (w : ShedRef) (f : T3) :
    Res.canonical (execThreadSub w f s) := scalarR_canonical h ..

@[simp] theorem execThreadMul_canonical {s : State} (h : s.mem.canonical) (w : ShedRef) (f : T3) :
    Res.canonical (execThreadMul w f s) := scalarR_canonical h ..

@[simp] theorem execThreadMulhu_canonical {s : State} (h : s.mem.canonical) (w : ShedRef) (f : T3) :
    Res.canonical (execThreadMulhu w f s) := scalarR_canonical h ..

@[simp] theorem execThreadDivu_canonical {s : State} (h : s.mem.canonical) (w : ShedRef) (f : T3) :
    Res.canonical (execThreadDivu w f s) := scalarR_canonical h ..

@[simp] theorem execThreadRemu_canonical {s : State} (h : s.mem.canonical) (w : ShedRef) (f : T3) :
    Res.canonical (execThreadRemu w f s) := scalarR_canonical h ..

@[simp] theorem execThreadAnd_canonical {s : State} (h : s.mem.canonical) (w : ShedRef) (f : T3) :
    Res.canonical (execThreadAnd w f s) := scalarR_canonical h ..

@[simp] theorem execThreadOr_canonical {s : State} (h : s.mem.canonical) (w : ShedRef) (f : T3) :
    Res.canonical (execThreadOr w f s) := scalarR_canonical h ..

@[simp] theorem execThreadXor_canonical {s : State} (h : s.mem.canonical) (w : ShedRef) (f : T3) :
    Res.canonical (execThreadXor w f s) := scalarR_canonical h ..

@[simp] theorem execThreadShl_canonical {s : State} (h : s.mem.canonical) (w : ShedRef) (f : T3) :
    Res.canonical (execThreadShl w f s) := scalarR_canonical h ..

@[simp] theorem execThreadShr_canonical {s : State} (h : s.mem.canonical) (w : ShedRef) (f : T3) :
    Res.canonical (execThreadShr w f s) := scalarR_canonical h ..

@[simp] theorem execThreadSar_canonical {s : State} (h : s.mem.canonical) (w : ShedRef) (f : T3) :
    Res.canonical (execThreadSar w f s) := scalarR_canonical h ..

@[simp] theorem execMin_canonical {s : State} (h : s.mem.canonical) (w : ShedRef) (f : T3) :
    Res.canonical (execMin w f s) := scalarR_canonical h ..

@[simp] theorem execMax_canonical {s : State} (h : s.mem.canonical) (w : ShedRef) (f : T3) :
    Res.canonical (execMax w f s) := scalarR_canonical h ..

@[simp] theorem execMinu_canonical {s : State} (h : s.mem.canonical) (w : ShedRef) (f : T3) :
    Res.canonical (execMinu w f s) := scalarR_canonical h ..

@[simp] theorem execMaxu_canonical {s : State} (h : s.mem.canonical) (w : ShedRef) (f : T3) :
    Res.canonical (execMaxu w f s) := scalarR_canonical h ..

@[simp] theorem execThreadAddi_canonical {s : State} (h : s.mem.canonical) (w : ShedRef) (f : TI) :
    Res.canonical (execThreadAddi w f s) := scalarI_canonical h ..

@[simp] theorem execThreadAndi_canonical {s : State} (h : s.mem.canonical) (w : ShedRef) (f : TI) :
    Res.canonical (execThreadAndi w f s) := scalarI_canonical h ..

@[simp] theorem execThreadOri_canonical {s : State} (h : s.mem.canonical) (w : ShedRef) (f : TI) :
    Res.canonical (execThreadOri w f s) := scalarI_canonical h ..

@[simp] theorem execThreadXori_canonical {s : State} (h : s.mem.canonical) (w : ShedRef) (f : TI) :
    Res.canonical (execThreadXori w f s) := scalarI_canonical h ..

@[simp] theorem execThreadShli_canonical {s : State} (h : s.mem.canonical) (w : ShedRef) (f : TI) :
    Res.canonical (execThreadShli w f s) := scalarI_canonical h ..

@[simp] theorem execThreadShri_canonical {s : State} (h : s.mem.canonical) (w : ShedRef) (f : TI) :
    Res.canonical (execThreadShri w f s) := scalarI_canonical h ..

@[simp] theorem execThreadSari_canonical {s : State} (h : s.mem.canonical) (w : ShedRef) (f : TI) :
    Res.canonical (execThreadSari w f s) := scalarI_canonical h ..

@[simp] theorem execThreadMovi_canonical {s : State} (h : s.mem.canonical) (w : ShedRef) (f : TI) :
    Res.canonical (execThreadMovi w f s) := scalarI_canonical h ..

@[simp] theorem execThreadLdih_canonical {s : State} (h : s.mem.canonical) (w : ShedRef) (f : TI) :
    Res.canonical (execThreadLdih w f s) := scalarI_canonical h ..

@[simp] theorem execSel_canonical {s : State} (h : s.mem.canonical) (w : ShedRef) (f : T3) : Res.canonical (execSel w f s) := by
  refine perThread_canonical h fun r m => ?_
  (repeat' split) <;> simp [h]

@[simp] theorem writePred_mem (s : State) (r : Run) (m : Half) (p : Nat) (v : Nat → Bool × Bool) :
    (writePred s r m p v).mem = s.mem := (rfl)

@[simp] theorem execSetp_canonical {s : State} (h : s.mem.canonical) (w : ShedRef) (f : T3) : Res.canonical (execSetp w f s) := by
  refine perThread_canonical h fun r m => ?_
  (repeat' split) <;> simp [h]

@[simp] theorem predR_canonical {s : State} (h : s.mem.canonical) (op : Bool → Bool → Bool) (w : ShedRef) (f : T3) :
    Res.canonical (predR op w f s) := by simp [predR, h]

@[simp] theorem execPand_canonical {s : State} (h : s.mem.canonical) (w : ShedRef) (f : T3) :
    Res.canonical (execPand w f s) := predR_canonical h ..

@[simp] theorem execPor_canonical {s : State} (h : s.mem.canonical) (w : ShedRef) (f : T3) :
    Res.canonical (execPor w f s) := predR_canonical h ..

@[simp] theorem execPxor_canonical {s : State} (h : s.mem.canonical) (w : ShedRef) (f : T3) :
    Res.canonical (execPxor w f s) := predR_canonical h ..

@[simp] theorem execPnot_canonical {s : State} (h : s.mem.canonical) (w : ShedRef) (f : T3) :
    Res.canonical (execPnot w f s) := by simp [execPnot, h]

@[simp] theorem execPmov_canonical {s : State} (h : s.mem.canonical) (w : ShedRef) (f : T3) :
    Res.canonical (execPmov w f s) := by simp [execPmov, h]

@[simp] theorem maskInstr_canonical {s : State} (h : s.mem.canonical) {w : ShedRef} {g : BitVec 4} {ok : Bool} {f : Run → State}
    (hf : ∀ r, (f r).mem.canonical) : (maskInstr s w g ok f).mem.canonical := by
  refine onShed_canonical h fun r => ?_
  split <;> simp [h, hf]

@[simp] theorem execMif_canonical {s : State} (h : s.mem.canonical) (w : ShedRef) (f : T3) : Res.canonical (execMif w f s) := by
  refine maskInstr_canonical h fun r => ?_
  (repeat' split) <;> simp [h]

@[simp] theorem execMelse_canonical {s : State} (h : s.mem.canonical) (w : ShedRef) (f : T3) :
    Res.canonical (execMelse w f s) := by
  refine maskInstr_canonical h fun r => ?_
  (repeat' split) <;> simp [h]

@[simp] theorem execMend_canonical {s : State} (h : s.mem.canonical) (w : ShedRef) (f : T3) : Res.canonical (execMend w f s) := by
  refine maskInstr_canonical h fun r => ?_
  (repeat' split) <;> simp [h]

@[simp] theorem execMbrk_canonical {s : State} (h : s.mem.canonical) (w : ShedRef) (f : T3) : Res.canonical (execMbrk w f s) := by
  refine maskInstr_canonical h fun r => ?_
  (repeat' split) <;> simp [h]

@[simp] theorem execMget_canonical {s : State} (h : s.mem.canonical) (w : ShedRef) (f : T3) :
    Res.canonical (execMget w f s) := by simp [execMget, h]

@[simp] theorem branchMask_canonical {s : State} (h : s.mem.canonical) (cond : Half → Half → Bool) (w : ShedRef) (f : TB) :
    Res.canonical (branchMask cond w f s) := by
  refine perShed_canonical h fun r => ?_
  (repeat' split) <;> simp [h]

@[simp] theorem execBr_canonical {s : State} (h : s.mem.canonical) (w : ShedRef) (f : TB) :
    Res.canonical (execBr w f s) := by simp [execBr, h]

@[simp] theorem execBany_canonical {s : State} (h : s.mem.canonical) (w : ShedRef) (f : TB) :
    Res.canonical (execBany w f s) := branchMask_canonical h ..

@[simp] theorem execBall_canonical {s : State} (h : s.mem.canonical) (w : ShedRef) (f : TB) :
    Res.canonical (execBall w f s) := branchMask_canonical h ..

@[simp] theorem execBnone_canonical {s : State} (h : s.mem.canonical) (w : ShedRef) (f : TB) :
    Res.canonical (execBnone w f s) := branchMask_canonical h ..

@[simp] theorem execCall_canonical {s : State} (h : s.mem.canonical) (w : ShedRef) (f : TB) : Res.canonical (execCall w f s) := by
  refine perShed_canonical h fun r => ?_
  (repeat' split) <;> simp [h]

@[simp] theorem execRet_canonical {s : State} (h : s.mem.canonical) (w : ShedRef) (f : TB) : Res.canonical (execRet w f s) := by
  refine perShed_canonical h fun r => ?_
  (repeat' split) <;> simp [h]

@[simp] theorem execStepCtr_canonical {s : State} (h : s.mem.canonical) (w : ShedRef) (f : T3) :
    Res.canonical (execStepCtr w f s) := by simp [execStepCtr, h]

@[simp] theorem execCkstat_canonical {s : State} (h : s.mem.canonical) (w : ShedRef) (f : TI) :
    Res.canonical (execCkstat w f s) := by
  simp only [execCkstat, Res.canonical_next]
  (repeat' split) <;> simp [h]

@[simp] theorem execRng_canonical {s : State} (h : s.mem.canonical) (w : ShedRef) (f : T3) : Res.canonical (execRng w f s) := by
  refine perThread_canonical h fun r m => ?_
  (repeat' split) <;> simp [h]

@[simp] theorem noteEcho_mem (s : State) (r : Run) (lane : Nat) (v : Word64) : (noteEcho s r lane v).mem = s.mem := by
  unfold noteEcho
  split <;> simp

@[simp] theorem hearEcho_mem (s : State) (r : Run) (m : Half) : (hearEcho s r m).mem = s.mem := (rfl)

@[simp] theorem execSyAdd_canonical {s : State} (h : s.mem.canonical) (w : ShedRef) (f : T3) :
    Res.canonical (execSyAdd w f s) := by
  refine perThread_canonical h fun r m => ?_
  split
  · exact consume_canonical h ..
  · split
    · split <;> simp [h]
    · split
      case h_1 e => simpa using canonical_snd e (foldl_snd_canonical (fun a l ha => by simpa using ha) _ h)

@[simp] theorem execSyRd_canonical {s : State} (h : s.mem.canonical) (w : ShedRef) (f : T3) : Res.canonical (execSyRd w f s) := by
  refine perThread_canonical h fun r m => ?_
  (repeat' split) <;> simp [h]

@[simp] theorem execSyWait_canonical {s : State} (h : s.mem.canonical) (w : ShedRef) (f : T3) :
    Res.canonical (execSyWait w f s) := by
  refine perThread_canonical h fun r m => ?_
  dsimp only
  (repeat' split) <;> simp [h]

@[simp] theorem execSyWaitRelease_canonical {s : State} (h : s.mem.canonical) (w : ShedRef) :
    Res.canonical (execSyWaitRelease w s) := by
  simp only [execSyWaitRelease, Res.canonical_next]
  (repeat' split) <;> simp [h]

@[simp] theorem execThreadFence_canonical {s : State} (h : s.mem.canonical) (w : ShedRef) (f : T3) :
    Res.canonical (execThreadFence w f s) := by simp [execThreadFence, h]

@[simp] theorem settleBars_mem (s : State) (k : Nat) : (settleBars s k).mem = s.mem := by
  simp only [settleBars]
  (repeat' split) <;> simp

@[simp] theorem execBars_canonical {s : State} (h : s.mem.canonical) (w : ShedRef) (f : T3) :
    Res.canonical (execBars w f s) := by simp [execBars, h]

@[simp] theorem illegalWord_canonical {s : State} (h : s.mem.canonical) (w : ShedRef) : (illegalWord w s).mem.canonical :=
  onShed_canonical h fun _ => illegal_canonical h _

end Sys2Proof.Machine
end

section
/-! ### What keeps the memory canonical: loads, stores, atomics and triggers (10) -/
namespace Sys2Proof.Machine

@[simp] theorem eachLane_canonical {f : Nat → Shed × Env → State → Option (Shed × Env) × State}
    (hf : ∀ l a t, t.mem.canonical → (f l a t).2.mem.canonical) (l : List Nat) (a : Shed × Env) {s : State} (h : s.mem.canonical) :
    (eachLane f l a s).2.mem.canonical := by
  induction l generalizing a s with
  | nil => exact h
  | cons x l ih =>
    unfold eachLane
    split
    case h_1 e => exact ih _ (canonical_snd e (hf _ _ _ h))
    case h_2 e => exact canonical_snd e (hf _ _ _ h)

@[simp] theorem slotRead_canonical {s : State} (h : s.mem.canonical) (k fuel va n : Nat) (env : Env) (acc : Marked) :
    (slotRead k fuel va n env acc s).2.mem.canonical := by
  induction fuel generalizing s va n env acc with
  | zero => exact h
  | succ fuel ih =>
    unfold slotRead
    dsimp only
    split
    · exact h
    · split
      case h_1 e =>
        have h1 := canonical_snd e (slotXlat_canonical h ..)
        split
        · exact h1
        · exact ih (readMarked_canonical h1 ..) ..
      case h_2 e => exact canonical_snd e (slotXlat_canonical h ..)

theorem threadWrite_canonical {s t : State} (h : s.mem.canonical) {r : Run} {lane : Nat} {p : Place} {l : Marked}
    (e : threadWrite s r lane p l = .ok t) : t.mem.canonical := by
  unfold threadWrite at e
  dsimp only at e
  (repeat' split at e) <;> cases e
  · simpa using h
  · exact h
  · exact writeMarked_canonical h ..

@[simp] theorem loadN_canonical {s : State} (h : s.mem.canonical) (n : Nat) (w : ShedRef) (f : TI) (env : Env) :
    Res.canonical (loadN n w f env s) := by
  refine perThread_canonical h fun r m => ?_
  extract_lets one
  have h1 := eachLane_canonical (f := one) (fun l a t ht => by
    unfold one
    extract_lets va
    split
    · exact consume_canonical ht ..
    · split
      · exact threadFault_canonical ht ..
      · split
        case h_1 e => exact canonical_snd e (slotRead_canonical ht ..)
        case h_2 e => exact threadFault_canonical (canonical_snd e (slotRead_canonical ht ..)) ..) (lanesOf m) (r.h, env) h
  split
  case h_1 e => simpa using canonical_snd e h1
  case h_2 e => exact canonical_snd e h1

@[simp] theorem execLdB_canonical {s : State} (h : s.mem.canonical) (w : ShedRef) (f : TI) (env : Env) :
    Res.canonical (execLdB w f env s) := loadN_canonical h ..

@[simp] theorem execLdH_canonical {s : State} (h : s.mem.canonical) (w : ShedRef) (f : TI) (env : Env) :
    Res.canonical (execLdH w f env s) := loadN_canonical h ..

@[simp] theorem execLdW_canonical {s : State} (h : s.mem.canonical) (w : ShedRef) (f : TI) (env : Env) :
    Res.canonical (execLdW w f env s) := loadN_canonical h ..

@[simp] theorem execLdD_canonical {s : State} (h : s.mem.canonical) (w : ShedRef) (f : TI) (env : Env) :
    Res.canonical (execLdD w f env s) := loadN_canonical h ..

@[simp] theorem execLdQ_canonical {s : State} (h : s.mem.canonical) (w : ShedRef) (f : TI) (env : Env) :
    Res.canonical (execLdQ w f env s) := loadN_canonical h ..

@[simp] theorem storeN_canonical {s : State} (h : s.mem.canonical) (n : Nat) (w : ShedRef) (f : TI) (env : Env) :
    Res.canonical (storeN n w f env s) := by
  refine perThread_canonical h fun r m => ?_
  split
  · exact indexFault_canonical h ..
  split
  · exact h
  extract_lets one
  have h1 := eachLane_canonical (f := one) (fun l a t ht => by
    unfold one
    extract_lets va po v
    split
    · exact consume_canonical ht ..
    split
    · exact threadFault_canonical ht ..
    split
    case h_1 e =>
      have h2 := canonical_snd e (slotXlat_canonical ht ..)
      split
      · exact threadFault_canonical h2 ..
      split
      case h_1 ew => exact threadWrite_canonical h2 ew
      case h_2 => exact threadFault_canonical h2 ..
    case h_2 e => exact threadFault_canonical (canonical_snd e (slotXlat_canonical ht ..)) ..) (lanesOf m) (r.h, env) h
  split
  case h_1 e => simpa using canonical_snd e h1
  case h_2 e => exact canonical_snd e h1

@[simp] theorem execStB_canonical {s : State} (h : s.mem.canonical) (w : ShedRef) (f : TI) (env : Env) :
    Res.canonical (execStB w f env s) := storeN_canonical h ..

@[simp] theorem execStH_canonical {s : State} (h : s.mem.canonical) (w : ShedRef) (f : TI) (env : Env) :
    Res.canonical (execStH w f env s) := storeN_canonical h ..

@[simp] theorem execStW_canonical {s : State} (h : s.mem.canonical) (w : ShedRef) (f : TI) (env : Env) :
    Res.canonical (execStW w f env s) := storeN_canonical h ..

@[simp] theorem execStD_canonical {s : State} (h : s.mem.canonical) (w : ShedRef) (f : TI) (env : Env) :
    Res.canonical (execStD w f env s) := storeN_canonical h ..

@[simp] theorem execStQ_canonical {s : State} (h : s.mem.canonical) (w : ShedRef) (f : TI) (env : Env) :
    Res.canonical (execStQ w f env s) := storeN_canonical h ..

@[simp] theorem atomic_canonical {s : State} (h : s.mem.canonical) (op width : Nat) (ok : Bool) (w : ShedRef) (f : T3) (env : Env) :
    Res.canonical (atomic op width ok w f env s) := by
  refine perThread_canonical h fun r m => ?_
  extract_lets isOpen one
  split
  · simpa using h
  split
  · exact indexFault_canonical h ..
  split
  · exact indexFault_canonical h ..
  split
  · exact h
  have h1 := eachLane_canonical (f := one) (fun l a t ht => by
    unfold one
    extract_lets va po
    split
    · exact consume_canonical ht ..
    split
    · exact threadFault_canonical ht ..
    split
    case h_1 e => exact threadFault_canonical (canonical_snd e (slotXlat_canonical ht ..)) ..
    case h_2 e =>
      have h2 := canonical_snd e (slotXlat_canonical ht ..)
      split
      · split
        · exact threadFault_canonical h2 ..
        extract_lets x n at' x'
        split
        · exact threadFault_canonical h2 ..
        · exact h2
      split
      · exact h2
      · exact atomicNow_canonical h2 ..
    case h_3 e => exact threadFault_canonical (canonical_snd e (slotXlat_canonical ht ..)) ..) (lanesOf m) (r.h, env) h
  split
  case h_1 e => simpa using canonical_snd e h1
  case h_2 e => exact canonical_snd e h1

@[simp] theorem execAtom_canonical {s : State} (h : s.mem.canonical) (w : ShedRef) (f : T3) (env : Env) :
    Res.canonical (execAtom w f env s) := by simp [execAtom, h]

@[simp] theorem execAtomf_canonical {s : State} (h : s.mem.canonical) (w : ShedRef) (f : T3) (env : Env) :
    Res.canonical (execAtomf w f env s) := atomic_canonical h ..

@[simp] theorem execTrigArm_canonical {s : State} (h : s.mem.canonical) (w : ShedRef) (f : T3) (env : Env) :
    Res.canonical (execTrigArm w f env s) := by
  refine perThread_canonical h fun r m => ?_
  split
  · split <;> simp [h]
  extract_lets one
  have h1 := eachLane_canonical (f := one) (fun l a t ht => by
    unfold one
    extract_lets va
    split
    · exact consume_canonical ht ..
    split
    case h_1 e =>
      have h2 := canonical_snd e (slotRead_canonical ht ..)
      split
      · exact threadFault_canonical h2 ..
      split
      · exact threadFault_canonical h2 ..
      · simpa using h2
    case h_2 e => exact threadFault_canonical (canonical_snd e (slotRead_canonical ht ..)) ..) (lanesOf m) (r.h, env) h
  split
  case h_1 e => simpa using canonical_snd e h1
  case h_2 e => exact canonical_snd e h1

end Sys2Proof.Machine
end

section
/-! ### What keeps the memory canonical: pleached pairs (11) -/
namespace Sys2Proof.Machine

@[simp] theorem updPair_mem (s : State) (c : Nat) (f : Pair → Pair) : (updPair s c f).mem = s.mem := (rfl)

@[simp] theorem pairSend_mem (s : State) (c kind : Nat) (fields : List Nat) : (pairSend s c kind fields).mem = s.mem := by
  unfold pairSend
  split <;> simp

@[simp] theorem pairFault_canonical {s : State} (h : s.mem.canonical) (c status : Nat) :
    (pairFault s c status).mem.canonical := by simp [pairFault, h]

@[simp] theorem settlePair_canonical {s : State} (h : s.mem.canonical) (c : Nat) : (settlePair s c).mem.canonical := by
  simp only [settlePair]
  (repeat' split) <;> simp -implicitDefEqProofs [h]

@[simp] theorem pairLaunch_canonical {s : State} (h : s.mem.canonical) (c n : Nat) (ordered sat : Bool) :
    (pairLaunch s c n ordered sat).mem.canonical := by
  unfold pairLaunch
  split <;> simp [h]

@[simp] theorem execPair_canonical {s : State} (h : s.mem.canonical) (m : PairHdr) (dsig stepCtr : Word64) :
    Res.canonical (execPair m dsig stepCtr s) := by
  unfold execPair
  simp only [Res.canonical_next]
  split
  · exact h
  · exact settlePair_canonical (by simpa using h) _

@[simp] theorem diverged_canonical {s : State} (h : s.mem.canonical) (c ctr slot : Nat) :
    (diverged s c ctr slot).mem.canonical := by simp -implicitDefEqProofs [diverged, h]

@[simp] theorem compareStep_canonical {s : State} (h : s.mem.canonical) (c ctr : Nat) : (compareStep s c ctr).mem.canonical := by
  simp only [compareStep]
  (repeat' split) <;> simp -implicitDefEqProofs [h]

@[simp] theorem pairRerun_mem (s : State) (c : Nat) : (pairRerun s c).mem = s.mem := by
  unfold pairRerun
  split
  · exact foldl_mem (fun s e => rerunOn_mem s _ _) _ _
  · rfl

@[simp] theorem execDigest_canonical {s : State} (h : s.mem.canonical) (m : PairHdr) (stepCtr : Word64) (step : BitVec 128)
    (slots : List (BitVec 128)) : Res.canonical (execDigest m stepCtr step slots s) := by
  unfold execDigest
  simp only [Res.canonical_next]
  split
  · exact h
  · exact compareStep_canonical (by simpa using h) ..

@[simp] theorem execLocate_canonical {s : State} (h : s.mem.canonical) (m : PairHdr) (slot : BitVec 9)
    (digests : List (BitVec 48 × BitVec 128)) : Res.canonical (execLocate m slot digests s) := by
  unfold execLocate
  simp only [Res.canonical_next]
  split
  · exact h
  · simpa using h

@[simp] theorem execPairEnd_canonical {s : State} (h : s.mem.canonical) (m : PairHdr) : Res.canonical (execPairEnd m s) := by
  unfold execPairEnd
  simp only [Res.canonical_next]
  split
  · exact h
  · exact pairFault_canonical h ..

@[simp] theorem sendDigest_canonical {s : State} (h : s.mem.canonical) (c n : Nat) : (sendDigest s c n).mem.canonical := by
  simp only [sendDigest]
  (repeat' split) <;> simp [h]

@[simp] theorem execPleachPeerLost_canonical {s : State} (h : s.mem.canonical) (ctx : BitVec 8) :
    Res.canonical (execPleachPeerLost ctx s) := by
  simp only [execPleachPeerLost, Res.canonical_next]
  (repeat' split) <;> simp [h]

end Sys2Proof.Machine
end

section
/-! ### What keeps the memory canonical: launches, slots and steps (09, 10) -/
namespace Sys2Proof.Machine

@[simp] theorem stepSequence_canonical {s : State} (h : s.mem.canonical) (r : Run) (lane : Nat) :
    (stepSequence s r lane).mem.canonical := by simp [stepSequence, h]

@[simp] theorem execStepBegin_canonical {s : State} (h : s.mem.canonical) (w : ShedRef) (f : T3) (env : Env) :
    Res.canonical (execStepBegin w f env s) := by
  refine perShed_canonical h fun r => ?_
  extract_lets lane x _ opened _ enter va
  split
  · exact consume_canonical h ..
  split
  · exact stepSequence_canonical h ..
  split
  · exact h
  have enter_canonical : ∀ {s : State}, s.mem.canonical → (enter s).mem.canonical := fun h => by simpa [enter] using h
  split
  · exact enter_canonical (by unfold opened; split <;> exact h)
  split
  case h_1 e => exact threadFault_canonical (canonical_snd e (slotRead_canonical h ..)) ..
  case h_2 e =>
    have h1 := canonical_snd e (slotRead_canonical h ..)
    split
    · exact threadFault_canonical h1 ..
    split
    · exact threadFault_canonical h1 ..
    · exact enter_canonical (by exact h1)

@[simp] theorem execStepCommit_canonical {s : State} (h : s.mem.canonical) (w : ShedRef) (f : T3) :
    Res.canonical (execStepCommit w f s) := by
  refine perShed_canonical h fun r => ?_
  (repeat' split) <;> simp [h]

@[simp] theorem execCkassert_canonical {s : State} (h : s.mem.canonical) (w : ShedRef) (f : T3) :
    Res.canonical (execCkassert w f s) := by
  refine perThread_canonical h fun r m => ?_
  (repeat' split) <;> simp [h]

@[simp] theorem slotFault_canonical {s : State} (h : s.mem.canonical) (k c status : Nat) :
    (slotFault s k c status).mem.canonical := by simp [slotFault, h]

@[simp] theorem softRerun_canonical {s : State} (h : s.mem.canonical) (k : Nat) : (softRerun s k).mem.canonical := by
  simp only [softRerun]
  (repeat' split) <;> simp -implicitDefEqProofs [h]

@[simp] theorem twinRerun_mem (s : State) (k : Nat) : (twinRerun s k).mem = s.mem := by
  simp only [twinRerun]
  (repeat' split) <;> simp

@[simp] theorem endLaunch_mem (s : State) (c n : Nat) : (endLaunch s c n).mem = s.mem := by
  simp only [endLaunch]
  (repeat' split) <;> simp

@[simp] theorem execThreadEnd_canonical {s : State} (h : s.mem.canonical) (w : ShedRef) (f : T3) :
    Res.canonical (execThreadEnd w f s) := by
  refine perThread_canonical h fun r m => ?_
  dsimp only
  (repeat' split) <;> simp [h]

@[simp] theorem startSlot_canonical {s : State} (h : s.mem.canonical) (c : Nat) (l : Launch) (e : Nat × Option Nat) :
    (startSlot c l s e).mem.canonical := by
  simp only [startSlot]
  (repeat' split) <;> simp [h]

@[simp] theorem execLaunchStart_canonical {s : State} (h : s.mem.canonical) (ctx : BitVec 8) :
    Res.canonical (execLaunchStart ctx s) := by
  unfold execLaunchStart
  simp only [Res.canonical_next]
  split
  case h_1 => exact h
  case h_2 l _ =>
    have h1 := foldl_canonical (f := startSlot ctx.toNat l) (fun s e h => startSlot_canonical h ..) (slotsOf s (partOf ctx.toNat) l) h
    split
    · simpa using h1
    · exact h

@[simp] theorem copyCells_canonical {s : State} (h : s.mem.canonical) (src dst n : Nat) : (copyCells s src dst n).mem.canonical :=
  foldl_canonical (fun _ _ h => setPoison_mem_canonical h _) _
    (foldl_canonical (fun _ _ h => memPut_mem_canonical h ..) _ (memWipe_mem_canonical h ..))

@[simp] theorem saveSlot_canonical {s : State} (h : s.mem.canonical) (k : Nat) : (saveSlot s k).mem.canonical := by
  refine foldl_canonical (fun s e h => ?_) _ (by simp [h])
  simp [h]

@[simp] theorem restoreSlot_canonical {s : State} (h : s.mem.canonical) (k : Nat) : (restoreSlot s k).2.mem.canonical := by
  simp only [restoreSlot]
  (repeat' split) <;> simp [h]

@[simp] theorem goHome_mem (s : State) (k : Nat) : (goHome s k).mem = s.mem := by
  simp only [goHome]
  (repeat' split) <;> simp

@[simp] theorem execSlotSwitch_canonical {s : State} (h : s.mem.canonical) (cluster : BitVec 9) (toPart : BitVec 3) (toSlot : BitVec 9) :
    Res.canonical (execSlotSwitch cluster toPart toSlot s) := by
  unfold execSlotSwitch
  simp only [Res.canonical_next]
  split
  · exact h
  split
  · exact foldl_canonical (fun s e h => slotFault_canonical h ..) _ h
  · have home : ∀ (s : State) (e : Nat × Slot), s.mem.canonical → (goHome (saveSlot s e.1) e.1).mem.canonical :=
      fun s e h => by simpa using saveSlot_canonical h e.1
    have h1 := restoreSlot_canonical (foldl_canonical home
      (List.filter (fun e => !e.2.ended && e.2.active && e.2.host == cluster.toNat) s.slots) h) (slotKey toPart.toNat toSlot.toNat)
    split
    · exact slotFault_canonical (by simpa using h1) ..
    · simpa using h1

@[simp] theorem settleTwins_canonical {s : State} (h : s.mem.canonical) (c n : Nat) : (settleTwins s c n).2.mem.canonical := by
  unfold settleTwins
  refine List.foldlRecOn _ _ (motive := fun a : Bool × State => a.2.mem.canonical) h (fun a ha e _ => ?_)
  split
  · exact ha
  · split
    · exact ha
    · exact charge_canonical ha _
    · exact accept_canonical (by exact ha) ..
    · exact slotFault_canonical (record_canonical ha ..) ..

@[simp] theorem sendLocates_mem (s : State) (c : Nat) : (sendLocates s c).mem = s.mem := by
  simp only [sendLocates]
  (repeat' split) <;> simp

@[simp] theorem pairAllows_canonical {s : State} (h : s.mem.canonical) (c n : Nat) : (pairAllows s c n).2.mem.canonical := by
  simp only [pairAllows]
  (repeat' split) <;> simp [h]

@[simp] theorem sendHeldOps_mem (s : State) (c : Nat) : (sendHeldOps s c).mem = s.mem := by
  refine foldl_mem (fun s i => foldl_mem (fun s o => ?_) _ _) _ _
  split
  · split <;> simp
  · rfl

@[simp] theorem commitStep_canonical {s : State} (h : s.mem.canonical) (c : Nat) (l : Launch) :
    (commitStep s c l).mem.canonical := by
  unfold commitStep
  extract_lets sl prim st s1 s2 s3 s4 s5 s6
  have h2 : s2.mem.canonical := applyAtomics_canonical (applyHeld_canonical (by exact h) ..) ..
  have h4 : s4.mem.canonical := foldl_canonical (fun s w h => placeWrite_canonical h ..) _ (by exact h2)
  have h5 : s5.mem.canonical := foldl_canonical (fun s t h => by simpa using h) _ h4
  exact foldl_canonical (fun s e h => by simpa using h) _ (by simpa [s6] using h5)

@[simp] theorem execStepCommitPoint_canonical {s : State} (h : s.mem.canonical) (ctx : BitVec 8) :
    Res.canonical (execStepCommitPoint ctx s) := by
  unfold execStepCommitPoint
  simp only [Res.canonical_next]
  split
  · split
    · split
      case h_1 e => exact canonical_snd e (settleTwins_canonical h ..)
      case h_2 e =>
        have h1 := canonical_snd e (settleTwins_canonical h ..)
        split
        case h_1 e => exact canonical_snd e (pairAllows_canonical h1 ..)
        case h_2 e => exact commitStep_canonical (canonical_snd e (pairAllows_canonical h1 ..)) ..
    · exact h
  · exact h

@[simp] theorem execXlatDone_canonical {s : State} (h : s.mem.canonical) (ctx : BitVec 8) :
    Res.canonical (execXlatDone ctx s) := by
  simp only [execXlatDone, Res.canonical_next]
  (repeat' split) <;> simp [h]

end Sys2Proof.Machine
end

section
/-! ### What keeps the memory canonical: vector and tile instructions (10) -/
namespace Sys2Proof.Machine

@[simp] theorem vector_canonical {s : State} (h : s.mem.canonical) (ok use2 use3 : Bool) (val : Nat → Nat → Nat → Nat)
    (w : ShedRef) (f : T3) : Res.canonical (vector ok use2 use3 val w f s) := by simp [vector, h]

@[simp] theorem vecF2_canonical {s : State} (h : s.mem.canonical) (op : Fl → Fl → Fl) (w : ShedRef) (f : T3) :
    Res.canonical (vecF2 op w f s) := vector_canonical h ..

@[simp] theorem execVadd_canonical {s : State} (h : s.mem.canonical) (w : ShedRef) (f : T3) :
    Res.canonical (execVadd w f s) := vecF2_canonical h ..

@[simp] theorem execVsub_canonical {s : State} (h : s.mem.canonical) (w : ShedRef) (f : T3) :
    Res.canonical (execVsub w f s) := vecF2_canonical h ..

@[simp] theorem execVmul_canonical {s : State} (h : s.mem.canonical) (w : ShedRef) (f : T3) :
    Res.canonical (execVmul w f s) := vecF2_canonical h ..

@[simp] theorem execVmin_canonical {s : State} (h : s.mem.canonical) (w : ShedRef) (f : T3) :
    Res.canonical (execVmin w f s) := vecF2_canonical h ..

@[simp] theorem execVmax_canonical {s : State} (h : s.mem.canonical) (w : ShedRef) (f : T3) :
    Res.canonical (execVmax w f s) := vecF2_canonical h ..

@[simp] theorem execVfma_canonical {s : State} (h : s.mem.canonical) (w : ShedRef) (f : T3) :
    Res.canonical (execVfma w f s) := vector_canonical h ..

@[simp] theorem execVabs_canonical {s : State} (h : s.mem.canonical) (w : ShedRef) (f : T3) :
    Res.canonical (execVabs w f s) := vector_canonical h ..

@[simp] theorem execVneg_canonical {s : State} (h : s.mem.canonical) (w : ShedRef) (f : T3) :
    Res.canonical (execVneg w f s) := vector_canonical h ..

@[simp] theorem execViadd_canonical {s : State} (h : s.mem.canonical) (w : ShedRef) (f : T3) :
    Res.canonical (execViadd w f s) := vector_canonical h ..

@[simp] theorem execVimul_canonical {s : State} (h : s.mem.canonical) (w : ShedRef) (f : T3) :
    Res.canonical (execVimul w f s) := vector_canonical h ..

@[simp] theorem execVimad_canonical {s : State} (h : s.mem.canonical) (w : ShedRef) (f : T3) :
    Res.canonical (execVimad w f s) := vector_canonical h ..

@[simp] theorem vecLogic_canonical {s : State} (h : s.mem.canonical) (op : BitVec 128 → BitVec 128 → BitVec 128) (w : ShedRef)
    (f : T3) : Res.canonical (vecLogic op w f s) := vector_canonical h ..

@[simp] theorem execVand_canonical {s : State} (h : s.mem.canonical) (w : ShedRef) (f : T3) :
    Res.canonical (execVand w f s) := vecLogic_canonical h ..

@[simp] theorem execVor_canonical {s : State} (h : s.mem.canonical) (w : ShedRef) (f : T3) :
    Res.canonical (execVor w f s) := vecLogic_canonical h ..

@[simp] theorem execVxor_canonical {s : State} (h : s.mem.canonical) (w : ShedRef) (f : T3) :
    Res.canonical (execVxor w f s) := vecLogic_canonical h ..

@[simp] theorem convertLanes_mem (k d : Nat) (sat : Bool) (src : List Nat) (n : Nat) (s : State) :
    (convertLanes k d sat src n s).2.mem = s.mem := by
  induction n generalizing s with
  | zero => rfl
  | succ n ih =>
    unfold convertLanes
    dsimp only
    rw [ih]
    split <;> rfl

@[simp] theorem execVcvt_canonical {s : State} (h : s.mem.canonical) (w : ShedRef) (f : T3) : Res.canonical (execVcvt w f s) := by
  refine perThread_canonical h fun r m => ?_
  dsimp only
  simpa using foldl_snd_canonical (s := s) (fun a l ha => by simpa using ha) _ h

@[simp] theorem putTile_mem (s : State) (k m : Nat) (t : Tile) : (putTile s k m t).mem = s.mem := (rfl)

@[simp] theorem updCk_mem (s : State) (n : Nat) (f : ChkCl → ChkCl) : (updCk s n f).mem = s.mem := (rfl)

@[simp] theorem readRows_canonical {s : State} (h : s.mem.canonical) (k stride len n va : Nat) (env : Env) (acc : List (List Byte))
    (po : Bool) : (readRows k stride len n va env acc po s).2.mem.canonical := by
  induction n generalizing s va env acc po with
  | zero => exact h
  | succ n ih =>
    unfold readRows
    split
    case h_1 e => exact ih (canonical_snd e (slotRead_canonical h ..)) ..
    case h_2 e => exact canonical_snd e (slotRead_canonical h ..)

@[simp] theorem execTld_canonical {s : State} (h : s.mem.canonical) (w : ShedRef) (f : TM) (env : Env) :
    Res.canonical (execTld w f env s) := by
  refine perShed_canonical h fun r => ?_
  extract_lets l
  split
  · exact consume_canonical h ..
  split
  · exact h
  split
  · exact threadFault_canonical h ..
  split
  case h_1 e => simpa using canonical_snd e (readRows_canonical h ..)
  case h_2 e => exact threadFault_canonical (canonical_snd e (readRows_canonical h ..)) ..

theorem threadWrites_canonical {s t : State} (h : s.mem.canonical) {r : Run} {lane fuel va : Nat} {env : Env} {l : Marked}
    (e : threadWrites r lane env fuel va l s = .ok t) : t.mem.canonical := by
  induction fuel generalizing s va l with
  | zero => cases e; exact h
  | succ fuel ih =>
    unfold threadWrites at e
    dsimp only at e
    split at e
    · cases e; exact h
    · split at e
      case h_1 ex =>
        have h1 := canonical_snd ex (slotXlat_canonical h ..)
        split at e
        · cases e
        · split at e
          case h_1 ew => exact ih (threadWrite_canonical h1 ew) e
          case h_2 => cases e
      case h_2 => cases e

@[simp] theorem execTst_canonical {s : State} (h : s.mem.canonical) (w : ShedRef) (f : TM) (env : Env) :
    Res.canonical (execTst w f env s) := by
  refine perShed_canonical h fun r => ?_
  extract_lets l x sat
  split
  · exact consume_canonical h ..
  split
  · exact h
  split
  · exact threadFault_canonical h ..
  split
  · exact indexFault_canonical h ..
  split
  · exact indexFault_canonical h ..
  split
  · exact h
  split
  case h_1 e =>
    refine (advance_mem ..).symm ▸ foldl_ok_canonical (fun a i t ha e => ?_) _ (fun t e => by cases e; exact h) e
    split at e
    · exact threadWrites_canonical (ha _ rfl) e
    · cases e
  case h_2 => exact threadFault_canonical h ..

@[simp] theorem execTzero_canonical {s : State} (h : s.mem.canonical) (w : ShedRef) (f : TM) :
    Res.canonical (execTzero w f s) := by
  refine perShed_canonical h fun r => ?_
  (repeat' split) <;> simp [h]

end Sys2Proof.Machine
end

section
/-! ### What keeps the memory canonical: tile products and their check (12) -/
namespace Sys2Proof.Machine

@[simp] theorem execTmma_canonical {s : State} (h : s.mem.canonical) (w : ShedRef) (f : TM) : Res.canonical (execTmma w f s) := by
  refine perShed_canonical h fun r => ?_
  dsimp only
  (repeat' split) <;> simp [h]

@[simp] theorem deliver_mem (s : State) (n : Nat) (j : TmmaJob) (res : Option (List TileErr)) :
    (deliver s n j res).mem = s.mem := by
  simp only [deliver]
  (repeat' split) <;> simp

@[simp] theorem setFront_mem (s : State) (n : Nat) (j : TmmaJob) : (setFront s n j).mem = s.mem := (rfl)

@[simp] theorem chkRec_canonical {s : State} (h : s.mem.canonical) (code n : Nat) (p : List Byte) :
    (chkRec s code n p).mem.canonical := by simp [chkRec, h]

@[simp] theorem chargeFor_canonical {s : State} (h : s.mem.canonical) (n : Nat) (j : TmmaJob) :
    (chargeFor s n j).mem.canonical := by
  unfold chargeFor
  split <;> simp [h]

@[simp] theorem quarantineFor_canonical {s : State} (h : s.mem.canonical) (n cause : Nat) (j : TmmaJob) :
    (quarantineFor s n cause j).mem.canonical := by
  unfold quarantineFor
  split <;> simp [h]

@[simp] theorem classify_canonical {s : State} (h : s.mem.canonical) (n : Nat) (j : TmmaJob) (cls arb outcome : Nat) :
    (classify s n j cls arb outcome).mem.canonical := by
  simp only [classify]
  (repeat' split) <;> simp -implicitDefEqProofs [h]

@[simp] theorem countFail_canonical {s : State} (h : s.mem.canonical) (n : Nat) (j : TmmaJob) :
    (countFail s n j).mem.canonical := by
  simp only [countFail]
  (repeat' split) <;> simp -implicitDefEqProofs [h]

@[simp] theorem countTile_mem (s : State) : (countTile s).mem = s.mem := (rfl)

@[simp] theorem dispute_canonical {s : State} (h : s.mem.canonical) (n : Nat) (j : TmmaJob) (col row diff : Nat) :
    (dispute s n j col row diff).mem.canonical := by simp -implicitDefEqProofs [dispute, h]

@[simp] theorem unresolved_canonical {s : State} (h : s.mem.canonical) (n : Nat) (j : TmmaJob) (arb : Nat) :
    (unresolved s n j arb).mem.canonical := by simp [unresolved, h]

@[simp] theorem accumulate_canonical {s : State} (h : s.mem.canonical) (n : Nat) (j : TmmaJob) (fault again : Bool) :
    (accumulate s n j fault again).mem.canonical := by
  unfold accumulate
  (repeat' split) <;> simp [h]

@[simp] theorem execTileCheckComplete_canonical {s : State} (h : s.mem.canonical) (cluster : BitVec 9) (prodErrs : List TileErr)
    (sumFault residueFault accFault accAgain : Bool) :
    Res.canonical (execTileCheckComplete cluster prodErrs sumFault residueFault accFault accAgain s) := by
  unfold execTileCheckComplete
  extract_lets n
  change Mem.canonical (State.mem _)
  split
  rename_i front s1 e
  have h1 : s1.mem.canonical := by
    split at e
    · cases e; exact h
    · split at e
      · cases e; exact h
      · cases e; exact h
  clear e
  split
  · exact h1
  case h_2 j =>
  split
  · exact h1
  extract_lets j2 s2 accF accA res
  have h2 : s2.mem.canonical := by simpa [s2] using h1
  clear_value s2
  split
  rename_i v s3 e
  have h3 : s3.mem.canonical := canonical_snd e (by simpa using h2)
  clear e
  split
  · exact dispute_canonical (countFail_canonical h2 ..) ..
  split
  split
  rename_i c1 r1 _ c r s4 diff e
  have h4 : s4.mem.canonical := by
    (repeat' split at e) <;> cases e
    · exact h3
    · exact h3
    · exact h3
    · exact h3
    · exact h2
  clear e
  extract_lets bad col row s5 s6
  have h5 : s5.mem.canonical := by
    unfold s5
    split <;> exact h4
  clear_value s5
  split
  · exact accumulate_canonical (chargeFor_canonical (chkRec_canonical h5 ..) ..) ..
  split
  · refine dispute_canonical ?_ ..
    have h6 : s6.mem.canonical := by
      unfold s6
      split
      · exact chkRec_canonical h5 ..
      · exact h5
    exact countFail_canonical h6 ..
  · exact accumulate_canonical h5 ..

@[simp] theorem decide12_canonical {s : State} (h : s.mem.canonical) (n : Nat) (j : TmmaJob) (outcome arb : Nat) :
    (decide12 s n j outcome arb).mem.canonical := by
  simp only [decide12]
  (repeat' split) <;> simp -implicitDefEqProofs [h]

@[simp] theorem settleJob_mem (s : State) (n : Nat) (j : TmmaJob) (res : Option (List TileErr)) :
    (settleJob s n j res).mem = s.mem := by simp [settleJob]

@[simp] theorem withoutArbiter_canonical {s : State} (h : s.mem.canonical) (n : Nat) (j : TmmaJob) (sumsOk : Bool) :
    (withoutArbiter s n j sumsOk).mem.canonical := by simp -implicitDefEqProofs [withoutArbiter, h]

@[simp] theorem beginArb_canonical {s : State} (h : s.mem.canonical) (n : Nat) : (beginArb s n).mem.canonical := by
  unfold beginArb
  (repeat' split) <;> simp [h]

@[simp] theorem execArbiterResult_canonical {s : State} (h : s.mem.canonical) (cluster : BitVec 9) (crcOk sumsOk : Bool)
    (qErrs : List TileErr) (ownCheckOk : Bool) : Res.canonical (execArbiterResult cluster crcOk sumsOk qErrs ownCheckOk s) := by
  unfold execArbiterResult
  extract_lets n _
  change Mem.canonical (State.mem _)
  split
  · exact h
  split
  · exact h
  split
  · simpa using decide12_canonical h n _ 3 0xFFFF
  split
  · exact withoutArbiter_canonical h ..
  extract_lets s1 _ s2 s3 s4 s5
  have h1 : s1.mem.canonical := by simpa [s1] using h
  clear_value s1
  split
  · have h3 : s3.mem.canonical := suspect_canonical (chkRec_canonical (by exact h1) ..) _
    split
    · simpa using decide12_canonical h3 n _ 4 _
    · simpa using h3
  split
  · have h4 : s4.mem.canonical := decide12_canonical h1 ..
    have h5 : s5.mem.canonical := by
      unfold s5
      split
      · exact h4
      · exact classify_canonical h4 ..
    simpa using h5
  split
  · simpa using decide12_canonical h1 n _ 1 _
  · simpa using decide12_canonical h1 n _ 4 _

@[simp] theorem execRepeatResult_canonical {s : State} (h : s.mem.canonical) (cluster : BitVec 9) (p2Errs : List TileErr) :
    Res.canonical (execRepeatResult cluster p2Errs s) := by
  simp only [execRepeatResult, Res.canonical_next]
  (repeat' split) <;> simp -implicitDefEqProofs [h]

end Sys2Proof.Machine
end

section
/-! ### What keeps the memory canonical: collectives (18) -/
namespace Sys2Proof.Machine

@[simp] theorem groupRec_canonical {s : State} (h : s.mem.canonical) (code c g cause port : Nat) :
    (groupRec s code c g cause port).mem.canonical := by simp [groupRec, h]

@[simp] theorem failGroup_canonical {s : State} (h : s.mem.canonical) (c g cause port : Nat) :
    (failGroup s c g cause port).mem.canonical := by simp -implicitDefEqProofs [failGroup, h]

@[simp] theorem sendForm_mem (s : State) (c g p : Nat) : (sendForm s c g p).mem = s.mem := by simp [sendForm]

@[simp] theorem updCol_mem (s : State) (c g : Nat) (f : Col → Col) : (updCol s c g f).mem = s.mem := (rfl)

@[simp] theorem grantPort_mem (p n : Nat) (s : State) : (grantPort p n s).mem = s.mem := by
  induction n generalizing s with
  | zero => rfl
  | succ n ih =>
    unfold grantPort
    dsimp only
    split
    · rfl
    · split <;> simp [ih]

@[simp] theorem grantAll_mem (s : State) : (grantAll s).mem = s.mem := by simp [grantAll]

@[simp] theorem flushCol_mem (s : State) (c g : Nat) : (flushCol s c g).mem = s.mem := by
  unfold flushCol
  split <;> simp

@[simp] theorem colRead_canonical {s : State} (h : s.mem.canonical) (c va n : Nat) (env : Env) :
    (colRead s c va n env).2.mem.canonical := by simp [colRead, h]

@[simp] theorem colWrite_canonical {s : State} (h : s.mem.canonical) (c fuel va : Nat) (l : List Byte) :
    (colWrite c fuel va l s).2.mem.canonical := by
  induction fuel generalizing s va l with
  | zero => exact h
  | succ fuel ih =>
    unfold colWrite
    dsimp only
    split
    · exact h
    · split
      · split
        · exact h
        · exact ih (placeWrite_canonical h ..) ..
      · exact h

@[simp] theorem colFault_canonical {s : State} (h : s.mem.canonical) (c : Nat) (f : Nat × Nat) :
    (colFault s c f).mem.canonical := by simp [colFault, h]

@[simp] theorem lastPhase_canonical {s : State} (h : s.mem.canonical) (c g : Nat) (x : Col) :
    (lastPhase s c g x).mem.canonical := by
  simp only [lastPhase]
  (repeat' split) <;> simp -implicitDefEqProofs [h]

@[simp] theorem runPhases_canonical {s : State} (h : s.mem.canonical) (c g fuel : Nat) :
    (runPhases c g fuel s).mem.canonical := by
  induction fuel generalizing s with
  | zero => exact h
  | succ fuel ih =>
    unfold runPhases
    split
    · exact h
    · split
      · exact lastPhase_canonical h ..
      · extract_lets v a wide
        split
        · exact h
        · extract_lets s1
          have h1 : s1.mem.canonical := by simpa [s1] using h
          split
          rename_i bad s2 e
          have h2 : s2.mem.canonical := by
            split at e
            · exact canonical_snd e (colWrite_canonical h1 ..)
            · cases e; exact h1
          split
          · exact colFault_canonical h2 ..
          · exact ih (by simpa using h2)

@[simp] theorem startCol_canonical {s : State} (h : s.mem.canonical) (c g : Nat) : (startCol s c g).mem.canonical := by
  simp only [startCol]
  (repeat' split) <;> simp -implicitDefEqProofs [h]

@[simp] theorem settleGroup_canonical {s : State} (h : s.mem.canonical) (c g : Nat) : (settleGroup s c g).mem.canonical := by
  simp only [settleGroup]
  (repeat' split) <;> simp -implicitDefEqProofs [h]

@[simp] theorem commitGroup_canonical {s : State} (h : s.mem.canonical) (c g : Nat) (rose : Bool) :
    (commitGroup s c g rose).mem.canonical := by
  simp only [commitGroup]
  (repeat' split) <;> simp -implicitDefEqProofs [h]

@[simp] theorem commitColQueue_mem (s : State) (c : Nat) (rose : Bool) : (commitColQueue s c rose).mem = s.mem := by
  unfold commitColQueue
  split <;> simp

@[simp] theorem topoChange_canonical {s : State} (h : s.mem.canonical) (p : Nat) : (topoChange s p).mem.canonical := by
  refine foldl_canonical (fun s e h => ?_) _ h
  dsimp only
  split
  · simpa using abortGroup_canonical h ..
  · exact h

@[simp] theorem neighbourMoved_mem (s : State) (p : Nat) : (neighbourMoved s p).mem = s.mem := (rfl)

@[simp] theorem execFormSend_canonical {s : State} (h : s.mem.canonical) (ctx : BitVec 8) (group : BitVec 4) :
    Res.canonical (execFormSend ctx group s) := by
  simp only [execFormSend, Res.canonical_next]
  (repeat' split) <;> simp [h]

@[simp] theorem fetchCol_canonical {s : State} (h : s.mem.canonical) (c : Nat) (env : Env) :
    (fetchCol s c env).mem.canonical := by
  unfold fetchCol
  dsimp only
  split
  · exact h
  · split
    case h_1 e => exact colFault_canonical (canonical_snd e (colRead_canonical h ..)) ..
    case h_2 e =>
      have h1 := canonical_snd e (colRead_canonical h ..)
      split
      · exact originate_canonical (by simpa using h1) ..
      · split
        · exact startCol_canonical (by simpa using h1) ..
        · split
          · exact startCol_canonical (by simpa using h1) ..
          · split
            case h_1 e => exact colFault_canonical (canonical_snd e (colRead_canonical (by simpa using h1) ..)) ..
            case h_2 e =>
              have h2 := canonical_snd e (colRead_canonical (by simpa using h1) ..)
              split
              · exact originate_canonical (by simpa using h2) ..
              · exact startCol_canonical (by simpa using h2) ..

@[simp] theorem execCollectiveGrant_canonical {s : State} (h : s.mem.canonical) (m : ColHdr) (axis : BitVec 2) (first : Nat) :
    Res.canonical (execCollectiveGrant m axis first s) := by
  unfold execCollectiveGrant
  simp only [Res.canonical_next]
  split <;> simpa using h

@[simp] theorem takeData_canonical {s : State} (h : s.mem.canonical) (m : ColHdr) (d : ColData) :
    (takeData s m d).mem.canonical := by
  simp only [takeData]
  (repeat' split) <;> simp [h]

@[simp] theorem takeEarly_canonical {s : State} (h : s.mem.canonical) (c g fuel : Nat) :
    (takeEarly c g fuel s).mem.canonical := by
  induction fuel generalizing s with
  | zero => exact h
  | succ fuel ih =>
    unfold takeEarly
    dsimp only
    split
    · split
      · exact ih (takeData_canonical (by simpa using h) ..)
      · exact h
    · exact h

@[simp] theorem settleEarly_canonical {s : State} (h : s.mem.canonical) (c : Nat) : (settleEarly s c).mem.canonical := by
  refine foldl_canonical (fun s e h => ?_) _ h
  simp [h]

@[simp] theorem execCollectiveFetch_canonical {s : State} (h : s.mem.canonical) (ctx : BitVec 8) (env : Env) :
    Res.canonical (execCollectiveFetch ctx env s) := by simp [execCollectiveFetch, h]

@[simp] theorem takeAll_canonical {s : State} (h : s.mem.canonical) (m : ColHdr) (d : ColData) :
    (takeAll s m d).mem.canonical := by
  simp only [takeAll]
  (repeat' split) <;> simp [h]

@[simp] theorem execForm_canonical {s : State} (h : s.mem.canonical) (port : BitVec 3) (m : FormMsg) :
    Res.canonical (execForm port m s) := by
  simp only [execForm, Res.canonical_next]
  (repeat' split) <;> simp [h]

@[simp] theorem execPieceReceive_canonical {s : State} (h : s.mem.canonical) (m : ColHdr) (d : ColData) :
    Res.canonical (execPieceReceive m d s) := takeAll_canonical h ..

@[simp] theorem execChunkReceive_canonical {s : State} (h : s.mem.canonical) (m : ColHdr) (d : ColData) :
    Res.canonical (execChunkReceive m d s) := by
  unfold execChunkReceive
  simp only [Res.canonical_next]
  split <;> exact takeAll_canonical h ..

@[simp] theorem execAbort_canonical {s : State} (h : s.mem.canonical) (m : ColHdr) (cause : Byte) :
    Res.canonical (execAbort m cause s) := by
  unfold execAbort
  simp only [Res.canonical_next]
  split
  · exact h
  split <;> simpa using h

@[simp] theorem execBarrierRelease_canonical {s : State} (h : s.mem.canonical) (ctx : BitVec 8) (group : BitVec 4) :
    Res.canonical (execBarrierRelease ctx group s) := by
  simp only [execBarrierRelease, Res.canonical_next]
  (repeat' split) <;> simp [h]

@[simp] theorem execCollectiveEnd_canonical {s : State} (h : s.mem.canonical) (ctx : BitVec 8) (group : BitVec 4) (env : Env) :
    Res.canonical (execCollectiveEnd ctx group env s) := by
  unfold execCollectiveEnd
  extract_lets c g sat s0
  change Mem.canonical (State.mem _)
  split
  · exact h
  split
  · exact h
  split
  · exact h
  extract_lets b
  split
  rename_i bad s1 e1
  have h1 : s1.mem.canonical :=
    canonical_snd e1 (colWrite_canonical (foldl_canonical (fun s e h => hbmDecode_canonical h ..) _ h) ..)
  split
  rename_i bad' s2 e2
  have h2 : s2.mem.canonical := by
    split at e2
    · cases e2; exact h1
    · exact canonical_snd e2 (colWrite_canonical h1 ..)
  split
  · exact colFault_canonical h2 ..
  · exact takeEarly_canonical (startCol_canonical (by simpa using h2) ..) ..

@[simp] theorem execCollectiveTimeout_canonical {s : State} (h : s.mem.canonical) (ctx : BitVec 8) (group : BitVec 4) :
    Res.canonical (execCollectiveTimeout ctx group s) := by
  simp only [execCollectiveTimeout, Res.canonical_next]
  (repeat' split) <;> simp [h]

end Sys2Proof.Machine
end

section
/-! ### What keeps the memory canonical: links and time (17) -/
namespace Sys2Proof.Machine

@[simp] theorem timeRec_canonical {s : State} (h : s.mem.canonical) (code sev port amount : Nat) :
    (timeRec s code sev port amount).mem.canonical := by
  unfold timeRec
  (repeat' split) <;> simp [h]

@[simp] theorem settleTime_canonical {s : State} (h : s.mem.canonical) : (settleTime s).mem.canonical := by
  unfold settleTime
  extract_lets t t1 clash s1 s2 v s3
  have h2 : s2.mem.canonical := by
    unfold s2
    split
    · exact timeRec_canonical (by exact h) ..
    · exact h
  split
  · exact h2
  · (repeat' split) <;> exact timeRec_canonical (by exact h2) ..

@[simp] theorem execTimeFlitSend_canonical {s : State} (h : s.mem.canonical) (port : BitVec 3) :
    Res.canonical (execTimeFlitSend port s) := by
  simp only [execTimeFlitSend, Res.canonical_next]
  (repeat' split) <;> simp [h]

@[simp] theorem correctRate_mem (s : State) (off2 : Int) : (correctRate s off2).mem = s.mem := (rfl)

@[simp] theorem followParent_canonical {s : State} (h : s.mem.canonical) (p : Nat) (off2 : Int) :
    (followParent s p off2).mem.canonical := by
  simp only [followParent]
  (repeat' split) <;> simp [h]

@[simp] theorem execTimeFlitReceive_canonical {s : State} (h : s.mem.canonical) (port : BitVec 3) (t : TimeFlit) :
    Res.canonical (execTimeFlitReceive port t s) := by
  simp only [execTimeFlitReceive, Res.canonical_next]
  (repeat' split) <;> simp -implicitDefEqProofs [h]

@[simp] theorem execTimeBoundExpiry_canonical {s : State} (h : s.mem.canonical)  :
    Res.canonical (execTimeBoundExpiry s) := by simp [execTimeBoundExpiry, h]

@[simp] theorem execTbRefLost_canonical {s : State} (h : s.mem.canonical) : Res.canonical (execTbRefLost s) := by
  simp only [execTbRefLost, Res.canonical_next]
  (repeat' split) <;> simp [h]

@[simp] theorem opAborted_canonical {s : State} (h : s.mem.canonical) (p : Nat) (o : LinkOpTx) :
    (opAborted s p o).mem.canonical := by simp [opAborted, h]

@[simp] theorem dropKept_canonical {s : State} (h : s.mem.canonical) (p : Nat) : (dropKept s p).mem.canonical := by
  refine foldl_canonical (fun s e h => ?_) _ h
  simp [h]

@[simp] theorem portDown_canonical {s : State} (h : s.mem.canonical) (p cause : Nat) : (portDown s p cause).mem.canonical := by
  unfold portDown
  extract_lets l s1 s2
  have h2 : s2.mem.canonical := accept_canonical h ..
  split
  · exact h
  · refine settleTime_canonical ?_
    split
    · exact topoChange_canonical h2 _
    · exact h2

@[simp] theorem execLinkDown_canonical {s : State} (h : s.mem.canonical) (port : BitVec 3) (cause : BitVec 4) :
    Res.canonical (execLinkDown port cause s) := by
  simp only [execLinkDown, Res.canonical_next]
  (repeat' split) <;> simp [h]

@[simp] theorem execLinkKeepExpiry_canonical {s : State} (h : s.mem.canonical) (port : BitVec 3) :
    Res.canonical (execLinkKeepExpiry port s) := by
  simp only [execLinkKeepExpiry, Res.canonical_next]
  (repeat' split) <;> simp [h]

@[simp] theorem beginTrain_mem (s : State) (p : Nat) : (beginTrain s p).mem = s.mem := (rfl)

@[simp] theorem execLinkTrainStart_canonical {s : State} (h : s.mem.canonical) (port : BitVec 3) :
    Res.canonical (execLinkTrainStart port s) := by
  simp only [execLinkTrainStart, Res.canonical_next]
  (repeat' split) <;> simp [h]

@[simp] theorem execLinkTrainRetry_canonical {s : State} (h : s.mem.canonical) (port : BitVec 3) :
    Res.canonical (execLinkTrainRetry port s) := by
  simp only [execLinkTrainRetry, Res.canonical_next]
  (repeat' split) <;> simp [h]

@[simp] theorem execLinkTrainTimeout_canonical {s : State} (h : s.mem.canonical) (port : BitVec 3) :
    Res.canonical (execLinkTrainTimeout port s) := by
  simp only [execLinkTrainTimeout, Res.canonical_next]
  (repeat' split) <;> simp -implicitDefEqProofs [h]

@[simp] theorem execLinkTrained_canonical {s : State} (h : s.mem.canonical) (port : BitVec 3) (nbr : NeighbourId) :
    Res.canonical (execLinkTrained port nbr s) := by
  unfold execLinkTrained
  extract_lets p l mine sk pay had oldSer same goOn s1 s2 n0 n1 s3 s4 s5 s6
  change Mem.canonical (State.mem _)
  split
  · exact h
  split
  · exact accept_canonical (by simpa using h) ..
  split
  · exact accept_canonical (by simpa using h) ..
  have h1 : s1.mem.canonical := by
    unfold s1
    split
    · exact accept_canonical h ..
    · exact h
  clear_value s1
  have h2 : s2.mem.canonical := by
    unfold s2
    split
    · exact h1
    · exact dropKept_canonical h1 _
  clear_value s2
  have h4 : s4.mem.canonical := record_canonical (by simpa [s3] using h2) ..
  clear_value s4
  have h5 : s5.mem.canonical := by
    unfold s5
    split
    · simpa using h4
    · exact h4
  clear_value s5
  have h6 : s6.mem.canonical := by
    unfold s6
    split
    · exact h5
    · simpa using h5
  simpa using h6

@[simp] theorem execAlignSend_canonical {s : State} (h : s.mem.canonical) (port : BitVec 3) :
    Res.canonical (execAlignSend port s) := by
  simp only [execAlignSend, Res.canonical_next]
  (repeat' split) <;> simp [h]

@[simp] theorem resendOrDown_canonical {s : State} (h : s.mem.canonical) (p : Nat) : (resendOrDown s p).mem.canonical := by
  simp only [resendOrDown]
  (repeat' split) <;> simp [h]

@[simp] theorem execReplayTimeout_canonical {s : State} (h : s.mem.canonical) (port : BitVec 3) :
    Res.canonical (execReplayTimeout port s) := by
  simp only [execReplayTimeout, Res.canonical_next]
  (repeat' split) <;> simp [h]

@[simp] theorem sendNak_mem (s : State) (p : Nat) : (sendNak s p).mem = s.mem := by
  unfold sendNak
  split <;> simp

@[simp] theorem crcFailed_canonical {s : State} (h : s.mem.canonical) (p : Nat) : (crcFailed s p).mem.canonical := by
  simp only [crcFailed]
  (repeat' split) <;> simp -implicitDefEqProofs [h]

@[simp] theorem takeHeader_canonical {s : State} (h : s.mem.canonical) (p : Nat) (fg : FlitGroup) :
    (takeHeader s p fg).mem.canonical := by
  unfold takeHeader
  split <;> simp -implicitDefEqProofs [h]

@[simp] theorem takeFlit_mem (s : State) (p : Nat) (fg : FlitGroup) : (takeFlit s p fg).mem = s.mem := by
  simp only [takeFlit]
  (repeat' split) <;> simp

@[simp] theorem execFlitGroupReceive_canonical {s : State} (h : s.mem.canonical) (port : BitVec 3) (fg : FlitGroup) :
    Res.canonical (execFlitGroupReceive port fg s) := by
  simp only [execFlitGroupReceive, Res.canonical_next]
  (repeat' split) <;> simp [h]

@[simp] theorem maybeWrite_canonical {s : State} (h : s.mem.canonical) (l : List (Place × Marked)) :
    (maybeWrite s l).mem.canonical := by
  refine foldl_canonical (fun s g h => ?_) _ h
  dsimp only
  split
  · exact writeMarked_canonical (by simpa using h) ..
  · simpa using h

@[simp] theorem execLinkOpReceive_canonical {s : State} (h : s.mem.canonical) (port : BitVec 3) (m : LinkOpMsg) (env : Env) :
    Res.canonical (execLinkOpReceive port m env s) := by
  unfold execLinkOpReceive
  extract_lets p c x reject note s1 ps l s2 s3
  change Mem.canonical (State.mem _)
  have hr : ∀ {s : State}, s.mem.canonical → (reject s).mem.canonical := fun h => by simpa [reject] using h
  have hn : ∀ {s : State}, s.mem.canonical → (note s).mem.canonical := fun h => accept_canonical h ..
  split
  · exact h
  split
  · exact hr (hn h)
  split
  · exact hr h
  have h1 : s1.mem.canonical := foldl_canonical (fun s i h => xlatE_canonical h ..) _ h
  clear_value s1
  split
  · exact h1
  split
  · exact hr (hn (maybeWrite_canonical h1 _))
  · have h2 : s2.mem.canonical := foldl_canonical (fun s e h => writeMarked_canonical h ..) _ h1
    have h3 : s3.mem.canonical := by
      unfold s3
      split
      · simpa using h2
      · exact h2
    simpa using h3

@[simp] theorem execLinkOpReplyReceive_canonical {s : State} (h : s.mem.canonical) (port : BitVec 3) (id : BitVec 32)
    (accepted : Bool) : Res.canonical (execLinkOpReplyReceive port id accepted s) := by
  simp only [execLinkOpReplyReceive, Res.canonical_next]
  (repeat' split) <;> simp -implicitDefEqProofs [h]

@[simp] theorem commitAxisCtl_canonical {s : State} (h : s.mem.canonical) (old new : Word64) :
    (commitAxisCtl s old new).mem.canonical := by
  refine foldl_canonical (fun s a h => ?_) _ h
  extract_lets o n x tested s1 s2 s3 s4
  split
  · split
    · exact h
    · exact portDown_canonical (portDown_canonical (record_canonical (by exact h) ..) ..) ..
  · split
    · have h3 : s3.mem.canonical := by
        unfold s3
        split <;> exact h
      exact openAxis_canonical (by exact h3) _
    · exact h

end Sys2Proof.Machine
end

section
/-! ### What keeps the memory canonical: power, domains and pins (02, 03) -/
namespace Sys2Proof.Machine

@[simp] theorem railsOff_canonical (s : State) : (railsOff s).mem.canonical := by simp [railsOff]

@[simp] theorem storeCounter_mem (s : State) : (storeCounter s).mem = s.mem := (rfl)

@[simp] theorem powerDown_canonical (s : State) : (powerDown s).mem.canonical := by
  unfold powerDown
  extract_lets s1 s2 _ s3
  have h2 : s2.mem.canonical := railsOff_canonical s1
  exact record_canonical (by exact h2) ..

@[simp] theorem startTest_mem (s : State) (depth : Nat) : (startTest s depth).mem = s.mem := (rfl)

@[simp] theorem heldPower_canonical (s : State) (p : Phase) : (heldPower s p).mem.canonical := by simp [heldPower]

@[simp] theorem failOff_mem (s : State) (d : Nat) : (failOff s d).mem = s.mem := by
  unfold failOff
  (repeat' split) <;> simp

@[simp] theorem bistFail_canonical {s : State} (h : s.mem.canonical) (d0 : Nat) (c : BistCause) :
    (bistFail s d0 c).mem.canonical := by
  unfold bistFail
  dsimp only
  (repeat' split) <;> simp +contextual [h]

@[simp] theorem bistSummary_canonical {s : State} (h : s.mem.canonical) (code sev : Nat) :
    (bistSummary s code sev).mem.canonical := by simp [bistSummary, h]

@[simp] theorem powerUp_canonical {s : State} (h : s.mem.canonical) : (powerUp s).mem.canonical := by
  unfold powerUp
  extract_lets _ _ _ _ _ s1 s2 _ _ s3 s4 _ b s5
  have h1 : s1.mem.canonical := by
    unfold s1
    split <;> exact h
  have h4 : s4.mem.canonical := by
    clear_value s1
    exact record_canonical (by exact h1) ..
  clear_value s4
  split
  · have h5 : s5.mem.canonical := heldPower_canonical s4 _
    exact bistSummary_canonical (by exact h5) ..
  · simpa using h4

@[simp] theorem tryPowerUp_canonical {s : State} (h : s.mem.canonical) : (tryPowerUp s).mem.canonical := by
  unfold tryPowerUp
  (repeat' split) <;> simp [h]

@[simp] theorem execVaux33Rise_canonical {s : State} (h : s.mem.canonical) (straps : Straps) (tbRef : Bool) :
    Res.canonical (execVaux33Rise straps tbRef s) := by
  unfold execVaux33Rise
  extract_lets c _ rcd _ b _ _ _ _ s1 s2 s3
  change Mem.canonical (State.mem _)
  have h3 : s3.mem.canonical := by
    have h2 := railsOff_canonical s1
    exact h2
  clear_value s3
  split
  · exact h
  split
  · simpa using h3
  · exact h3

@[simp] theorem execKeepAliveReached_canonical {s : State} (h : s.mem.canonical) (fails : List BistFail) (nvReadable : Bool) :
    Res.canonical (execKeepAliveReached fails nvReadable s) := by
  unfold execKeepAliveReached
  extract_lets l s1 f _ _ s2 _ s3
  change Mem.canonical (State.mem _)
  split
  · exact h
  · have h1 : s1.mem.canonical := foldl_canonical (fun s e h => by split; exacts [h, bistFail_canonical h ..]) _ h
    clear_value s1
    refine tryPowerUp_canonical ?_
    unfold s3
    split
    · exact h1
    · exact accept_canonical (by exact h1) ..

@[simp] theorem cutProgram_mem (s : State) : (cutProgram s).mem = s.mem := by
  unfold cutProgram
  split <;> simp

@[simp] theorem execVaux33Loss_canonical {s : State} (h : s.mem.canonical) : Res.canonical (execVaux33Loss s) := by
  simp only [execVaux33Loss, Res.canonical_next]
  (repeat' split) <;> simp [h]

@[simp] theorem execPwrEnAssert_canonical {s : State} (h : s.mem.canonical) (railsOk : Bool) :
    Res.canonical (execPwrEnAssert railsOk s) := by
  simp only [execPwrEnAssert, Res.canonical_next]
  (repeat' split) <;> simp [h]

@[simp] theorem execRailsInRange_canonical {s : State} (h : s.mem.canonical) : Res.canonical (execRailsInRange s) := by
  simp only [execRailsInRange, Res.canonical_next]
  (repeat' split) <;> simp [h]

@[simp] theorem execThermalWaitEnd_canonical {s : State} (h : s.mem.canonical) : Res.canonical (execThermalWaitEnd s) := by
  simp only [execThermalWaitEnd, Res.canonical_next]
  (repeat' split) <;> simp [h]

@[simp] theorem execPwrEnDeassert_canonical {s : State} (h : s.mem.canonical) : Res.canonical (execPwrEnDeassert s) := by
  simp only [execPwrEnDeassert, Res.canonical_next]
  (repeat' split) <;> simp [h]

@[simp] theorem warnResponse_canonical {s : State} (h : s.mem.canonical) (code : Nat) :
    (warnResponse s code).mem.canonical := by simp [warnResponse, h]

@[simp] theorem pwrWarn_canonical {s : State} (h : s.mem.canonical) : (pwrWarn s).mem.canonical := by
  have hw := warnResponse_canonical h 0x1010
  unfold pwrWarn
  extract_lets _ s1 s2 _ s3
  split
  · exact h
  · split
    · exact h
    · split
      · have h3 : s3.mem.canonical := by
          clear_value s2
          exact powerDown_canonical _
        clear_value s3
        exact h3
      · exact hw
    case h_9 => exact record_canonical (by exact h) ..
    all_goals exact hw

@[simp] theorem execPwrWarnCleared_canonical {s : State} (h : s.mem.canonical) : Res.canonical (execPwrWarnCleared s) := by
  unfold execPwrWarnCleared
  extract_lets _ _ s1 s2
  change Mem.canonical (State.mem _)
  split
  · exact h
  have h2 : s2.mem.canonical := record_canonical (by exact h) ..
  clear_value s2
  split
  · exact openAxis_canonical (openAxis_canonical (openAxis_canonical h2 _) _) _
  · exact h2

@[simp] theorem latchVin_mem (s : State) : (latchVin s).mem = s.mem := by
  unfold latchVin
  split <;> simp

@[simp] theorem vin12Undervoltage_canonical {s0 : State} (h : s0.mem.canonical) : (vin12Undervoltage s0).mem.canonical := by
  simp only [vin12Undervoltage]
  (repeat' split) <;> simp [h]

@[simp] theorem execVin12Loss_canonical {s : State} (h : s.mem.canonical) : Res.canonical (execVin12Loss s) := by
  simp only [execVin12Loss, Res.canonical_next]
  (repeat' split) <;> simp [h]

@[simp] theorem execPowerCycleMark_canonical {s : State} (h : s.mem.canonical) : Res.canonical (execPowerCycleMark s) := by
  simp only [execPowerCycleMark, Res.canonical_next]
  (repeat' split) <;> simp [h]

@[simp] theorem execRailFault_canonical {s : State} (h : s.mem.canonical) (rail : Rail) :
    Res.canonical (execRailFault rail s) := by
  unfold execRailFault
  extract_lets _ s1 chip
  change Mem.canonical (State.mem _)
  have h1 : s1.mem.canonical := h
  have hchip : ∀ d, (chip d).mem.canonical := fun d => accept_canonical h1 ..
  clear_value s1
  split
  · exact h
  cases rail with
  | group g =>
    dsimp only
    split
    · exact accept_canonical (foldl_canonical (fun s i h => quarantine_canonical (by split; exacts [h, h]) ..) _ h1) ..
    · exact h1
  | vesp => exact accept_canonical (unbindEsp_canonical (by simpa using h1)) ..
  | vunc => exact hchip _
  | vtrd => exact hchip _
  | vphy => exact hchip _
  | vsp => exact hchip _
  | hbm => exact hchip _

@[simp] theorem execCapMeterSample_canonical {s : State} (h : s.mem.canonical) (mV mA : Nat) :
    Res.canonical (execCapMeterSample mV mA s) := by
  simp only [execCapMeterSample, Res.canonical_next]
  (repeat' split) <;> simp [h]

@[simp] theorem domainDone_canonical {s : State} (h : s.mem.canonical) (d v result : Nat) :
    (domainDone s d v result).mem.canonical := by
  unfold domainDone
  extract_lets s1 _ s2 s3 s4
  have h3 : s3.mem.canonical := by
    unfold s3
    split
    · refine foldl_canonical (fun s e h => ?_) _ h
      split
      · exact memWipe_mem_canonical h ..
      · exact h
    · exact h
  have h4 : s4.mem.canonical := by
    unfold s4
    split
    · exact settleEsp_canonical h3 _
    · exact h3
  refine foldl_canonical (fun s e h => ?_) _ h4
  split
  · split
    · simpa using h
    · exact h
  · exact h

@[simp] theorem domainFailed_canonical {s : State} (h : s.mem.canonical) (d : Nat) : (domainFailed s d).mem.canonical := by
  unfold domainFailed
  extract_lets s1 sev s2
  have h2 : s2.mem.canonical := accept_canonical (domainDone_canonical h ..) ..
  split
  · exact quarantine_canonical h2 ..
  · exact h2

@[simp] theorem execDomainSwitchComplete_canonical {s : State} (h : s.mem.canonical) (domain : Nat) (testPass : Bool) :
    Res.canonical (execDomainSwitchComplete domain testPass s) := by
  simp only [execDomainSwitchComplete, Res.canonical_next]
  (repeat' split) <;> simp [h]

@[simp] theorem execDomainSwitchFail_canonical {s : State} (h : s.mem.canonical) (domain : Nat) :
    Res.canonical (execDomainSwitchFail domain s) := by
  simp only [execDomainSwitchFail, Res.canonical_next]
  (repeat' split) <;> simp [h]

@[simp] theorem execStateChange_canonical {s : State} (h : s.mem.canonical) : Res.canonical (execStateChange s) := by
  unfold execStateChange
  extract_lets _ s1 done _ t out t' s2
  change Mem.canonical (State.mem _)
  have h1 : s1.mem.canonical := h
  have hdone : ∀ {s : State}, s.mem.canonical → (done s).mem.canonical := fun h => record_canonical h ..
  clear_value s1
  split
  · exact h
  split
  · extract_lets cl keep s3 s4
    have h3 : s3.mem.canonical := by simpa [s3] using h1
    clear_value s3
    refine hdone ?_
    unfold s4
    split
    · exact h3
    · exact memWipe_canonical _ _ _ h3
  · exact hdone (openAxis_canonical (openAxis_canonical (openAxis_canonical (by exact h1) _) _) _)

@[simp] theorem calibrate_canonical {s : State} (h : s.mem.canonical) (g : Nat) : (calibrate s g).mem.canonical := by
  simp only [calibrate]
  (repeat' split) <;> simp [h]

@[simp] theorem execNaturalIdleCalibration_canonical {s : State} (h : s.mem.canonical) (group : BitVec 6) :
    Res.canonical (execNaturalIdleCalibration group s) := by
  simp only [execNaturalIdleCalibration, Res.canonical_next]
  (repeat' split) <;> simp [h]

@[simp] theorem execForcedQuietWindow_canonical {s : State} (h : s.mem.canonical) : Res.canonical (execForcedQuietWindow s) := by
  simp only [execForcedQuietWindow, Res.canonical_next]
  (repeat' split) <;> simp [h]

@[simp] theorem execQuietWindowEnd_canonical {s : State} (h : s.mem.canonical) : Res.canonical (execQuietWindowEnd s) := by
  simp only [execQuietWindowEnd, Res.canonical_next]
  (repeat' split) <;> simp [h]

@[simp] theorem execEstimateStale_canonical {s : State} (h : s.mem.canonical) (group : BitVec 6) :
    Res.canonical (execEstimateStale group s) := by
  simp only [execEstimateStale, Res.canonical_next]
  (repeat' split) <;> simp [h]

@[simp] theorem execBypassOpenFail_canonical {s : State} (h : s.mem.canonical) (axis : BitVec 2) :
    Res.canonical (execBypassOpenFail axis s) := by
  simp only [execBypassOpenFail, Res.canonical_next]
  (repeat' split) <;> simp [h]

@[simp] theorem execBypassCloseFail_canonical {s : State} (h : s.mem.canonical) (axis : BitVec 2) :
    Res.canonical (execBypassCloseFail axis s) := by
  simp only [execBypassCloseFail, Res.canonical_next]
  (repeat' split) <;> simp [h]

@[simp] theorem execExtestEnter_canonical {s : State} (h : s.mem.canonical) (axis : BitVec 2) :
    Res.canonical (execExtestEnter axis s) := by
  simp only [execExtestEnter, Res.canonical_next]
  (repeat' split) <;> simp [h]

@[simp] theorem execExtestExit_canonical {s : State} (h : s.mem.canonical) (axis : BitVec 2) :
    Res.canonical (execExtestExit axis s) := by
  simp only [execExtestExit, Res.canonical_next]
  (repeat' split) <;> simp [h]

end Sys2Proof.Machine
end

section
/-! ### What keeps the memory canonical: Espalier (19) -/
namespace Sys2Proof.Machine

@[simp] theorem commitEspQueue_mem (s : State) (c : Nat) (rose : Bool) : (commitEspQueue s c rose).mem = s.mem := by
  unfold commitEspQueue
  split <;> simp

@[simp] theorem espFail_canonical {s : State} (h : s.mem.canonical) : (espFail s).mem.canonical := by simp [espFail, h]

@[simp] theorem chargeLane_canonical {s : State} (h : s.mem.canonical) (l : Nat) : (chargeLane s l).mem.canonical := by
  simp only [chargeLane]
  (repeat' split) <;> simp -implicitDefEqProofs [h]

@[simp] theorem espHang_canonical {s : State} (h : s.mem.canonical) : (espHang s).mem.canonical := by
  simp only [espHang]
  (repeat' split) <;> simp -implicitDefEqProofs [h]

@[simp] theorem resetEsp_canonical {s : State} (h : s.mem.canonical) : (resetEsp s).mem.canonical := by simp [resetEsp, h]

@[simp] theorem espRead_canonical {s : State} (h : s.mem.canonical) (c va n : Nat) (env : Env) :
    (espRead s c va n env).2.mem.canonical := by simp [espRead, h]

@[simp] theorem espStatusWord_canonical {s : State} (h : s.mem.canonical) (c : Nat) (k : EspCmd) (status idx epoch : Nat) (stale : Bool) :
    (espStatusWord s c k status idx epoch stale).mem.canonical := by
  unfold espStatusWord
  extract_lets w
  split
  case h_1 e => exact colFault_canonical (canonical_snd e (colWrite_canonical h ..)) ..
  case h_2 e => exact canonical_snd e (colWrite_canonical h ..)

@[simp] theorem endCmd_canonical {s : State} (h : s.mem.canonical) (k : EspCmd) (status idx epoch : Nat) (stale : Bool) :
    (endCmd s k status idx epoch stale).mem.canonical := by
  unfold endCmd
  split <;> simp -implicitDefEqProofs [h]

@[simp] theorem onEspCmd_canonical {s : State} (h : s.mem.canonical) {n : Nat} {f : Nat → EspCmd → State}
    (hf : ∀ c k, (f c k).mem.canonical) : (onEspCmd s n f).mem.canonical := by
  unfold onEspCmd
  split
  · split
    · exact hf _ _
    · exact h
  · exact h

@[simp] theorem execEspCommandFetch_canonical {s : State} (h : s.mem.canonical) (env : Env) :
    Res.canonical (execEspCommandFetch env s) := by
  unfold execEspCommandFetch
  change Mem.canonical (State.mem _)
  split
  · extract_lets q i x va
    split
    · exact h
    split
    case h_1 e => exact colFault_canonical (canonical_snd e (espRead_canonical h ..)) ..
    case h_2 e =>
      have h1 := canonical_snd e (espRead_canonical h ..)
      extract_lets b k s1
      have h2 : s1.mem.canonical := h1
      clear_value s1
      split
      · exact endCmd_canonical h2 ..
      split
      · exact endCmd_canonical h2 ..
      split
      · exact colFault_canonical h2 ..
      · exact h2
  · exact h

@[simp] theorem dropStops_mem (s : State) : (dropStops s).mem = s.mem := (rfl)

@[simp] theorem execModel_canonical {s : State} (h : s.mem.canonical) (env : Env) : Res.canonical (execModel env s) := by
  refine onEspCmd_canonical h fun c k => ?_
  split
  · exact endCmd_canonical h ..
  split
  case h_1 e => exact colFault_canonical (canonical_snd e (espRead_canonical h ..)) ..
  case h_2 e =>
    have h1 := canonical_snd e (espRead_canonical h ..)
    extract_lets m
    split
    · exact endCmd_canonical h1 ..
    split
    · exact endCmd_canonical h1 ..
    split
    · exact endCmd_canonical h1 ..
    · exact endCmd_canonical (by simpa using h1) ..

@[simp] theorem execLibrary_canonical {s : State} (h : s.mem.canonical) (env : Env) : Res.canonical (execLibrary env s) := by
  refine onEspCmd_canonical h fun c k => ?_
  split
  · exact endCmd_canonical h ..
  split
  case h_1 e => exact colFault_canonical (canonical_snd e (espRead_canonical h ..)) ..
  case h_2 e =>
    have h1 := canonical_snd e (espRead_canonical h ..)
    extract_lets es s2
    split
    · exact endCmd_canonical h1 ..
    split
    · exact endCmd_canonical h1 ..
    · exact endCmd_canonical (by simpa [s2] using h1) ..

@[simp] theorem readSlices_canonical {s : State} (h : s.mem.canonical) (c src mask : Nat) (l : List Nat) (env : Env) (g : Tbl Byte)
    (bad : Bool) : (readSlices c src mask l env g bad s).2.mem.canonical := by
  induction l generalizing s env g bad with
  | nil => exact h
  | cons t ts ih =>
    unfold readSlices
    split
    · exact ih h ..
    · split
      case h_1 e => exact canonical_snd e (espRead_canonical h ..)
      case h_2 e => exact ih (canonical_snd e (espRead_canonical h ..)) ..

@[simp] theorem execMap_canonical {s : State} (h : s.mem.canonical) (env : Env) : Res.canonical (execMap env s) := by
  refine onEspCmd_canonical h fun c k => ?_
  extract_lets holds
  split
  · exact h
  split
  · exact endCmd_canonical h ..
  split
  case h_1 e => exact colFault_canonical (canonical_snd e (espRead_canonical h ..)) ..
  case h_2 e =>
    have h1 := canonical_snd e (espRead_canonical h ..)
    extract_lets hd
    split
    · exact endCmd_canonical h1 ..
    split
    · exact endCmd_canonical h1 ..
    split
    case h_1 e => exact colFault_canonical (canonical_snd e (readSlices_canonical h1 ..)) ..
    case h_2 e => exact endCmd_canonical (canonical_snd e (readSlices_canonical h1 ..)) ..
    case h_3 e => simpa using canonical_snd e (readSlices_canonical h1 ..)

@[simp] theorem execEpochSwap_canonical {s : State} (h : s.mem.canonical) : Res.canonical (execEpochSwap s) := by
  simp only [execEpochSwap, Res.canonical_next]
  (repeat' split) <;> simp [h]

@[simp] theorem execEpochExpiry_canonical {s : State} (h : s.mem.canonical) : Res.canonical (execEpochExpiry s) := by
  simp only [execEpochExpiry, Res.canonical_next]
  (repeat' split) <;> simp [h]

@[simp] theorem lateBatch_canonical {s : State} (h : s.mem.canonical) : (lateBatch s).mem.canonical := by
  unfold lateBatch
  split <;> simp -implicitDefEqProofs [h]

@[simp] theorem publishNow_canonical {s : State} (h : s.mem.canonical) (kind flags : Nat) :
    (publishNow s kind flags).mem.canonical := by simp [publishNow, h]

@[simp] theorem publish_canonical {s : State} (h : s.mem.canonical) (kind flags : Nat) (close : Bool) :
    (publish s kind flags close).mem.canonical := by
  unfold publish
  split <;> simp [h]

@[simp] theorem forceWarn_canonical {s : State} (h : s.mem.canonical) : (forceWarn s).mem.canonical := by
  unfold forceWarn
  split
  · refine settleRing_canonical ?_
    rw [syncBump_mem]
    exact forcedRaw_canonical (lateBatch_canonical h)
  · exact h

@[simp] theorem espRequested_canonical {s : State} (h : s.mem.canonical) (c : Nat) : (espRequested s c).mem.canonical := by
  unfold espRequested
  split <;> simp [h]

@[simp] theorem execStop_canonical {s : State} (h : s.mem.canonical) (env : Env) : Res.canonical (execStop env s) := by
  refine onEspCmd_canonical h fun c k => ?_
  split
  · exact h
  split
  case h_1 e => exact colFault_canonical (canonical_snd e (espRead_canonical h ..)) ..
  case h_2 e =>
    have h1 := canonical_snd e (espRead_canonical h ..)
    extract_lets alts bad set
    clear_value bad
    split
    · exact endCmd_canonical h1 ..
    split
    · exact endCmd_canonical h1 ..
    split
    · exact endCmd_canonical h1 ..
    · simpa using h1

@[simp] theorem settleReady_canonical {s : State} (h : s.mem.canonical) : (settleReady s).mem.canonical := by
  simp only [settleReady]
  (repeat' split) <;> simp -implicitDefEqProofs [h]

@[simp] theorem laneMismatch_canonical {s : State} (h : s.mem.canonical) (lane epoch cand : Nat) :
    (laneMismatch s lane epoch cand).mem.canonical := by simp -implicitDefEqProofs [laneMismatch, h]

@[simp] theorem execStopValidationComplete_canonical {s : State} (h : s.mem.canonical) (half0 half1 third : List PairCounts)
    (lane : BitVec 7) : Res.canonical (execStopValidationComplete half0 half1 third lane s) := by
  unfold execStopValidationComplete
  extract_lets at' ids big v ep s1 s2 s3 s4 s5
  change Mem.canonical (State.mem _)
  have h1 : s1.mem.canonical := h
  clear_value s1
  have h2 : s2.mem.canonical := by
    unfold s2
    split
    · exact accept_canonical h1 ..
    · exact h1
  clear_value s2
  have h3 : s3.mem.canonical := settleReady_canonical h2
  clear_value s3
  have h4 : s4.mem.canonical := by
    unfold s4
    split
    · split
      · exact endCmd_canonical h3 ..
      · exact h3
    · exact h3
  clear_value s4
  have h5 : s5.mem.canonical := by
    unfold s5
    split
    · exact h4
    · extract_lets s6
      have h6 : s6.mem.canonical := publishNow_canonical h4 ..
      clear_value s6
      split
      · exact endCmd_canonical (by exact h6) ..
      · exact h6
  clear_value s5
  split
  · exact h
  split
  · exact chargeLane_canonical (laneMismatch_canonical h5 ..) _
  · exact h5

@[simp] theorem execCycleOpen_canonical {s : State} (h : s.mem.canonical) : Res.canonical (execCycleOpen s) := by
  refine onEspCmd_canonical h fun c k => ?_
  (repeat' split) <;> simp [h]

@[simp] theorem execBatch_canonical {s : State} (h : s.mem.canonical) (env : Env) : Res.canonical (execBatch env s) := by
  refine onEspCmd_canonical h fun c k => ?_
  split
  · exact h
  split
  · exact endCmd_canonical h ..
  split
  case h_1 e => exact colFault_canonical (canonical_snd e (espRead_canonical h ..)) ..
  case h_2 e =>
    have h1 := canonical_snd e (espRead_canonical h ..)
    extract_lets b
    split
    · exact endCmd_canonical h1 ..
    split
    · exact endCmd_canonical h1 ..
    split
    case h_1 e => exact colFault_canonical (canonical_snd e (espRead_canonical h1 ..)) ..
    case h_2 e =>
      have h2 := canonical_snd e (espRead_canonical h1 ..)
      extract_lets cs
      split
      · exact endCmd_canonical h2 ..
      · simpa using h2

@[simp] theorem execBatchComplete_canonical {s : State} (h : s.mem.canonical) (results : List CandResult) :
    Res.canonical (execBatchComplete results s) := by
  unfold execBatchComplete
  change Mem.canonical (State.mem _)
  split
  · extract_lets rs
    split
    case h_1 e => exact colFault_canonical (by simpa using canonical_snd e (colWrite_canonical h ..)) ..
    case h_2 e => exact endCmd_canonical (by simpa using canonical_snd e (colWrite_canonical h ..)) ..
  · exact h

@[simp] theorem setIncumbent_mem (s : State) (x : EspCand) : (setIncumbent s x).mem = s.mem := (rfl)

@[simp] theorem execDoubleCheckComplete_canonical {s : State} (h : s.mem.canonical) (second : CandResult)
    (third : Option CandResult) : Res.canonical (execDoubleCheckComplete second third s) := by
  simp only [execDoubleCheckComplete, Res.canonical_next]
  (repeat' split) <;> simp [h]

@[simp] theorem execCycleClose_canonical {s : State} (h : s.mem.canonical) : Res.canonical (execCycleClose s) := by
  refine onEspCmd_canonical h fun c k => ?_
  dsimp only
  (repeat' split) <;> simp [h]

@[simp] theorem execPlanningDeadline_canonical {s : State} (h : s.mem.canonical) : Res.canonical (execPlanningDeadline s) := by
  unfold execPlanningDeadline
  change Mem.canonical (State.mem _)
  split
  · split
    · exact h
    · exact publish_canonical (lateBatch_canonical (accept_canonical (by simpa using h) ..)) ..
  · exact h

@[simp] theorem warned_canonical (s : State) {t : State} (h : t.mem.canonical) : (warned s t).mem.canonical := by
  unfold warned
  split
  · exact forceWarn_canonical h
  · exact h

@[simp] theorem execPwrWarn_canonical {s : State} (h : s.mem.canonical)  :
    Res.canonical (execPwrWarn s) := by simp [execPwrWarn, h]

@[simp] theorem execVin12Undervoltage_canonical {s : State} (h : s.mem.canonical)  :
    Res.canonical (execVin12Undervoltage s) := by simp [execVin12Undervoltage, h]

end Sys2Proof.Machine
end

section
/-! ### What keeps the memory canonical: scrub and Burling (13, 14) -/
namespace Sys2Proof.Machine

@[simp] theorem execPatrolScrubRead_canonical {s : State} (h : s.mem.canonical) (stack : BitVec 3) (cls : SynClass) (writeOk : Bool) :
    Res.canonical (execPatrolScrubRead stack cls writeOk s) := by
  unfold execPatrolScrubRead
  extract_lets k g was s1 s2 s3 p s4 s5
  change Mem.canonical (State.mem _)
  have h1 : s1.mem.canonical := hbmDecode_canonical h ..
  clear_value s1
  have h2 : s2.mem.canonical := by
    unfold s2
    split
    · exact h1
    · exact clearPoison_canonical _ _ h1
  clear_value s2
  have h4 : s4.mem.canonical := accept_canonical (by simpa [s3] using h2) ..
  clear_value s4
  have h5 : s5.mem.canonical := by
    unfold s5
    split
    · exact h1
    split
    · exact accept_canonical (by simpa using h4) ..
    · exact h4
  clear_value s5
  split
  · exact h
  · simpa using h5

@[simp] theorem execScrubLate_canonical {s : State} (h : s.mem.canonical) (stack : BitVec 3) :
    Res.canonical (execScrubLate stack s) := by
  simp only [execScrubLate, Res.canonical_next]
  (repeat' split) <;> simp -implicitDefEqProofs [h]

@[simp] theorem execScrubWindowExpiry_canonical {s : State} (h : s.mem.canonical) (stack : BitVec 3) :
    Res.canonical (execScrubWindowExpiry stack s) := by
  simp only [execScrubWindowExpiry, Res.canonical_next]
  (repeat' split) <;> simp -implicitDefEqProofs [h]

@[simp] theorem execScratchpadScrub_canonical {s : State} (h : s.mem.canonical) (cluster : BitVec 9) (granule : Nat)
    (cls : SynClass) : Res.canonical (execScratchpadScrub cluster granule cls s) := by
  simp only [execScratchpadScrub, Res.canonical_next]
  (repeat' split) <;> simp [h]

@[simp] theorem wakeVerify_mem (s : State) (result : Nat) : (wakeVerify s result).mem = s.mem := by
  refine foldl_mem (fun s e => ?_) _ _
  (repeat' split) <;> simp

@[simp] theorem execPackVerifyEnd_canonical {s : State} (h : s.mem.canonical) : Res.canonical (execPackVerifyEnd s) := by
  simp only [execPackVerifyEnd, Res.canonical_next]
  (repeat' split) <;> simp [h]

@[simp] theorem execBurlingStoreUe_canonical {s : State} (h : s.mem.canonical) (installedHalf : Bool) :
    Res.canonical (execBurlingStoreUe installedHalf s) := by
  simp only [execBurlingStoreUe, Res.canonical_next]
  (repeat' split) <;> simp [h]

@[simp] theorem freshPack_mem (s : State) (n : Nat) : (freshPack s n).mem = s.mem := by
  unfold freshPack
  split <;> simp

@[simp] theorem setItem_mem (s : State) (n : Nat) (x : BrlSlice) (i : Option Nat) (shared : Bool) :
    (setItem s n x i shared).mem = s.mem := (rfl)

@[simp] theorem saveRegion_canonical {s : State} (h : s.mem.canonical) (n k : Nat) : (saveRegion s n k).mem.canonical := by
  refine foldl_canonical (fun s e h => ?_) _ (by simp [h])
  simp [h]

@[simp] theorem startSlice_canonical {s : State} (h : s.mem.canonical) (n : Nat) : (startSlice s n).mem.canonical := by
  unfold startSlice
  extract_lets s1 b k forced s2 bad s3 x s4
  have h2 : s2.mem.canonical := by
    unfold s2
    split
    · exact record_canonical (by simpa [s1] using h) ..
    · simpa [s1] using h
  split
  · exact accept_canonical (by exact h2) ..
  · have h3 : s3.mem.canonical := by
      unfold s3
      cases k with
      | none => exact h2
      | some k => exact saveRegion_canonical h2 ..
    have h4 : s4.mem.canonical := h3
    split
    · simpa using h4
    · split <;> simpa using h4

@[simp] theorem execBurlingOffer_canonical {s : State} (h : s.mem.canonical) (cluster : BitVec 9) :
    Res.canonical (execBurlingOffer cluster s) := by
  simp only [execBurlingOffer, Res.canonical_next]
  (repeat' split) <;> simp [h]

@[simp] theorem goOn_mem (s : State) (n : Nat) (x : BrlSlice) : (goOn s n x).mem = s.mem := by
  unfold goOn
  split <;> simp

@[simp] theorem moveCursor_mem (s : State) (item : Nat) (skipped : Bool) :
    (moveCursor s item skipped).mem = s.mem := by simp [moveCursor]

@[simp] theorem passItem_canonical {s : State} (h : s.mem.canonical) (n : Nat) (x : BrlSlice) (passed : Bool) :
    (passItem s n x passed).mem.canonical := by
  simp only [passItem]
  (repeat' split) <;> simp [h]

@[simp] theorem settleBlame_canonical {s : State} (h : s.mem.canonical) (item : Nat) : (settleBlame s item).mem.canonical := by
  unfold settleBlame
  extract_lets l bad s1 _ s2
  split
  · have h1 : s1.mem.canonical := by
      refine foldl_canonical (fun s e h => ?_) _ h
      dsimp only
      split
      · exact record_canonical (by simpa using h) ..
      · exact h
    clear_value s1
    exact record_canonical (residentPack_canonical (by exact h1)) ..
  · exact h

@[simp] theorem classRepeat_canonical {s : State} (h : s.mem.canonical) (n item exp old crc flags : Nat) :
    (classRepeat s n item exp old crc flags).mem.canonical := by
  unfold classRepeat
  extract_lets p prev s1 s2 s3 _ s4
  split
  · exact record_canonical (charge_canonical h _) ..
  · split
    · have h3 : s3.mem.canonical := record_canonical (quarantine_canonical h ..) ..
      clear_value s3
      exact settleBlame_canonical (by exact h3) _
    · exact record_canonical (quarantine_canonical h ..) ..

@[simp] theorem execItemEnd_canonical {s : State} (h : s.mem.canonical) (cluster : BitVec 9) (crc : BitVec 64) :
    Res.canonical (execItemEnd cluster crc s) := by
  simp only [execItemEnd, Res.canonical_next]
  (repeat' split) <;> simp -implicitDefEqProofs [h]

@[simp] theorem execItemSkipped_canonical {s : State} (h : s.mem.canonical) (cluster : BitVec 9) :
    Res.canonical (execItemSkipped cluster s) := by
  simp only [execItemSkipped, Res.canonical_next]
  (repeat' split) <;> simp [h]

@[simp] theorem restoreRegion_canonical {s : State} (h : s.mem.canonical) (n k region : Nat) :
    (restoreRegion s n k region).mem.canonical := by
  unfold restoreRegion
  extract_lets x e lost s1
  have h1 : s1.mem.canonical := by
    unfold s1
    split
    · exact accept_canonical (foldl_canonical (fun _ _ h => setPoison_mem_canonical h _) _ h) ..
    · exact copyCells_canonical h ..
  split
  · exact h
  · split
    · simpa using h1
    · exact h1

@[simp] theorem execSliceEnd_canonical {s : State} (h : s.mem.canonical) (cluster : BitVec 9) :
    Res.canonical (execSliceEnd cluster s) := by
  unfold execSliceEnd
  extract_lets n
  change Mem.canonical (State.mem _)
  split
  · exact h
  case h_2 x _ =>
    split
    · exact h
    · extract_lets s1 s2
      have h1 : s1.mem.canonical := by
        unfold s1
        cases x.slot with
        | none => exact h
        | some k => exact restoreRegion_canonical h ..
      simpa [s2] using h1

@[simp] theorem execShareShortfall_canonical {s : State} (h : s.mem.canonical) (cluster : BitVec 9) :
    Res.canonical (execShareShortfall cluster s) := by
  simp only [execShareShortfall, Res.canonical_next]
  (repeat' split) <;> simp -implicitDefEqProofs [h]

@[simp] theorem execDeepRunStart_canonical {s : State} (h : s.mem.canonical) : Res.canonical (execDeepRunStart s) := by
  simp only [execDeepRunStart, Res.canonical_next]
  (repeat' split) <;> simp [h]

@[simp] theorem execDeepRunEnd_canonical {s : State} (h : s.mem.canonical) (cluster : BitVec 9) (pass shortPass : Bool) :
    Res.canonical (execDeepRunEnd cluster pass shortPass s) := by
  simp only [execDeepRunEnd, Res.canonical_next]
  (repeat' split) <;> simp [h]

end Sys2Proof.Machine
end

section
/-! ### What keeps the memory canonical: thermal control (04) -/
namespace Sys2Proof.Machine

@[simp] theorem putSensor_mem (s : State) (n : Nat) (v : Sensor) : (putSensor s n v).mem = s.mem := (rfl)

@[simp] theorem putZone_mem (s : State) (z : Nat) (v : Zone) : (putZone s z v).mem = s.mem := (rfl)

@[simp] theorem breakSensor_canonical {s : State} (h : s.mem.canonical) (n : Nat) : (breakSensor s n).mem.canonical := by
  simp only [breakSensor]
  (repeat' split) <;> simp -implicitDefEqProofs [h]

@[simp] theorem retarget_canonical {s : State} (h : s.mem.canonical) (z : Nat) (rate : Int) :
    (retarget s z rate).mem.canonical := by
  unfold retarget
  extract_lets k full low zone want old new _ s1 f t p s2 s3
  have h2 : s2.mem.canonical := by
    unfold s2
    split
    · exact record_canonical (by exact h) ..
    · exact h
  have h3 : s3.mem.canonical := by
    unfold s3
    split
    · exact record_canonical h2 ..
    · exact h2
  split
  · exact h
  · split
    · exact h
    · split
      · exact record_canonical h3 ..
      · exact h3

@[simp] theorem shutdownLatch_canonical {s : State} (h : s.mem.canonical) (ror : Bool) (sensor : Nat) :
    (shutdownLatch s ror sensor).mem.canonical := by
  unfold shutdownLatch
  split <;> simp [h]

@[simp] theorem takeReading_canonical {s : State} (h : s.mem.canonical) (readings : List (Nat × BitVec 16)) (n : Nat)
    (r : BitVec 16) : (takeReading s readings n r).mem.canonical := by
  simp only [takeReading]
  (repeat' split) <;> simp [h]

@[simp] theorem nvWindow_canonical {s : State} (h : s.mem.canonical) : (nvWindow s).mem.canonical := by
  simp only [nvWindow]
  (repeat' split) <;> simp [h]

@[simp] theorem thermalLimits_canonical {s : State} (h : s.mem.canonical) (z : Nat) : (thermalLimits s z).mem.canonical := by
  simp only [thermalLimits]
  (repeat' split) <;> simp [h]

@[simp] theorem uncoreLost_canonical {s : State} (h : s.mem.canonical) : (uncoreLost s).mem.canonical := by
  unfold uncoreLost
  split <;> simp [h]

@[simp] theorem execSensorMeasure_canonical {s : State} (h : s.mem.canonical) (zone : Nat) (readings : List (Nat × BitVec 16)) :
    Res.canonical (execSensorMeasure zone readings s) := by
  unfold execSensorMeasure
  extract_lets rs z period s1 z1 valid rates top lim near hot z2 s2 ends s3 s4 s5 s6 s7 s8 s9
  change Mem.canonical (State.mem _)
  have h1 : s1.mem.canonical := foldl_canonical (fun s e h => takeReading_canonical h ..) _ h
  clear_value s1
  have h2 : s2.mem.canonical := by
    unfold s2
    split
    · exact record_canonical h1 ..
    · exact h1
  clear_value s2
  have h3 : s3.mem.canonical := by
    unfold s3
    split
    · exact record_canonical h2 ..
    · exact h2
  clear_value s3
  have h5 : s5.mem.canonical := by simpa [s5, s4] using h3
  clear_value s5
  have h6 : s6.mem.canonical := retarget_canonical h5 ..
  clear_value s6
  have h7 : s7.mem.canonical := by
    unfold s7
    split
    · simpa using h6
    · exact h6
  clear_value s7
  have h9 : s9.mem.canonical := uncoreLost_canonical (thermalLimits_canonical (nvWindow_canonical h7) _)
  clear_value s9
  split
  · exact h
  split
  · exact shutdownLatch_canonical h9 ..
  · exact h9

@[simp] theorem brokeNow_canonical {s : State} (h : s.mem.canonical) (n : Nat) : (brokeNow s n).mem.canonical := by
  unfold brokeNow
  split
  · exact h
  · exact uncoreLost_canonical (retarget_canonical (breakSensor_canonical h _) ..)

@[simp] theorem execSensorConversionTimeout_canonical {s : State} (h : s.mem.canonical) (sensor : Nat) :
    Res.canonical (execSensorConversionTimeout sensor s) := by
  simp only [execSensorConversionTimeout, Res.canonical_next]
  (repeat' split) <;> simp [h]

@[simp] theorem execSensorReferenceCheck_canonical {s : State} (h : s.mem.canonical) (sensor : Nat) (pass : Bool) :
    Res.canonical (execSensorReferenceCheck sensor pass s) := by
  simp only [execSensorReferenceCheck, Res.canonical_next]
  (repeat' split) <;> simp [h]

@[simp] theorem execFastCadenceEnd_canonical {s : State} (h : s.mem.canonical) (zone : Nat) :
    Res.canonical (execFastCadenceEnd zone s) := by
  simp only [execFastCadenceEnd, Res.canonical_next]
  (repeat' split) <;> simp [h]

@[simp] theorem checkVotes_canonical {s : State} (h : s.mem.canonical) (voter : Nat) : (checkVotes s voter).mem.canonical := by
  unfold checkVotes
  split <;> simp [h]

@[simp] theorem execTripVote_canonical {s : State} (h : s.mem.canonical) (voter : BitVec 2) :
    Res.canonical (execTripVote voter s) := by
  simp only [execTripVote, Res.canonical_next]
  (repeat' split) <;> simp [h]

@[simp] theorem execTripVoteCleared_canonical {s : State} (h : s.mem.canonical) (voter : BitVec 2) :
    Res.canonical (execTripVoteCleared voter s) := by
  simp only [execTripVoteCleared, Res.canonical_next]
  (repeat' split) <;> simp [h]

@[simp] theorem execTripVoterBroken_canonical {s : State} (h : s.mem.canonical) (voter : BitVec 2) :
    Res.canonical (execTripVoterBroken voter s) := by
  simp only [execTripVoterBroken, Res.canonical_next]
  (repeat' split) <;> simp [h]

@[simp] theorem execThermalBlockFault_canonical {s : State} (h : s.mem.canonical) : Res.canonical (execThermalBlockFault s) := by
  simp only [execThermalBlockFault, Res.canonical_next]
  (repeat' split) <;> simp [h]

end Sys2Proof.Machine
end

section
/-! ### What keeps the memory canonical: start-up test and release (05) -/
namespace Sys2Proof.Machine

@[simp] theorem execBistPhaseEnd_canonical {s : State} (h : s.mem.canonical) (fails : List BistFail) (repaired : List Nat) :
    Res.canonical (execBistPhaseEnd fails repaired s) := by
  unfold execBistPhaseEnd
  extract_lets ph s1 s2 s3 _
  change Mem.canonical (State.mem _)
  have h1 : s1.mem.canonical := foldl_canonical (fun s e h => record_canonical h ..) _ h
  clear_value s1
  have h2 : s2.mem.canonical := foldl_canonical (fun s e h => bistFail_canonical h ..) _ h1
  clear_value s2
  have h3 : s3.mem.canonical := by
    unfold s3
    split
    · exact memWipe_canonical _ _ _ h2
    · exact h2
  split
  · exact h
  · exact h3

@[simp] theorem execBistPhaseTimeout_canonical {s : State} (h : s.mem.canonical) (domain : Nat) :
    Res.canonical (execBistPhaseTimeout domain s) := by
  simp only [execBistPhaseTimeout, Res.canonical_next]
  (repeat' split) <;> simp [h]

@[simp] theorem releaseHeld_mem (s : State) : (releaseHeld s).mem = s.mem := by
  refine foldl_mem (fun s n => ?_) _ _
  dsimp only
  split <;> simp

@[simp] theorem heldOff_mem (s : State) : (heldOff s).mem = s.mem := by
  refine foldl_mem (fun s n => ?_) _ _
  dsimp only
  split <;> simp

@[simp] theorem release_canonical {s : State} (h : s.mem.canonical) : (release s).mem.canonical := by
  unfold release
  extract_lets f dom _ _ _ _ _ _ _ _ _ _ s1 s2 s3 s4
  have h2 : s2.mem.canonical := by
    unfold s2
    split
    · exact residentPack_canonical h
    · exact h
  have h4 : s4.mem.canonical := by
    unfold s4
    split
    · refine foldl_canonical (fun s i h => ?_) _ h2
      split <;> exact h
    · exact h2
  clear_value s4
  exact openAxis_canonical (openAxis_canonical (openAxis_canonical (by simpa using h4) _) _) _

@[simp] theorem enterScan_canonical (s : State) : (enterScan s).mem.canonical := by simp [enterScan]

@[simp] theorem afterTest_canonical {s : State} (h : s.mem.canonical) : (afterTest s).mem.canonical := by
  unfold afterTest
  extract_lets s1 s2
  have h1 : s1.mem.canonical := bistSummary_canonical h ..
  have h2 : s2.mem.canonical := by
    unfold s2
    (repeat' split) <;> simp [h1]
  split
  · simp
  · exact h2

@[simp] theorem execStartUpTestEnd_canonical {s : State} (h : s.mem.canonical) (micros : Word32) :
    Res.canonical (execStartUpTestEnd micros s) := by
  unfold execStartUpTestEnd
  extract_lets cl _ b _ s1 ex ess stay _ s2 s3
  change Mem.canonical (State.mem _)
  have h2 : s2.mem.canonical := h
  clear_value s2
  have h3 : s3.mem.canonical := bistSummary_canonical (heldPower_canonical s2 _) ..
  clear_value s3
  split
  · exact h
  split
  · split
    · exact enterScan_canonical _
    · exact h3
  · exact afterTest_canonical h2

@[simp] theorem execBistReportRepeat_canonical {s : State} (h : s.mem.canonical) : Res.canonical (execBistReportRepeat s) := by
  simp only [execBistReportRepeat, Res.canonical_next]
  (repeat' split) <;> simp [h]

@[simp] theorem execScanReq_canonical {s : State} (h : s.mem.canonical) : Res.canonical (execScanReq s) := by
  simp only [execScanReq, Res.canonical_next]
  (repeat' split) <;> simp [h]

@[simp] theorem execScanEnabled_canonical {s : State} (h : s.mem.canonical) : Res.canonical (execScanEnabled s) := by
  simp only [execScanEnabled, Res.canonical_next]
  (repeat' split) <;> simp [h]

@[simp] theorem nextFuse_mem (s : State) (f : FuseProg) : (nextFuse s f).mem = s.mem := by
  unfold nextFuse
  (repeat' split) <;> simp

@[simp] theorem settleFuses_mem (n : Nat) (s : State) : (settleFuses n s).mem = s.mem := by
  induction n generalizing s with
  | zero => rfl
  | succ n ih =>
    unfold settleFuses
    split
    · rfl
    · dsimp only
      split <;> simp [ih]

@[simp] theorem startFuse_mem (s : State) (f : FuseProg) : (startFuse s f).mem = s.mem := by
  unfold startFuse
  dsimp only
  split
  · simp
  · rfl

@[simp] theorem execFuseWordComplete_canonical {s : State} (h : s.mem.canonical) : Res.canonical (execFuseWordComplete s) := by
  simp only [execFuseWordComplete, Res.canonical_next]
  (repeat' split) <;> simp [h]

end Sys2Proof.Machine
end

section
/-! ### What keeps the memory canonical: queues and Treadles (06) -/
namespace Sys2Proof.Machine

@[simp] theorem queueEvent_canonical {s : State} (h : s.mem.canonical) (code sev q : Nat) :
    (queueEvent s code sev q).mem.canonical := by simp [queueEvent, h]

@[simp] theorem openQueue_canonical {s : State} (h : s.mem.canonical) (q : Nat) (d : Queue) :
    (openQueue s q d).mem.canonical := by
  unfold openQueue
  split <;> simp [h]

@[simp] theorem doorbell_canonical {s : State} (h : s.mem.canonical) (fn q off width : Nat) (ok : Queue → Bool)
    (put : Queue → Queue) (value : Nat) : (doorbell s fn q off width ok put value).mem.canonical := by
  simp only [doorbell]
  (repeat' split) <;> simp [h]

@[simp] theorem execCommandDoorbell_canonical {s : State} (h : s.mem.canonical) (fn : BitVec 6) (q : BitVec 10) (width : Nat)
    (value : Word32) : Res.canonical (execCommandDoorbell fn q width value s) := by simp [execCommandDoorbell, h]

@[simp] theorem execCompletionDoorbell_canonical {s : State} (h : s.mem.canonical) (fn : BitVec 6) (q : BitVec 10)
    (width : Nat) (value : Word32) :
    Res.canonical (execCompletionDoorbell fn q width value s) := by simp [execCompletionDoorbell, h]

@[simp] theorem execEntryFetch_canonical {s : State} (h : s.mem.canonical) (q : BitVec 10) (env : Env) :
    Res.canonical (execEntryFetch q env s) := by
  simp only [execEntryFetch, Res.canonical_next]
  (repeat' split) <;> simp [h]

@[simp] theorem execProgramStart_canonical {s : State} (h : s.mem.canonical) (slot : BitVec 6) (q : BitVec 10) :
    Res.canonical (execProgramStart slot q s) := by
  simp only [execProgramStart, Res.canonical_next]
  (repeat' split) <;> simp [h]

@[simp] theorem execProgramBudget_canonical {s : State} (h : s.mem.canonical) (slot : BitVec 6) :
    Res.canonical (execProgramBudget slot s) := by
  simp only [execProgramBudget, Res.canonical_next]
  (repeat' split) <;> simp [h]

@[simp] theorem destroyQueue_mem (s : State) (q : Nat) : (destroyQueue s q).mem = s.mem := by simp [destroyQueue]

@[simp] theorem disableQueue_canonical {s : State} (h : s.mem.canonical) (q : Nat) :
    (disableQueue s q).mem.canonical := by simp [disableQueue, h]

@[simp] theorem afterRecord_canonical {s : State} (h : s.mem.canonical) (q : Nat) (d : Queue) (r : CplRec) :
    (afterRecord s q d r).mem.canonical := by
  unfold afterRecord
  extract_lets s1 s2 s3 s4 s5
  have h2 : s2.mem.canonical := by
    unfold s2
    split <;> simpa [s1] using h
  have h3 : s3.mem.canonical := by
    unfold s3
    split <;> simp [h2]
  have h5 : s5.mem.canonical := by
    unfold s5
    split
    · exact beginReset_canonical (by exact h3) ..
    · exact h3
  exact settleQueue_canonical h5 _

@[simp] theorem issueRecord_canonical {s : State} (h : s.mem.canonical) (q : Nat) : (issueRecord s q).mem.canonical := by
  simp only [issueRecord]
  (repeat' split) <;> simp -implicitDefEqProofs [h]

@[simp] theorem execCompletionRecordIssue_canonical {s : State} (h : s.mem.canonical) (q : BitVec 10) :
    Res.canonical (execCompletionRecordIssue q s) := by simp [execCompletionRecordIssue, h]

@[simp] theorem finishFuseWord_canonical {s : State} (h : s.mem.canonical) : (finishFuseWord s).mem.canonical := by
  refine foldl_canonical (fun s e h => ?_) _ h
  (repeat' split) <;> simp [h]

@[simp] theorem standbyLost_canonical {s : State} (h : s.mem.canonical) :
    (standbyLost s).mem.canonical := by simp [standbyLost, h]

@[simp] theorem declareFaulty_canonical {s : State} (h : s.mem.canonical) (t : Treadle) (code : Option Nat) :
    (declareFaulty s t code).mem.canonical := by
  unfold declareFaulty
  extract_lets isB rec1 both s1 ts s2 s3
  have rec1_canonical : (rec1 s).mem.canonical := by
    unfold rec1
    split
    · exact record_canonical h ..
    · exact h
  have both_canonical : ∀ {s : State}, s.mem.canonical → (both s).mem.canonical := fun h =>
    chipReset_canonical (accept_canonical (by exact h) ..) _
  split
  · exact h
  · split
    · split
      · exact h
      · split
        · exact rec1_canonical
        · split
          · exact both_canonical rec1_canonical
          · split
            · exact chipReset_canonical (accept_canonical (by exact rec1_canonical) ..) _
            · exact rec1_canonical
    · split
      · exact both_canonical rec1_canonical
      · split
        · exact standbyLost_canonical rec1_canonical
        · exact h

@[simp] theorem execTrdLockstepMismatch_canonical {s : State} (h : s.mem.canonical) (t : Treadle) :
    Res.canonical (execTrdLockstepMismatch t s) := by simp [execTrdLockstepMismatch, h]

@[simp] theorem execTrdHeartbeatLost_canonical {s : State} (h : s.mem.canonical) (t : Treadle) :
    Res.canonical (execTrdHeartbeatLost t s) := by simp [execTrdHeartbeatLost, h]

@[simp] theorem execTreadleMemoryUe_canonical {s : State} (h : s.mem.canonical) (t : Treadle) :
    Res.canonical (execTreadleMemoryUe t s) := by simp [execTreadleMemoryUe, h]

@[simp] theorem execStandbyLost_canonical {s : State} (h : s.mem.canonical) : Res.canonical (execStandbyLost s) := by
  simp only [execStandbyLost, Res.canonical_next]
  (repeat' split) <;> simp [h]

@[simp] theorem execStandbyHot_canonical {s : State} (h : s.mem.canonical) (crcMatch : Bool) :
    Res.canonical (execStandbyHot crcMatch s) := by
  simp only [execStandbyHot, Res.canonical_next]
  (repeat' split) <;> simp [h]

@[simp] theorem execTreadleRecoveryTestEnd_canonical {s : State} (h : s.mem.canonical) (pass : Bool) :
    Res.canonical (execTreadleRecoveryTestEnd pass s) := by
  simp only [execTreadleRecoveryTestEnd, Res.canonical_next]
  (repeat' split) <;> simp [h]

@[simp] theorem execTreadleCheckpoint_canonical {s : State} (h : s.mem.canonical) : Res.canonical (execTreadleCheckpoint s) := by
  simp only [execTreadleCheckpoint, Res.canonical_next]
  (repeat' split) <;> simp [h]

@[simp] theorem restartResets_mem (s : State) : (restartResets s).mem = s.mem := (rfl)

@[simp] theorem takeOver_canonical {s : State} (h : s.mem.canonical) (kind : Nat) :
    (takeOver s kind).mem.canonical := by simp [takeOver, h]

@[simp] theorem takeoverHot_canonical {s : State} (h : s.mem.canonical) : (takeoverHot s).mem.canonical := by
  refine foldl_canonical (fun s e h => ?_) _ (by simp [h])
  simp [h]

@[simp] theorem coldRecord_canonical {s : State} (h : s.mem.canonical) (q : Nat) : (coldRecord s q).mem.canonical := by
  simp only [coldRecord]
  (repeat' split) <;> simp -implicitDefEqProofs [h]

theorem canonical_with_progress {s : State} (h : s.mem.canonical) (b : Burling) (l : Tbl ClHistory) :
    ({ s with brl := b, history := l } : State).mem.canonical := h

@[simp] theorem takeoverCold_canonical {s : State} (h : s.mem.canonical) : (takeoverCold s).mem.canonical := by
  unfold takeoverCold
  extract_lets s1 hard regs _ s2 s3 last _ _ s4 _ s5 s6 qs s7
  have h3 : s3.mem.canonical := by
    have h1 : s1.mem.canonical := takeOver_canonical h _
    clear_value s1
    refine foldl_canonical (fun s e h => ?_) _ (by exact h1)
    split
    · exact queueEvent_canonical (by simpa using h) ..
    · exact h
  have h4 : s4.mem.canonical := by
    clear_value s3
    unfold s4
    cases last <;> exact h3
  have h5 : s5.mem.canonical := by
    clear_value s4
    exact canonical_with_progress h4 ..
  have h6 : s6.mem.canonical := by
    clear_value s5
    exact acceptDone_canonical h5 ..
  have h7 : s7.mem.canonical := foldl_canonical (f := coldRecord) (fun s e h => coldRecord_canonical h _) qs h6
  exact h7

@[simp] theorem takeoverDone_canonical {s : State} (h : s.mem.canonical) : (takeoverDone s).mem.canonical := by
  unfold takeoverDone
  (repeat' split) <;> simp [h]

end Sys2Proof.Machine
end

section
/-! ### What keeps the memory canonical: PCIe (22) -/
namespace Sys2Proof.Machine

@[simp] theorem createQueue_mem (s : State) (q : Nat) (b : List Byte) (enabled : Bool) :
    (createQueue s q b enabled).mem = s.mem := by simp [createQueue]

@[simp] theorem q0Answer_mem (s : State) (r : Nat) : (q0Answer s r).mem = s.mem := (rfl)

@[simp] theorem q0Create_canonical {s : State} (h : s.mem.canonical) : (q0Create s).mem.canonical := by
  unfold q0Create
  (repeat' split) <;> simp [h]

@[simp] theorem q0Enable_canonical {s : State} (h : s.mem.canonical) : (q0Enable s).mem.canonical := by
  simp only [q0Enable]
  (repeat' split) <;> simp -implicitDefEqProofs [h]

@[simp] theorem q0Ctl_canonical {s : State} (h : s.mem.canonical) (v : Nat) : (q0Ctl s v).mem.canonical := by
  unfold q0Ctl
  (repeat' split) <;> simp [h]

@[simp] theorem q0Settle_canonical {s : State} (h : s.mem.canonical) : (q0Settle s).mem.canonical := by
  unfold q0Settle
  (repeat' split) <;> simp [h]

@[simp] theorem execQ0Create_canonical {s : State} (h : s.mem.canonical)  :
    Res.canonical (execQ0Create s) := by simp [execQ0Create, h]

@[simp] theorem execQ0Reenable_canonical {s : State} (h : s.mem.canonical)  :
    Res.canonical (execQ0Reenable s) := by simp [execQ0Reenable, h]

@[simp] theorem execTakeoverComplete_canonical {s : State} (h : s.mem.canonical)  :
    Res.canonical (execTakeoverComplete s) := by simp [execTakeoverComplete, h]

@[simp] theorem flushVecs_mem (s : State) (f : Nat) : (flushVecs s f).mem = s.mem := by
  simp only [flushVecs]
  (repeat' split) <;> simp

@[simp] theorem msixDword_mem (s : State) (f i v : Nat) : (msixDword s f i v).mem = s.mem := by
  unfold msixDword
  split <;> simp

@[simp] theorem execMsixUnmask_canonical {s : State} (h : s.mem.canonical) (fn : BitVec 6) (vector : BitVec 12) :
    Res.canonical (execMsixUnmask fn vector s) := by
  simp only [execMsixUnmask, Res.canonical_next]
  (repeat' split) <;> simp [h]

@[simp] theorem execConfigurationWrite_canonical {s : State} (h : s.mem.canonical) (fn : BitVec 6) (c : CfgWrite) :
    Res.canonical (execConfigurationWrite fn c s) := by
  simp only [execConfigurationWrite, Res.canonical_next]
  (repeat' split) <;> simp [h]

@[simp] theorem msixWrite_mem (s : State) (f i : Nat) (l : List Byte) : (msixWrite s f i l).mem = s.mem := by
  induction s, i, l using msixWrite.induct f with
  | case1 s i a b c d t ih => rw [msixWrite, ih, msixDword_mem]
  | case2 => rw [msixWrite]; assumption

@[simp] theorem execBarWrite_canonical {s : State} (h : s.mem.canonical) (fn : BitVec 6) (bar : BitVec 3) (offset : BitVec 32)
    (data : List Byte) (ep : Bool) : Res.canonical (execBarWrite fn bar offset data ep s) := by
  simp only [execBarWrite]
  (repeat' split) <;> simp [h]

@[simp] theorem execHostReadCompletion_canonical {s : State} (h : s.mem.canonical) (tag : Nat) (d : HostData) :
    Res.canonical (execHostReadCompletion tag d s) := by
  simp only [execHostReadCompletion, Res.canonical_next]
  (repeat' split) <;> simp [h]

@[simp] theorem execHostCompletionTimeout_canonical {s : State} (h : s.mem.canonical) (tag : Nat) :
    Res.canonical (execHostCompletionTimeout tag s) := by simp [execHostCompletionTimeout, h]

@[simp] theorem execPcieUncorrectable_canonical {s : State} (h : s.mem.canonical) (aerBit : Byte) (ur : Bool) :
    Res.canonical (execPcieUncorrectable aerBit ur s) := by
  simp only [execPcieUncorrectable, Res.canonical_next]
  (repeat' split) <;> simp [h]

@[simp] theorem execPcieCorrected_canonical {s : State} (h : s.mem.canonical) (aerBit : Byte) :
    Res.canonical (execPcieCorrected aerBit s) := by
  simp only [execPcieCorrected, Res.canonical_next]
  (repeat' split) <;> simp [h]

@[simp] theorem execHeartbeatMailboxRefresh_canonical {s : State} (h : s.mem.canonical)  :
    Res.canonical (execHeartbeatMailboxRefresh s) := by
  simp only [execHeartbeatMailboxRefresh, Res.canonical_next]
  (repeat' split) <;> simp [h]

@[simp] theorem linkLost_canonical {s : State} (h : s.mem.canonical) : (linkLost s).mem.canonical := by
  refine foldl_canonical (fun s e h => ?_) _ h
  simp [h]

@[simp] theorem execPcieLinkDown_canonical {s : State} (h : s.mem.canonical) : Res.canonical (execPcieLinkDown s) := by
  simp only [execPcieLinkDown, Res.canonical_next]
  (repeat' split) <;> simp [h]

@[simp] theorem execPcieLinkUp_canonical {s : State} (h : s.mem.canonical) (speed : BitVec 4) (width : Byte) (flit : Bool) :
    Res.canonical (execPcieLinkUp speed width flit s) := by
  simp only [execPcieLinkUp, Res.canonical_next]
  (repeat' split) <;> simp [h]

@[simp] theorem execPcieTrainRetry_canonical {s : State} (h : s.mem.canonical) : Res.canonical (execPcieTrainRetry s) := by
  simp only [execPcieTrainRetry, Res.canonical_next]
  (repeat' split) <;> simp [h]

@[simp] theorem askFnReset_canonical {s : State} (h : s.mem.canonical) (f code : Nat) : (askFnReset s f code).mem.canonical := by
  refine foldl_canonical (fun s e h => ?_) _ (by simp [h])
  simp [h]

@[simp] theorem execFlrVf_canonical {s : State} (h : s.mem.canonical) (fn : BitVec 6) : Res.canonical (execFlrVf fn s) := by
  simp only [execFlrVf, Res.canonical_next]
  (repeat' split) <;> simp [h]

@[simp] theorem execFlrPf_canonical {s : State} (h : s.mem.canonical) : Res.canonical (execFlrPf s) := by
  simp only [execFlrPf, Res.canonical_next]
  (repeat' split) <;> simp [h]

@[simp] theorem hotReset_canonical {s : State} (h : s.mem.canonical) : (hotReset s).mem.canonical := by simp [hotReset, h]

@[simp] theorem execHotReset_canonical {s : State} (h : s.mem.canonical) : Res.canonical (execHotReset s) := by
  simp only [execHotReset, Res.canonical_next]
  (repeat' split) <;> simp [h]

@[simp] theorem execLinkDisable_canonical {s : State} (h : s.mem.canonical) : Res.canonical (execLinkDisable s) := by
  simp only [execLinkDisable, Res.canonical_next]
  (repeat' split) <;> simp [h]

@[simp] theorem execPerstLAssert_canonical {s : State} (h : s.mem.canonical) : Res.canonical (execPerstLAssert s) := by
  simp only [execPerstLAssert, Res.canonical_next]
  (repeat' split) <;> simp [h]

@[simp] theorem execPerstLDeassert_canonical {s : State} (h : s.mem.canonical)  :
    Res.canonical (execPerstLDeassert s) := by simp [execPerstLDeassert, h]

@[simp] theorem beginFnReset_canonical {s : State} (h : s.mem.canonical) (f code : Nat) (handlers : List Nat) :
    (beginFnReset s f code handlers).2.mem.canonical := by simp [beginFnReset, h]

@[simp] theorem dropPrograms_mem (s : State) (q : Nat) : (dropPrograms s q).mem = s.mem := by simp [dropPrograms]

@[simp] theorem finishFnReset_canonical {s : State} (h : s.mem.canonical) (f : Nat) : (finishFnReset s f).mem.canonical := by
  unfold finishFnReset
  extract_lets s1 _ s2 s3 _ _ s4 _ pci
  split
  · have h1 : s1.mem.canonical := by
      refine foldl_canonical (fun s e h => ?_) _ h
      split <;> simp [h]
    have h2 : s2.mem.canonical := by
      unfold s2
      split <;> exact h1
    simpa using h2
  · have h3 : s3.mem.canonical := by
      refine foldl_canonical (fun s e h => ?_) _ h
      split <;> simp [h]
    exact q0Settle_canonical (by exact h3)

end Sys2Proof.Machine
end

section
/-! ### What keeps the memory canonical: handling of errors and the end of a reset (15, 16) -/
namespace Sys2Proof.Machine

@[simp] theorem execErrorAccept_canonical {s : State} (h : s.mem.canonical) (e : ErrEvent) :
    Res.canonical (execErrorAccept e s) := by
  simp only [execErrorAccept, Res.canonical_next]
  (repeat' split) <;> simp [h]

@[simp] theorem execErrQueueFault_canonical {s : State} (h : s.mem.canonical) : Res.canonical (execErrQueueFault s) := by
  simp only [execErrQueueFault, Res.canonical_next]
  (repeat' split) <;> simp [h]

@[simp] theorem execCtxWatchdog_canonical {s : State} (h : s.mem.canonical) (ctx : BitVec 8) :
    Res.canonical (execCtxWatchdog ctx s) := by
  simp only [execCtxWatchdog, Res.canonical_next]
  (repeat' split) <;> simp [h]

@[simp] theorem execEngineHang_canonical {s : State} (h : s.mem.canonical) (domain : BitVec 16) :
    Res.canonical (execEngineHang domain s) := by
  simp only [execEngineHang, Res.canonical_next]
  (repeat' split) <;> simp [h]

@[simp] theorem killJob_canonical {s : State} (h : s.mem.canonical) (tag cause origin : Nat) (waiters : List (Nat × Nat))
    (handlers : List Nat) : (killJob s tag cause origin waiters handlers).2.mem.canonical :=
  settleRing_canonical (record_canonical (startReset_canonical h ..) ..)

@[simp] theorem byReset_canonical {s : State} (h : s.mem.canonical) (n : Nat) (x : Handling) (lv : Nat) {f : State → Nat × State}
    (hf : ∀ t, t.mem.canonical → (f t).2.mem.canonical) : (byReset s n x lv f).mem.canonical := by
  unfold byReset
  extract_lets put
  split
  rename_i id t e
  have h1 : t.mem.canonical := canonical_snd e (hf _ h)
  split <;> exact h1

@[simp] theorem handleEntry_canonical {s : State} (h : s.mem.canonical) (q : Nat) (e : Entry) (n : Nat) :
    (handleEntry s q e n).mem.canonical := by
  have soft : ∀ l : List (Nat × Slot), (l.foldl (fun s k => softRerun s k.1) s).mem.canonical := fun l =>
    foldl_canonical (fun s k h => softRerun_canonical h _) l h
  have reset : ∀ lv a b c, (byReset s n ⟨e.id, q, e.key, e.sev, 6, s.aon, none⟩ lv (fun s => beginReset s a b c [] [n])).mem.canonical :=
    fun lv a b c => byReset_canonical h _ _ _ fun t ht => beginReset_canonical ht ..
  unfold handleEntry
  extract_lets x slots
  split
  · simpa using h
  · split
    · exact reset ..
    · split
      · exact beginArb_canonical (by exact h) _
      · simpa using soft _
      · simpa using h
      · simpa using h
      · exact reset ..
      · exact reset ..
      · exact byReset_canonical h _ _ _ fun t ht => killJob_canonical ht ..
      · split <;> exact reset ..
      · split <;> exact reset ..
      · exact byReset_canonical h _ _ _ fun t ht => beginFnReset_canonical ht ..
      · exact byReset_canonical h _ _ _ fun t ht => beginFnReset_canonical ht ..
      · simpa using h

@[simp] theorem execEntryTaken_canonical {s : State} (h : s.mem.canonical) : Res.canonical (execEntryTaken s) := by
  simp only [execEntryTaken, Res.canonical_next]
  (repeat' split) <;> simp [h]

@[simp] theorem execErrHandlingTimeout_canonical {s : State} (h : s.mem.canonical) (handler : BitVec 4) :
    Res.canonical (execErrHandlingTimeout handler s) := by
  simp only [execErrHandlingTimeout, Res.canonical_next]
  (repeat' split) <;> simp [h]

@[simp] theorem endDrain_mem (s : State) (id : Nat) : (endDrain s id).mem = s.mem := by
  unfold endDrain
  (repeat' split) <;> simp

@[simp] theorem execDrainBudgetExpiry_canonical {s : State} (h : s.mem.canonical) (id : Nat) :
    Res.canonical (execDrainBudgetExpiry id s) := by simp [execDrainBudgetExpiry, h]

@[simp] theorem execResetOverrun_canonical {s : State} (h : s.mem.canonical) (id : Nat) :
    Res.canonical (execResetOverrun id s) := by
  unfold execResetOverrun
  change Mem.canonical (State.mem _)
  split
  · exact h
  case h_2 r _ =>
  split
  · exact h
  extract_lets s1 _ s2 keep
  have h1 : s1.mem.canonical := record_canonical h ..
  clear_value s1
  have h2 : s2.mem.canonical := by
    unfold s2
    split <;> exact h1
  clear_value s2
  split
  split
  case h_1 e =>
    have h3 := canonical_snd e (startReset_canonical h2 ..)
    exact settleRing_canonical (by exact h3)

@[simp] theorem writeDossiers_canonical {s : State} (h : s.mem.canonical) (r : ResetRun) (ok : Bool)
    (l : Tbl (List (Nat × Nat × List Byte))) : (writeDossiers r ok l s).2.mem.canonical := by
  induction l generalizing s with
  | nil => exact h
  | cons x l ih =>
    unfold writeDossiers
    dsimp only
    refine ih ?_
    split
    · exact h
    · split
      · exact h
      · exact accept_canonical h ..

@[simp] theorem reinit_canonical {s : State} (h : s.mem.canonical) (pads : List (Nat × Nat)) (d : Nat) :
    (reinit pads s d).mem.canonical := by
  unfold reinit
  dsimp only
  (repeat' split) <;> simp +contextual [h]

@[simp] theorem settleReset_canonical {s : State} (h : s.mem.canonical) (r : ResetRun) : (settleReset s r).mem.canonical := by
  unfold settleReset
  extract_lets s1
  have h1 : s1.mem.canonical := by
    refine foldl_canonical (fun s n h => ?_) _ h
    split <;> simp [h]
  refine foldl_canonical (fun s w h => ?_) _ h1
  split
  · split
    · simpa using h
    · simpa using freeCtx_canonical h _
    · exact h
  · exact h

@[simp] theorem countReset_canonical {s : State} (h : s.mem.canonical) (r : ResetRun) : (countReset s r).mem.canonical := by
  simp only [countReset]
  (repeat' split) <;> simp [h]

@[simp] theorem reportReset_canonical {s : State} (h : s.mem.canonical) (r : ResetRun) (ok : Bool) (ended : List Nat) :
    (reportReset s r ok ended).mem.canonical := by
  unfold reportReset
  extract_lets engines one
  have one_canonical : ∀ {s : State} e, s.mem.canonical → (one s e).mem.canonical := fun e h =>
    record_canonical (countReset_canonical (writeDossiers_canonical h ..) _) ..
  split
  · exact foldl_canonical (fun s e h => one_canonical e h) _ h
  · exact one_canonical _ h

@[simp] theorem chipCleared_canonical {s : State} (h : s.mem.canonical) :
    (chipCleared s).mem.canonical := by simp [chipCleared, h]

@[simp] theorem endChip_canonical {s : State} (h : s.mem.canonical) (r : ResetRun) : (endChip s r).mem.canonical := by
  unfold endChip
  extract_lets _ s1 s2 _ _ _ s3 s4
  have h1 : s1.mem.canonical := by
    unfold s1
    split
    · exact record_canonical (by exact h) ..
    · exact h
  have h2 : s2.mem.canonical := chipCleared_canonical h1
  clear_value s2
  split
  · exact h2
  · split
    · have h4 : s4.mem.canonical := heldPower_canonical ..
      clear_value s4
      exact h4
    · simpa [s3] using h2

@[simp] theorem completeReset_canonical {s : State} (h : s.mem.canonical) (id : Nat) (ok : Bool) :
    (completeReset s id ok).mem.canonical := by
  unfold completeReset
  extract_lets s1 pads
  have h1 : s1.mem.canonical := by simpa [s1] using h
  split
  · exact h1
  · split
    · exact h1
    · extract_lets ends st s2 _ s2' s3 s4 _ s5 s6
      have h2 : s2.mem.canonical := foldl_canonical (fun s e h => endCtx_canonical h ..) _ h1
      clear_value s2
      split
      · exact settleRing_canonical (settleReset_canonical (finishFnReset_canonical (by exact h2) _) _)
      · have h3 : s3.mem.canonical := by
          unfold s3
          split
          · exact foldl_canonical (fun s e h => reinit_canonical h _ _) _ h2
          · exact h2
        have h4 : s4.mem.canonical := reportReset_canonical h3 ..
        clear_value s4
        split
        · exact settleRing_canonical (endChip_canonical h4 _)
        · have h5 : s5.mem.canonical := settleReset_canonical (by exact h4) _
          refine settleRing_canonical ?_
          unfold s6
          split
          · exact startReset_canonical h5 ..
          · exact h5

@[simp] theorem execResetComplete_canonical {s : State} (h : s.mem.canonical) (id : Nat) (dossierOk : Bool) :
    Res.canonical (execResetComplete id dossierOk s) := by simp [execResetComplete, h]

@[simp] theorem clearOos_canonical {s : State} (h : s.mem.canonical) : (clearOos s).mem.canonical := by
  unfold clearOos
  split
  · exact h
  · exact settleRing_canonical (startReset_canonical (record_canonical (by exact h) ..) ..)

@[simp] theorem execOosClear_canonical {s : State} (h : s.mem.canonical) (slot : BitVec 6) :
    Res.canonical (execOosClear slot s) := by
  refine onProg_canonical h fun p => ?_
  (repeat' split) <;> simp [h]

end Sys2Proof.Machine
end

section
/-! ### What keeps the memory canonical: undefined words and the event recorder (07, 20) -/
namespace Sys2Proof.Machine

@[simp] theorem execUndefinedInstruction_canonical {s : State} (h : s.mem.canonical) (slot : BitVec 6) (word : Word64) :
    Res.canonical (execUndefinedInstruction slot word s) := by
  simp only [execUndefinedInstruction, Res.canonical_next]
  (repeat' split) <;> simp [h]

@[simp] theorem execIllegalInstr_canonical {s : State} (h : s.mem.canonical) (w : ShedRef) (word : Word64) :
    Res.canonical (execIllegalInstr w word s) := by
  simp only [execIllegalInstr, Res.canonical_next]
  (repeat' split) <;> simp [h]

@[simp] theorem updBlk_mem (s : State) (b : Nat) (f : NvBlock → NvBlock) : (updBlk s b f).mem = s.mem := (rfl)

@[simp] theorem wearCritical_canonical {s : State} (h : s.mem.canonical) : (wearCritical s).mem.canonical := by
  unfold wearCritical
  split <;> simp [h]

@[simp] theorem retireBlock_canonical {s : State} (h : s.mem.canonical) (n b : Nat) : (retireBlock s n b).mem.canonical := by
  unfold retireBlock
  extract_lets s1 rm s2 s3 s4
  have h3 : s3.mem.canonical := accept_canonical (by exact h) ..
  have h4 : s4.mem.canonical := by
    unfold s4
    split
    · exact h3
    · split
      · exact h3
      · exact wearCritical_canonical h3
  split
  · exact h
  · split
    · exact wearCritical_canonical h4
    · exact h4

@[simp] theorem wearAdvise_canonical {s : State} (h : s.mem.canonical) (b : Nat) : (wearAdvise s b).mem.canonical := by
  simp only [wearAdvise]
  (repeat' split) <;> simp [h]

@[simp] theorem appendSlot_mem (s : State) (n : Nat) (x : NvSlot) : (appendSlot s n x).mem = s.mem := (rfl)

@[simp] theorem startErase_mem (s : State) (n : Nat) : (startErase s n).mem = s.mem := by
  simp only [startErase]
  (repeat' split) <;> simp

@[simp] theorem releaseHead_mem (s : State) : (releaseHead s).mem = s.mem := by
  simp only [releaseHead]
  (repeat' split) <;> simp

@[simp] theorem closeWindow_mem (s : State) (code : Nat) : (closeWindow s code).mem = s.mem := by
  unfold closeWindow
  (repeat' split) <;> simp

@[simp] theorem admitRec_mem (s : State) (r : Rec) : (admitRec s r).2.mem = s.mem := by
  unfold admitRec
  (repeat' split) <;> simp

@[simp] theorem pickRing_canonical {s : State} (h : s.mem.canonical) (n : Nat) : (pickRing n s).mem.canonical := by
  induction n generalizing s with
  | zero => exact h
  | succ n ih =>
    unfold pickRing
    split
    · exact h
    · split
      · exact h
      · split
        · split
          · dsimp only
            refine ih ?_
            split
            · simpa using h
            · simpa using accept_canonical (s := { s with rcd := { s.rcd with logFull := true } }) h ..
          · exact h
        · split
          rename_i ok t e
          have h1 : t.mem.canonical := canonical_snd e (by simpa using h)
          split
          · exact h1
          · exact ih (by simpa using h1)

@[simp] theorem pickNext_canonical {s : State} (h : s.mem.canonical) : (pickNext s).mem.canonical := by
  unfold pickNext
  (repeat' split) <;> simp [h]

@[simp] theorem recDurable_mem (s : State) (o : NvOp) : (recDurable s o).mem = s.mem := by
  simp only [recDurable]
  (repeat' split) <;> simp

@[simp] theorem execRecordProgramStep_canonical {s : State} (h : s.mem.canonical) (retries : Nat) (ok : Bool) :
    Res.canonical (execRecordProgramStep retries ok s) := by
  unfold execRecordProgramStep
  extract_lets s1
  change Mem.canonical (State.mem _)
  have h1 : s1.mem.canonical := by
    unfold s1
    split
    · exact h
    split
    · exact pickNext_canonical h
    · exact h
  clear_value s1
  split
  · exact h
  split
  · exact h1
  extract_lets n
  split
  · exact h1
  extract_lets s2 _ s3
  have h2 : s2.mem.canonical := by simpa [s2] using h1
  clear_value s2
  have h3 : s3.mem.canonical := by
    unfold s3
    split
    · split
      · exact h2
      · simpa using h2
    · split
      case h_1 v s e =>
        have h4 : s.mem.canonical := canonical_snd e (by simpa using h2)
        extract_lets s4 s5 next _ s6
        have h6 : s6.mem.canonical := by simpa [s6, s5, s4] using h4
        clear_value s6
        split
        · exact retireBlock_canonical h6 ..
        · exact h6
  simpa using wearAdvise_canonical h3 _

@[simp] theorem execEraseComplete_canonical {s : State} (h : s.mem.canonical) (block : BitVec 9) (ok : Bool) :
    Res.canonical (execEraseComplete block ok s) := by
  simp only [execEraseComplete, Res.canonical_next]
  (repeat' split) <;> simp [h]

@[simp] theorem execRateWindowClose_canonical {s : State} (h : s.mem.canonical) (code : BitVec 16) :
    Res.canonical (execRateWindowClose code s) := by simp [execRateWindowClose, h]

@[simp] theorem execPowerOnSecondsStore_canonical {s : State} (h : s.mem.canonical)  :
    Res.canonical (execPowerOnSecondsStore s) := by
  simp only [execPowerOnSecondsStore, Res.canonical_next]
  (repeat' split) <;> simp [h]

@[simp] theorem writeFreeze_canonical {s : State} (h : s.mem.canonical) (v : Word64) : (writeFreeze s v).mem.canonical := by
  unfold writeFreeze
  split <;> simp [h]

@[simp] theorem execFreezeLimitExpiry_canonical {s : State} (h : s.mem.canonical)  :
    Res.canonical (execFreezeLimitExpiry s) := by simp [execFreezeLimitExpiry, h]

@[simp] theorem readAdvance_mem (s : State) : (readAdvance s).mem = s.mem := by
  simp only [readAdvance]
  (repeat' split) <;> simp

end Sys2Proof.Machine
end

section
/-! ### What keeps the memory canonical: Chorno and SMBus (21) -/
namespace Sys2Proof.Machine

@[simp] theorem updN_mem (s : State) (f : Chorno → Chorno) : (updN s f).mem = s.mem := (rfl)

@[simp] theorem chnRec_canonical {s : State} (h : s.mem.canonical) (code : Nat) :
    (chnRec s code).mem.canonical := by simp [chnRec, h]

@[simp] theorem liftMute_canonical {s : State} (h : s.mem.canonical) : (liftMute s).mem.canonical := by
  unfold liftMute
  split <;> simp -implicitDefEqProofs [h]

@[simp] theorem execBeacon_canonical {s : State} (h : s.mem.canonical) (b : BeaconMsg) : Res.canonical (execBeacon b s) := by
  simp only [execBeacon, Res.canonical_next]
  (repeat' split) <;> simp [h]

@[simp] theorem sendBurst_mem (s : State) (kind : Nat) (payload : List Byte) : (sendBurst s kind payload).mem = s.mem := (rfl)

@[simp] theorem slotMessage_mem (s : State) : (slotMessage s).2.2.mem = s.mem := by
  simp only [slotMessage]
  (repeat' split) <;> simp

@[simp] theorem endFrame_mem (s : State) : (endFrame s).mem = s.mem := (rfl)

@[simp] theorem execDeviceSlot_canonical {s : State} (h : s.mem.canonical) (collided : Bool) :
    Res.canonical (execDeviceSlot collided s) := by
  simp only [execDeviceSlot, Res.canonical_next]
  (repeat' split) <;> simp [h]

@[simp] theorem chnCommand_canonical {s : State} (h : s.mem.canonical) (m : ChnHdr) (k : Nat) {f : State → Answer × State}
    (hf : (f s).2.mem.canonical) : (chnCommand s m k f).mem.canonical := by
  have go : (chnCommand.go m k f s).mem.canonical := by
    unfold chnCommand.go
    dsimp only
    split
    · split
      · exact hf
      · exact record_canonical (by exact hf) ..
    · exact hf
  unfold chnCommand
  split
  · exact h
  · split
    · split
      · exact h
      · exact go
    · exact go

@[simp] theorem placeProgram_canonical {s : State} (h : s.mem.canonical) (id : Nat) (b : List Byte) :
    (placeProgram s id b).2.mem.canonical := by
  simp only [placeProgram]
  (repeat' split) <;> simp [h]

@[simp] theorem execProgramSeg_canonical {s : State} (h : s.mem.canonical) (m : ChnHdr) (progId : BitVec 16) (seg nseg : Byte)
    (data : List Byte) : Res.canonical (execProgramSeg m progId seg nseg data s) := by
  refine chnCommand_canonical h _ _ ?_
  extract_lets id n s1 sofar
  have h1 : s1.mem.canonical := by
    unfold s1
    split <;> exact h
  clear_value s1 sofar
  split
  · exact h
  split
  · exact h1
  split
  · exact h1
  split
  · exact h1
  · exact placeProgram_canonical h1 ..

@[simp] theorem execProgramAssemblyTimeout_canonical {s : State} (h : s.mem.canonical)  :
    Res.canonical (execProgramAssemblyTimeout s) := by
  simp only [execProgramAssemblyTimeout, Res.canonical_next]
  (repeat' split) <;> simp [h]

@[simp] theorem execGrant_canonical {s : State} (h : s.mem.canonical) (m : ChnHdr) (queue : BitVec 16) (action : Byte) :
    Res.canonical (execGrant m queue action s) := by
  refine chnCommand_canonical h _ _ ?_
  extract_lets q d note
  have hn : ∀ {s : State}, s.mem.canonical → (note s).mem.canonical := fun h => record_canonical (by simpa using h) ..
  split
  · exact h
  split
  · exact h
  split
  · split
    · exact h
    split
    · exact h
    · exact hn (by exact h)
  split
  · exact hn (by exact h)
  · exact h

@[simp] theorem readWords_mem (s : State) (blk n idx : Nat) : (readWords s blk n idx).2.2.mem = s.mem := by
  induction n generalizing s idx with
  | zero => rfl
  | succ n ih =>
    unfold readWords
    split
    · rfl
    · split
      · rfl
      · split
        · rfl
        · dsimp only
          rw [ih]
          split <;> simp

@[simp] theorem execReadSetting_canonical {s : State} (h : s.mem.canonical) (m : ChnHdr) (blk : Byte) (idx : BitVec 16) (words : Byte) :
    Res.canonical (execReadSetting m blk idx words s) := by
  refine chnCommand_canonical h _ _ ?_
  split <;> simpa using h

@[simp] theorem execRecRead_canonical {s : State} (h : s.mem.canonical) (m : ChnHdr) (region : Byte) (index : BitVec 64) :
    Res.canonical (execRecRead m region index s) := by
  refine chnCommand_canonical h _ _ ?_
  split <;> exact h

@[simp] theorem takeChunk_mem (s : State) (chunk pushId : Nat) (data : List Byte) :
    (takeChunk s chunk pushId data).2.mem = s.mem := by
  unfold takeChunk
  (repeat' split) <;> simp

@[simp] theorem execPackData_canonical {s : State} (h : s.mem.canonical) (m : ChnHdr) (chunk pushId : BitVec 16) (data : List Byte) :
    Res.canonical (execPackData m chunk pushId data s) := by
  unfold execPackData
  change Mem.canonical (State.mem _)
  split
  · split <;> simpa using h
  · exact chnCommand_canonical h _ _ (by simpa using h)

@[simp] theorem execPackQuery_canonical {s : State} (h : s.mem.canonical) (m : ChnHdr) (pushId : BitVec 16) :
    Res.canonical (execPackQuery m pushId s) := chnCommand_canonical h _ _ h

@[simp] theorem execHoldReport_canonical {s : State} (h : s.mem.canonical) : Res.canonical (execHoldReport s) := by
  simp only [execHoldReport, Res.canonical_next]
  (repeat' split) <;> simp [h]

@[simp] theorem updB2_mem (s : State) (f : Smbus → Smbus) : (updB2 s f).mem = s.mem := (rfl)

@[simp] theorem smbReply_mem (s : State) (code : Nat) (data : List Byte) : (smbReply s code data).mem = s.mem := (rfl)

@[simp] theorem smbRead_canonical {s : State} (h : s.mem.canonical) (code : Nat) (data : State → List Byte) :
    Res.canonical (smbRead s code data) := by
  simp only [smbRead, Res.canonical_next]
  (repeat' split) <;> simp [h]

@[simp] theorem smbBlock_canonical {s : State} (h : s.mem.canonical) (code : Nat) (data : State → List Byte) :
    Res.canonical (smbBlock s code data) := smbRead_canonical h ..

@[simp] theorem smbWrite_canonical {s : State} (h : s.mem.canonical) (code : Nat) (ok : Bool) {f : State → State}
    (hf : (f s).mem.canonical) : (smbWrite s code ok f).mem.canonical := by
  unfold smbWrite
  split
  · exact h
  · split
    · exact hf
    · exact record_canonical (by exact h) ..

@[simp] theorem releaseAlert_mem (s : State) : (releaseAlert s).mem = s.mem := (rfl)

@[simp] theorem execPage_canonical {s : State} (h : s.mem.canonical) (write : Option Byte) (pecOk : Bool) :
    Res.canonical (execPage write pecOk s) := by
  simp only [execPage]
  (repeat' split) <;> simp [h]

@[simp] theorem execClearFaults_canonical {s : State} (h : s.mem.canonical) (pecOk : Bool) :
    Res.canonical (execClearFaults pecOk s) := by simp [execClearFaults, h]

@[simp] theorem execCapability_canonical {s : State} (h : s.mem.canonical)  :
    Res.canonical (execCapability s) := smbRead_canonical h ..

@[simp] theorem execStatusByte_canonical {s : State} (h : s.mem.canonical)  :
    Res.canonical (execStatusByte s) := smbRead_canonical h ..

@[simp] theorem execStatusWord_canonical {s : State} (h : s.mem.canonical)  :
    Res.canonical (execStatusWord s) := smbRead_canonical h ..

@[simp] theorem execStatusInput_canonical {s : State} (h : s.mem.canonical)  :
    Res.canonical (execStatusInput s) := smbRead_canonical h ..

@[simp] theorem execStatusTemperature_canonical {s : State} (h : s.mem.canonical)  :
    Res.canonical (execStatusTemperature s) := smbRead_canonical h ..

@[simp] theorem execStatusCml_canonical {s : State} (h : s.mem.canonical)  :
    Res.canonical (execStatusCml s) := smbRead_canonical h ..

@[simp] theorem pageZero_canonical {s : State} (h : s.mem.canonical) (code : Nat) (data : State → List Byte) :
    Res.canonical (pageZero s code data) := by
  simp only [pageZero, Res.canonical_next]
  (repeat' split) <;> simp [h]

@[simp] theorem execReadVin_canonical {s : State} (h : s.mem.canonical) (mV : Nat) :
    Res.canonical (execReadVin mV s) := smbRead_canonical h ..

@[simp] theorem execReadIin_canonical {s : State} (h : s.mem.canonical)  :
    Res.canonical (execReadIin s) := pageZero_canonical h ..

@[simp] theorem execReadTemperature1_canonical {s : State} (h : s.mem.canonical)  :
    Res.canonical (execReadTemperature1 s) := smbRead_canonical h ..

@[simp] theorem execReadTemperature2_canonical {s : State} (h : s.mem.canonical)  :
    Res.canonical (execReadTemperature2 s) := smbRead_canonical h ..

@[simp] theorem execReadPin_canonical {s : State} (h : s.mem.canonical)  :
    Res.canonical (execReadPin s) := pageZero_canonical h ..

@[simp] theorem execPmbusRevision_canonical {s : State} (h : s.mem.canonical)  :
    Res.canonical (execPmbusRevision s) := smbRead_canonical h ..

@[simp] theorem execMfrId_canonical {s : State} (h : s.mem.canonical) : Res.canonical (execMfrId s) := smbBlock_canonical h ..

@[simp] theorem execMfrModel_canonical {s : State} (h : s.mem.canonical)  :
    Res.canonical (execMfrModel s) := smbBlock_canonical h ..

@[simp] theorem execMfrRevision_canonical {s : State} (h : s.mem.canonical)  :
    Res.canonical (execMfrRevision s) := smbBlock_canonical h ..

@[simp] theorem execMfrSerial_canonical {s : State} (h : s.mem.canonical)  :
    Res.canonical (execMfrSerial s) := smbBlock_canonical h ..

@[simp] theorem execMfrDevStatus_canonical {s : State} (h : s.mem.canonical)  :
    Res.canonical (execMfrDevStatus s) := smbBlock_canonical h ..

@[simp] theorem execMfrBistResult_canonical {s : State} (h : s.mem.canonical)  :
    Res.canonical (execMfrBistResult s) := smbBlock_canonical h ..

@[simp] theorem execMfrRecPtr_canonical {s : State} (h : s.mem.canonical) (region : Byte) (index : BitVec 64) (pecOk : Bool) :
    Res.canonical (execMfrRecPtr region index pecOk s) := by
  simp only [execMfrRecPtr, Res.canonical_next]
  (repeat' split) <;> simp [h]

@[simp] theorem execMfrRecRead_canonical {s : State} (h : s.mem.canonical) : Res.canonical (execMfrRecRead s) := by
  simp only [execMfrRecRead, Res.canonical_next]
  (repeat' split) <;> simp [h]

@[simp] theorem execAlertResponse_canonical {s : State} (h : s.mem.canonical) : Res.canonical (execAlertResponse s) := by
  simp only [execAlertResponse, Res.canonical_next]
  (repeat' split) <;> simp [h]

end Sys2Proof.Machine
end

section
/-! ### What keeps the memory canonical: Hexah memory, context, queue and reset instructions (07) -/
namespace Sys2Proof.Machine

@[simp] theorem withOper_canonical {s : State} (h : s.mem.canonical) {slot : BitVec 6} {p : Prog} {addr : Word64} {n align : Nat} {env : Env}
    {f : List Byte → State → State} (hf : ∀ b t, t.mem.canonical → (f b t).mem.canonical) :
    (withOper s slot p addr n align env f).mem.canonical := by
  unfold withOper
  split
  case h_1 e => exact hf _ _ (canonical_snd e (progRead_canonical h ..))
  case h_2 e => simpa using canonical_snd e (progRead_canonical h ..)

@[simp] theorem hexLoad_canonical {s : State} (h : s.mem.canonical) (n : Nat) (slot : BitVec 6) (rd ra : BitVec 5)
    (imm : Word32) (env : Env) : Res.canonical (hexLoad n slot rd ra imm env s) := by simp [hexLoad, h]

@[simp] theorem hexStore_canonical {s : State} (h : s.mem.canonical) (n : Nat) (slot : BitVec 6) (ra rb : BitVec 5) (imm : Word32) :
    Res.canonical (hexStore n slot ra rb imm s) := by
  refine onProg_canonical h fun p => ?_
  split
  case h_1 e => simpa using progWrite_canonical h e
  case h_2 => simpa using h

@[simp] theorem execLd_canonical {s : State} (h : s.mem.canonical) (slot : BitVec 6) (rd ra : BitVec 5) (imm : Word32)
    (env : Env) : Res.canonical (execLd slot rd ra imm env s) := hexLoad_canonical h ..

@[simp] theorem execLw_canonical {s : State} (h : s.mem.canonical) (slot : BitVec 6) (rd ra : BitVec 5) (imm : Word32)
    (env : Env) : Res.canonical (execLw slot rd ra imm env s) := hexLoad_canonical h ..

@[simp] theorem execSt_canonical {s : State} (h : s.mem.canonical) (slot : BitVec 6) (ra rb : BitVec 5) (imm : Word32) :
    Res.canonical (execSt slot ra rb imm s) := hexStore_canonical h ..

@[simp] theorem execSw_canonical {s : State} (h : s.mem.canonical) (slot : BitVec 6) (ra rb : BitVec 5) (imm : Word32) :
    Res.canonical (execSw slot ra rb imm s) := hexStore_canonical h ..

@[simp] theorem execCtxsel_canonical {s : State} (h : s.mem.canonical) (slot : BitVec 6) (ra : BitVec 5) :
    Res.canonical (execCtxsel slot ra s) := by
  refine onPriv_canonical h fun p => ?_
  dsimp only
  (repeat' split) <;> simp [h]

@[simp] theorem newCtx_canonical {s : State} (h : s.mem.canonical) (c : Nat) (tag : Word32) (fn : Nat) :
    (newCtx s c tag fn).mem.canonical := by simp [newCtx, h]

@[simp] theorem execCtxnew_canonical {s : State} (h : s.mem.canonical) (slot : BitVec 6) (rd ra rb : BitVec 5) (imm : Word32) :
    Res.canonical (execCtxnew slot rd ra rb imm s) := by
  refine onPriv_canonical h fun p => ?_
  dsimp only
  (repeat' split) <;> simp [h]

@[simp] theorem resetFor_canonical {s : State} (h : s.mem.canonical) (slot : BitVec 6) (p : Prog) (level target : Nat)
    (rd : BitVec 5) (w : Nat → WaitOn) : (resetFor s slot p level target rd w).mem.canonical := by
  simp only [resetFor]
  (repeat' split) <;> simp [h]

@[simp] theorem execCtxdel_canonical {s : State} (h : s.mem.canonical) (slot : BitVec 6) (rd ra : BitVec 5) :
    Res.canonical (execCtxdel slot rd ra s) := by
  refine onPriv_canonical h fun p => ?_
  dsimp only
  (repeat' split) <;> simp [h]

@[simp] theorem execQcreate_canonical {s : State} (h : s.mem.canonical) (slot : BitVec 6) (rd ra rb : BitVec 5) (env : Env) :
    Res.canonical (execQcreate slot rd ra rb env s) := by
  refine onPriv_canonical h fun p => ?_
  extract_lets q
  split
  · simpa using h
  refine withOper_canonical h fun b t ht => ?_
  split
  · simpa using ht
  split
  · simpa using ht
  · simpa using ht

@[simp] theorem onQueue_canonical {s : State} (h : s.mem.canonical) {slot : BitVec 6} {ra : BitVec 5} {f : Prog → Nat → Queue → State}
    (hf : ∀ p q d, (f p q d).mem.canonical) : (onQueue s slot ra f).mem.canonical := by
  refine onPriv_canonical h fun p => ?_
  dsimp only
  split <;> simp [h, hf]

@[simp] theorem enableQueue_canonical {s : State} (h : s.mem.canonical) (q : Nat) :
    (enableQueue s q).mem.canonical := by simp [enableQueue, h]

@[simp] theorem execQctlEnable_canonical {s : State} (h : s.mem.canonical) (slot : BitVec 6) (rd ra : BitVec 5) :
    Res.canonical (execQctlEnable slot rd ra s) := by simp [execQctlEnable, h]

@[simp] theorem execQctlDisable_canonical {s : State} (h : s.mem.canonical) (slot : BitVec 6) (rd ra : BitVec 5) :
    Res.canonical (execQctlDisable slot rd ra s) := by
  refine onQueue_canonical h fun p q d => ?_
  (repeat' split) <;> simp [h]

@[simp] theorem execQctlStop_canonical {s : State} (h : s.mem.canonical) (slot : BitVec 6) (rd ra : BitVec 5) :
    Res.canonical (execQctlStop slot rd ra s) := by
  refine onQueue_canonical h fun p q d => ?_
  (repeat' split) <;> simp [h]

@[simp] theorem execQctlDestroy_canonical {s : State} (h : s.mem.canonical) (slot : BitVec 6) (rd ra : BitVec 5) :
    Res.canonical (execQctlDestroy slot rd ra s) := by
  refine onQueue_canonical h fun p q d => ?_
  (repeat' split) <;> simp [h]

@[simp] theorem onCtx_canonical {s : State} (h : s.mem.canonical) {slot : BitVec 6} {f : Prog → Nat → State}
    (hf : ∀ p c, (f p c).mem.canonical) : (onCtx s slot f).mem.canonical := by
  refine onProg_canonical h fun p => ?_
  (repeat' split) <;> simp [h, hf]

@[simp] theorem execGseed_canonical {s : State} (h : s.mem.canonical) (slot : BitVec 6) (ra rb : BitVec 5) :
    Res.canonical (execGseed slot ra rb s) := by simp [execGseed, h]

@[simp] theorem acceptLaunch_canonical {s : State} (h : s.mem.canonical) (c : Nat) (b : List Byte) :
    (acceptLaunch s c b).2.mem.canonical := by
  unfold acceptLaunch
  split <;> simp [h]

@[simp] theorem execLaunch_canonical {s : State} (h : s.mem.canonical) (slot : BitVec 6) (rd ra : BitVec 5) (env : Env) :
    Res.canonical (execLaunch slot rd ra env s) := by
  refine onCtx_canonical h fun p c => withOper_canonical h fun b t ht => ?_
  (repeat' split) <;> simp [ht]

@[simp] theorem execSctr_canonical {s : State} (h : s.mem.canonical) (slot : BitVec 6) (rd : BitVec 5) :
    Res.canonical (execSctr slot rd s) := by simp [execSctr, h]

@[simp] theorem execSset_canonical {s : State} (h : s.mem.canonical) (slot : BitVec 6) (rd ra : BitVec 5) :
    Res.canonical (execSset slot rd ra s) := by
  refine onCtx_canonical h fun p c => ?_
  (repeat' split) <;> simp [h]

@[simp] theorem execSyadd_canonical {s : State} (h : s.mem.canonical) (slot : BitVec 6) (rd ra rb : BitVec 5) :
    Res.canonical (execSyadd slot rd ra rb s) := by simp [execSyadd, h]

@[simp] theorem execSyset_canonical {s : State} (h : s.mem.canonical) (slot : BitVec 6) (ra rb : BitVec 5) :
    Res.canonical (execSyset slot ra rb s) := by simp [execSyset, h]

@[simp] theorem execSyrd_canonical {s : State} (h : s.mem.canonical) (slot : BitVec 6) (rd ra : BitVec 5) :
    Res.canonical (execSyrd slot rd ra s) := by simp [execSyrd, h]

@[simp] theorem execWait_canonical {s : State} (h : s.mem.canonical) (slot : BitVec 6) (rd ra rb : BitVec 5) (imm : Word32) :
    Res.canonical (execWait slot rd ra rb imm s) := by
  refine onCtx_canonical h fun p c => ?_
  dsimp only
  (repeat' split) <;> simp [h]

@[simp] theorem execWaitWake_canonical {s : State} (h : s.mem.canonical) (slot : BitVec 6) :
    Res.canonical (execWaitWake slot s) := by
  simp only [execWaitWake, Res.canonical_next]
  (repeat' split) <;> simp [h]

@[simp] theorem execWaitTimeout_canonical {s : State} (h : s.mem.canonical) (slot : BitVec 6) :
    Res.canonical (execWaitTimeout slot s) := by
  simp only [execWaitTimeout, Res.canonical_next]
  (repeat' split) <;> simp [h]

@[simp] theorem execFence_canonical {s : State} (h : s.mem.canonical) (slot : BitVec 6) :
    Res.canonical (execFence slot s) := by simp [execFence, h]

@[simp] theorem execResetContext_canonical {s : State} (h : s.mem.canonical) (slot : BitVec 6) (rd ra : BitVec 5) :
    Res.canonical (execResetContext slot rd ra s) := by
  refine onProg_canonical h fun p => ?_
  dsimp only
  (repeat' split) <;> simp [h]

@[simp] theorem execResetJobTag_canonical {s : State} (h : s.mem.canonical) (slot : BitVec 6) (rd ra : BitVec 5) :
    Res.canonical (execResetJobTag slot rd ra s) := by
  refine onPriv_canonical h fun p => ?_
  dsimp only
  (repeat' split) <;> simp [h]

@[simp] theorem execResetEngine_canonical {s : State} (h : s.mem.canonical) (slot : BitVec 6) (rd ra : BitVec 5) :
    Res.canonical (execResetEngine slot rd ra s) := by
  refine onPriv_canonical h fun p => ?_
  dsimp only
  (repeat' split) <;> simp [h]

@[simp] theorem execResetPartition_canonical {s : State} (h : s.mem.canonical) (slot : BitVec 6) (rd ra : BitVec 5) :
    Res.canonical (execResetPartition slot rd ra s) := by
  refine onPriv_canonical h fun p => ?_
  dsimp only
  (repeat' split) <;> simp [h]

@[simp] theorem execResetChip_canonical {s : State} (h : s.mem.canonical) (slot : BitVec 6) (rd ra : BitVec 5) :
    Res.canonical (execResetChip slot rd ra s) := by
  refine onPriv_canonical h fun p => ?_
  (repeat' split) <;> simp [h]

@[simp] theorem execResetPowerCycle_canonical {s : State} (h : s.mem.canonical) (slot : BitVec 6) (rd ra : BitVec 5) :
    Res.canonical (execResetPowerCycle slot rd ra s) := by
  refine onPriv_canonical h fun p => ?_
  (repeat' split) <;> simp [h]

end Sys2Proof.Machine
end

section
/-! ### What keeps the memory canonical: Hexah power, Burling, fuse and log instructions (07) -/
namespace Sys2Proof.Machine

@[simp] theorem execPwrdom_canonical {s : State} (h : s.mem.canonical) (slot : BitVec 6) (rd ra : BitVec 5) (imm : Word32) :
    Res.canonical (execPwrdom slot rd ra imm s) := by
  refine onPriv_canonical h fun p => ?_
  dsimp only
  (repeat' split) <;> simp [h]

@[simp] theorem execAcct_canonical {s : State} (h : s.mem.canonical) (slot : BitVec 6) (imm : Word32) :
    Res.canonical (execAcct slot imm s) := by
  unfold execAcct
  change Mem.canonical (State.mem _)
  split
  · refine onPriv_canonical h fun p => ?_
    simpa using foldl_canonical (fun s c h => energyRecord_canonical h c true false) (liveCtxs s) h
  split
  · refine onCtx_canonical h fun p c => ?_
    split
    · simpa using h
    · simpa using energyRecord_canonical h c true false
  · exact onProg_canonical h fun p => by simpa using h

@[simp] theorem execTsnap_canonical {s : State} (h : s.mem.canonical) (slot : BitVec 6) (ra : BitVec 5) :
    Res.canonical (execTsnap slot ra s) := by
  refine onPriv_canonical h fun p => ?_
  split
  case h_1 e => simpa using progWrite_canonical h e
  case h_2 => simpa using h

@[simp] theorem beginVerify_mem (s : State) (slot : BitVec 6) (p : Prog) (rd : BitVec 5) :
    (beginVerify s slot p rd).mem = s.mem := (rfl)

@[simp] theorem execBinst_canonical {s : State} (h : s.mem.canonical) (slot : BitVec 6) (rd ra rb : BitVec 5) (env : Env) :
    Res.canonical (execBinst slot rd ra rb env s) := by
  refine onPriv_canonical h fun p => ?_
  dsimp only
  (repeat' split) <;> simp [h]

@[simp] theorem execBkey_canonical {s : State} (h : s.mem.canonical) (slot : BitVec 6) (imm : Word32) :
    Res.canonical (execBkey slot imm s) := by
  simp only [execBkey, Res.canonical_next]
  (repeat' split) <;> simp [h]

@[simp] theorem execBdeep_canonical {s : State} (h : s.mem.canonical) (slot : BitVec 6) (rd ra : BitVec 5) :
    Res.canonical (execBdeep slot rd ra s) := by
  refine onPriv_canonical h fun p => ?_
  dsimp only
  (repeat' split) <;> simp [h]

@[simp] theorem intoService_canonical {s : State} (h : s.mem.canonical) (n st : Nat) :
    (intoService s n st).mem.canonical := by simp -implicitDefEqProofs [intoService, h]

@[simp] theorem outOfService_canonical {s : State} (h : s.mem.canonical) (n : Nat) :
    (outOfService s n).mem.canonical := by simp [outOfService, h]

@[simp] theorem setCluster_canonical {s : State} (h : s.mem.canonical) (n st : Nat) (testPass : Bool) :
    (setCluster s n st testPass).2.mem.canonical := by
  simp only [setCluster]
  (repeat' split) <;> simp -implicitDefEqProofs [h]

@[simp] theorem execCstate_canonical {s : State} (h : s.mem.canonical) (slot : BitVec 6) (rd ra : BitVec 5) (imm : Word32)
    (testPass : Bool) : Res.canonical (execCstate slot rd ra imm testPass s) := by
  refine onPriv_canonical h fun p => ?_
  dsimp only
  (repeat' split) <;> simp [h]

@[simp] theorem execFkey_canonical {s : State} (h : s.mem.canonical) (slot : BitVec 6) (rd ra rb : BitVec 5) (imm : Word32) (env : Env) :
    Res.canonical (execFkey slot rd ra rb imm env s) := by
  refine onPriv_canonical h fun p => ?_
  extract_lets k w
  split
  · simpa using h
  refine withOper_canonical h fun b t ht => ?_
  extract_lets l
  split
  · simpa using ht
  · simpa using ht

@[simp] theorem execFcop_canonical {s : State} (h : s.mem.canonical) (slot : BitVec 6) (rd ra : BitVec 5) :
    Res.canonical (execFcop slot rd ra s) := by
  refine onPriv_canonical h fun p => ?_
  dsimp only
  (repeat' split) <;> simp [h]

@[simp] theorem execLog_canonical {s : State} (h : s.mem.canonical) (slot : BitVec 6) (ra rb : BitVec 5) (imm : Word32) (env : Env) :
    Res.canonical (execLog slot ra rb imm env s) := by
  refine onProg_canonical h fun p => ?_
  extract_lets code
  split
  · simpa using h
  refine withOper_canonical h fun b t ht => ?_
  exact (retire_mem ..).symm ▸ record_canonical ht ..

@[simp] theorem execSend_canonical {s : State} (h : s.mem.canonical) (slot : BitVec 6) (rd ra rb : BitVec 5) (env : Env) :
    Res.canonical (execSend slot rd ra rb env s) := by
  refine onPriv_canonical h fun p => ?_
  extract_lets n
  split
  · simpa using h
  refine withOper_canonical h fun b t ht => ?_
  split
  · simpa using ht
  split
  · simpa using ht
  · simpa using ht

end Sys2Proof.Machine
end

section
/-! ### What keeps the memory canonical: settings (08) -/
namespace Sys2Proof.Machine

@[simp] theorem onSetting_canonical {s : State} (h : s.mem.canonical) {slot : BitVec 6} {x : SetRef} {f : Prog → SetRow → Nat → State}
    (hf : ∀ p r i, (f p r i).mem.canonical) : (onSetting s slot x f).mem.canonical := by
  refine onProg_canonical h fun p => ?_
  (repeat' split) <;> simp [h, hf]

@[simp] theorem execRds_canonical {s : State} (h : s.mem.canonical) (slot : BitVec 6) (rd : BitVec 5) (x : SetRef) :
    Res.canonical (execRds slot rd x s) := by
  refine onSetting_canonical h fun p r i => ?_
  (repeat' split) <;> simp [h]

@[simp] theorem execRdst_canonical {s : State} (h : s.mem.canonical) (slot : BitVec 6) (rd : BitVec 5) (x : SetRef) :
    Res.canonical (execRdst slot rd x s) := by
  refine onSetting_canonical h fun p r i => ?_
  (repeat' split) <;> simp [h]

@[simp] theorem execStage_canonical {s : State} (h : s.mem.canonical) (slot : BitVec 6) (ra : BitVec 5) (x : SetRef) :
    Res.canonical (execStage slot ra x s) := by
  refine onSetting_canonical h fun p r i => ?_
  (repeat' split) <;> simp [h]

@[simp] theorem perfWrite_mem (s : State) (c : Nat) (v : Word64) : (perfWrite s c v).mem = s.mem := by
  unfold perfWrite
  split <;> simp

@[simp] theorem writeNow_canonical {s : State} (h : s.mem.canonical) (r : SetRow) (i c : Nat) (v : Word64) :
    (writeNow s r i c v).mem.canonical := by
  unfold writeNow
  (repeat' split) <;> simp [h]

@[simp] theorem wriTo_canonical {s : State} (h : s.mem.canonical) (slot : BitVec 6) (p : Prog) (r : SetRow) (i : Nat)
    (v : Word64) : (wriTo s slot p r i v).mem.canonical := by
  simp only [wriTo]
  (repeat' split) <;> simp [h]

@[simp] theorem execWri_canonical {s : State} (h : s.mem.canonical) (slot : BitVec 6) (ra : BitVec 5) (x : SetRef) :
    Res.canonical (execWri slot ra x s) := by simp [execWri, h]

@[simp] theorem wriWhen_canonical {s : State} (h : s.mem.canonical) (cond : Word64 → Bool) (blk idx : Nat) (slot : BitVec 6)
    (ra : BitVec 5) : Res.canonical (wriWhen cond blk idx slot ra s) := by
  refine onProg_canonical h fun p => ?_
  (repeat' split) <;> simp [h]

@[simp] theorem execFreezeStart_canonical {s : State} (h : s.mem.canonical) (slot : BitVec 6) (ra : BitVec 5) :
    Res.canonical (execFreezeStart slot ra s) := wriWhen_canonical h ..

@[simp] theorem execFreezeEnd_canonical {s : State} (h : s.mem.canonical) (slot : BitVec 6) (ra : BitVec 5) :
    Res.canonical (execFreezeEnd slot ra s) := wriWhen_canonical h ..

@[simp] theorem execReadPtrWrite_canonical {s : State} (h : s.mem.canonical) (slot : BitVec 6) (ra : BitVec 5) :
    Res.canonical (execReadPtrWrite slot ra s) := wriWhen_canonical h ..

@[simp] theorem execPerfStart_canonical {s : State} (h : s.mem.canonical) (slot : BitVec 6) (ra : BitVec 5) :
    Res.canonical (execPerfStart slot ra s) := wriWhen_canonical h ..

@[simp] theorem execPerfStop_canonical {s : State} (h : s.mem.canonical) (slot : BitVec 6) (ra : BitVec 5) :
    Res.canonical (execPerfStop slot ra s) := wriWhen_canonical h ..

@[simp] theorem execPerfZero_canonical {s : State} (h : s.mem.canonical) (slot : BitVec 6) (ra : BitVec 5) :
    Res.canonical (execPerfZero slot ra s) := wriWhen_canonical h ..

@[simp] theorem execInjectArm_canonical {s : State} (h : s.mem.canonical) (slot : BitVec 6) (ra : BitVec 5) :
    Res.canonical (execInjectArm slot ra s) := wriWhen_canonical h ..

@[simp] theorem execInjectDisarm_canonical {s : State} (h : s.mem.canonical) (slot : BitVec 6) (ra : BitVec 5) :
    Res.canonical (execInjectDisarm slot ra s) := wriWhen_canonical h ..

@[simp] theorem execEspStopNow_canonical {s : State} (h : s.mem.canonical) (slot : BitVec 6) :
    Res.canonical (execEspStopNow slot s) := by
  simp only [execEspStopNow, Res.canonical_next]
  (repeat' split) <;> simp [h]

@[simp] theorem execReadDataAutoinc_canonical {s : State} (h : s.mem.canonical) (slot : BitVec 6) (rd : BitVec 5) :
    Res.canonical (execReadDataAutoinc slot rd s) := by
  simp only [execReadDataAutoinc, Res.canonical_next]
  (repeat' split) <;> simp [h]

@[simp] theorem execCheck_canonical {s : State} (h : s.mem.canonical) (slot : BitVec 6) (rd : BitVec 5) :
    Res.canonical (execCheck slot rd s) := by simp [execCheck, h]

@[simp] theorem execAbandon_canonical {s : State} (h : s.mem.canonical) (slot : BitVec 6) :
    Res.canonical (execAbandon slot s) := by simp [execAbandon, h]

@[simp] theorem execCommit_canonical {s : State} (h : s.mem.canonical) (slot : BitVec 6) (rd : BitVec 5) (imm : Word32) :
    Res.canonical (execCommit slot rd imm s) := by
  refine onProg_canonical h fun p => ?_
  (repeat' split) <;> simp [h]

@[simp] theorem afterCommit_canonical {s : State} (h : s.mem.canonical) (e : Staged) (old : Word64) :
    (afterCommit s e old).mem.canonical := by
  simp only [afterCommit]
  (repeat' split) <;> simp [h]

@[simp] theorem commitNow_canonical {s : State} (h : s.mem.canonical) (l : List Staged) : (commitNow s l).mem.canonical := by
  unfold commitNow
  dsimp only
  (repeat' split) <;> simp -implicitDefEqProofs +contextual [h]

@[simp] theorem commitFails_mem (s : State) (n : Nat) (p : Prog) (rd : Nat) (soft : Bool) (rule : Nat) :
    (commitFails s n p rd soft rule).mem = s.mem := by
  unfold commitFails
  split <;> simp

@[simp] theorem dropToken_mem (s : State) : (dropToken s).mem = s.mem := (rfl)

@[simp] theorem execCommitTokenGrant_canonical {s : State} (h : s.mem.canonical) (copiesOk : Bool) :
    Res.canonical (execCommitTokenGrant copiesOk s) := by
  simp only [execCommitTokenGrant, Res.canonical_next]
  (repeat' split) <;> simp [h]

@[simp] theorem execCommitPrepareTimeout_canonical {s : State} (h : s.mem.canonical) (domain : BitVec 16) :
    Res.canonical (execCommitPrepareTimeout domain s) := by
  simp only [execCommitPrepareTimeout, Res.canonical_next]
  (repeat' split) <;> simp [h]

@[simp] theorem execHardenedRefresh_canonical {s : State} (h : s.mem.canonical) (blk : BitVec 5) (idx : BitVec 12)
    (copyOk : Bool) : Res.canonical (execHardenedRefresh blk idx copyOk s) := by
  simp only [execHardenedRefresh, Res.canonical_next]
  (repeat' split) <;> simp [h]

@[simp] theorem execSettingParity_canonical {s : State} (h : s.mem.canonical) (blk : BitVec 5) (idx : BitVec 12)
    (ctx : BitVec 8) (imageOk : Bool) : Res.canonical (execSettingParity blk idx ctx imageOk s) := by
  simp only [execSettingParity, Res.canonical_next]
  (repeat' split) <;> simp [h]

end Sys2Proof.Machine
end

section
/-! ### O4: every step keeps the memory list in its canonical form -/
namespace Sys2Proof.Machine

/-- Every command keeps the memory canonical, each by the lemma of its own function. -/
theorem exec_canonical {s : State} (h : s.mem.canonical) (i : Instr) : Res.canonical (exec i s) := by
  cases i <;> simp [exec, h]

@[simp] theorem tick_mem (s : State) : (tick s).mem = s.mem := by
  unfold tick
  split <;> rfl

theorem step_canonical {s : State} (h : s.mem.canonical) : Res.canonical (step s) := by
  unfold step
  split
  · simpa using h
  · exact exec_canonical (by exact h) _

/-- Settles O4: an idle step writes no memory, and every command writes it only through the operations that keep the list's order
(`memPut`, `memWipe`, `setPoison`, `clearPoison`). -/
theorem everyStepKeepsMemoryCanonical : Obligations.EveryStepKeepsMemoryCanonical := by
  unfold Obligations.EveryStepKeepsMemoryCanonical
  intro s t h e
  have ht : Res.canonical (step s) := step_canonical ((memCanonical_iff s).1 h)
  rw [e] at ht
  exact (memCanonical_iff t).2 ht

end Sys2Proof.Machine
end

section
/-! ### Fuse programs (07 R266, R272, 04 R150) -/
namespace Sys2Proof.Machine

/-- A key word that the fuses do not hold yet is the next one to be programmed. -/
theorem skipWords_new {t : Tbl Word32} {k w d : Nat} {l : List Word32} (nonempty : l ≠ [])
    (new : Tbl.get 0 t (k * 24 + w) ≠ l.headD 0) :
    skipWords t k w d l = (w, d, l) := by
  cases l with
  | nil => exact absurd rfl nonempty
  | cons x l => exact if_neg new

/-- The words of a key from one of its 24 on. -/
theorem keyWords_drop {b : List Byte} {w : Nat} (h : w ≤ 23) : (keyWords b).drop w ≠ [] := by
  simp [keyWords, List.drop_eq_nil_iff]
  omega

/-- A fuse program waits behind those in progress. -/
theorem startFuse_behind {s : State} (busy : s.fuses.prog ≠ []) (f : FuseProg) :
    startFuse s f = { s with fuses := { s.fuses with prog := s.fuses.prog ++ [f] } } := by
  simp [startFuse, busy]

/-- The one fuse program begins its first word inside the temperature window (04 R150). -/
theorem startFuse_begins {s : State} {f : FuseProg} {p : Prog} (free : s.fuses.prog = []) (window : fuseWindow s = true)
    (parked : getP s f.exec = some p) (words : f.words ≠ [])
    (new : f.kind = 0 → Tbl.get 0 s.fuses.opKeys (f.key * 24 + f.word) ≠ f.words.headD 0) :
    startFuse s f = { s with fuses := { s.fuses with prog := [f] } } := by
  have skip : (if f.kind = 0 then skipWords s.fuses.opKeys f.key f.word f.done f.words else (f.word, f.done, f.words)) =
      (f.word, f.done, f.words) := by
    split
    · exact skipWords_new words (new ‹_›)
    · rfl
  have go : nextFuse { s with fuses := { s.fuses with prog := [f] } } f = { s with fuses := { s.fuses with prog := [f] } } := by
    have parked' : getP { s with fuses := { s.fuses with prog := [f] } } f.exec = some p := parked
    have window' : fuseWindow { s with fuses := { s.fuses with prog := [f] } } = true := window
    unfold nextFuse
    simp [skip, parked', window', words]
  simp [startFuse, free, settleFuses, go]

/-- The program that starts a fuse program waits for it; the first word of the only one may begin at once. -/
theorem startFuse_parked {s : State} {slot : BitVec 6} {f : FuseProg} (inSlot : f.exec = slot.toNat) (words : f.words ≠ [])
    (start : s.fuses.prog ≠ [] ∨
      fuseWindow s = true ∧ (f.kind = 0 → Tbl.get 0 s.fuses.opKeys (f.key * 24 + f.word) ≠ f.words.headD 0))
    (p : Prog) (w : WaitOn) :
    startFuse (parkOn s slot p w) f =
      { parkOn s slot p w with fuses := { s.fuses with prog := s.fuses.prog ++ [f] } } := by
  by_cases free : s.fuses.prog = []
  · obtain busy | ⟨window, new⟩ := start
    · exact absurd free busy
    · have parked : getP (parkOn s slot p w) f.exec = some { p with wait := w } := by
        rw [inSlot]
        exact getP_putP_same ..
      rw [startFuse_begins (s := parkOn s slot p w) free window parked words new, free]
      rfl
  · exact startFuse_behind (s := parkOn s slot p w) free f

/-- FKEY outside its ranges. -/
theorem execFkey_malformed {s : State} {slot : BitVec 6} {p : Prog} (h : issues s slot p) (priv : 2 ≤ p.priv) {rb : BitVec 5}
    {imm : Word32} (bad : imm.toNat < 1 ∨ 3 < imm.toNat ∨ 23 < (p.reg rb).toNat) (rd ra : BitVec 5) (env : Env) :
    execFkey slot rd ra rb imm env s = .next (ended s slot p 0x0002) := by
  unfold execFkey
  rw [onPriv_issues h priv]
  dsimp only
  rw [if_pos bad]
  rfl

/-- FKEY inside its ranges, with a key that can be read. -/
theorem execFkey_read {s s' : State} {slot : BitVec 6} {p : Prog} (h : issues s slot p) (priv : 2 ≤ p.priv) {ra rb : BitVec 5}
    {imm : Word32} {env : Env} {b : List Byte} (k1 : 1 ≤ imm.toNat) (k3 : imm.toNat ≤ 3) (w : (p.reg rb).toNat ≤ 23)
    (ok : progRead s p (p.reg ra) 96 8 env = (.ok b, s')) (rd : BitVec 5) :
    execFkey slot rd ra rb imm env s = .next (
      let w := (p.reg rb).toNat
      let l := (keyWords b).drop w
      if keyClash s' imm.toNat w l then endAt s' slot p stMalformed
      else startFuse (parkOn s' slot p (.fuse rd.toNat)) ⟨slot.toNat, rd.toNat, 0, imm.toNat, w, w, l⟩) := by
  unfold execFkey
  rw [onPriv_issues h priv]
  dsimp only
  rw [if_neg (by omega), withOper_read ok]

/-- FCOP of a cluster that exists. -/
theorem execFcop_cluster {s : State} {slot : BitVec 6} {p : Prog} (h : issues s slot p) (priv : 2 ≤ p.priv) {ra : BitVec 5}
    (n : (p.reg ra).toNat ≤ 511) (rd : BitVec 5) :
    execFcop slot rd ra s = .next (
      let n := (p.reg ra).toNat
      if clState s n ≠ 3 then retireRd s slot p rd 1
      else if clBusy s n then s
      else if s.fuses.coppice.contains n then retireRd s slot p rd 0
      else if s.fuses.coppice.length + (s.fuses.prog.filter (fun f => f.kind != 0)).length ≥ 16 then endAt s slot p stCoppiceLimit
      else startFuse (parkOn s slot p (.fuse rd.toNat)) ⟨slot.toNat, rd.toNat, 1, n, 0, 0, [1]⟩) := by
  unfold execFcop
  rw [onPriv_issues h priv]
  dsimp only
  rw [if_neg (by omega)]

end Sys2Proof.Machine
end

section
/-! ### The write of RST.SERVICE (16 R565) and of ESP.STOP_NOW (19 R671) -/
namespace Sys2Proof.Machine

/-- State `t` has the programs, resets and settings of `x` and owes the host ring what `x` does. -/
def keepsRuns (x t : State) : Prop := t.progs = x.progs ∧ t.rst = x.rst ∧ t.sets = x.sets ∧ t.err.ringDue = x.err.ringDue

theorem keepsRuns_trans {x t u : State} (h : keepsRuns x t) (h' : keepsRuns t u) : keepsRuns x u := by
  obtain ⟨hp, hr, hs, hd⟩ := h
  obtain ⟨hp', hr', hs', hd'⟩ := h'
  exact ⟨hp'.trans hp, hr'.trans hr, hs'.trans hs, hd'.trans hd⟩

theorem keepsRuns_ringOff {x t : State} (h : keepsRuns x t) (ring : ringOff x) : ringOff t := by
  obtain ⟨_, _, hs, hd⟩ := h
  exact ringOff_of ring hs hd

theorem recordRaw_keepsRuns {s : State} (ring : ringOff s) (code sev cls idx : Nat) (pl : List Byte) :
    keepsRuns s (recordRaw s code sev cls idx pl) := by
  rw [recordRaw_frame ring]
  exact ⟨rfl, rfl, rfl, rfl⟩

theorem abortSlice_keepsRuns {s : State} (ring : ringOff s) (n : Nat) : keepsRuns s (abortSlice s n) := by
  unfold abortSlice
  split
  · exact ⟨rfl, rfl, rfl, rfl⟩
  · exact recordRaw_keepsRuns (s := updB s n _) ring ..

theorem abortSlices_keepsRuns {s : State} (ring : ringOff s) (level : Nat) (cs es : List Nat) :
    keepsRuns s (abortSlices s level cs es) :=
  List.foldlRecOn _ _ (motive := keepsRuns s) ⟨rfl, rfl, rfl, rfl⟩ fun _ h _ _ =>
    keepsRuns_trans h (abortSlice_keepsRuns (keepsRuns_ringOff h ring) _)

/-- Without a bound context Espalier publishes no held stop. -/
theorem forcedStop_unbound {s : State} (unbound : s.esp.bound = none) : forcedStop s = s := by
  simp [forcedStop, forcedRaw, unbound]

/-- The start of a chip reset with no freeze to end and no context bound. -/
theorem chipRaise_keepsRuns {s : State} (thaw : s.rcd.frozen = false) (unbound : s.esp.bound = none) : keepsRuns s (chipRaise s) := by
  have freeze : endFreeze s = s := by simp [endFreeze, thaw]
  unfold chipRaise
  simp only [freeze, forcedStop_unbound unbound, ite_self]
  exact ⟨rfl, rfl, rfl, rfl⟩

/-- The fence of a chip reset that takes no other over. -/
theorem raiseRun_chip {s : State} (ring : ringOff s) (thaw : s.rcd.frozen = false) (unbound : s.esp.bound = none)
    (idle : s.rst.runs = []) {r : ResetRun} {inner : Tbl ResetRun} (level : r.level = 4) (alone : inner = []) :
    let t := (raiseRun s r inner).2
    t.progs = s.progs ∧ t.err.ringDue = s.err.ringDue ∧
    ∃ r', t.rst = { s.rst with runs := [(s.rst.nextId, r')], nextId := s.rst.nextId + 1 } ∧ r'.level = 4 ∧
      r'.counts = r.counts := by
  have raised := chipRaise_keepsRuns thaw unbound
  obtain ⟨progs, rst, _, due⟩ := keepsRuns_trans raised
    (abortSlices_keepsRuns (keepsRuns_ringOff raised ring) r.level r.ctxs r.engines)
  subst alone
  unfold raiseRun
  simp only [level, ge_iff_le, le_refl, if_true] at progs rst due ⊢
  refine ⟨progs, due, ?_⟩
  rw [rst, idle]
  exact ⟨_, rfl, rfl, rfl⟩

/-- A chip reset that starts while no other reset is in progress. -/
theorem startReset_chip {s : State} (ring : ringOff s) (thaw : s.rcd.frozen = false) (unbound : s.esp.bound = none)
    (idle : s.rst.runs = []) (cause : Nat) :
    let t := (startReset s 4 0 cause [] [] 0xFFFF false false false [] []).2
    t.progs = s.progs ∧ t.err.ringDue = s.err.ringDue ∧
    ∃ r, t.rst = { s.rst with seq := s.rst.seq + 1, runs := [(s.rst.nextId, r)], nextId := s.rst.nextId + 1 } ∧ r.level = 4 ∧
      r.counts = false := by
  have alone : ∀ cs es, enclosing s 4 cs es = none := by simp [enclosing, idle]
  unfold startReset
  simp only [alone]
  refine raiseRun_chip ?_ ?_ ?_ ?_ rfl ?_
  · exact ring
  · exact thaw
  · exact unbound
  · exact idle
  · rw [idle]
    rfl

/-- OOS_CLEAR of another queue. -/
theorem execOosClear_other {s : State} {slot : BitVec 6} {p : Prog} (h : issues s slot p) (q : p.queue ≠ 1023) :
    execOosClear slot s = .next (ended s slot p 0x0001) := by
  unfold execOosClear
  rw [onProg_issues h, if_pos q]
  rfl

/-- OOS_CLEAR of queue 1023. -/
theorem execOosClear_service {s : State} {slot : BitVec 6} {p : Prog} (h : issues s slot p) (q : p.queue = 1023) (next : hasNext p) :
    execOosClear slot s = .next (clearOos (putP (jot s) slot.toNat (onward p))) := by
  unfold execOosClear
  rw [onProg_issues h, if_neg (by simp [q]), retire_next _ _ next]

/-- The row of the settings index of ESP.STOP_NOW. -/
theorem setRow_stopNow : setRow 11 0x30 = some ⟨11, 0x30, 0x30, .im, 0, true, 0x1, 0x0⟩ := by
  decide

/-- ESP.STOP_NOW of a context that is allocated, inside no fence and not bound. -/
theorem execEspStopNow_unbound {s : State} {slot : BitVec 6} {p : Prog} (h : issues s slot p) (next : hasNext p) (sel : p.sel < 256)
    (free : isFenced s p.sel = false) (use : (getC s p.sel).inUse = true) (other : s.esp.bound ≠ some p.sel) :
    execEspStopNow slot s = .next (putP (jot s) slot.toNat (onward p)) := by
  have bound : (putP (jot s) slot.toNat (onward p)).esp.bound = s.esp.bound := by rw [jot_frame]; rfl
  have write : wriTo s slot p ⟨11, 0x30, 0x30, .im, 0, true, 0x1, 0x0⟩ 0x30 1 =
      espRequested (putP (jot s) slot.toNat (onward p)) p.sel := by
    have inRange : ¬ 255 < p.sel := by omega
    rw [← retire_next _ _ next]
    simp [wriTo, setCtx, noSel, free, use, inRange, writeNow]
  unfold execEspStopNow
  rw [onProg_issues h, setRow_stopNow]
  dsimp only
  rw [write]
  unfold espRequested
  rw [bound, if_neg fun b => other b.1]

/-- The write of RST.SERVICE while the device is in service. -/
theorem clearOos_inService {s : State} (clear : s.rst.oos = false) : clearOos s = s := by
  simp [clearOos, clear]

/-- The write of RST.SERVICE out of service: the flag and the windows are cleared, and a chip reset that does not count starts. -/
theorem clearOos_outOfService {s : State} (flag : s.rst.oos = true) (idle : s.rst.runs = []) (ring : ringOff s) (room : ringOpen s)
    (unbound : s.esp.bound = none) :
    (clearOos s).progs = s.progs ∧ (clearOos s).rst.oos = false ∧ (clearOos s).rst.history = [] ∧
    ∃ r, (clearOos s).rst.runs = [(s.rst.nextId, r)] ∧ r.level = 4 ∧ r.counts = false := by
  let x : State := { s with rst := { s.rst with oos := false, history := [] } }
  let y : State := record x 0x6031 0 0x10 0xFFFF (hangPay x 4 0 0 0 0 0 0 0 0 0 0 0xFFFF 0xFF)
  have xring : ringOff x := ring
  have yring : ringOff y := record_ringOff xring ..
  have thaw : y.rcd.frozen = false := by
    rw [show y.rcd = _ from record_rcd xring room ..]
    exact room.1
  have frame : recordsOnly x y := record_recordsOnly xring ..
  have yrst : y.rst = x.rst := recordsOnly_keeps frame State.rst fun _ _ _ => rfl
  have yprogs : y.progs = x.progs := recordsOnly_keeps frame State.progs fun _ _ _ => rfl
  have yunbound : y.esp.bound = none := (recordsOnly_keeps frame (fun s => s.esp.bound) fun _ _ _ => rfl).trans unbound
  obtain ⟨progs, due, r, rst, level, counts⟩ := startReset_chip yring thaw yunbound (by rw [yrst]; exact idle) 0x6031
  have eq : clearOos s = (startReset y 4 0 0x6031 [] [] 0xFFFF false false false [] []).2 := by
    have : clearOos s = settleRing (startReset y 4 0 0x6031 [] [] 0xFFFF false false false [] []).2 := by
      unfold clearOos
      rw [if_neg (by simp [flag])]
    rw [this, settleRing_paid (due.trans yring.2)]
  rw [eq, rst, progs, yprogs, yrst]
  exact ⟨rfl, rfl, rfl, r, rfl, level, counts⟩

end Sys2Proof.Machine
end

section
/-! ### O22: fuse programs, undefined words and the service write -/
namespace Sys2Proof.Machine

/-- A decoded word is no undefined instruction; an undefined one ends the program (07 R245). -/
theorem execUndefinedInstruction_undefined {s : State} {slot : BitVec 6} {p : Prog} (h : issues s slot p) {w : Word64}
    (undef : decodeHexah slot Env.quiet true w = none) : execUndefinedInstruction slot w s = .next (ended s slot p 0x0002) := by
  unfold execUndefinedInstruction
  rw [undef, if_neg (by simp), onProg_issues h]
  rfl

/-- Settles O22: FKEY and FCOP by the branches of their arms and by what starting a fuse program does, the other instructions by
the branch that their hypotheses choose. -/
theorem fusesUndefinedWordsAndService : Obligations.FusesUndefinedWordsAndService := by
  unfold Obligations.FusesUndefinedWordsAndService
  refine ⟨fun s s' slot rd ra rb imm env b p h next priv => ?_, fun s slot w p h => ?_⟩
  · refine ⟨fun bad => execFkey_malformed h priv bad rd ra env, fun k1 k3 hw ok => ⟨fun clash => ?_, fun clash start => ?_⟩,
      fun hn => ⟨fun state => ?_, fun state busy fused => ?_, fun state busy fused full => ?_,
        fun state busy fused room idle window => ?_⟩⟩
    · refine (execFkey_read h priv k1 k3 hw ok rd).trans ?_
      simp only [clash, if_true]
      rfl
    · have started := startFuse_parked (s := s') (slot := slot) (p := p) (w := .fuse rd.toNat)
        (f := ⟨slot.toNat, rd.toNat, 0, imm.toNat, (p.reg rb).toNat, (p.reg rb).toNat, (keyWords b).drop (p.reg rb).toNat⟩)
        rfl (keyWords_drop hw) (start.imp_right fun ⟨window, new⟩ => ⟨window, fun _ => new⟩)
      have run := execFkey_read h priv k1 k3 hw ok rd
      simp only [clash, Bool.false_eq_true, if_false, started] at run
      exact ⟨_, run, getP_putP_same s' slot.toNat _, rfl, rfl⟩
    all_goals refine (execFcop_cluster h priv hn rd).trans ?_
    · simp only [ne_eq, state, not_false_eq_true, if_true]
      rw [retireRd_next _ _ next]
      rfl
    · simp only [ne_eq, state, not_true_eq_false, if_false, busy, Bool.false_eq_true, fused, if_true]
      rw [retireRd_next _ _ next]
      rfl
    · simp only [ne_eq, state, not_true_eq_false, if_false, busy, Bool.false_eq_true, fused, full, if_true]
      rfl
    · have started := startFuse_parked (s := s) (slot := slot) (p := p) (w := .fuse rd.toNat)
        (f := ⟨slot.toNat, rd.toNat, 1, (p.reg ra).toNat, 0, 0, [1]⟩) rfl (List.cons_ne_nil _ _) (.inr ⟨window, by simp⟩)
      simp only [ne_eq, state, not_true_eq_false, if_false, busy, Bool.false_eq_true, fused, idle, List.filter_nil, List.length_nil,
        Nat.add_zero, ge_iff_le, Nat.not_le.2 room]
      rw [started, idle]
      rfl
  · have rst : (putP (jot s) slot.toNat (onward p)).rst = s.rst := by rw [jot_frame]; rfl
    refine ⟨fun undef => execUndefinedInstruction_undefined h undef, fun q => execOosClear_other h q, fun q next clear => ?_,
      fun q next flag idle ring room unbound => ?_, fun next sel free use other => execEspStopNow_unbound h next sel free use other⟩
    · refine (execOosClear_service h q next).trans ?_
      rw [clearOos_inService (by rw [rst, clear])]
    · have x := jot_frame s
      obtain ⟨progs, oos, history, r, runs, level, counts⟩ := clearOos_outOfService (s := putP (jot s) slot.toNat (onward p))
        (by rw [rst, flag]) (by rw [rst, idle]) (by rw [x]; exact ring) (by rw [x]; exact room) (by rw [x]; exact unbound)
      refine ⟨_, r, execOosClear_service h q next, ?_, oos, history, ?_, level, counts⟩
      · rw [← getP_putP_same (jot s) slot.toNat (onward p)]
        unfold getP
        rw [progs]
      · rw [runs, rst]

end Sys2Proof.Machine
end

section
/-! ### Operands in memory, and the end of a program (07 R252, R253, Table 7.6, 06 R208) -/
namespace Sys2Proof.Machine

/-- An operand that cannot be read ends the program with the status of the read. -/
theorem withOper_bad {s s' : State} {slot : BitVec 6} {p : Prog} {addr : Word64} {n align : Nat} {env : Env} {st : Nat}
    (bad : progRead s p addr n align env = (.bad st, s')) (f : List Byte → State → State) :
    withOper s slot p addr n align env f = ended s' slot p st := by
  unfold withOper
  rw [bad]
  rfl

/-- A load whose operand can be read writes its bytes to rd and retires. -/
theorem hexLoad_read {s s' : State} {slot : BitVec 6} {p : Prog} (h : issues s slot p) (next : hasNext p) {n : Nat} {ra : BitVec 5}
    {imm : Word32} {env : Env} {b : List Byte} (ok : progRead s p (p.reg ra + imm.signExtend 64) n n env = (.ok b, s')) (rd : BitVec 5) :
    hexLoad n slot rd ra imm env s = .next (retired s' slot p rd (BitVec.ofNat 64 (leNat b))) := by
  unfold hexLoad
  rw [onProg_issues h]
  exact congrArg _ ((withOper_read ok _).trans (retireRd_next s' slot next rd _))

/-- A load whose operand cannot be read ends its program. -/
theorem hexLoad_bad {s s' : State} {slot : BitVec 6} {p : Prog} (h : issues s slot p) {n : Nat} {ra : BitVec 5} {imm : Word32} {env : Env}
    {st : Nat} (bad : progRead s p (p.reg ra + imm.signExtend 64) n n env = (.bad st, s')) (rd : BitVec 5) :
    hexLoad n slot rd ra imm env s = .next (ended s' slot p st) := by
  unfold hexLoad
  rw [onProg_issues h]
  exact congrArg _ (withOper_bad bad _)

/-- A store whose bytes memory takes retires. -/
theorem hexStore_written {s t : State} {slot : BitVec 6} {p : Prog} (h : issues s slot p) (next : hasNext p) {n : Nat} {ra rb : BitVec 5}
    {imm : Word32} (ok : progWrite s p (p.reg ra + imm.signExtend 64) (leBytes n (p.reg rb).toNat) n = .ok t) :
    hexStore n slot ra rb imm s = .next (putP t slot.toNat (onward p)) := by
  have ok' : progWrite s p (p.reg ra + sext32 imm) (leBytes n (p.reg rb).toNat) n = .ok t := ok
  unfold hexStore
  rw [onProg_issues h, ok']
  exact congrArg _ (retire_next t slot next)

/-- A store that memory does not take ends its program. -/
theorem hexStore_fault {s : State} {slot : BitVec 6} {p : Prog} (h : issues s slot p) {n : Nat} {ra rb : BitVec 5} {imm : Word32} {st : Nat}
    (bad : progWrite s p (p.reg ra + imm.signExtend 64) (leBytes n (p.reg rb).toNat) n = .error st) :
    hexStore n slot ra rb imm s = .next (ended s slot p st) := by
  have bad' : progWrite s p (p.reg ra + sext32 imm) (leBytes n (p.reg rb).toNat) n = .error st := bad
  unfold hexStore
  rw [onProg_issues h, bad']
  rfl

@[simp] theorem length_leBytes (n v : Nat) : (leBytes n v).length = n := by
  induction n generalizing v with
  | zero => rfl
  | succ n ih => simp [leBytes, ih]

/-- A write to an address that is not aligned is a memory fault. -/
theorem progWrite_misaligned {s : State} {p : Prog} {addr : Word64} {b : List Byte} {n : Nat} (odd : addr.toNat % n ≠ 0) :
    progWrite s p addr b n = .error stMemoryFault := if_pos odd

/-- A write to an address without places is a memory fault. -/
theorem progWrite_unplaced {s : State} {p : Prog} {addr : Word64} {b : List Byte} {n : Nat} (even : addr.toNat % n = 0)
    (gone : queuePlaces s (getQ s p.queue) Env.quiet (b.length / 4096 + 2) addr.toNat b.length = none) :
    progWrite s p addr b n = .error stMemoryFault := by
  unfold progWrite
  rw [if_neg (not_not.2 even), gone]

/-- A write to an address with places writes them piece by piece. -/
theorem progWrite_placed {s : State} {p : Prog} {addr : Word64} {b : List Byte} {n : Nat} (even : addr.toNat % n = 0) {l : List (Place × Nat)}
    (places : queuePlaces s (getQ s p.queue) Env.quiet (b.length / 4096 + 2) addr.toNat b.length = some l) :
    progWrite s p addr b n = .ok (writePieces s 2 l b) := by
  unfold progWrite
  rw [if_neg (not_not.2 even), places]

/-- A queue with its rings inside the device addresses memory itself: bytes inside one page of a stack that is up stand in one place. -/
theorem queuePlaces_device {s : State} {d : Queue} {env : Env} {a n : Nat} (dev : d.devMem = true) (priv : d.priv ≠ 0) (some' : 0 < n)
    (page : a % 4096 + n ≤ 4096) (inside : a + n ≤ hbmSize) (up : hbmUp s a = true) (fuel : Nat) :
    queuePlaces s d env (fuel + 2) a n = some [(.hbm a, n)] := by
  have lt : a < hbmSize := by omega
  have size : hbmSize < 2 ^ 64 := by decide
  have whole : Nat.min n (4096 - a % 4096) = n := Nat.min_eq_left (by omega)
  have place : queuePlace s d a .write env = (.ok (.hbm a), s) := by
    unfold queuePlace
    rw [if_neg priv, if_pos dev, if_pos lt, if_pos up]
  have rest : queuePlaces s d env (fuel + 1) (a + n) (n - n) = some [] := by
    rw [Nat.sub_self]
    exact if_pos rfl
  unfold queuePlaces
  rw [if_neg (by omega), if_neg (by omega)]
  dsimp only
  rw [whole, place]
  dsimp only
  rw [rest]
  rfl

/-- While no step is open no place is held for one (09 R328). -/
theorem stepHolder_closed {s : State} (closed : ∀ c, (getC s c).step.isOpen = false) (me : Nat) (p : Place) : stepHolder s me p = none := by
  unfold stepHolder
  rw [List.find?_eq_none]
  intro c _
  simp [inStepRange, closed c]

/-- While no step is open a write takes its place at once. -/
theorem placeWrite_closed {s : State} (closed : ∀ c, (getC s c).step.isOpen = false) (p : Place) (b : List Byte) (poisoned : Bool)
    (cls : Nat) : placeWrite s p b poisoned cls = placeWriteNow s p b poisoned cls := by
  unfold placeWrite
  rw [stepHolder_closed closed]

/-- Writing bytes changes memory alone. -/
theorem memPuts_frame (s : State) (a : Nat) (l : List Byte) : memPuts s a l = { s with mem := (memPuts s a l).mem } := by
  induction l generalizing s a with
  | nil => rfl
  | cons b l ih => exact ih (memPut s a b) (a + 1)

/-- Marking and clearing poison granule by granule leaves the bytes, and everything outside memory, as they were. -/
theorem foldl_poison_frame {f : State → Nat → State} (hf : ∀ s g, f s g = { s with mem := { s.mem with poison := (f s g).mem.poison } })
    (l : List Nat) (s : State) : l.foldl f s = { s with mem := { s.mem with poison := (l.foldl f s).mem.poison } } := by
  induction l generalizing s with
  | nil => rfl
  | cons g l ih =>
    rw [List.foldl_cons, ih, hf]

/-- A store to device memory writes its bytes; beyond them it changes poison alone. -/
theorem storeCells_frame (s : State) (a : Nat) (b : List Byte) (poisoned : Bool) :
    storeCells s a b poisoned =
      { s with mem := { (memPuts s a b).mem with poison := (storeCells s a b poisoned).mem.poison } } := by
  have marks := foldl_poison_frame (f := fun s g =>
      if poisoned then setPoison s (g * 32)
      else if a ≤ g * 32 ∧ g * 32 + 32 ≤ a + b.length then clearPoison s (g * 32) else s)
    (fun s g => by dsimp only; split; · rfl
                   · split <;> rfl) (granules a b.length) (memPuts s a b)
  have marked : storeCells s a b poisoned =
      { memPuts s a b with mem := { (memPuts s a b).mem with poison := (storeCells s a b poisoned).mem.poison } } := marks
  rw [marked]
  generalize (storeCells s a b poisoned).mem.poison = l
  rw [memPuts_frame]

/-- Two states with the same cells read the same bytes. -/
theorem memGets_congr {s t : State} (h : t.mem.cells = s.mem.cells) (a n : Nat) : memGets t a n = memGets s a n := by
  induction n generalizing a with
  | zero => rfl
  | succ n ih =>
    unfold memGets memGet
    rw [ih, h]

@[simp] theorem memGets_putP (s : State) (n : Nat) (p : Prog) (a k : Nat) : memGets (putP s n p) a k = memGets s a k :=
  memGets_congr (s := s) (t := putP s n p) rfl a k

/-- A store of a few aligned bytes into memory that a queue addresses itself. -/
theorem hexStore_device {s : State} {slot : BitVec 6} {p : Prog} (h : issues s slot p) (next : hasNext p) {n : Nat} (size : n ∣ 4096)
    {ra : BitVec 5} (rb : BitVec 5) {imm : Word32} (even : (p.reg ra + imm.signExtend 64).toNat % n = 0)
    (dev : (getQ s p.queue).devMem = true) (priv : (getQ s p.queue).priv ≠ 0)
    (inside : (p.reg ra + imm.signExtend 64).toNat + n ≤ hbmSize) (up : hbmUp s (p.reg ra + imm.signExtend 64).toNat = true)
    (closed : ∀ c, (getC s c).step.isOpen = false) :
    hexStore n slot ra rb imm s =
      .next (putP (storeCells s (p.reg ra + imm.signExtend 64).toNat (leBytes n (p.reg rb).toNat) false) slot.toNat (onward p)) := by
  refine hexStore_written h next ?_
  generalize p.reg ra + imm.signExtend 64 = addr at *
  obtain ⟨k, whole⟩ := size
  have pos : 0 < n := Nat.pos_of_ne_zero fun z => by subst z; omega
  have page : addr.toNat % 4096 + n ≤ 4096 := by
    have le : n * (addr.toNat % 4096 / n + 1) ≤ n * k := by
      refine Nat.mul_le_mul_left n (Nat.div_lt_of_lt_mul ?_)
      rw [← whole]
      exact Nat.mod_lt _ (by decide)
    have aligned : addr.toNat % 4096 % n = 0 := by rw [whole, Nat.mod_mul_right_mod]; exact even
    have split := Nat.div_add_mod (addr.toNat % 4096) n
    rw [Nat.mul_add, ← whole] at le
    omega
  have places := queuePlaces_device (env := Env.quiet) dev priv pos page inside up (n / 4096)
  rw [progWrite_placed even (by rw [length_leBytes]; exact places)]
  unfold writePieces
  rw [List.take_of_length_le (by rw [length_leBytes]), placeWrite_closed closed]
  rfl

/-- What a store of `n` bytes to device memory leaves behind. -/
theorem storeCells_reads (s : State) (a n v : Nat) :
    memGets (storeCells s a (leBytes n v) false) a n = leBytes n v ∧
      ∀ x, x < a ∨ a + n ≤ x → memGet (storeCells s a (leBytes n v) false) x = memGet s x := by
  have cells : (storeCells s a (leBytes n v) false).mem.cells = (memPuts s a (leBytes n v)).mem.cells := by rw [storeCells_frame]
  constructor
  · rw [memGets_congr cells]
    have back := memGets_memPuts s a (leBytes n v)
    rwa [length_leBytes] at back
  · intro x out
    rw [show memGet (storeCells s a (leBytes n v) false) x = memGet (memPuts s a (leBytes n v)) x from by unfold memGet; rw [cells]]
    exact memGet_memPuts_out s a _ x (by rwa [length_leBytes])

/-- A store instruction, of eight bytes or of four. -/
theorem exec_store {n : Nat} {i : Instr} {slot : BitVec 6} {ra rb : BitVec 5} {imm : Word32}
    (h : n = 8 ∧ i = .st slot ra rb imm ∨ n = 4 ∧ i = .sw slot ra rb imm) (s : State) :
    n ∣ 4096 ∧ exec i s = hexStore n slot ra rb imm s := by
  rcases h with ⟨rfl, rfl⟩ | ⟨rfl, rfl⟩
  · exact ⟨⟨512, rfl⟩, rfl⟩
  · exact ⟨⟨1024, rfl⟩, rfl⟩

/-- What END leaves behind (06 R208, Table 6.5). -/
theorem execEndProg_ended {s : State} {slot : BitVec 6} {p : Prog} (h : issues s slot p) :
    ∃ t, execEndProg slot s = .next t ∧ getP t slot.toNat = none ∧ (∀ n, n ≠ slot.toNat → getP t n = getP s n) ∧
      getQ t p.queue = { getQ s p.queue with running := none, pendRec := some (endRec s { p with retired := p.retired + 1 } 0 0xFFFF none) } ∧
      (∀ q, q ≠ p.queue → getQ t q = getQ s q) ∧
      t = { s with progs := t.progs, queues := t.queues, trd := t.trd, rst := t.rst, fuses := t.fuses } := by
  refine ⟨endWith s slot.toNat { p with retired := p.retired + 1 } stOk 0xFFFF none, ?_, endWith_slot .., fun n ne => endWith_others _ _ _ _ _ _ ne,
    ?_, fun q ne => ?_, ?_⟩
  · unfold execEndProg
    rw [onProg_issues h]
  · unfold getQ
    rw [endWith_queues]
    exact Tbl.get_put_same ..
  · unfold getQ
    rw [endWith_queues]
    exact Tbl.get_put_ne _ _ ne _
  · have frame := endWith_frame s slot.toNat { p with retired := p.retired + 1 } stOk 0xFFFF none
    generalize endWith s slot.toNat { p with retired := p.retired + 1 } stOk 0xFFFF none = t at *
    rw [frame]

/-- Settles O11: loads by what their read answers, stores through `hexStore_device`, END by `execEndProg_ended`. -/
theorem hexahMemoryInstructions : Obligations.HexahMemoryInstructions := by
  unfold Obligations.HexahMemoryInstructions
  refine ⟨fun s s' slot rd ra imm env p b st h next => ?_, fun s slot ra rb imm p n i h next which => ?_, fun s slot p h => ?_⟩
  · exact ⟨fun ok => hexLoad_read h next ok rd, fun ok => hexLoad_read h next ok rd, fun bad => hexLoad_bad h bad rd,
      fun bad => hexLoad_bad h bad rd⟩
  · obtain ⟨size, run⟩ := exec_store which s
    rw [run]
    refine ⟨fun odd => hexStore_fault h (progWrite_misaligned odd),
      fun even gone => hexStore_fault h (progWrite_unplaced even (by rw [length_leBytes]; exact gone)),
      fun even dev priv inside up closed => ?_⟩
    obtain ⟨written, others⟩ := storeCells_reads s (p.reg ra + imm.signExtend 64).toNat n (p.reg rb).toNat
    refine ⟨_, hexStore_device h next size rb even dev priv inside up closed, (memGets_putP ..).trans written, others, ?_⟩
    rw [storeCells_frame]
    rfl
  · obtain ⟨t, run, slotFree, slots, queue, queues, frame⟩ := execEndProg_ended h
    refine ⟨t, run, slotFree, slots, ?_, ⟨endRec s { p with retired := p.retired + 1 } 0 0xFFFF none, ?_, rfl, rfl, rfl, rfl, rfl, rfl, rfl⟩,
      queues, frame⟩
    · rw [queue]
    · rw [queue]

end Sys2Proof.Machine
end

section
/-! ### Tables and queues: writing one twice, the journal, and settling a queue (06 R206, R233, R237, R238) -/

namespace Sys2Proof

/-- Of two writes of one number the later one counts. -/
theorem Tbl.put_put {α : Type} (t : Tbl α) (k : Nat) (v w : α) : Tbl.put (Tbl.put t k v) k w = Tbl.put t k w := by
  induction t with
  | nil => simp [Tbl.put]
  | cons e t ih =>
    obtain ⟨j, u⟩ := e
    by_cases lt : k < j
    · simp [Tbl.put, lt]
    · by_cases eq : k = j
      · simp [Tbl.put, eq]
      · simp [Tbl.put, lt, eq, ih]

namespace Machine

theorem putQ_putQ (s : State) (q : Nat) (v w : Queue) : putQ (putQ s q v) q w = putQ s q w := by
  unfold putQ
  dsimp only
  rw [Tbl.put_put]

@[simp] theorem getQ_jot (s : State) (q : Nat) : getQ (jot s) q = getQ s q := by rw [jot_frame]; rfl
@[simp] theorem getP_jot (s : State) (n : Nat) : getP (jot s) n = getP s n := by rw [jot_frame]; rfl
@[simp] theorem getC_jot (s : State) (c : Nat) : getC (jot s) c = getC s c := by rw [jot_frame]; rfl
@[simp] theorem getQ_putP (s : State) (n q : Nat) (p : Prog) : getQ (putP s n p) q = getQ s q := rfl

/-- The journal takes nothing while no standby is HOT. -/
theorem jot_cold {s : State} (cold : s.trd.standby ≠ 2) : jot s = s := if_neg cold

/-- State `t` differs from `s` in queues and in the Treadles alone. -/
def queuesOnly (s t : State) : Prop := t = { s with queues := t.queues, trd := t.trd }

/-- A reading of the state that does not look at queues or Treadles finds the same. -/
theorem queuesOnly_keeps {β : Type} {s t : State} (h : queuesOnly s t) (f : State → β)
    (hf : ∀ q d, f { s with queues := q, trd := d } = f s) : f t = f s := by
  rw [h]
  exact hf _ _

theorem queuesOnly_trans {s t u : State} (h : queuesOnly s t) (h' : queuesOnly t u) : queuesOnly s u := by
  unfold queuesOnly at *
  rw [h', h]

/-- A write to a queue and the journal's note of it change queues and the Treadles alone. -/
theorem queuesOnly_putQ (s : State) (q : Nat) (d : Queue) : queuesOnly s (jot (putQ s q d)) := by
  unfold queuesOnly
  rw [jot_frame]
  rfl

/-- The host ring stays off where queues change alone. -/
theorem queuesOnly_ringOff {s t : State} (h : queuesOnly s t) (ring : ringOff s) : ringOff t :=
  ringOff_of ring (queuesOnly_keeps h State.sets fun _ _ => rfl) (queuesOnly_keeps h (fun x => x.err.ringDue) fun _ _ => rfl)

/-- The volatile ring stays open where queues change alone. -/
theorem queuesOnly_ringOpen {s t : State} (h : queuesOnly s t) (o : ringOpen s) : ringOpen t := by
  unfold ringOpen at *
  rw [queuesOnly_keeps h State.rcd fun _ _ => rfl]
  exact o

/-- A calm state stays calm while its settings, its pipeline and its recorder stay. -/
theorem calm_of {s t : State} (c : calm s) (sets : t.sets = s.sets) (err : t.err = s.err) (rcd : t.rcd = s.rcd) : calm t := by
  obtain ⟨ring, empty, room⟩ := c
  unfold calm pipelineEmpty ringOpen at *
  rw [err, rcd]
  exact ⟨ringOff_of ring sets (by rw [err]), empty, room⟩

/-- A calm state stays calm where queues change alone. -/
theorem queuesOnly_calm {s t : State} (h : queuesOnly s t) (c : calm s) : calm t :=
  calm_of c (queuesOnly_keeps h State.sets fun _ _ => rfl) (queuesOnly_keeps h State.err fun _ _ => rfl)
    (queuesOnly_keeps h State.rcd fun _ _ => rfl)

/-- An enabled queue is stopped. -/
theorem stopQueue_enabled {s : State} {q : Nat} (on : (getQ s q).enabled = true) :
    stopQueue s q = jot (putQ s q { getQ s q with stopped := true }) := if_pos on

/-- State `t` differs from `s` in queues, the Treadles and records alone. -/
def queuesAndRecords (s t : State) : Prop := t = { s with queues := t.queues, trd := t.trd, rcd := t.rcd, err := t.err, chn := t.chn }

/-- A reading of the state that looks at no queue, Treadle or record finds the same. -/
theorem queuesAndRecords_keeps {β : Type} {s t : State} (h : queuesAndRecords s t) (f : State → β)
    (hf : ∀ q d r e c, f { s with queues := q, trd := d, rcd := r, err := e, chn := c } = f s) : f t = f s := by
  rw [h]
  exact hf _ _ _ _ _

/-- Queues first, then records. -/
theorem queuesAndRecords_of {s x t : State} (only : queuesOnly s x) (records : recordsOnly x t) : queuesAndRecords s t := by
  unfold queuesAndRecords
  rw [records, only]

/-- An enabled queue stopped with a direct record. -/
theorem record_stopQueue {s x : State} (only : queuesOnly s x) {q : Nat} (on : (getQ x q).enabled = true) (ring : ringOff s) (o : ringOpen s)
    (code sev cls : Nat) (pl : List Byte) :
    let t := record (stopQueue x q) code sev cls q pl
    getQ t q = { getQ x q with stopped := true } ∧ (∀ k, k ≠ q → getQ t k = getQ x k) ∧ lastRecord t code sev cls q ∧
      queuesAndRecords s t := by
  intro t
  have stop := queuesOnly_putQ x q { getQ x q with stopped := true }
  rw [← stopQueue_enabled on] at stop
  have only' := queuesOnly_trans only stop
  have ring' := queuesOnly_ringOff only' ring
  have records : recordsOnly (stopQueue x q) t := record_recordsOnly ring' code sev cls q pl
  have reads : ∀ k, getQ t k = getQ (putQ x q { getQ x q with stopped := true }) k := fun k => by
    rw [recordsOnly_keeps records (fun y => getQ y k) fun _ _ _ => rfl, stopQueue_enabled on, getQ_jot]
  refine ⟨by rw [reads, getQ_putQ_same], fun k ne => by rw [reads, getQ_putQ_ne x ne],
    record_last ring' (queuesOnly_ringOpen only' o) code sev cls q pl, queuesAndRecords_of only' records⟩

/-- The entry at the head of queue `q` has ended with a status without running: its record waits, and the entries `l` are left. -/
def headEnded (s : State) (q : Nat) (e : CmdEntry) (l : List CmdEntry) (st : Nat) : State :=
  jot (putQ s q { getQ s q with entries := l, pendRec := some (CplRec.unrun s e st) })

/-- A queue that does not exist, that runs a program, whose record waits or that holds no entry has nothing to settle. -/
theorem settleQueue_still {s : State} {q : Nat}
    (h : (getQ s q).valid = false ∨ (getQ s q).running ≠ none ∨ (getQ s q).pendRec ≠ none ∨ (getQ s q).entries = []) :
    settleQueue s q = s := by
  unfold settleQueue
  dsimp only
  split
  · rfl
  · rename_i busy
    simp only [Bool.or_eq_true, Bool.not_eq_true', not_or, Option.isSome_iff_ne_none, ne_eq, not_not] at busy
    obtain ⟨⟨valid, idle⟩, noRec⟩ := busy
    have empty : (getQ s q).entries = [] := by simpa [valid, idle, noRec] using h
    rw [empty]

/-- Settling a queue that runs nothing: its first entry is flushed, or ends with the status of its fetch, or stays. -/
theorem settleQueue_head {s : State} {q : Nat} {e : CmdEntry} {l : List CmdEntry} (valid : (getQ s q).valid = true)
    (idle : (getQ s q).running = none) (noRec : (getQ s q).pendRec = none) (head : (getQ s q).entries = e :: l) :
    settleQueue s q =
      if ctxGone s (getQ s q) = true ∨ e.bad = stFlushed then headEnded s q e l stFlushed
      else if e.bad ≠ 0 ∧ (getQ s q).enabled = true ∧ (getQ s q).stopped = false then
        if e.stops = true then
          record (stopQueue (headEnded s q e l e.bad) q) 0xD021 2 0x11 q
            (trdPay (headEnded s q e l e.bad) q 0xFFFF e.bad 0xFF 0xFFFF 0xFFFF 0xFF [])
        else headEnded s q e l e.bad
      else s := by
  unfold settleQueue
  dsimp only
  rw [valid, idle, noRec, head]
  simp only [Bool.not_true, Option.isSome_none, Bool.or_false, Bool.false_eq_true, if_false, Bool.not_eq_true']
  rfl

/-- What settling a queue can do. -/
theorem settleQueue_cases (s : State) (q : Nat) :
    settleQueue s q = s ∨ ∃ e l, (getQ s q).entries = e :: l ∧
      (settleQueue s q = headEnded s q e l stFlushed ∨
        (e.bad ≠ 0 ∧ e.bad ≠ stFlushed ∧ (getQ s q).enabled = true ∧ (getQ s q).stopped = false ∧
          (settleQueue s q = headEnded s q e l e.bad ∨
            ∃ pl, settleQueue s q = record (stopQueue (headEnded s q e l e.bad) q) 0xD021 2 0x11 q pl))) := by
  by_cases still : (getQ s q).valid = false ∨ (getQ s q).running ≠ none ∨ (getQ s q).pendRec ≠ none ∨ (getQ s q).entries = []
  · exact .inl (settleQueue_still still)
  · simp only [not_or, Bool.not_eq_false, ne_eq, not_not] at still
    obtain ⟨valid, idle, noRec, some'⟩ := still
    obtain ⟨e, l, head⟩ := List.exists_cons_of_ne_nil some'
    rw [settleQueue_head valid idle noRec head]
    split
    · exact .inr ⟨e, l, head, .inl rfl⟩
    · rename_i keeps
      obtain ⟨_, other⟩ := not_or.1 keeps
      split
      · rename_i bad
        obtain ⟨bad, on, go⟩ := bad
        refine .inr ⟨e, l, head, .inr ⟨bad, other, on, go, ?_⟩⟩
        split
        · exact .inr ⟨_, rfl⟩
        · exact .inl rfl
      · exact .inl rfl

/-- An event of a queue accepted in a calm state. -/
theorem queueEvent_accepted {s : State} (c : calm s) (code sev q : Nat) : accepted s (queueEvent s code sev q) code sev :=
  accept_accepted c code sev 0x11 q 0xFFFF 0xFFFF _

end Machine
end Sys2Proof
end

section
/-! ### Doorbells (06 R203 to R205, 22 R749, R764) -/
namespace Sys2Proof.Machine

section
variable {s : State} {fn q off width value : Nat} {ok : Queue → Bool} {put : Queue → Queue}

/-- The count of foreign doorbell writes goes up by one. -/
def foreignCounted (s : State) : State := { s with pci := { s.pci with cntFor := satAdd 65535 s.pci.cntFor 1 } }

/-- The count of doorbell writes of a wrong width goes up by one. -/
def widthCounted (s : State) : State := { s with pci := { s.pci with cntWidth := satAdd 65535 s.pci.cntWidth 1 } }

/-- A function that may not reach its BARs rings no doorbell. -/
theorem doorbell_shut (shut : barOk s fn = false) : doorbell s fn q off width ok put value = s := by
  unfold doorbell
  rw [if_pos (by rw [shut]; rfl)]

/-- A doorbell write of another width is counted and recorded. -/
theorem doorbell_width (open' : barOk s fn = true) (other : width ≠ 32) :
    ∃ pl, doorbell s fn q off width ok put value = record (widthCounted s) 0xC015 1 0x0A fn pl := by
  unfold doorbell
  rw [if_neg (by rw [open']; decide), if_pos other]
  exact ⟨_, rfl⟩

/-- During a reset of its function a doorbell write counts as foreign. -/
theorem doorbell_inReset (open' : barOk s fn = true) (whole : width = 32) (reset : (getF s fn).inReset = true) :
    doorbell s fn q off width ok put value = foreignCounted s := by
  unfold doorbell
  rw [if_neg (by rw [open']; decide), if_neg (not_not.2 whole)]
  exact if_pos reset

/-- A write to a doorbell of another function, or of no queue, is foreign: it is counted and recorded. -/
theorem doorbell_foreign (open' : barOk s fn = true) (whole : width = 32) (run : (getF s fn).inReset = false)
    (foreign : ¬ (q ≠ 1023 ∧ (getQ s q).valid = true ∧ (getQ s q).fn = fn)) :
    ∃ pl, doorbell s fn q off width ok put value = accept (foreignCounted s) 0xC016 2 0x0A fn 0xFFFF 0xFFFF pl := by
  unfold doorbell
  rw [if_neg (by rw [open']; decide), if_neg (not_not.2 whole)]
  dsimp only
  rw [if_neg (by rw [run]; decide), if_pos (by simpa [Classical.or_iff_not_imp_left] using foreign)]
  exact ⟨_, rfl⟩

/-- A doorbell write of the queue's own function is captured, or stops the queue where its value is invalid. -/
theorem doorbell_own (open' : barOk s fn = true) (whole : width = 32) (run : (getF s fn).inReset = false)
    (own : q ≠ 1023 ∧ (getQ s q).valid = true ∧ (getQ s q).fn = fn) :
    doorbell s fn q off width ok put value =
      if ok (getQ s q) = true then putQ s q (put (getQ s q)) else queueEvent (stopQueue s q) 0xD020 2 q := by
  obtain ⟨ne, valid, same⟩ := own
  unfold doorbell
  rw [if_neg (by rw [open']; decide), if_neg (not_not.2 whole)]
  dsimp only
  rw [if_neg (by rw [run]; decide), if_neg (by simp [ne, valid, same])]

end

/-- State `t` is `s` with queue `q` stopped for an invalid doorbell value, and the entry of that. -/
def stoppedByDoorbell (s t : State) (q : Nat) : Prop :=
  getQ t q = { getQ s q with stopped := true } ∧ (∀ k, k ≠ q → getQ t k = getQ s k) ∧ inPipeline t 0xD020 2 ∧
    t = { s with queues := t.queues, trd := t.trd, rcd := t.rcd, err := t.err }

/-- An invalid value stops a queue that is enabled. -/
theorem stoppedByDoorbell_event {s : State} (c : calm s) {q : Nat} (on : (getQ s q).enabled = true) :
    stoppedByDoorbell s (queueEvent (stopQueue s q) 0xD020 2 q) q := by
  rw [stopQueue_enabled on]
  have only := queuesOnly_putQ s q { getQ s q with stopped := true }
  have acc := queueEvent_accepted (queuesOnly_calm only c) 0xD020 2 q
  have reads : ∀ k, getQ (queueEvent (jot (putQ s q { getQ s q with stopped := true })) 0xD020 2 q) k =
      getQ (putQ s q { getQ s q with stopped := true }) k := fun k => by
    rw [accepted_keeps acc (fun x => getQ x k) fun _ _ => rfl, getQ_jot]
  refine ⟨by rw [reads, getQ_putQ_same], fun k ne => by rw [reads, getQ_putQ_ne s ne], acc.1, ?_⟩
  have whole := acc.2
  generalize queueEvent (jot (putQ s q { getQ s q with stopped := true })) 0xD020 2 q = t at *
  rw [whole, only]

/-- Either doorbell command is a doorbell write. -/
theorem exec_doorbell (s : State) {fn : BitVec 6} {qn : BitVec 10} {width : Nat} {value : Word32} {i : Instr}
    (h : i ∈ [Instr.commandDoorbell fn qn width value, .completionDoorbell fn qn width value]) :
    ∃ off ok put, exec i s = .next (doorbell s fn.toNat qn.toNat off width ok put value.toNat) := by
  simp only [List.mem_cons, List.not_mem_nil, or_false] at h
  rcases h with rfl | rfl
  · exact ⟨_, _, _, rfl⟩
  · exact ⟨_, _, _, rfl⟩

/-- Where a tail may stand (06 R204, Table 6.3): from the last one up to a ring's size beyond done. -/
def tailFits (d : Queue) (v : Nat) : Prop := idxSub d.tail d.done ≤ idxSub v d.done ∧ idxSub v d.done ≤ 2 ^ d.cmdLog2

/-- Where a head may stand (06 R204, Table 6.3): from the last one up to done. -/
def headFits (d : Queue) (v : Nat) : Prop := idxSub d.done v ≤ idxSub d.done d.cplHead

section
variable {s : State} {fn : BitVec 6} {qn : BitVec 10} (open' : barOk s fn.toNat = true) (run : (getF s fn.toNat).inReset = false)
  (own : qn.toNat ≠ 1023 ∧ (getQ s qn.toNat).valid = true ∧ (getQ s qn.toNat).fn = fn.toNat)
include open' run own

/-- The queue's own function moves its tail to where it may stand. -/
theorem execCommandDoorbell_captured {value : Word32} (fits : tailFits (getQ s qn.toNat) value.toNat) :
    execCommandDoorbell fn qn 32 value s = .next (putQ s qn.toNat { getQ s qn.toNat with tail := value.toNat }) := by
  obtain ⟨low, high⟩ := fits
  unfold execCommandDoorbell
  rw [doorbell_own open' rfl run own, if_pos (by simp [low, high])]

/-- A tail that may not stand where the write puts it stops the queue. -/
theorem execCommandDoorbell_invalid {value : Word32} (misfit : ¬ tailFits (getQ s qn.toNat) value.toNat) :
    execCommandDoorbell fn qn 32 value s = .next (queueEvent (stopQueue s qn.toNat) 0xD020 2 qn.toNat) := by
  unfold execCommandDoorbell
  rw [doorbell_own open' rfl run own, if_neg (by rwa [Bool.and_eq_true, decide_eq_true_eq, decide_eq_true_eq])]

/-- The queue's own function moves its head to where it may stand. -/
theorem execCompletionDoorbell_captured {value : Word32} (fits : headFits (getQ s qn.toNat) value.toNat) :
    execCompletionDoorbell fn qn 32 value s = .next (putQ s qn.toNat { getQ s qn.toNat with cplHead := value.toNat }) := by
  unfold execCompletionDoorbell
  rw [doorbell_own open' rfl run own, if_pos (by rw [decide_eq_true_eq]; exact fits)]

/-- A head that may not stand where the write puts it stops the queue. -/
theorem execCompletionDoorbell_invalid {value : Word32} (misfit : ¬ headFits (getQ s qn.toNat) value.toNat) :
    execCompletionDoorbell fn qn 32 value s = .next (queueEvent (stopQueue s qn.toNat) 0xD020 2 qn.toNat) := by
  unfold execCompletionDoorbell
  rw [doorbell_own open' rfl run own, if_neg (by rwa [decide_eq_true_eq])]

end

end Sys2Proof.Machine
end

section
/-! ### Fetching entries (06 R200, R202, R206, R237) -/
namespace Sys2Proof.Machine

/-- A queue that is disabled, stopped, drained, four entries ahead or fenced fetches nothing. -/
theorem execEntryFetch_rests {s : State} {qn : BitVec 10} (env : Env)
    (h : (getQ s qn.toNat).enabled = false ∨ (getQ s qn.toNat).stopped = true ∨ (getQ s qn.toNat).fetch = (getQ s qn.toNat).tail ∨
      4 ≤ idxSub (getQ s qn.toNat).fetch (getQ s qn.toNat).done ∨ isFenced s (getQ s qn.toNat).ctx = true) :
    execEntryFetch qn env s = .next s := by
  unfold execEntryFetch
  dsimp only
  refine congrArg _ (if_pos ?_)
  rcases h with h | h | h | h | h <;> simp [h]

/-- The queue with the index of its next fetch moved on. -/
def fetched (d : Queue) : Queue := { d with fetch := (d.fetch + 1) % 0x100000000 }

/-- A queue that may fetch takes the entry that its ring holds, and is settled. -/
theorem execEntryFetch_read {s : State} {qn : BitVec 10} {env : Env} {b : List Byte} (host : qn.toNat ≠ 1023)
    (valid : (getQ s qn.toNat).valid = true) (on : (getQ s qn.toNat).enabled = true) (go : (getQ s qn.toNat).stopped = false)
    (served : serves s qn.toNat = true) (free : isFenced s (getQ s qn.toNat).ctx = false)
    (ahead : idxSub (getQ s qn.toNat).fetch (getQ s qn.toNat).done < 4) (more : (getQ s qn.toNat).fetch ≠ (getQ s qn.toNat).tail)
    (up : s.pci.up = true) (empty : (getQ s qn.toNat).entries = [])
    (ok : queueRead (getQ s qn.toNat) 4 2 ((getQ s qn.toNat).cmdBase.toNat +
      64 * ((getQ s qn.toNat).fetch % 2 ^ (getQ s qn.toNat).cmdLog2)) 64 env [] s = (.ok b, s)) :
    execEntryFetch qn env s =
      .next (settleQueue (putQ s qn.toNat { fetched (getQ s qn.toNat) with entries := [parseEntry b] }) qn.toNat) := by
  unfold execEntryFetch
  dsimp only
  rw [if_neg (by simp [host, valid, on, go, served, free, up, more, Nat.not_le.2 ahead]), ok]
  dsimp only
  have first : (getQ s qn.toNat).entries ++ [parseEntry b] = [parseEntry b] := by rw [empty]; rfl
  exact congrArg (fun l => Host.Outcome.next (settleQueue (putQ s qn.toNat { fetched (getQ s qn.toNat) with entries := l }) qn.toNat)) first

/-- The record of an entry that does not run waits in its queue. -/
def unrunWaits (s : State) (q : Nat) (d : Queue) (e : CmdEntry) : State :=
  jot (putQ s q { d with pendRec := some (CplRec.unrun s e stMalformed) })

/-- An entry is read with status OK, or with MALFORMED. -/
theorem parseEntry_bad (b : List Byte) : (parseEntry b).bad = 0 ∨ (parseEntry b).bad = stMalformed := by
  unfold parseEntry
  dsimp only
  split
  · exact .inr rfl
  · exact .inl rfl

section
variable {s : State} {q : Nat} {d : Queue} {e : CmdEntry} (valid : d.valid = true) (idle : d.running = none) (noRec : d.pendRec = none)
  (alive : ctxGone s d = false) (on : d.enabled = true) (go : d.stopped = false)
include valid idle noRec alive

/-- A single good entry just fetched waits for its program to start. -/
theorem settleQueue_fetched_good (good : e.bad = 0) :
    settleQueue (putQ s q { d with entries := [e] }) q = putQ s q { d with entries := [e] } := by
  have same := getQ_putQ_same s q { d with entries := [e] }
  have alive' : ctxGone (putQ s q { d with entries := [e] }) { d with entries := [e] } = false := alive
  rw [settleQueue_head (e := e) (l := []) (by rw [same]; exact valid) (by rw [same]; exact idle) (by rw [same]; exact noRec) (by rw [same]),
    same, alive', good, if_neg (by decide), if_neg (by simp)]

include on go

/-- A single entry that its fetch found bad ends at once; one that stops its queue does so with a record. -/
theorem settleQueue_fetched_bad (empty : d.entries = []) (bad : e.bad = stMalformed) :
    settleQueue (putQ s q { d with entries := [e] }) q =
      if e.stops = true then
        record (stopQueue (unrunWaits s q d e) q) 0xD021 2 0x11 q
          (trdPay (unrunWaits s q d e) q 0xFFFF stMalformed 0xFF 0xFFFF 0xFFFF 0xFF [])
      else unrunWaits s q d e := by
  have same := getQ_putQ_same s q { d with entries := [e] }
  have alive' : ctxGone (putQ s q { d with entries := [e] }) { d with entries := [e] } = false := alive
  have ended' : headEnded (putQ s q { d with entries := [e] }) q e [] stMalformed = unrunWaits s q d e := by
    unfold headEnded unrunWaits
    rw [same, putQ_putQ, ← empty]
    rfl
  rw [settleQueue_head (e := e) (l := []) (by rw [same]; exact valid) (by rw [same]; exact idle) (by rw [same]; exact noRec) (by rw [same]),
    same, alive', bad, if_neg (by decide), if_pos ⟨by decide, on, go⟩, ended']

/-- A single entry that stops its queue. -/
theorem settleQueue_fetched_stops (empty : d.entries = []) (bad : e.bad = stMalformed) (stops : e.stops = true) (ring : ringOff s)
    (o : ringOpen s) :
    let t := settleQueue (putQ s q { d with entries := [e] }) q
    getQ t q = { d with pendRec := some (CplRec.unrun s e stMalformed), stopped := true } ∧ (∀ k, k ≠ q → getQ t k = getQ s k) ∧
      lastRecord t 0xD021 2 0x11 q ∧ queuesAndRecords s t := by
  have same : getQ (unrunWaits s q d e) q = { d with pendRec := some (CplRec.unrun s e stMalformed) } := by
    unfold unrunWaits
    rw [getQ_jot, getQ_putQ_same]
  have other : ∀ k, k ≠ q → getQ (unrunWaits s q d e) k = getQ s k := fun k ne => by
    unfold unrunWaits
    rw [getQ_jot, getQ_putQ_ne s ne]
  obtain ⟨queue, others, last, frame⟩ := record_stopQueue (queuesOnly_putQ s q { d with pendRec := some (CplRec.unrun s e stMalformed) })
    (q := q) (by rw [← unrunWaits, same]; exact on) ring o 0xD021 2 0x11
    (trdPay (unrunWaits s q d e) q 0xFFFF stMalformed 0xFF 0xFFFF 0xFFFF 0xFF [])
  rw [settleQueue_fetched_bad valid idle noRec alive on go empty bad, if_pos stops]
  exact ⟨queue.trans (by rw [← unrunWaits, same]), fun k ne => (others k ne).trans (other k ne), last, frame⟩

end

/-- Settles O34: doorbells by the branches of `doorbell`, a fetch by what settling the queue does with the entry read. -/
theorem doorbellsAndEntries : Obligations.DoorbellsAndEntries := by
  unfold Obligations.DoorbellsAndEntries
  refine ⟨fun s fn qn width value c => ?_, fun s qn env b => ⟨fun rests => execEntryFetch_rests env rests, ?_⟩⟩
  · intro f q d v own tailOk headOk stopped i hi
    have foreignCalm : calm (foreignCounted s) := calm_of c rfl rfl rfl
    obtain ⟨ring, _, room⟩ := calm_of (t := widthCounted s) c rfl rfl rfl
    obtain ⟨off, ok, put, run⟩ := exec_doorbell s hi
    rw [run]
    refine ⟨fun shut => congrArg _ (doorbell_shut shut), fun open' other => ?_, fun open' whole reset => congrArg _ (doorbell_inReset open' whole reset),
      fun open' whole idle foreign => ?_, fun open' whole idle own => ?_⟩
    · obtain ⟨pl, eq⟩ := doorbell_width (q := q) (off := off) (ok := ok) (put := put) (value := v) open' other
      exact ⟨_, congrArg _ eq, record_recorded ring room 0xC015 1 0x0A f pl⟩
    · obtain ⟨pl, eq⟩ := doorbell_foreign (off := off) (ok := ok) (put := put) (value := v) open' whole idle foreign
      exact ⟨_, congrArg _ eq, accept_accepted foreignCalm 0xC016 2 0x0A f 0xFFFF 0xFFFF pl⟩
    · subst whole
      exact ⟨fun fits => execCommandDoorbell_captured open' idle own fits, fun fits => execCompletionDoorbell_captured open' idle own fits,
        fun misfit on => ⟨_, execCommandDoorbell_invalid open' idle own misfit, stoppedByDoorbell_event c on⟩,
        fun misfit on => ⟨_, execCompletionDoorbell_invalid open' idle own misfit, stoppedByDoorbell_event c on⟩⟩
  · intro host valid on go served free ahead more up empty idle noRec alive ok
    have run := execEntryFetch_read host valid on go served free ahead more up empty ok
    have bad : (parseEntry b).bad ≠ 0 → (parseEntry b).bad = stMalformed := (parseEntry_bad b).resolve_left
    rw [exec_entryFetch, run]
    have settle := fun isBad : (parseEntry b).bad ≠ 0 =>
      settleQueue_fetched_bad (s := s) (q := qn.toNat) (d := fetched (getQ s qn.toNat)) valid idle noRec alive on go empty (bad isBad)
    refine ⟨fun good => congrArg _ (settleQueue_fetched_good (d := fetched (getQ s qn.toNat)) valid idle noRec alive good), fun isBad goesOn => ?_,
      fun isBad stops ring room => ?_⟩
    · rw [settle isBad]
      rw [goesOn, if_neg (by decide)]
      rfl
    · obtain ⟨queue, others, last, frame⟩ := settleQueue_fetched_stops (s := s) (q := qn.toNat) (d := fetched (getQ s qn.toNat)) valid idle
        noRec alive on go empty (bad isBad) stops ring room
      exact ⟨_, rfl, queue, others, last, queuesAndRecords_keeps frame State.mem fun _ _ _ _ _ => rfl,
        queuesAndRecords_keeps frame State.progs fun _ _ _ _ _ => rfl⟩

end Sys2Proof.Machine
end

section
/-! ### Naming and reading settings (06 R212, 07 R254, R255, Table 7.7) -/
namespace Sys2Proof.Machine

/-- A word that names a setting is defined. -/
theorem SetRef.defined_of_ok {x : SetRef} (ok : SetRef.ok x = true) : ¬ (x.blk.toNat > 16 ∨ ((!x.indexed) = true ∧ x.rb ≠ 0)) := by
  unfold SetRef.ok at ok
  simp only [Bool.and_eq_true, decide_eq_true_eq, Bool.or_eq_true, beq_iff_eq] at ok
  obtain ⟨blk, rb⟩ := ok
  rintro (far | ⟨plain, other⟩)
  · omega
  · exact rb.elim (fun i => by simp [i] at plain) other

section
variable {s : State} {slot : BitVec 6} {p : Prog} {x : SetRef} (h : issues s slot p) (ok : SetRef.ok x = true)
include h ok

/-- An instruction on a setting runs on the setting that it names. -/
theorem onSetting_named {r : SetRow} {i : Nat} (named : resolve p x = some (r, i)) (f : Prog → SetRow → Nat → State) :
    onSetting s slot x f = f p r i := by
  unfold onSetting
  rw [onProg_issues h, if_neg (SetRef.defined_of_ok ok), named]

/-- An instruction on a setting that names none ends its program. -/
theorem onSetting_unnamed (none : resolve p x = none) (f : Prog → SetRow → Nat → State) : onSetting s slot x f = ended s slot p 0x0004 := by
  unfold onSetting
  rw [onProg_issues h, if_neg (SetRef.defined_of_ok ok), none]
  rfl

end

/-- A setting is accessed under a context that is selected, or under none where it has none. -/
theorem noSel_selected {p : Prog} {r : SetRow} (sel : r.perCtx = true → p.sel < 256) : noSel p r = false := by
  unfold noSel
  cases per : r.perCtx with
  | false => rfl
  | true => simpa using Nat.le_of_lt_succ (sel per)

section
variable {s : State} {slot : BitVec 6} {p : Prog} {x : SetRef} {r : SetRow} {i : Nat} (h : issues s slot p) (ok : SetRef.ok x = true)
  (named : resolve p x = some (r, i))
include h ok named

/-- RDS writes the live value of the setting it names to rd. -/
theorem execRds_live (next : hasNext p) (sel : r.perCtx = true → p.sel < 256) (still : ¬ (r.blk = 12 ∧ i = 0x17)) (rd : BitVec 5) :
    execRds slot rd x s = .next (retired s slot p rd (readSetting s r i (setCtx p r))) := by
  unfold execRds
  rw [onSetting_named h ok named, noSel_selected sel, if_neg Bool.false_ne_true]
  dsimp only
  rw [if_neg still, retireRd_next s slot next]
  rfl

/-- RDST writes the staged value of the setting it names to rd. -/
theorem execRdst_staged (next : hasNext p) (sel : r.perCtx = true → p.sel < 256) {e : Staged}
    (staged : stagedOf p.staged r.blk i (setCtx p r) = some e) (rd : BitVec 5) :
    execRdst slot rd x s = .next (retired s slot p rd e.val) := by
  unfold execRdst
  rw [onSetting_named h ok named, noSel_selected sel, if_neg Bool.false_ne_true, staged]
  exact congrArg _ (retireRd_next s slot next rd e.val)

/-- RDST writes the live value of a setting that is not staged. -/
theorem execRdst_live (next : hasNext p) (sel : r.perCtx = true → p.sel < 256) (plain : stagedOf p.staged r.blk i (setCtx p r) = none)
    (rd : BitVec 5) : execRdst slot rd x s = .next (retired s slot p rd (readSetting s r i (setCtx p r))) := by
  unfold execRdst
  rw [onSetting_named h ok named, noSel_selected sel, if_neg Bool.false_ne_true, plain]
  exact congrArg _ (retireRd_next s slot next rd _)

/-- Without a selected context RDS and RDST of a per-context setting are MALFORMED. -/
theorem execRds_noContext (per : r.perCtx = true) (none : 256 ≤ p.sel) (rd : BitVec 5) :
    execRds slot rd x s = .next (ended s slot p 0x0002) ∧ execRdst slot rd x s = .next (ended s slot p 0x0002) := by
  have no : noSel p r = true := by simpa [noSel, per] using Nat.lt_of_succ_le none
  unfold execRds execRdst
  rw [onSetting_named h ok named, onSetting_named h ok named, if_pos no, if_pos no]
  exact ⟨rfl, rfl⟩

/-- WRI of a setting that is neither IM nor W1C is refused. -/
theorem execWri_otherClass (im : r.cls ≠ .im) (w1c : r.cls ≠ .w1c) (ra : BitVec 5) :
    execWri slot ra x s = .next (ended s slot p 0x0003) := by
  unfold execWri wriTo
  rw [onSetting_named h ok named]
  exact congrArg _ (if_pos (by simp [im, w1c]))

/-- STAGE of a setting that is neither ST nor HD is refused. -/
theorem execStage_otherClass (st : r.cls ≠ .st) (hd : r.cls ≠ .hd) (ra : BitVec 5) :
    execStage slot ra x s = .next (ended s slot p 0x0003) := by
  unfold execStage
  rw [onSetting_named h ok named, if_neg (fun hardened => hd hardened.2.1)]
  exact congrArg _ (if_pos (by simp [st, hd]))

end

/-- Settles O12: privileges by `onPriv_below`, settings by what `onSetting` does with the name. -/
theorem settingAccessesKeepToTheirRules : Obligations.SettingAccessesKeepToTheirRules := by
  unfold Obligations.SettingAccessesKeepToTheirRules
  refine ⟨fun s slot rd ra rb imm env test p h e he below => ?_, fun s slot rd x p r i h next ok named sel => ?_,
    fun s slot rd ra x p h ok => ⟨fun none e he => ?_, fun r i named => ?_⟩⟩
  · have guarded : ∃ f, exec e.1 s = .next (onPriv s slot e.2 f) := by fin_cases he <;> exact ⟨_, rfl⟩
    obtain ⟨f, run⟩ := guarded
    rw [run, onPriv_below h below]
    rfl
  · exact ⟨fun still => execRds_live h ok named next sel still rd, fun e staged => execRdst_staged h ok named next sel staged rd,
      fun plain => execRdst_live h ok named next sel plain rd⟩
  · have named : ∃ f, exec e s = .next (onSetting s slot x f) := by fin_cases he <;> exact ⟨_, rfl⟩
    obtain ⟨f, run⟩ := named
    rw [run, onSetting_unnamed h ok none]
  · exact ⟨fun ⟨per, no⟩ => execRds_noContext h ok named per no rd, fun ⟨im, w1c⟩ => execWri_otherClass h ok named im w1c ra,
      fun ⟨st, hd⟩ => execStage_otherClass h ok named st hd ra⟩

end Sys2Proof.Machine
end

section
/-! ### Starting a program (06 R206, R207, R214, R217, 07 R242, R243) -/
namespace Sys2Proof.Machine

/-- The four arguments of an entry stand in h1 to h4. -/
def argRegs (args : List Word64) : Tbl Word64 := [(1, args.getD 0 0), (2, args.getD 1 0), (3, args.getD 2 0), (4, args.getD 3 0)]

/-- The program of an entry of queue `q` at its start. -/
def startOf (s : State) (q : Nat) (e : CmdEntry) : Prog :=
  { queue := q, priv := queuePriv s q, index := 0, words := e.progLen / 8, regs := argRegs e.args,
    sel := if queuePriv s q = 0 then (getQ s q).ctx else 0xFFFF, staged := [], overfull := false, retired := 0, committed := false,
    wait := .none, tag := e.tag, irq := e.irq, stopOn := e.stopOn, base := e.progAddr }

/-- The watchdog of a context without work starts with its first program (16 R543). -/
def watchBegun (s : State) (c : Nat) : State := if c < 256 ∧ (!hasWork s c) = true then watchRestart s c else s

theorem watchRestart_frame (s : State) (c : Nat) : watchRestart s c = { s with rst := (watchRestart s c).rst } := by
  unfold watchRestart
  split <;> rfl

theorem watchBegun_frame (s : State) (c : Nat) : watchBegun s c = { s with rst := (watchBegun s c).rst } := by
  unfold watchBegun
  split
  · exact watchRestart_frame s c
  · rfl

/-- What the registers of a program read at its start. -/
theorem reg_startOf (s : State) (q : Nat) (e : CmdEntry) (n : BitVec 5) :
    (startOf s q e).reg n = if 1 ≤ n.toNat ∧ n.toNat ≤ 4 then e.args.getD (n.toNat - 1) 0 else 0 := by
  unfold Prog.reg
  by_cases z : n = 0
  · subst z
    rfl
  · rw [if_neg z]
    show Tbl.get 0 (argRegs e.args) n.toNat = _
    have pos : n.toNat ≠ 0 := fun e => z (BitVec.eq_of_toNat_eq e)
    generalize n.toNat = k at *
    by_cases le : k ≤ 4
    · rw [if_pos ⟨Nat.pos_of_ne_zero pos, le⟩]
      interval_cases k
      · exact absurd rfl pos
      all_goals rfl
    · rw [if_neg (by omega)]
      refine Tbl.get_unlisted _ _ ?_
      simp only [argRegs, List.map_cons, List.map_nil, List.mem_cons, List.not_mem_nil, or_false]
      omega

section
variable {s : State} {slot : BitVec 6} {qn : BitVec 10} {e : CmdEntry} {rest : List CmdEntry} (head : (getQ s qn.toNat).entries = e :: rest)
include head

/-- A queue that does not serve, or whose completion ring is full, a slot that is taken and one that a tenant may not use start no
program. -/
theorem execProgramStart_rests
    (h : (getQ s qn.toNat).valid = false ∨ (getQ s qn.toNat).enabled = false ∨ (getQ s qn.toNat).stopped = true ∨
      (getQ s qn.toNat).running ≠ none ∨ getP s slot.toNat ≠ none ∨ (slot.toNat < 8 ∧ queuePriv s qn.toNat = 0) ∨
      (qn.toNat ≠ 1023 ∧ 2 ^ (getQ s qn.toNat).cplLog2 ≤ idxSub (getQ s qn.toNat).done (getQ s qn.toNat).cplHead)) :
    execProgramStart slot qn s = .next s := by
  unfold execProgramStart
  dsimp only
  rw [head]
  refine congrArg _ (if_pos ?_)
  simp only [Option.isSome_iff_ne_none, Bool.not_eq_true', ge_iff_le]
  rcases h with h | h | h | h | h | h | h <;> simp only [h, true_or, or_true, ne_eq, not_false_eq_true, and_self]

/-- A fetched entry of a queue that serves takes a free slot. -/
theorem execProgramStart_starts (valid : (getQ s qn.toNat).valid = true) (on : (getQ s qn.toNat).enabled = true)
    (go : (getQ s qn.toNat).stopped = false) (served : serves s qn.toNat = true) (free : isFenced s (getQ s qn.toNat).ctx = false)
    (alive : ctxGone s (getQ s qn.toNat) = false) (idle : (getQ s qn.toNat).running = none) (noRec : (getQ s qn.toNat).pendRec = none)
    (good : e.bad = 0) (empty : getP s slot.toNat = none) (open' : slot.toNat < 8 → queuePriv s qn.toNat ≠ 0)
    (room : qn.toNat = 1023 ∨ idxSub (getQ s qn.toNat).done (getQ s qn.toNat).cplHead < 2 ^ (getQ s qn.toNat).cplLog2) :
    execProgramStart slot qn s =
      .next (jot (putP (putQ (watchBegun s (getQ s qn.toNat).ctx) qn.toNat
        { getQ s qn.toNat with entries := rest, running := some slot.toNat }) slot.toNat (startOf s qn.toNat e))) := by
  unfold execProgramStart
  dsimp only
  rw [head]
  refine congrArg _ (if_neg ?_)
  have tenant : ¬ (slot.toNat < 8 ∧ queuePriv s qn.toNat = 0) := fun ⟨lt, zero⟩ => open' lt zero
  have space : ¬ (qn.toNat ≠ 1023 ∧ idxSub (getQ s qn.toNat).done (getQ s qn.toNat).cplHead ≥ 2 ^ (getQ s qn.toNat).cplLog2) := by omega
  simp only [valid, on, go, served, free, alive, idle, noRec, good, empty, tenant, space, Bool.not_true, Bool.false_eq_true, Option.isSome_none,
    ne_eq, not_true_eq_false, or_self, not_false_eq_true]

end

end Sys2Proof.Machine
end

section
/-! ### Completion records (06 R201, R207 to R209, R238) -/
namespace Sys2Proof.Machine

/-- A program that waits issues nothing. -/
theorem running_waits {s : State} {slot : BitVec 6} {p : Prog} (held : getP s slot.toNat = some p) (waits : p.wait ≠ .none) :
    running s slot = none := by
  unfold running
  rw [held]
  exact if_neg (by simp [waits])

/-- A function that may issue requests sends its write. -/
theorem hostWrite_sent {s : State} {f : Nat} (ok : hostOk s f = true) (addr : Nat) (b : List Byte) (cls : Nat) (ep : Bool) :
    hostWrite s f addr b cls ep = sendHost s f addr b cls ep := by
  have up : s.pci.up = true := by
    unfold hostOk at ok
    simp only [Bool.and_eq_true] at ok
    exact ok.1.1.1
  unfold hostWrite
  rw [if_neg (by simp [up]), if_pos ok]

/-- While no step is open a clean write to the host is sent. -/
theorem placeWrite_host {s : State} (closed : ∀ c, (getC s c).step.isOpen = false) {f : Nat} (ok : hostOk s f = true) (addr : Nat)
    (b : List Byte) (cls : Nat) : placeWrite s (.host f addr) b false cls = sendHost s f addr b cls false := by
  rw [placeWrite_closed closed]
  exact hostWrite_sent ok addr b cls false

/-- Nothing follows the record of a program without an error stop, a control or a reset, in an empty queue that is bound to no context. -/
theorem afterRecord_plain {s : State} {q : Nat} {d : Queue} {r : CplRec} (ctx : d.ctx = 0xFFFF) (stop : r.stopOn = false ∨ r.status = 0)
    (ctl : d.ctlAfter = none) (reset : r.reset = none) (empty : (getQ s q).entries = []) :
    afterRecord s q d r = putQ s q { getQ s q with ctlAfter := none } := by
  have goesOn : ¬ (r.stopOn && r.status != stOk) = true := by
    rcases stop with h | h <;> simp [h, stOk]
  unfold afterRecord
  rw [ctx, ctl, reset, ite_self, show watchRestart s 0xFFFF = s from rfl]
  dsimp only
  rw [if_neg goesOn]
  refine settleQueue_still (.inr (.inr (.inr ?_)))
  unfold updQ
  rw [getQ_putQ_same]
  exact empty

section
variable {s : State} {q : Nat} {r : CplRec} (waits : (getQ s q).pendRec = some r) (other : q ≠ 1023)
include waits other

/-- A queue that holds its record, or whose completion ring is full, keeps it. -/
theorem issueRecord_kept (h : (getQ s q).held = true ∨ 2 ^ (getQ s q).cplLog2 ≤ idxSub (getQ s q).done (getQ s q).cplHead) :
    issueRecord s q = s := by
  unfold issueRecord
  dsimp only
  rw [waits]
  refine ite_eq_left_iff.2 fun _ => ?_
  rw [if_neg other, if_pos h]

/-- A record of a queue with its ring in host memory that can be reached is written there, and done goes on by one. -/
theorem issueRecord_host (valid : (getQ s q).valid = true) (owner : s.trd.owner = true) (kept : (getQ s q).held = false)
    (room : idxSub (getQ s q).done (getQ s q).cplHead < 2 ^ (getQ s q).cplLog2) (priv : (getQ s q).priv ≠ 0)
    (dev : (getQ s q).devMem = false) (ok : hostOk s (getQ s q).fn = true) (quiet : r.irq = false ∨ (getQ s q).msix = 0xFFFF)
    (stop : r.stopOn = false ∨ r.status = 0) (ctl : (getQ s q).ctlAfter = none) (reset : r.reset = none)
    (empty : (getQ s q).entries = []) (ctx : (getQ s q).ctx = 0xFFFF) (closed : ∀ c, (getC s c).step.isOpen = false) :
    issueRecord s q =
      putQ (sendHost s (getQ s q).fn ((getQ s q).cplBase.toNat + 32 * ((getQ s q).done % 2 ^ (getQ s q).cplLog2))
          (cplBytes r q (((getQ s q).done / 2 ^ (getQ s q).cplLog2 + 1) % 2)) (getQ s q).cplClass false) q
        { getQ s q with pendRec := none, done := ((getQ s q).done + 1) % 0x100000000 } := by
  have place : ∀ a, queuePlace s (getQ s q) a .write Env.quiet = (.ok (.host (getQ s q).fn a), s) := fun a => by
    unfold queuePlace
    rw [if_neg priv, if_neg (by rw [dev]; decide)]
  have silent : ¬ (r.irq && decide ((getQ s q).msix ≠ 0xFFFF)) = true := by
    rcases quiet with h | h <;> simp [h]
  unfold issueRecord
  dsimp only
  rw [waits]
  dsimp only
  rw [if_neg (by simp [valid, owner]), if_neg other, if_neg (by simp [kept]; omega), place]
  dsimp only
  rw [if_neg (by simp [ok]), placeWrite_host closed ok, if_neg silent, afterRecord_plain ctx stop ctl reset, getQ_putQ_same, putQ_putQ]
  · rw [← ctl]
  · rw [getQ_putQ_same]
    exact empty

end

/-- The flag bits of a record's bytes. -/
theorem flag_bit (b : Bool) (n : Nat) : n * b2n b = if b then n else 0 := by
  cases b
  · rfl
  · exact Nat.mul_one n

/-- Settles O35: a start by `execProgramStart_starts`, a record by `issueRecord_host`. -/
theorem programsStartAndComplete : Obligations.ProgramsStartAndComplete := by
  unfold Obligations.ProgramsStartAndComplete
  refine ⟨fun s slot qn e rest => ?_, fun s slot p => ⟨fun h => ?_, fun held waits => ?_⟩, fun s qn r => ?_⟩
  · intro q d priv head
    refine ⟨fun rests => execProgramStart_rests head rests, fun valid on go served free alive idle noRec good empty open' room => ?_⟩
    refine ⟨_, startOf s q e, execProgramStart_starts head valid on go served free alive idle noRec good empty open' room, ?_, rfl, rfl, rfl, rfl,
      rfl, rfl, rfl, rfl, rfl, reg_startOf s q e, ?_, fun k ne => ?_, fun n ne => ?_, ?_⟩
    · rw [getP_jot, getP_putP_same]
    · rw [getQ_jot, getQ_putP, getQ_putQ_same]
    · rw [getQ_jot, getQ_putP, getQ_putQ_ne _ ne, watchBegun_frame]
      rfl
    · rw [getP_jot, getP_putP_ne _ ne, watchBegun_frame]
      rfl
    · rw [jot_frame, watchBegun_frame]
      rfl
  · show Host.Outcome.next _ = _
    rw [show running s slot = some p from h]
    rfl
  · show Host.Outcome.next _ = _
    rw [running_waits held waits]
  · intro q d addr waits other
    refine ⟨fun kept => congrArg _ (issueRecord_kept waits other kept), fun valid owner kept room priv dev ok quiet stop ctl reset empty ctx closed =>
      ⟨_, rfl, ?_⟩⟩
    have run := issueRecord_host waits other valid owner kept room priv dev ok quiet stop ctl reset empty ctx closed
    refine (congrArg Host.Outcome.next run).trans ?_
    unfold cplBytes
    rw [flag_bit, flag_bit]
    rfl

end Sys2Proof.Machine
end

section
/-! ### The bootstrap window (22 R750, 06 R236) -/
namespace Sys2Proof.Machine

/-- A write of q0_ctl is performed at once: no takeover is in progress, and no reset of the PF. -/
def q0Now (s : State) : Prop := ¬ (s.phase = .run ∧ s.trd.owner = false ∧ s.trd.takeover ≠ 0) ∧ (getF s 0).inReset = false

/-- The image of queue 0 describes an administrator queue. -/
def q0Fits (s : State) : Prop := imageOk s s.pci.q0Image = true ∧ bytesAt s.pci.q0Image 10 1 = 1

/-- Queue 0 as its image describes it, enabled. -/
def q0New (s : State) : Queue :=
  { imageQueue s.pci.q0Image with
    enabled := true, crc := crc32c ({ imageQueue s.pci.q0Image with enabled := true } : Queue).image }

section
variable {s : State} {v : Nat} (open' : barOk s 0 = true) (known : v = 1 ∨ v = 2)
include open' known

/-- A write of q0_ctl waits for the end of a takeover and of a reset of the PF. -/
theorem q0Ctl_later (later : ¬ q0Now s) : q0Ctl s v = { s with pci := { s.pci with q0Wait := some v } } := by
  have waits : (s.phase = .run ∧ (!s.trd.owner) = true ∧ s.trd.takeover ≠ 0) ∨ (getF s 0).inReset = true := by
    unfold q0Now at later
    rw [Bool.not_eq_true']
    rwa [not_and_or, not_not, Bool.not_eq_false] at later
  unfold q0Ctl
  rw [if_neg (by rw [open']; simp; omega), if_pos waits]

/-- A write of q0_ctl that waits for nothing is performed. -/
theorem q0Ctl_now (now : q0Now s) : q0Ctl s v = if v = 1 then q0Create s else q0Enable s := by
  obtain ⟨settled, idle⟩ := now
  unfold q0Ctl
  rw [if_neg (by rw [open']; simp; omega), if_neg]
  rw [Bool.not_eq_true', idle]
  simpa using settled

end

/-- Before the release queue 0 is neither created nor enabled. -/
theorem q0_unreleased {s : State} (held : s.phase ≠ .run) : q0Create s = q0Answer s 4 ∧ q0Enable s = q0Answer s 4 := by
  unfold q0Create q0Enable
  exact ⟨if_pos held, if_pos held⟩

section
variable {s : State} (run : s.phase = .run)
include run

/-- An image of another queue creates none. -/
theorem q0Create_misfit (misfit : ¬ q0Fits s) : q0Create s = q0Answer s 2 := by
  unfold q0Create
  rw [if_neg (not_not.2 run), if_pos]
  unfold q0Fits at misfit
  rw [Bool.or_eq_true, Bool.not_eq_true', bne_iff_ne]
  by_cases ok : imageOk s s.pci.q0Image = true
  · exact .inr fun one => misfit ⟨ok, one⟩
  · exact .inl (Bool.eq_false_iff.2 ok)

/-- A fitting image changes no queue 0 that runs or may run a program. -/
theorem q0Create_busy (fits : q0Fits s) (busy : q0Idle s = false) : q0Create s = q0Answer s 3 := by
  obtain ⟨ok, one⟩ := fits
  unfold q0Create
  rw [if_neg (not_not.2 run), if_neg (by simp [ok, one]), if_pos (by rw [busy]; rfl)]

/-- A fitting image creates queue 0, which is recorded. -/
theorem q0Create_created (fits : q0Fits s) (idle : q0Idle s = true) (off : ringOff s) (room : ringOpen s) :
    recorded (q0Answer (jot (putQ s 0 (q0New s))) 1) (q0Create s) 0xC017 0 0x0A 0 := by
  obtain ⟨ok, one⟩ := fits
  have put := queuesOnly_putQ s 0 (q0New s)
  have off' : ringOff (q0Answer (jot (putQ s 0 (q0New s))) 1) := ringOff_congr (queuesOnly_ringOff put off) rfl rfl
  have room' : ringOpen (jot (putQ s 0 (q0New s))) := queuesOnly_ringOpen put room
  unfold q0Create
  rw [if_neg (not_not.2 run), if_neg (by simp [ok, one]), if_neg (by rw [idle]; decide)]
  exact record_recorded off' room' ..

/-- A queue 0 that does not exist is not enabled. -/
theorem q0Enable_absent (absent : (getQ s 0).valid = false) : q0Enable s = q0Answer s 3 := by
  unfold q0Enable
  rw [if_neg (not_not.2 run), if_pos (by rw [absent]; rfl)]

end

/-- Opening a queue whose descriptor fails its CRC stops it, with the entry of that. -/
theorem openQueue_bad {s : State} {q : Nat} (bad : badDescriptor s q = true) (c : calm s) (d : Queue) :
    let t := openQueue s q d
    getQ t q = { d with stopped := true } ∧ (∀ k, k ≠ q → getQ t k = getQ s k) ∧ inPipeline t 0xD022 2 ∧
      t = { s with queues := t.queues, trd := t.trd, rcd := t.rcd, err := t.err } := by
  intro t
  have only := queuesOnly_putQ s q { d with stopped := true }
  have event : t = queueEvent (jot (putQ s q { d with stopped := true })) 0xD022 2 q := if_pos bad
  have acc : accepted (jot (putQ s q { d with stopped := true })) t 0xD022 2 := event ▸ queueEvent_accepted (queuesOnly_calm only c) 0xD022 2 q
  have reads : ∀ k, getQ t k = getQ (putQ s q { d with stopped := true }) k := fun k => by
    rw [accepted_keeps acc (fun x => getQ x k) fun _ _ => rfl, getQ_jot]
  refine ⟨by rw [reads, getQ_putQ_same], fun k ne => by rw [reads, getQ_putQ_ne s ne], acc.1, ?_⟩
  have whole := acc.2
  clear_value t
  rw [whole, only]

/-- Opening a queue whose descriptor keeps its CRC writes it. -/
theorem openQueue_good {s : State} {q : Nat} (good : badDescriptor s q = false) (d : Queue) : openQueue s q d = jot (putQ s q d) :=
  if_neg (by rw [good]; decide)

section
variable {s : State} (run : s.phase = .run) (valid : (getQ s 0).valid = true) (on : (getQ s 0).enabled = true)
  (stopped : (getQ s 0).stopped = true)
include run valid on stopped

/-- A stopped queue 0 without an entry is opened again. -/
theorem q0Enable_stopped (empty : (getQ (openQueue s 0 { getQ s 0 with stopped := false, held := false }) 0).entries = []) :
    q0Enable s = q0Answer (openQueue s 0 { getQ s 0 with stopped := false, held := false }) 1 := by
  unfold q0Enable
  rw [if_neg (not_not.2 run), if_neg (by rw [valid]; decide)]
  dsimp only
  rw [if_pos (by rw [on, stopped]; rfl)]
  exact settleQueue_still (.inr (.inr (.inr empty)))

variable (empty : (getQ s 0).entries = [])
include empty

/-- A queue 0 whose descriptor fails its CRC stays stopped. -/
theorem q0Enable_corrupt (bad : badDescriptor s 0 = true) (c : calm s) :
    getQ (q0Enable s) 0 = { getQ s 0 with held := false } ∧ (q0Enable s).pci.q0Result = 1 ∧ inPipeline (q0Enable s) 0xD022 2 := by
  obtain ⟨stays, -, event, -⟩ := openQueue_bad bad c { getQ s 0 with stopped := false, held := false }
  have same : getQ (openQueue s 0 { getQ s 0 with stopped := false, held := false }) 0 = { getQ s 0 with held := false } := by
    rw [stays, ← stopped]
  rw [q0Enable_stopped run valid on stopped (by rw [same]; exact empty)]
  exact ⟨same, rfl, event⟩

/-- A queue 0 whose descriptor keeps its CRC is stopped no longer. -/
theorem q0Enable_opened (good : badDescriptor s 0 = false) :
    q0Enable s = q0Answer (jot (putQ s 0 { getQ s 0 with stopped := false, held := false })) 1 := by
  have opened := openQueue_good good { getQ s 0 with stopped := false, held := false }
  rw [q0Enable_stopped run valid on stopped (by rw [opened, getQ_jot, getQ_putQ_same]; exact empty), opened]

end

end Sys2Proof.Machine
end

section
/-! ### BAR writes (22 R749, R750, Table 22.3) -/
namespace Sys2Proof.Machine

/-- Bytes spell a number below 256 to the power of their count. -/
theorem leNat_lt (l : List Byte) : leNat l < 256 ^ l.length := by
  induction l with
  | nil => exact Nat.one_pos
  | cons b l ih =>
    have := b.isLt
    rw [leNat, List.length_cons, Nat.pow_succ]
    omega

section
variable {s : State} {fn : BitVec 6} {bar : BitVec 3} {offset : BitVec 32} {data : List Byte}

/-- A write without memory space, or of no byte, is discarded. -/
theorem execBarWrite_shut (shut : barOk s fn.toNat = false ∨ data = []) (ep : Bool) : execBarWrite fn bar offset data ep s = .next s := by
  unfold execBarWrite
  exact if_pos (by simpa using shut)

variable (open' : barOk s fn.toNat = true) (some' : data ≠ [])
include open' some'

/-- A poisoned write is discarded and reported. -/
theorem execBarWrite_poisoned (c : calm s) : ∃ t, execBarWrite fn bar offset data true s = .next t ∧ accepted (setAer s 12) t 0xC013 2 := by
  have calm' : calm (setAer s 12) := calm_of c rfl rfl rfl
  unfold execBarWrite
  dsimp only
  rw [if_neg (by simp [open', some']), if_pos rfl]
  exact ⟨_, rfl, accept_accepted calm' ..⟩

/-- BAR0 holds doorbells below 0x4000 and the MSI-X table from 0x10000 on. -/
theorem execBarWrite_bar0 :
    execBarWrite fn 0 offset data false s =
      if offset.toNat < 0x4000 then
        if offset.toNat % 4 ≠ 0 ∧ offset.toNat % 16 < 8 then
          .next (doorbell s fn.toNat (offset.toNat / 16) offset.toNat 0 (fun _ => true) id (BitVec.ofNat 32 (leNat data)).toNat)
        else if offset.toNat % 16 / 4 = 0 then
          execCommandDoorbell fn (BitVec.ofNat 10 (offset.toNat / 16)) (8 * data.length) (BitVec.ofNat 32 (leNat data)) s
        else if offset.toNat % 16 / 4 = 1 then
          execCompletionDoorbell fn (BitVec.ofNat 10 (offset.toNat / 16)) (8 * data.length) (BitVec.ofNat 32 (leNat data)) s
        else .next s
      else if 0x10000 ≤ offset.toNat ∧ offset.toNat < 0x18000 ∧ offset.toNat % 4 = 0 then
        .next (msixWrite s fn.toNat ((offset.toNat - 0x10000) / 4) data)
      else .next s := by
  unfold execBarWrite
  dsimp only
  rw [if_neg (by simp [open', some']), if_neg Bool.false_ne_true]
  rfl

/-- BAR2 holds the bootstrap window of the PF. -/
theorem execBarWrite_bar2 :
    execBarWrite fn 2 offset data false s =
      if fn.toNat ≠ 0 then .next s
      else if 0x40 ≤ offset.toNat ∧ offset.toNat + data.length ≤ 0x70 then
        .next { s with pci := { s.pci with q0Image := putImage s.pci.q0Image (offset.toNat - 0x40) data } }
      else if offset.toNat = 0x70 ∧ data.length = 4 then .next (q0Ctl s (leNat data))
      else .next s := by
  unfold execBarWrite
  dsimp only
  rw [if_neg (by simp [open', some']), if_neg Bool.false_ne_true]
  rfl

/-- The other BARs hold nothing. -/
theorem execBarWrite_elsewhere (ne0 : bar ≠ 0) (ne2 : bar ≠ 2) : execBarWrite fn bar offset data false s = .next s := by
  unfold execBarWrite
  dsimp only
  rw [if_neg (by simp [open', some']), if_neg Bool.false_ne_true]
  split
  · rename_i zero
    exact absurd (BitVec.eq_of_toNat_eq zero) ne0
  · rename_i two
    exact absurd (BitVec.eq_of_toNat_eq two) ne2
  · rfl

/-- Offsets of BAR0 without a register discard the write. -/
theorem execBarWrite_bar0_reserved
    (h : (offset.toNat < 0x4000 ∧ 8 ≤ offset.toNat % 16) ∨ (0x4000 ≤ offset.toNat ∧ offset.toNat < 0x10000) ∨ 0x18000 ≤ offset.toNat) :
    execBarWrite fn 0 offset data false s = .next s := by
  rw [execBarWrite_bar0 open' some']
  by_cases low : offset.toNat < 0x4000
  · rw [if_pos low, if_neg (by omega), if_neg (by omega), if_neg (by omega)]
  · rw [if_neg low, if_neg (by omega)]

/-- Offsets of BAR2 without a register, and BAR2 of a VF, discard the write. -/
theorem execBarWrite_bar2_reserved (h : fn.toNat ≠ 0 ∨ offset.toNat < 0x40 ∨ 0x74 ≤ offset.toNat) :
    execBarWrite fn 2 offset data false s = .next s := by
  rw [execBarWrite_bar2 open' some']
  by_cases vf : fn.toNat ≠ 0
  · rw [if_pos vf]
  · rw [if_neg vf, if_neg (by omega), if_neg (by omega)]

end

/-- What a changed image holds. -/
theorem getD_putImage (l : List Byte) (lo : Nat) (b : List Byte) {k : Nat} (lt : k < l.length) :
    (putImage l lo b).getD k 0 = if lo ≤ k ∧ k < lo + b.length then b.getD (k - lo) 0 else l.getD k 0 := by
  unfold putImage
  rw [List.getD_eq_getElem?_getD, List.getElem?_map, List.getElem?_zipIdx, List.getElem?_eq_getElem lt]
  simp only [Option.map_some, Option.getD_some, Nat.zero_add]
  rw [List.getD_eq_getElem l 0 lt]

/-- A whole dword written to a doorbell of BAR0 names its queue and carries its value. -/
theorem doorbell_operands {offset : BitVec 32} {data : List Byte} (low : offset.toNat < 0x4000) (dword : data.length = 4) :
    (BitVec.ofNat 10 (offset.toNat / 16)).toNat = offset.toNat / 16 ∧ (BitVec.ofNat 32 (leNat data)).toNat = leNat data ∧
      8 * data.length = 32 := by
  have lt := leNat_lt data
  rw [dword] at lt
  refine ⟨?_, ?_, by rw [dword]⟩
  · rw [BitVec.toNat_ofNat]
    omega
  · rw [BitVec.toNat_ofNat]
    omega

section
variable {s : State} {fn : BitVec 6} {offset : BitVec 32} {data : List Byte} (open' : barOk s fn.toNat = true)
  (low : offset.toNat < 0x4000) (dword : data.length = 4) (run : (getF s fn.toNat).inReset = false)
  (own : offset.toNat / 16 ≠ 1023 ∧ (getQ s (offset.toNat / 16)).valid = true ∧ (getQ s (offset.toNat / 16)).fn = fn.toNat)
include open' low dword run own

/-- The first dword of a queue's doorbells moves its tail. -/
theorem execBarWrite_tail (first : offset.toNat % 16 = 0) (fits : tailFits (getQ s (offset.toNat / 16)) (leNat data)) :
    execBarWrite fn 0 offset data false s = .next (putQ s (offset.toNat / 16) { getQ s (offset.toNat / 16) with tail := leNat data }) := by
  obtain ⟨queue, value, width⟩ := doorbell_operands low dword
  rw [execBarWrite_bar0 open' (by rintro rfl; cases dword), if_pos low, if_neg (by omega), if_pos (by omega), width]
  refine (execCommandDoorbell_captured open' run (by rwa [queue]) (by rwa [queue, value])).trans ?_
  rw [queue, value]

/-- The second dword of a queue's doorbells moves its head. -/
theorem execBarWrite_head (second : offset.toNat % 16 = 4) (fits : headFits (getQ s (offset.toNat / 16)) (leNat data)) :
    execBarWrite fn 0 offset data false s =
      .next (putQ s (offset.toNat / 16) { getQ s (offset.toNat / 16) with cplHead := leNat data }) := by
  obtain ⟨queue, value, width⟩ := doorbell_operands low dword
  rw [execBarWrite_bar0 open' (by rintro rfl; cases dword), if_pos low, if_neg (by omega), if_neg (by omega), if_pos (by omega), width]
  refine (execCompletionDoorbell_captured open' run (by rwa [queue]) (by rwa [queue, value])).trans ?_
  rw [queue, value]

end

end Sys2Proof.Machine
end

section
/-! ### Configuration writes and MSI-X (22 R747, R748, R753) -/
namespace Sys2Proof.Machine

/-- State `t` is `s` with function `f` as `g`, and nothing else changed. -/
def fnTakes (s t : State) (f : Nat) (g : PciFn) : Prop :=
  getF t f = g ∧ (∀ k, k ≠ f → getF t k = getF s k) ∧ t = { s with pci := { s.pci with fns := t.pci.fns } }

theorem fnTakes_putF (s : State) (f : Nat) (g : PciFn) : fnTakes s (putF s f g) f g :=
  ⟨getF_putF_same s f g, fun _ ne => getF_putF_ne s ne g, rfl⟩

/-- Whether a function may send its vectors (R748, R753). -/
def mayMessage (s : State) (f : Nat) : Bool :=
  s.pci.up && fnEnabled s f && (getF s f).bme && !(getF s f).d3 && (getF s f).msixEn && !(getF s f).msixMask

/-- A function that may not send its vectors keeps them. -/
theorem flushVecs_kept {s : State} {f : Nat} (no : mayMessage s f = false) : flushVecs s f = s := by
  unfold flushVecs
  exact if_neg (by rw [← mayMessage, no]; decide)

/-- A function that may send its vectors sends the pending ones that are unmasked. -/
theorem flushVecs_sent {s : State} {f : Nat} (may : mayMessage s f = true) :
    flushVecs s f =
      { putF s f { getF s f with pending := (getF s f).pending.filter (fun v => !(getF s f).unmasked.contains v) } with
        out := ((getF s f).pending.filter (fun v => (getF s f).unmasked.contains v)).foldl (fun o v => .msix f v :: o) s.out } := by
  unfold flushVecs
  exact if_pos may

/-- A function without a pending vector sends none. -/
theorem flushVecs_empty {s : State} {f : Nat} (none : (getF s f).pending = []) : fnTakes s (flushVecs s f) f (getF s f) := by
  cases may : mayMessage s f with
  | false => rw [flushVecs_kept may]; exact ⟨rfl, fun _ _ => rfl, rfl⟩
  | true =>
    have same : { getF s f with pending := [] } = getF s f := by rw [← none]
    rw [flushVecs_sent may, none]
    exact ⟨(getF_putF_same s f _).trans same, fun k ne => getF_putF_ne s ne _, rfl⟩

/-- A change of a function's fields after which no vector is pending. -/
theorem fnTakes_flush {s : State} {f : Nat} {g : PciFn} (none : g.pending = []) : fnTakes s (flushVecs (putF s f g) f) f g := by
  have flushed := flushVecs_empty (s := putF s f g) (f := f) (by rw [getF_putF_same]; exact none)
  rw [getF_putF_same] at flushed
  obtain ⟨same, others, frame⟩ := flushed
  refine ⟨same, fun k ne => (others k ne).trans (getF_putF_ne s ne g), ?_⟩
  generalize flushVecs (putF s f g) f = t at *
  rw [frame]
  rfl

/-- A function takes configuration writes: the link is up, it is enabled, and it is in no reset. -/
def fnListens (s : State) (f : Nat) : Prop := s.pci.up = true ∧ fnEnabled s f = true ∧ (getF s f).inReset = false

theorem fnListens_iff (s : State) (f : Nat) : (!s.pci.up || !fnEnabled s f || (getF s f).inReset) = false ↔ fnListens s f := by
  unfold fnListens
  simp only [Bool.or_eq_false_iff, Bool.not_eq_false', and_assoc]

theorem fnListens.takes {s : State} {f : Nat} (on : fnListens s f) :
    ¬ (!s.pci.up || !fnEnabled s f || (getF s f).inReset) = true := by
  rw [(fnListens_iff s f).2 on]
  decide

/-- A function that does not listen takes no configuration write. -/
theorem execConfigurationWrite_deaf {s : State} {fn : BitVec 6} (deaf : ¬ fnListens s fn.toNat) (c : CfgWrite) :
    execConfigurationWrite fn c s = .next s := by
  unfold execConfigurationWrite
  dsimp only
  rw [if_pos (by rwa [← fnListens_iff, Bool.not_eq_false] at deaf)]

/-- The write of a configuration field sets function `fn` to `g`, and changes nothing else. -/
def cfgTakes (s : State) (fn : BitVec 6) (c : CfgWrite) (g : PciFn) : Prop :=
  ∃ t, execConfigurationWrite fn c s = .next t ∧ fnTakes s t fn.toNat g

/-- A field write that may let a vector go: with no vector pending it changes the field alone. -/
theorem cfgTakes_flush {s : State} {fn : BitVec 6} {c : CfgWrite} {g : PciFn} (none : g.pending = [])
    (arm : execConfigurationWrite fn c s = .next (flushVecs (putF s fn.toNat g) fn.toNat)) : cfgTakes s fn c g :=
  ⟨_, arm, fnTakes_flush none⟩

section
variable {s : State} {fn : BitVec 6} (on : fnListens s fn.toNat)
include on

/-- The fields of one function (R748): with no vector pending a write changes its field alone. -/
theorem cfgTakes_fields (none : (getF s fn.toNat).pending = []) (b : Bool) :
    cfgTakes s fn (.busMaster b) { getF s fn.toNat with bme := b } ∧ cfgTakes s fn (.memSpace b) { getF s fn.toNat with mse := b } ∧
      cfgTakes s fn (.d3hot b) { getF s fn.toNat with d3 := b } ∧ cfgTakes s fn (.msixEnable b) { getF s fn.toNat with msixEn := b } ∧
      cfgTakes s fn (.msixMask b) { getF s fn.toNat with msixMask := b } :=
  ⟨cfgTakes_flush none (congrArg Host.Outcome.next (if_neg on.takes)),
    ⟨_, congrArg Host.Outcome.next (if_neg on.takes), fnTakes_putF s _ _⟩,
    cfgTakes_flush none (congrArg Host.Outcome.next (if_neg on.takes)),
    cfgTakes_flush none (congrArg Host.Outcome.next (if_neg on.takes)),
    cfgTakes_flush none (congrArg Host.Outcome.next (if_neg on.takes))⟩

/-- SR-IOV and the completion timeout are not a VF's. -/
theorem execConfigurationWrite_vf (vf : fn.toNat ≠ 0) (b : Bool) (n : BitVec 16) (v : BitVec 4) :
    execConfigurationWrite fn (.vfEnable b) s = .next s ∧ execConfigurationWrite fn (.numVfs n) s = .next s ∧
      execConfigurationWrite fn (.cplTimeout v) s = .next s :=
  ⟨congrArg Host.Outcome.next ((if_neg on.takes).trans (if_pos vf)),
    congrArg Host.Outcome.next ((if_neg on.takes).trans (if_pos (by simp [vf]))),
    congrArg Host.Outcome.next ((if_neg on.takes).trans (if_pos vf))⟩

section
variable (pf : fn.toNat = 0)
include pf

/-- The PF sets VF Enable. -/
theorem execConfigurationWrite_vfEnable_set :
    execConfigurationWrite fn (.vfEnable true) s = .next { s with pci := { s.pci with vfEnable := true } } :=
  congrArg Host.Outcome.next ((if_neg on.takes).trans ((if_neg (not_not.2 pf)).trans (if_pos rfl)))

/-- The PF clears VF Enable, which removes the VFs. -/
theorem execConfigurationWrite_vfEnable_clear : ∃ t, execConfigurationWrite fn (.vfEnable false) s = .next t ∧
    t.pci.vfEnable = false ∧ getF t 0 = getF s 0 ∧ (∀ k, k ≠ 0 → getF t k = PciFn.init) ∧
      t = { s with pci := { s.pci with vfEnable := false, fns := t.pci.fns } } := by
  have kept : ∀ k, Tbl.get PciFn.init (s.pci.fns.filter fun e => e.1 == 0) k = if (k == 0) = true then getF s k else PciFn.init :=
    fun k => Tbl.get_filter_key PciFn.init s.pci.fns (· == 0) k
  refine ⟨_, congrArg Host.Outcome.next ((if_neg on.takes).trans ((if_neg (not_not.2 pf)).trans (if_neg Bool.false_ne_true))), rfl, ?_, ?_, rfl⟩
  · exact kept 0
  · exact fun k ne => (kept k).trans (if_neg (by simpa using ne))

/-- The PF takes the number of its VFs while VF Enable is clear, up to 63. -/
theorem execConfigurationWrite_numVfs (n : BitVec 16) :
    execConfigurationWrite fn (.numVfs n) s =
      if s.pci.vfEnable = true ∨ 63 < n.toNat then .next s else .next { s with pci := { s.pci with numVfs := n.toNat } } := by
  rw [← apply_ite Host.Outcome.next]
  refine congrArg Host.Outcome.next ((if_neg on.takes).trans ?_)
  simp only [pf, ne_eq, not_true_eq_false, decide_false, Bool.false_or, Bool.or_eq_true, decide_eq_true_eq, gt_iff_lt]

/-- The PF takes its completion timeout. -/
theorem execConfigurationWrite_cplTimeout (v : BitVec 4) :
    execConfigurationWrite fn (.cplTimeout v) s = .next { s with pci := { s.pci with cplTo := v.toNat } } :=
  congrArg Host.Outcome.next ((if_neg on.takes).trans (if_neg (not_not.2 pf)))

end

end

section
variable {s : State} {fn : BitVec 6} {vec : BitVec 12}

/-- A write beyond the MSI-X table, or without memory space, is discarded. -/
theorem execMsixUnmask_discarded (h : barOk s fn.toNat = false ∨ vectorCount fn.toNat ≤ vec.toNat) : execMsixUnmask fn vec s = .next s := by
  unfold execMsixUnmask msixDword
  rcases h with shut | beyond
  · rw [shut, if_neg Bool.false_ne_true]
  · rw [if_pos (by omega : (4 * vec.toNat + 3) / 4 ≥ vectorCount fn.toNat), ite_self]

/-- The function with a vector unmasked, before its pending message is sent. -/
def unmaskedFn (g : PciFn) (v : Nat) : PciFn :=
  { g with vectors := Tbl.put g.vectors (4 * v + 3) (BitVec.ofNat 32 0), unmasked := insertNat g.unmasked v }

/-- Unmasking a vector clears its mask and sends what may now be sent. -/
theorem execMsixUnmask_unmasked (open' : barOk s fn.toNat = true) (inside : vec.toNat < vectorCount fn.toNat) :
    execMsixUnmask fn vec s = .next (flushVecs (putF s fn.toNat (unmaskedFn (getF s fn.toNat) vec.toNat)) fn.toNat) := by
  have vector : (4 * vec.toNat + 3) / 4 = vec.toNat := by omega
  have control : (4 * vec.toNat + 3) % 4 = 3 := by omega
  unfold execMsixUnmask msixDword
  rw [if_pos open', vector, if_neg (by omega : ¬ vec.toNat ≥ vectorCount fn.toNat)]
  dsimp only
  rw [if_pos control]
  rfl

end

/-- Sending vectors changes the pending ones of the function alone. -/
theorem flushVecs_frame (s : State) (f : Nat) :
    getF (flushVecs s f) f = { getF s f with pending := (getF (flushVecs s f) f).pending } ∧
      ∀ k, k ≠ f → getF (flushVecs s f) k = getF s k := by
  cases may : mayMessage s f with
  | false => rw [flushVecs_kept may]; exact ⟨rfl, fun _ _ => rfl⟩
  | true =>
    rw [flushVecs_sent may]
    refine ⟨?_, fun k ne => getF_putF_ne s ne _⟩
    have same := getF_putF_same s f { getF s f with pending := (getF s f).pending.filter (fun v => !(getF s f).unmasked.contains v) }
    exact same.trans (congrArg (fun p => { getF s f with pending := p }) (congrArg PciFn.pending same.symm))

/-- The one pending vector of a function that may send it is sent once it is unmasked. -/
theorem flushVecs_one {s : State} {f v : Nat} (may : mayMessage s f = true) (one : (getF s f).pending = [v]) (unmasked : v ∈ (getF s f).unmasked) :
    (flushVecs s f).out = .msix f v :: s.out ∧ (getF (flushVecs s f) f).pending = [] := by
  have listed : (getF s f).unmasked.contains v = true := List.contains_iff_mem.2 unmasked
  rw [flushVecs_sent may, one]
  refine ⟨?_, (congrArg PciFn.pending (getF_putF_same s f _)).trans ?_⟩
  · simp only [List.filter_cons, listed, if_true, List.filter_nil, List.foldl_cons, List.foldl_nil]
  · simp only [List.filter_cons, listed, Bool.not_true, Bool.false_eq_true, if_false, List.filter_nil]

/-- Without a pending vector, or with a function that may not send, no message goes out. -/
theorem flushVecs_silent {s : State} {f : Nat} (h : (getF s f).pending = [] ∨ mayMessage s f = false) :
    (flushVecs s f).out = s.out ∧ (getF (flushVecs s f) f).pending = (getF s f).pending := by
  rcases h with none | no
  · obtain ⟨same, -, frame⟩ := flushVecs_empty none
    have out := congrArg State.out frame
    exact ⟨out, congrArg PciFn.pending same⟩
  · rw [flushVecs_kept no]
    exact ⟨rfl, rfl⟩

/-- A function whose BARs answer may send its vectors while it is a bus master with MSI-X enabled and unmasked. -/
theorem mayMessage_of_barOk {s : State} {f : Nat} (open' : barOk s f = true) :
    mayMessage s f = ((getF s f).bme && (getF s f).msixEn && !(getF s f).msixMask) := by
  unfold barOk at open'
  simp only [Bool.and_eq_true, Bool.not_eq_true'] at open'
  obtain ⟨⟨⟨up, enabled⟩, -⟩, awake⟩ := open'
  unfold mayMessage
  rw [up, enabled, awake, Bool.true_and, Bool.true_and, Bool.not_false, Bool.and_true]

/-- Changing a function's vectors changes nothing else of whether it may send them. -/
theorem mayMessage_unmaskedFn {s : State} {f : Nat} (v : Nat) (open' : barOk s f = true) :
    mayMessage (putF s f (unmaskedFn (getF s f) v)) f = ((getF s f).bme && (getF s f).msixEn && !(getF s f).msixMask) := by
  rw [← mayMessage_of_barOk open']
  unfold mayMessage
  rw [getF_putF_same]
  rfl

/-- Settles O60: each window, register and field is one case of a write, and a write that waits changes nothing else. -/
theorem hostWritesTakeEffect : Obligations.HostWritesTakeEffect := by
  unfold Obligations.HostWritesTakeEffect
  refine ⟨fun s open' => ?_, fun s fn bar offset data ep => ?_, fun s fn b n v vec => ?_⟩
  · have create (now : q0Now s) : exec .q0Create s = .next (q0Create s) := congrArg Host.Outcome.next ((q0Ctl_now open' (.inl rfl) now).trans (if_pos rfl))
    have enable (now : q0Now s) : exec .q0Reenable s = .next (q0Enable s) := congrArg Host.Outcome.next ((q0Ctl_now open' (.inr rfl) now).trans (if_neg (by decide)))
    refine ⟨fun later => ⟨congrArg Host.Outcome.next (q0Ctl_later open' (.inl rfl) later), congrArg Host.Outcome.next (q0Ctl_later open' (.inr rfl) later)⟩,
      fun now held => ?_, fun now run => ?_⟩
    · obtain ⟨created, enabled⟩ := q0_unreleased held
      exact ⟨(create now).trans (congrArg _ created), (enable now).trans (congrArg _ enabled)⟩
    rw [create now, enable now]
    refine ⟨fun misfit => congrArg _ (q0Create_misfit run misfit), fun fits busy => congrArg _ (q0Create_busy run fits busy),
      fun fits idle off room => ⟨_, rfl, ?_⟩, fun absent => congrArg _ (q0Enable_absent run absent),
      fun valid on stopped empty bad c => ⟨_, rfl, ?_⟩, fun valid on stopped good empty => congrArg _ ?_⟩
    · exact q0Create_created run fits idle off room
    · exact q0Enable_corrupt run valid on stopped empty bad c
    · exact q0Enable_opened run valid on stopped empty good
  · refine ⟨fun shut => execBarWrite_shut shut ep, fun open' some' => ⟨fun c => ?_, ?_, ?_, ?_, ?_, ?_, ?_⟩⟩
    · exact execBarWrite_poisoned open' some' c
    · rintro rfl low first dword run _ _ _ ne valid own high fits
      exact execBarWrite_tail open' low dword run ⟨ne, valid, own⟩ first ⟨high, fits⟩
    · rintro rfl low second dword run _ _ _ ne valid own fits
      exact execBarWrite_head open' low dword run ⟨ne, valid, own⟩ second fits
    · rintro rfl reserved
      exact execBarWrite_bar0_reserved open' some' reserved
    · rintro rfl reserved
      exact execBarWrite_bar2_reserved open' some' reserved
    · rintro rfl pf low high
      refine ⟨_, (execBarWrite_bar2 open' some').trans ((if_neg (not_not.2 pf)).trans (if_pos ⟨low, high⟩)), rfl, fun k lt => ?_⟩
      exact getD_putImage s.pci.q0Image _ data lt
    · exact fun ne0 ne2 => execBarWrite_elsewhere open' some' ne0 ne2
  · refine ⟨fun deaf c => execConfigurationWrite_deaf deaf c, fun on none => ?_, fun on vf => ?_, fun on pf => ?_,
      fun out => execMsixUnmask_discarded out, fun open' inside => ?_⟩
    · exact cfgTakes_fields on none b
    · exact execConfigurationWrite_vf on vf b n v
    · have count := execConfigurationWrite_numVfs on pf n
      refine ⟨execConfigurationWrite_vfEnable_set on pf, execConfigurationWrite_cplTimeout on pf v, fun clear small => ?_, fun refused => ?_,
        execConfigurationWrite_vfEnable_clear on pf⟩
      · exact count.trans (if_neg (by rw [clear]; simpa using small))
      · exact count.trans (if_pos refused)
    · have put := getF_putF_same s fn.toNat (unmaskedFn (getF s fn.toNat) vec.toNat)
      have may := mayMessage_unmaskedFn vec.toNat open'
      obtain ⟨same, others⟩ := flushVecs_frame (putF s fn.toNat (unmaskedFn (getF s fn.toNat) vec.toNat)) fn.toNat
      refine ⟨_, execMsixUnmask_unmasked open' inside, ?_, fun k ne => (others k ne).trans (getF_putF_ne s ne _), ?_, ?_, flushVecs_mem ..⟩
      · rw [same, put]
        rfl
      · intro one master on plain
        refine flushVecs_one (by rw [may, master, on, plain]; rfl) (by rw [put]; exact one) ?_
        rw [put]
        exact (mem_insertNat ..).2 (.inl rfl)
      · intro silent
        rw [show (getF s fn.toNat).pending = (getF (putF s fn.toNat (unmaskedFn (getF s fn.toNat) vec.toNat)) fn.toNat).pending by rw [put]; rfl] at silent ⊢
        refine flushVecs_silent (silent.imp_right fun no => ?_)
        rw [may]
        rcases no with no | no | no <;> simp [no]

end Sys2Proof.Machine
end

section
/-! ### Tables mapped by number, and a created context (07 R275, 24 R793) -/

namespace Sys2Proof

section
variable {α : Type} (d : α) (t : Tbl α) (p : Nat → Bool) (f : Nat × α → α) (k : Nat)

/-- A number that a map passes over reads as before. -/
theorem Tbl.get_map_kept (h : p k = false) : Tbl.get d (t.map fun e => if p e.1 then (e.1, f e) else e) k = Tbl.get d t k := by
  induction t with
  | nil => rfl
  | cons e t ih =>
    obtain ⟨j, v⟩ := e
    rw [List.map_cons]
    by_cases here : k = j
    · subst here
      simp [Tbl.get, h]
    · by_cases hit : p j <;> simp [Tbl.get, here, hit, ih]

/-- A number that a map changes reads as the map's value of it, or is not listed. -/
theorem Tbl.get_map_changed (h : p k = true) :
    Tbl.get d (t.map fun e => if p e.1 then (e.1, f e) else e) k = d ∨
      ∃ v, Tbl.get d (t.map fun e => if p e.1 then (e.1, f e) else e) k = f (k, v) := by
  induction t with
  | nil => exact .inl rfl
  | cons e t ih =>
    obtain ⟨j, v⟩ := e
    rw [List.map_cons]
    by_cases here : k = j
    · subst here
      exact .inr ⟨v, by simp [Tbl.get, h]⟩
    · by_cases hit : p j <;> simpa [Tbl.get, here, hit] using ih

end

namespace Machine

/-- A context just created: its settings at their reset values, and no pair, collective or Espalier heads (24 R793). -/
def ctxMade (s : State) (c : Nat) (tag : Word32) (fn : Nat) : State :=
  let x := putC s c { Ctx.free with inUse := true, jobTag := tag, fn := fn, energy := ⟨s.gtc, false, false⟩ }
  { x with
    sets := { s.sets with regs := s.sets.regs.map (fun e => if ctxPlace c e.1 then (e.1, resetCell x e) else e) }
    pairs := Tbl.del s.pairs c
    col := { s.col with heads := Tbl.del s.col.heads c, counts := Tbl.del s.col.counts c }
    esp := { s.esp with heads := Tbl.del s.esp.heads c } }

/-- While Espalier is not commanded there is no context to bind or to leave. -/
theorem settleEsp_off {s : State} (off : espOff s) : settleEsp s false = s := by
  obtain ⟨free, disabled⟩ := off
  have bit : (liveVal s 11 1 0).toNat.testBit 0 = false := disabled
  unfold settleEsp
  dsimp only
  rw [bit]
  simp only [Bool.false_eq_true, false_and, if_false, free, if_true, Bool.and_false, Bool.false_and]

/-- What the parts of a setting's place are. -/
theorem setPlace_parts {blk idx c : Nat} (hi : idx < 4096) (hc : c < 256) :
    setPlace blk idx c % 256 = c ∧ setPlace blk idx c / 0x100000 = blk ∧ setPlace blk idx c / 0x100 % 0x1000 = idx := by
  unfold setPlace
  omega

/-- A setting that is not per-context stays as it is when a context is created. -/
theorem setCell_ctxMade_other {s : State} {c : Nat} {tag : Word32} {fn blk idx k : Nat} (hi : idx < 4096) (hk : k < 256)
    (other : (setRow blk idx).elim false (·.perCtx) = false) : setCell (ctxMade s c tag fn) blk idx k = setCell s blk idx k := by
  obtain ⟨-, block, index⟩ := setPlace_parts (blk := blk) hi hk
  exact Tbl.get_map_kept _ _ _ _ _ (by unfold ctxPlace; rw [block, index, other, Bool.and_false])

/-- A per-context setting is at its reset value when its context is created. -/
theorem setCell_ctxMade {s : State} {c : Nat} (tag : Word32) (fn : Nat) {blk idx : Nat} {r : SetRow} (hi : idx < 4096) (hc : c < 256)
    (row : setRow blk idx = some r) (per : r.perCtx = true) : (setCell (ctxMade s c tag fn) blk idx c).val = setReset s blk idx := by
  obtain ⟨context, block, index⟩ := setPlace_parts (blk := blk) hi hc
  have hit : ctxPlace c (setPlace blk idx c) = true := by
    unfold ctxPlace
    rw [context, block, index, row, beq_self_eq_true, Bool.true_and]
    exact per
  rcases Tbl.get_map_changed ⟨setReset s blk idx, setReset s blk idx, 0⟩ s.sets.regs (ctxPlace c)
    (resetCell (putC s c { Ctx.free with inUse := true, jobTag := tag, fn := fn, energy := ⟨s.gtc, false, false⟩ })) _ hit with new | ⟨v, new⟩
  · exact congrArg SetCell.val new
  · refine (congrArg SetCell.val new).trans ?_
    unfold resetCell
    dsimp only
    rw [block, index]
    rfl

/-- Creating a context leaves ESP.CTL and what is bound as they are. -/
theorem espOff_ctxMade {s : State} (off : espOff s) (c : Nat) (tag : Word32) (fn : Nat) : espOff (jot (ctxMade s c tag fn)) := by
  obtain ⟨free, disabled⟩ := off
  have same : liveVal (jot (ctxMade s c tag fn)) 11 1 0 = liveVal s 11 1 0 := by
    have soft : isHd 11 1 = false := by decide
    rw [jot_frame]
    unfold liveVal
    rw [soft]
    exact congrArg SetCell.val (setCell_ctxMade_other (s := s) (c := c) (by decide) (by decide) (by decide))
  refine ⟨?_, by rw [same]; exact disabled⟩
  rw [jot_frame]
  exact free

/-- With Espalier off, a context is created and journalled. -/
theorem newCtx_off {s : State} (off : espOff s) (c : Nat) (tag : Word32) (fn : Nat) : newCtx s c tag fn = jot (ctxMade s c tag fn) :=
  settleEsp_off (espOff_ctxMade off c tag fn)

/-- What a created context reads as, and what its creation leaves. -/
theorem newCtx_spec {s : State} (off : espOff s) {c : Nat} (hc : c < 256) (tag : Word32) (fn : Nat) :
    let t := newCtx s c tag fn
    getC t c = { Ctx.free with inUse := true, jobTag := tag, fn := fn, energy := ⟨s.gtc, false, false⟩ } ∧
      (∀ k, k ≠ c → getC t k = getC s k) ∧
      (∀ blk idx r, setRow blk idx = some r → idx < 4096 → r.perCtx = true → r.cls ≠ .hd → liveVal t blk idx c = setReset s blk idx) ∧
      t.mem = s.mem ∧ t.queues = s.queues := by
  intro t
  have made : t = jot (ctxMade s c tag fn) := newCtx_off off c tag fn
  rw [made, jot_frame]
  refine ⟨getC_putC_same s c _, fun k ne => getC_putC_ne s ne _, fun blk idx r row hi per soft => ?_, rfl, rfl⟩
  have notHd : isHd blk idx = false := by
    unfold isHd
    rw [row]
    exact decide_eq_false soft
  unfold liveVal
  rw [notHd]
  exact setCell_ctxMade tag fn hi hc row per

end Machine
end Sys2Proof
end

section
/-! ### Controlling queues (07 R271, R275, 06 R198, R236) -/
namespace Sys2Proof.Machine

/-- What an entry that ended without running leaves of the queues. -/
theorem headEnded_reads (s : State) (q : Nat) (e : CmdEntry) (l : List CmdEntry) (st : Nat) :
    getQ (headEnded s q e l st) q = { getQ s q with entries := l, pendRec := some (CplRec.unrun s e st) } ∧
      (∀ k, k ≠ q → getQ (headEnded s q e l st) k = getQ s k) ∧ queuesOnly s (headEnded s q e l st) := by
  unfold headEnded
  refine ⟨?_, fun k ne => ?_, queuesOnly_putQ s q _⟩
  · rw [getQ_jot, getQ_putQ_same]
  · rw [getQ_jot, getQ_putQ_ne s ne]

/-- Stopping a queue leaves it enabled or disabled as it was, and the other queues as they were. -/
theorem stopQueue_reads (s : State) (q : Nat) :
    (getQ (stopQueue s q) q).enabled = (getQ s q).enabled ∧ (∀ k, k ≠ q → getQ (stopQueue s q) k = getQ s k) ∧ queuesOnly s (stopQueue s q) := by
  by_cases on : (getQ s q).enabled = true
  · rw [stopQueue_enabled on]
    refine ⟨?_, fun k ne => ?_, queuesOnly_putQ s q _⟩
    · rw [getQ_jot, getQ_putQ_same]
    · rw [getQ_jot, getQ_putQ_ne s ne]
  · rw [show stopQueue s q = s from if_neg on]
    exact ⟨rfl, fun _ _ => rfl, rfl⟩

/-- Settling a queue leaves it enabled or disabled as it was, and the other queues as they were. -/
theorem settleQueue_reads {s : State} (ring : ringOff s) (q : Nat) :
    (getQ (settleQueue s q) q).enabled = (getQ s q).enabled ∧ ∀ k, k ≠ q → getQ (settleQueue s q) k = getQ s k := by
  rcases settleQueue_cases s q with still | ⟨e, l, -, flushed | ⟨-, -, -, -, failed | ⟨pl, stops⟩⟩⟩
  · rw [still]
    exact ⟨rfl, fun _ _ => rfl⟩
  · obtain ⟨same, others, -⟩ := headEnded_reads s q e l stFlushed
    rw [flushed, same]
    exact ⟨rfl, others⟩
  · obtain ⟨same, others, -⟩ := headEnded_reads s q e l e.bad
    rw [failed, same]
    exact ⟨rfl, others⟩
  · obtain ⟨same, others, only⟩ := headEnded_reads s q e l e.bad
    obtain ⟨same', others', -⟩ := stopQueue_reads (headEnded s q e l e.bad) q
    have ring' := queuesOnly_ringOff (queuesOnly_trans only (stopQueue_reads (headEnded s q e l e.bad) q).2.2) ring
    have reads : ∀ k, getQ (settleQueue s q) k = getQ (stopQueue (headEnded s q e l e.bad) q) k := fun k => by
      rw [stops]
      exact recordsOnly_keeps (record_recordsOnly ring' ..) (fun x => getQ x k) fun _ _ _ => rfl
    refine ⟨?_, fun k ne => (reads k).trans ((others' k ne).trans (others k ne))⟩
    rw [reads, same', same]

/-- Settling a queue that runs nothing new, because it is stopped or because all its entries are flushed, makes no record. -/
theorem settleQueue_quiet {s : State} {q : Nat} (h : (getQ s q).stopped = true ∨ ∀ e ∈ (getQ s q).entries, e.bad = stFlushed) :
    let t := settleQueue s q
    (getQ t q).enabled = (getQ s q).enabled ∧ (getQ t q).stopped = (getQ s q).stopped ∧ (∀ e ∈ (getQ t q).entries, e ∈ (getQ s q).entries) ∧
      (∀ k, k ≠ q → getQ t k = getQ s k) ∧ queuesOnly s t := by
  intro t
  rcases settleQueue_cases s q with still | ⟨e, l, head, flushed | ⟨-, other, -, go, -⟩⟩
  · rw [show t = s from still]
    exact ⟨rfl, rfl, fun _ h => h, fun _ _ => rfl, rfl⟩
  · obtain ⟨same, others, only⟩ := headEnded_reads s q e l stFlushed
    rw [show t = headEnded s q e l stFlushed from flushed, same, head]
    exact ⟨rfl, rfl, fun _ h => List.mem_cons_of_mem _ h, others, only⟩
  · rcases h with stopped | all
    · rw [go] at stopped
      cases stopped
    · exact absurd (all e (by rw [head]; exact List.mem_cons_self)) other

end Sys2Proof.Machine
end

section
/-! ### CTXSEL, CTXNEW, QCREATE and QCTL (07 R257, R271, R275) -/
namespace Sys2Proof.Machine

section
variable {s : State} {slot : BitVec 6} {p : Prog} (h : issues s slot p)
include h

/-- An instruction on the selected context without one, or with one that is not allocated, or inside a raised fence, ends its program. -/
theorem onCtx_refused (f : Prog → Nat → State) :
    (256 ≤ p.sel → onCtx s slot f = ended s slot p 0x0002) ∧
      (p.sel < 256 → isFenced s p.sel = true → onCtx s slot f = ended s slot p 0x000B) ∧
      (p.sel < 256 → isFenced s p.sel = false → (getC s p.sel).inUse = false → onCtx s slot f = ended s slot p 0x0002) := by
  unfold onCtx
  rw [onProg_issues h]
  refine ⟨fun none => if_pos none, fun sel fenced => ?_, fun sel free absent => ?_⟩
  · rw [if_neg (by omega), if_pos fenced]
    rfl
  · rw [if_neg (by omega), if_neg (by rw [free]; decide), if_pos (by rw [absent]; rfl)]
    rfl

section
variable (priv : 1 ≤ p.priv)
include priv

/-- A QCTL on a queue that exists. -/
theorem onQueue_existing {ra : BitVec 5} (named : (p.reg ra).toNat ≤ 1023) (valid : (getQ s (p.reg ra).toNat).valid = true)
    (f : Prog → Nat → Queue → State) : onQueue s slot ra f = f p (p.reg ra).toNat (getQ s (p.reg ra).toNat) := by
  unfold onQueue
  rw [onPriv_issues h priv]
  dsimp only
  rw [if_neg (by rw [valid]; simpa using named)]

/-- CTXSEL selects a context number, or none. -/
theorem execCtxsel_selected (next : hasNext p) {ra : BitVec 5} (names : (p.reg ra).toNat % 65536 < 256 ∨ (p.reg ra).toNat % 65536 = 0xFFFF) :
    execCtxsel slot ra s = .next (putP s slot.toNat (onward { p with sel := (p.reg ra).toNat % 65536 })) := by
  unfold execCtxsel
  rw [onPriv_issues h priv]
  dsimp only
  rw [if_pos names, retire_next s slot (p := { p with sel := (p.reg ra).toNat % 65536 }) next]

/-- CTXSEL of another value ends the program. -/
theorem execCtxsel_malformed {ra : BitVec 5} (high : 256 ≤ (p.reg ra).toNat % 65536) (ne : (p.reg ra).toNat % 65536 ≠ 0xFFFF) :
    execCtxsel slot ra s = .next (ended s slot p 0x0002) := by
  unfold execCtxsel
  rw [onPriv_issues h priv]
  dsimp only
  rw [if_neg (by omega)]
  rfl

/-- What CTXNEW answers for a context number and a function that exist. -/
theorem execCtxnew_eq (next : hasNext p) {rd ra rb : BitVec 5} {imm : Word32} (ctx : (p.reg ra).toNat ≤ 255) (fn : imm.toNat ≤ 63) :
    execCtxnew slot rd ra rb imm s =
      if (getC s (p.reg ra).toNat).inUse = true then .next (retired s slot p rd 1)
      else if partDefined s (partOf (p.reg ra).toNat) = false then .next (retired s slot p rd 2)
      else if fnEnabled s imm.toNat = false then .next (retired s slot p rd 3)
      else .next (retired (newCtx s (p.reg ra).toNat ((p.reg rb).setWidth 32) imm.toNat) slot p rd 0) := by
  unfold execCtxnew
  rw [onPriv_issues h priv]
  dsimp only
  rw [if_neg (by omega)]
  simp only [retireRd_next _ _ next, Bool.not_eq_true', ← apply_ite Host.Outcome.next]
  rfl

/-- QCREATE of a queue number that software may create. -/
theorem execQcreate_read {s' : State} {rd ra rb : BitVec 5} {env : Env} {b : List Byte} (low : 1 ≤ (p.reg ra).toNat)
    (high : (p.reg ra).toNat ≤ 1022) (ok : progRead s p (p.reg rb) 48 8 env = (.ok b, s')) (next : hasNext p) :
    execQcreate slot rd ra rb env s =
      if (getQ s' (p.reg ra).toNat).valid = true then .next (retired s' slot p rd 1)
      else if imageOk s' b = false then .next (ended s' slot p 0x0002)
      else .next (retired (createQueue s' (p.reg ra).toNat b false) slot p rd 0) := by
  unfold execQcreate
  rw [onPriv_issues h priv]
  dsimp only
  rw [if_neg (by omega), withOper_read ok]
  simp only [retireRd_next _ _ next, Bool.not_eq_true', ← apply_ite Host.Outcome.next]
  rfl

end

end

/-- A created queue is as its image describes it, with a CRC of its own. -/
theorem createQueue_reads (s : State) (q : Nat) (b : List Byte) (on : Bool) :
    getQ (createQueue s q b on) q = { imageQueue b with enabled := on, crc := (getQ (createQueue s q b on) q).crc } ∧
      (∀ k, k ≠ q → getQ (createQueue s q b on) k = getQ s k) ∧ queuesOnly s (createQueue s q b on) := by
  unfold createQueue
  refine ⟨?_, fun k ne => ?_, queuesOnly_putQ s q _⟩
  · rw [getQ_jot, getQ_putQ_same]
  · rw [getQ_jot, getQ_putQ_ne s ne]

/-- A destroyed queue reads as absent. -/
theorem destroyQueue_reads (s : State) (q : Nat) :
    getQ (destroyQueue s q) q = Queue.absent ∧ (∀ k, k ≠ q → getQ (destroyQueue s q) k = getQ s k) ∧ queuesOnly s (destroyQueue s q) := by
  unfold destroyQueue
  refine ⟨?_, fun k ne => ?_, ?_⟩
  · rw [getQ_jot]
    exact getQ_putQ_same s q _
  · rw [getQ_jot]
    exact getQ_putQ_ne s ne _
  · unfold queuesOnly
    rw [jot_frame]
    rfl

/-- A disabled queue holds flushed entries alone. -/
theorem disableQueue_reads (s : State) (q : Nat) :
    (getQ (disableQueue s q) q).enabled = false ∧ (∀ e ∈ (getQ (disableQueue s q) q).entries, e.bad = stFlushed) ∧
      (∀ k, k ≠ q → getQ (disableQueue s q) k = getQ s k) ∧ queuesOnly s (disableQueue s q) := by
  have flushed : ∀ e ∈ (getQ s q).entries.map (fun e => { e with bad := stFlushed }), e.bad = stFlushed := by
    simp only [List.mem_map]
    rintro _ ⟨e, -, rfl⟩
    rfl
  have same : getQ (jot (putQ s q { getQ s q with
      enabled := false, stopped := false, entries := (getQ s q).entries.map fun e => { e with bad := stFlushed } })) q = _ :=
    (getQ_jot ..).trans (getQ_putQ_same s q _)
  obtain ⟨enabled, -, entries, others, only⟩ := settleQueue_quiet (s := jot (putQ s q { getQ s q with
      enabled := false, stopped := false, entries := (getQ s q).entries.map fun e => { e with bad := stFlushed } })) (q := q)
    (.inr (by rw [same]; exact flushed))
  rw [same] at enabled entries
  refine ⟨enabled, fun e mem => flushed e (entries e mem), fun k ne => (others k ne).trans ?_, queuesOnly_trans (queuesOnly_putQ s q _) only⟩
  rw [getQ_jot, getQ_putQ_ne s ne]

/-- An enabled queue, as it is opened. -/
def enabledQueue (d : Queue) : Queue := { d with enabled := true, stopped := false, ctlAfter := none }

/-- A queue whose descriptor fails its CRC is stopped when it is enabled. -/
theorem enableQueue_bad {s : State} {q : Nat} (bad : badDescriptor s q = true) (c : calm s) :
    (getQ (enableQueue s q) q).stopped = true ∧ (∀ k, k ≠ q → getQ (enableQueue s q) k = getQ s k) ∧ inPipeline (enableQueue s q) 0xD022 2 := by
  obtain ⟨same, others, event, -⟩ := openQueue_bad bad c (enabledQueue (getQ s q))
  obtain ⟨-, stopped, -, others', only⟩ := settleQueue_quiet (s := openQueue s q (enabledQueue (getQ s q))) (q := q) (.inl (by rw [same]))
  refine ⟨?_, fun k ne => (others' k ne).trans (others k ne), ?_⟩
  · exact stopped.trans (by rw [same])
  · unfold inPipeline at *
    rwa [show (enableQueue s q).err = _ from queuesOnly_keeps only State.err fun _ _ => rfl]

/-- A queue whose descriptor keeps its CRC is enabled. -/
theorem enableQueue_good {s : State} {q : Nat} (good : badDescriptor s q = false) (ring : ringOff s) :
    (getQ (enableQueue s q) q).enabled = true ∧ ((getQ s q).entries = [] → (getQ (enableQueue s q) q).stopped = false) ∧
      ∀ k, k ≠ q → getQ (enableQueue s q) k = getQ s k := by
  have opened : enableQueue s q = settleQueue (jot (putQ s q (enabledQueue (getQ s q)))) q := congrArg (settleQueue · q) (openQueue_good good _)
  have same : getQ (jot (putQ s q (enabledQueue (getQ s q)))) q = enabledQueue (getQ s q) := by rw [getQ_jot, getQ_putQ_same]
  obtain ⟨enabled, others⟩ := settleQueue_reads (queuesOnly_ringOff (queuesOnly_putQ s q (enabledQueue (getQ s q))) ring) q
  rw [opened]
  refine ⟨enabled.trans (by rw [same]; rfl), fun empty => ?_, fun k ne => (others k ne).trans ?_⟩
  · rw [settleQueue_still (.inr (.inr (.inr (by rw [same]; exact empty)))), same]
    rfl
  · rw [getQ_jot, getQ_putQ_ne s ne]

/-- An instruction that changed queues alone has retired. -/
theorem queuesOnly_retired {s x : State} (only : queuesOnly s x) (slot : BitVec 6) (p : Prog) (rd : BitVec 5) (v : Word64) :
    let t := retired x slot p rd v
    t = { s with queues := t.queues, progs := t.progs, trd := t.trd } := by
  unfold queuesOnly at only
  unfold retired
  rw [only]
  rfl

section
variable {s : State} {slot : BitVec 6} {p : Prog} (h : issues s slot p) (next : hasNext p) (priv : 1 ≤ p.priv) {ra : BitVec 5}
  (named : (p.reg ra).toNat ≤ 1023) (valid : (getQ s (p.reg ra).toNat).valid = true) (rd : BitVec 5)
include h next priv named valid

/-- QCTL enable. -/
theorem execQctlEnable_existing : execQctlEnable slot rd ra s = .next (retired (enableQueue s (p.reg ra).toNat) slot p rd 0) := by
  unfold execQctlEnable
  rw [onQueue_existing h priv named valid, retireRd_next _ _ next]
  rfl

/-- QCTL disable. -/
theorem execQctlDisable_existing :
    execQctlDisable slot rd ra s =
      if (p.reg ra).toNat = 0 ∨ (p.reg ra).toNat = 1023 then .next (retired s slot p rd 2)
      else if (p.reg ra).toNat = p.queue then
        .next (retired (putQ s (p.reg ra).toNat { getQ s (p.reg ra).toNat with ctlAfter := some 1 }) slot p rd 0)
      else .next (retired (disableQueue s (p.reg ra).toNat) slot p rd 0) := by
  unfold execQctlDisable
  rw [onQueue_existing h priv named valid]
  simp only [retireRd_next _ _ next, ← apply_ite Host.Outcome.next]
  rfl

/-- QCTL stop, of another queue that is enabled. -/
theorem execQctlStop_other (other : (p.reg ra).toNat ≠ p.queue) (on : (getQ s (p.reg ra).toNat).enabled = true) :
    execQctlStop slot rd ra s =
      .next (retired (jot (putQ s (p.reg ra).toNat { getQ s (p.reg ra).toNat with stopped := true })) slot p rd 0) := by
  unfold execQctlStop
  rw [onQueue_existing h priv named valid]
  dsimp only
  rw [if_neg other, if_pos on, stopQueue_enabled on, retireRd_next _ _ next]
  rfl

/-- QCTL destroy, of a queue that is not the program's own. -/
theorem execQctlDestroy_existing (other : (p.reg ra).toNat = 0 ∨ (p.reg ra).toNat = 1023 ∨ (p.reg ra).toNat ≠ p.queue) :
    execQctlDestroy slot rd ra s =
      if (p.reg ra).toNat = 0 ∨ (p.reg ra).toNat = 1023 then .next (retired s slot p rd 2)
      else if (getQ s (p.reg ra).toNat).enabled = true ∨ (getQ s (p.reg ra).toNat).running ≠ none ∨ (getQ s (p.reg ra).toNat).pendRec ≠ none then
        .next (retired s slot p rd 1)
      else .next (retired (destroyQueue s (p.reg ra).toNat) slot p rd 0) := by
  unfold execQctlDestroy
  rw [onQueue_existing h priv named valid]
  by_cases fixed : (p.reg ra).toNat = 0 ∨ (p.reg ra).toNat = 1023
  · rw [if_pos fixed, if_pos fixed, retireRd_next _ _ next]
    rfl
  · have foreign : (p.reg ra).toNat ≠ p.queue := by tauto
    simp only [if_neg fixed, if_neg foreign, retireRd_next _ _ next, ← apply_ite Host.Outcome.next, Option.isSome_iff_ne_none]
    rfl

end

/-- The instructions on the selected context. -/
theorem exec_onCtx (s : State) {slot : BitVec 6} {rd ra rb : BitVec 5} {imm : Word32} {env : Env} {i : Instr}
    (h : i ∈ [Instr.gseed slot ra rb, .launch slot rd ra env, .sctr slot rd, .sset slot rd ra, .syadd slot rd ra rb,
      .syset slot ra rb, .syrd slot rd ra, .wait slot rd ra rb imm, .acct slot 0]) : ∃ f, exec i s = .next (onCtx s slot f) := by
  simp only [List.mem_cons, List.not_mem_nil, or_false] at h
  rcases h with rfl | rfl | rfl | rfl | rfl | rfl | rfl | rfl | rfl
  case inr.inr.inr.inr.inr.inr.inr.inr => exact ⟨_, congrArg Host.Outcome.next ((if_neg (by decide)).trans (if_pos rfl))⟩
  all_goals exact ⟨_, rfl⟩

/-- Settles O18: contexts by what their creation makes of each setting, queues by what each control leaves of the queues. -/
theorem contextsAndQueuesAreCreated : Obligations.ContextsAndQueuesAreCreated := by
  unfold Obligations.ContextsAndQueuesAreCreated
  refine ⟨fun s slot rd ra rb imm p h next => ⟨fun priv => ⟨execCtxsel_selected h priv next, execCtxsel_malformed h priv, fun ctx fn => ?_⟩, ?_⟩,
    fun s s' slot rd ra rb env b p h next priv => ⟨fun low high ok => ?_, fun named valid => ⟨fun bad c => ?_, fun good ring => ?_, ?_, ?_, ?_, ?_, ?_, ?_⟩⟩,
    fun s slot rd ra rb imm env p h i hi => ?_⟩
  · have answer := execCtxnew_eq (rd := rd) (rb := rb) h priv next ctx fn
    refine ⟨fun used => answer.trans (if_pos used), fun unused undefined => ?_, fun unused defined off => ?_, fun unused defined on off => ?_⟩
    · exact answer.trans ((if_neg (Bool.eq_false_iff.1 unused)).trans (if_pos undefined))
    · exact answer.trans ((if_neg (Bool.eq_false_iff.1 unused)).trans ((if_neg (by rw [defined]; decide)).trans (if_pos off)))
    · obtain ⟨made, others, settings, mem, queues⟩ := newCtx_spec off (Nat.lt_succ_of_le ctx) ((p.reg rb).setWidth 32) imm.toNat
      exact ⟨_, answer.trans ((if_neg (Bool.eq_false_iff.1 unused)).trans ((if_neg (by rw [defined]; decide)).trans (if_neg (by rw [on]; decide)))),
        getP_putP_same .., made, others, settings, mem, queues⟩
  · intro sel free use
    exact congrArg Host.Outcome.next ((onCtx_issues h sel free use _).trans (retire_next _ slot next))
  · have answer := execQcreate_read (rd := rd) h priv low high ok next
    refine ⟨fun exists' => answer.trans (if_pos exists'), fun absent misfit => ?_, fun absent fits => ?_⟩
    · exact answer.trans ((if_neg (Bool.eq_false_iff.1 absent)).trans (if_pos misfit))
    · obtain ⟨made, others, only⟩ := createQueue_reads s' (p.reg ra).toNat b false
      exact ⟨_, answer.trans ((if_neg (Bool.eq_false_iff.1 absent)).trans (if_neg (by rw [fits]; decide))), getP_putP_same .., made, others,
        queuesOnly_retired only ..⟩
  · obtain ⟨stopped, others, event⟩ := enableQueue_bad bad c
    exact ⟨_, execQctlEnable_existing h next priv named valid rd, getP_putP_same .., stopped, event, others⟩
  · obtain ⟨enabled, opened, others⟩ := enableQueue_good good ring
    exact ⟨_, execQctlEnable_existing h next priv named valid rd, getP_putP_same .., enabled, opened, others⟩
  · intro fixed
    exact ⟨(execQctlDisable_existing h next priv named valid rd).trans (if_pos fixed),
      (execQctlDestroy_existing h next priv named valid rd (by tauto)).trans (if_pos fixed)⟩
  · intro ne0 ne1023 own
    exact (execQctlDisable_existing h next priv named valid rd).trans ((if_neg (by tauto)).trans (if_pos own))
  · intro ne0 ne1023 other
    obtain ⟨off, flushed, others, only⟩ := disableQueue_reads s (p.reg ra).toNat
    exact ⟨_, (execQctlDisable_existing h next priv named valid rd).trans ((if_neg (by tauto)).trans (if_neg other)), getP_putP_same .., off,
      flushed, others, queuesOnly_retired only ..⟩
  · intro other on
    refine ⟨_, execQctlStop_other h next priv named valid rd other on, getP_putP_same .., ?_, fun k ne => ?_,
      queuesOnly_retired (queuesOnly_putQ ..) ..⟩
    · exact (getQ_jot ..).trans (getQ_putQ_same ..)
    · exact (getQ_jot ..).trans (getQ_putQ_ne s ne _)
  · intro ne0 ne1023 other busy
    exact (execQctlDestroy_existing h next priv named valid rd (.inr (.inr other))).trans ((if_neg (by tauto)).trans (if_pos busy))
  · intro ne0 ne1023 other off idle noRec
    obtain ⟨gone, others, only⟩ := destroyQueue_reads s (p.reg ra).toNat
    exact ⟨_, (execQctlDestroy_existing h next priv named valid rd (.inr (.inr other))).trans
        ((if_neg (by tauto)).trans (if_neg (by rw [off, idle, noRec]; simp))), getP_putP_same .., gone, others, queuesOnly_retired only ..⟩
  · obtain ⟨f, run⟩ := exec_onCtx s hi
    rw [run]
    obtain ⟨unselected, fenced, unused⟩ := onCtx_refused h f
    exact ⟨fun none => congrArg _ (unselected none), fun sel inside => congrArg _ (fenced sel inside), fun sel free absent => congrArg _ (unused sel free absent)⟩

end Sys2Proof.Machine
end

section
/-! ### Treadle faults and recovery (06 R194, R195, R218, R221, R222, R226) -/
namespace Sys2Proof.Machine

/-- An event accepted into an empty pipeline with the host ring off. -/
theorem accept_accepted_empty {s : State} (ring : ringOff s) (empty : pipelineEmpty s) (code sev cls idx ctx dom : Nat) (pl : List Byte) :
    accepted s (accept s code sev cls idx ctx dom pl) code sev := by
  obtain ⟨frame, -, -, held⟩ := accept_empty ring empty code sev cls idx ctx dom pl
  exact ⟨held, frame⟩

/-- Fewer than three failed recoveries leave the standby absent. -/
theorem recoveryFailed_alive (t : Trd) {n : Nat} (few : n < 3) : recoveryFailed t n = { t with standby := 0, attempts := n } := by
  have count : Nat.min 3 n = n := Nat.min_eq_right (by omega)
  unfold recoveryFailed
  rw [count, decide_eq_false (by omega : ¬ n ≥ 3)]
  simp only [Bool.false_and, Bool.or_false, Bool.false_eq_true, if_false]

/-- The state with the record of the cause of a fault, if it has one. -/
def faultRecorded (s : State) (t : Treadle) : Option Nat → State
  | some c => record s c 4 0x0B (b2n (decide (t = .b))) (trdOwn s)
  | none => s

theorem faultRecorded_recordsOnly {s : State} (ring : ringOff s) (t : Treadle) (code : Option Nat) :
    recordsOnly s (faultRecorded s t code) ∧ ringOff (faultRecorded s t code) := by
  cases code with
  | some c => exact ⟨record_recordsOnly ring .., record_ringOff ring ..⟩
  | none => exact ⟨rfl, ring⟩

theorem faultRecorded_pipelineEmpty {s : State} (ring : ringOff s) (empty : pipelineEmpty s) (t : Treadle) (code : Option Nat) :
    pipelineEmpty (faultRecorded s t code) := by
  cases code with
  | some c => exact record_pipelineEmpty ring empty ..
  | none => exact empty

/-- The Treadles once the active one has lost the device to a standby. -/
def deviceLost (s : State) : Trd :=
  { s.trd with owner := false, takeover := if s.trd.standby = 2 then 1 else 2,
               takeovers := s.aon :: s.trd.takeovers.filter (fun x => decide (s.aon < x + 3600000000000)) }

/-- A fault of the active Treadle with a standby takes the device from it. -/
theorem declareFaulty_active {s : State} (ring : ringOff s) (run : s.phase = .run) (owner : s.trd.owner = true) {t : Treadle}
    (active : decide (t = .b) = s.trd.activeB) (standby : s.trd.standby = 1 ∨ s.trd.standby = 2)
    (few : (s.trd.takeovers.filter (fun x => decide (s.aon < x + 3600000000000))).length < 2) (code : Option Nat) :
    declareFaulty s t code = { faultRecorded s t code with trd := deviceLost s } := by
  obtain ⟨records, -⟩ := faultRecorded_recordsOnly ring t code
  have trd : (faultRecorded s t code).trd = s.trd := recordsOnly_keeps records State.trd fun _ _ _ => rfl
  have aon : (faultRecorded s t code).aon = s.aon := recordsOnly_keeps records State.aon fun _ _ _ => rfl
  refine (if_neg (by rw [run]; decide)).trans ((if_pos active).trans ((if_neg (by rw [owner]; decide)).trans
    ((if_neg (by rw [run]; decide)).trans ?_)))
  show (if (faultRecorded s t code).trd.standby ≠ 1 ∧ (faultRecorded s t code).trd.standby ≠ 2 then _ else _) = _
  rw [trd, if_neg (by tauto)]
  refine (if_neg ?_).trans ?_
  · show ¬ ((faultRecorded s t code).aon :: (faultRecorded s t code).trd.takeovers.filter
      (fun x => decide ((faultRecorded s t code).aon < x + 3600000000000))).length ≥ 3
    rw [trd, aon, List.length_cons]
    omega
  · show ({ faultRecorded s t code with trd := deviceLost (faultRecorded s t code) } : State) = _
    unfold deviceLost
    rw [trd, aon]

/-- A fault of the standby outside a takeover loses it. -/
theorem declareFaulty_standby {s : State} (run : s.phase = .run) {t : Treadle} (other : decide (t = .b) ≠ s.trd.activeB) (none : s.trd.takeover = 0)
    (standby : s.trd.standby = 1 ∨ s.trd.standby = 2) (code : Option Nat) :
    declareFaulty s t code = standbyLost (faultRecorded s t code) := by
  refine (if_neg (by rw [run]; decide)).trans ((if_neg other).trans ((if_neg (not_not.2 none)).trans ((if_pos standby).trans ?_)))
  cases code <;> rfl

/-- What the loss of the standby leaves. -/
theorem standbyLost_spec {s : State} (ring : ringOff s) (empty : pipelineEmpty s) :
    accepted { s with trd := recoveryFailed s.trd (if s.trd.standby = 1 then s.trd.attempts + 1 else s.trd.attempts) } (standbyLost s) 0xD003 2 := by
  unfold standbyLost
  have ring' : ringOff { s with trd := recoveryFailed s.trd (if s.trd.standby = 1 then s.trd.attempts + 1 else s.trd.attempts) } :=
    ringOff_of ring rfl rfl
  exact accept_accepted_empty ring' empty ..

/-- A HOT standby that is lost is absent, and no attempt is counted. -/
theorem standbyLost_hot {s x : State} (records : recordsOnly s x) (ring : ringOff x) (empty : pipelineEmpty x) (hot : s.trd.standby = 2)
    (few : s.trd.attempts < 3) :
    inPipeline (standbyLost x) 0xD003 2 ∧ (standbyLost x).trd = { s.trd with standby := 0 } ∧
      standbyLost x = { s with trd := (standbyLost x).trd, rcd := (standbyLost x).rcd, err := (standbyLost x).err, chn := (standbyLost x).chn } := by
  have trd : x.trd = s.trd := recordsOnly_keeps records State.trd fun _ _ _ => rfl
  obtain ⟨held, frame⟩ := standbyLost_spec ring empty
  generalize standbyLost x = u at *
  rw [trd, hot, if_neg (by decide), recoveryFailed_alive s.trd few] at frame
  refine ⟨held, by rw [frame], ?_⟩
  rw [frame, records]

/-- A direct record of a Treadle event. -/
theorem trdRecord_recorded {s : State} (ring : ringOff s) (room : ringOpen s) (trd : Trd) (code sev idx : Nat) (pl : List Byte) :
    recorded { s with trd := trd } (record { s with trd := trd } code sev 0x0B idx pl) code sev 0x0B idx := by
  have ring' : ringOff { s with trd := trd } := ringOff_of ring rfl rfl
  exact record_recorded ring' room code sev 0x0B idx pl

/-- The cause of a fault is recorded while the device is lost. -/
theorem faultRecorded_lost {s : State} (ring : ringOff s) (room : ringOpen s) (t : Treadle) (trd : Trd) (code : Nat) :
    recorded { s with trd := trd } { faultRecorded s t (some code) with trd := trd } code 4 0x0B (b2n (decide (t = .b))) := by
  obtain ⟨last, frame⟩ : recorded s (faultRecorded s t (some code)) code 4 0x0B (b2n (decide (t = .b))) := record_recorded ring room ..
  exact ⟨last, congrArg (fun x : State => { x with trd := trd }) frame⟩

/-- The number a Treadle is recorded with. -/
theorem trdIdx_eq (s : State) : trdIdx s = if s.trd.activeB = true then 1 else 0 := by
  unfold trdIdx
  cases s.trd.activeB <;> rfl

/-- What one more failed recovery counts. -/
theorem recoveryFailed_counts (t : Trd) (n : Nat) :
    (recoveryFailed t (n + 1)).standby = (if 2 ≤ n then 3 else 0) ∧ (recoveryFailed t (n + 1)).attempts = Nat.min 3 (n + 1) := by
  refine ⟨?_, rfl⟩
  unfold recoveryFailed
  by_cases dead : 2 ≤ n
  · rw [if_pos dead]
    exact if_pos (decide_eq_true (by omega))
  · rw [if_neg dead]
    exact if_neg (by rw [decide_eq_false (by omega)]; decide)

/-- A third failed recovery makes the other Treadle FAILED. -/
theorem recoveryFailed_dead (t : Trd) :
    (recoveryFailed t 3).standby = 3 ∧
      (if t.activeB = true then (recoveryFailed t 3).aFailed = true else (recoveryFailed t 3).bFailed = true) := by
  refine ⟨rfl, ?_⟩
  unfold recoveryFailed
  by_cases active : t.activeB = true <;> simp [active]

/-- The faults of a HOT standby, and its late acknowledgement, lose it once the cause is recorded. -/
theorem exec_standbyFault {s : State} {t : Treadle} (c : calm s) (run : s.phase = .run) (owner : s.trd.owner = true)
    (other : decide (t = .b) ≠ s.trd.activeB) (none : s.trd.takeover = 0) (hot : s.trd.standby = 2) {i : Instr}
    (h : i ∈ [Instr.trdLockstepMismatch t, .trdHeartbeatLost t, .treadleMemoryUe t, .standbyLost]) :
    ∃ x, recordsOnly s x ∧ ringOff x ∧ pipelineEmpty x ∧ exec i s = .next (standbyLost x) := by
  have faulty (code : Option Nat) := declareFaulty_standby run other none (.inr hot) code
  have after (code : Option Nat) (loses : exec i s = .next (standbyLost (faultRecorded s t code))) :
      ∃ x, recordsOnly s x ∧ ringOff x ∧ pipelineEmpty x ∧ exec i s = .next (standbyLost x) := by
    obtain ⟨ring, empty, -⟩ := c
    obtain ⟨records, ring'⟩ := faultRecorded_recordsOnly ring t code
    exact ⟨_, records, ring', faultRecorded_pipelineEmpty ring empty t code, loses⟩
  simp only [List.mem_cons, List.not_mem_nil, or_false] at h
  rcases h with rfl | rfl | rfl | rfl
  · exact after (some 0xD005) (congrArg Host.Outcome.next (faulty _))
  · exact after (some 0xD006) (congrArg Host.Outcome.next (faulty _))
  · exact after .none (congrArg Host.Outcome.next (faulty _))
  · exact after .none (congrArg Host.Outcome.next (if_pos ⟨owner, .inr hot, run⟩))

/-- A SYNCING standby that is lost counts as a failed attempt. -/
theorem standbyLost_syncing {s : State} (ring : ringOff s) (empty : pipelineEmpty s) (syncing : s.trd.standby = 1) :
    inPipeline (standbyLost s) 0xD003 2 ∧ (standbyLost s).trd = recoveryFailed s.trd (s.trd.attempts + 1) ∧
      standbyLost s = { s with trd := (standbyLost s).trd, rcd := (standbyLost s).rcd, err := (standbyLost s).err } := by
  obtain ⟨held, frame⟩ := standbyLost_spec ring empty
  generalize standbyLost s = u at *
  rw [if_pos syncing] at frame
  refine ⟨held, by rw [frame], ?_⟩
  rw [frame]

section
variable {s : State} (ring : ringOff s) (room : ringOpen s) (run : s.phase = .run) (owner : s.trd.owner = true)
include ring room run owner

/-- The end of a recovery test with no standby: a pass starts the copy, a failure is recorded and counted. -/
theorem execTreadleRecoveryTestEnd_absent (absent : s.trd.standby = 0) :
    execTreadleRecoveryTestEnd true s = .next { s with trd := { s.trd with standby := 1 } } ∧
      (s.trd.attempts < 2 → ∃ t, execTreadleRecoveryTestEnd false s = .next t ∧
        recorded { s with trd := { s.trd with attempts := s.trd.attempts + 1 } } t 0xD007 2 0x0B (if s.trd.activeB then 1 else 0)) ∧
      (s.trd.attempts = 2 → ∃ t, execTreadleRecoveryTestEnd false s = .next t ∧ t.trd.standby = 3 ∧
        (if s.trd.activeB then t.trd.aFailed = true else t.trd.bFailed = true)) := by
  have serves' : ¬ ((!s.trd.owner) = true ∨ s.trd.standby ≠ 0 ∨ s.phase ≠ .run) := by simp [owner, absent, run]
  have fails : execTreadleRecoveryTestEnd false s = .next (record { s with trd := recoveryFailed s.trd (s.trd.attempts + 1) } 0xD007 2 0x0B
      (trdIdx { s with trd := recoveryFailed s.trd (s.trd.attempts + 1) }) (trdOwn { s with trd := recoveryFailed s.trd (s.trd.attempts + 1) })) :=
    congrArg Host.Outcome.next ((if_neg serves').trans (if_neg Bool.false_ne_true))
  refine ⟨congrArg Host.Outcome.next ((if_neg serves').trans (if_pos rfl)), fun few => ⟨_, fails, ?_⟩, fun two => ⟨_, fails, ?_⟩⟩
  · have alive : recoveryFailed s.trd (s.trd.attempts + 1) = { s.trd with attempts := s.trd.attempts + 1 } := by
      rw [recoveryFailed_alive s.trd (by omega), ← absent]
    rw [alive, trdIdx_eq]
    exact trdRecord_recorded ring room ..
  · have kept := congrArg State.trd (trdRecord_recorded ring room (recoveryFailed s.trd (s.trd.attempts + 1)) 0xD007 2
      (trdIdx { s with trd := recoveryFailed s.trd (s.trd.attempts + 1) }) (trdOwn { s with trd := recoveryFailed s.trd (s.trd.attempts + 1) })).2
    rw [kept]
    show (recoveryFailed s.trd (s.trd.attempts + 1)).standby = 3 ∧ (if s.trd.activeB = true then
      (recoveryFailed s.trd (s.trd.attempts + 1)).aFailed = true else (recoveryFailed s.trd (s.trd.attempts + 1)).bFailed = true)
    rw [two]
    exact recoveryFailed_dead s.trd

/-- The end of the copy to a SYNCING standby: a match makes it HOT. -/
theorem execStandbyHot_syncing (syncing : s.trd.standby = 1) :
    execStandbyHot false s = .next s ∧ ∃ t, execStandbyHot true s = .next t ∧
      recorded { s with trd := { s.trd with standby := 2 } } t 0xD004 0 0x0B (if s.trd.activeB then 1 else 0) := by
  have hot : execStandbyHot true s = .next (record { s with trd := { s.trd with standby := 2 } } 0xD004 0 0x0B
      (trdIdx { s with trd := { s.trd with standby := 2 } }) (trdOwn { s with trd := { s.trd with standby := 2 } })) :=
    congrArg Host.Outcome.next (if_pos ⟨owner, syncing, run, rfl⟩)
  refine ⟨congrArg Host.Outcome.next (if_neg (by simp)), _, hot, ?_⟩
  rw [trdIdx_eq]
  exact trdRecord_recorded ring room ..

end

end Sys2Proof.Machine
end

section
/-! ### Treadle checkpoints (06 R225) -/
namespace Sys2Proof.Machine

/-- Bytes of a number spell it again. -/
theorem leNat_leBytes (n v : Nat) : leNat (leBytes n v) = v % 256 ^ n := by
  induction n generalizing v with
  | zero => rw [Nat.pow_zero, Nat.mod_one]; rfl
  | succ n ih =>
    rw [leBytes, leNat, ih, BitVec.toNat_ofNat, (Nat.pow_succ' : 256 ^ (n + 1) = _), Nat.mod_mul]

/-- Padding keeps what stands before its end. -/
theorem take_padTo {l : List Byte} {n k : Nat} (inside : k ≤ n) (given : k ≤ l.length) : (padTo n l).take k = l.take k := by
  unfold padTo
  rw [List.take_append_of_le_length (by rw [List.length_take]; omega), List.take_take, Nat.min_eq_left inside]

/-- A checkpoint record is formed, reported and kept as the latest. -/
theorem execTreadleCheckpoint_formed {s : State} (ring : ringOff s) (run : s.phase = .run) (owner : s.trd.owner = true) :
    let r := (formRec s 0xD010 0 0 0x0B (trdIdx s)
      (pay [(8, s.trd.commitSeq.toNat), (2, s.brl.curCl), (2, s.brl.curItem), (1, s.pwr.rotation)])).1
    ∃ t, execTreadleCheckpoint s = .next t ∧ t.rcd = { s.rcd with seq := (s.rcd.seq + 1) % 65536, ckptWait := some r } ∧
      t = { s with rcd := t.rcd, err := { s.err with direct := t.err.direct }, chn := { s.chn with dropped := t.chn.dropped } } := by
  intro r
  let u : State := { s with rcd := { s.rcd with seq := (s.rcd.seq + 1) % 65536 } }
  have ring' : ringOff u := ringOff_of ring rfl rfl
  have off : hostRing u r = u := hostRing_off ring'.1 r
  have offer := offerDirect_frame u r
  have paid : settleRing (offerDirect u r) = offerDirect u r := settleRing_paid (by rw [offer]; exact ring.2)
  refine ⟨{ offerDirect u r with rcd := { (offerDirect u r).rcd with ckptWait := some r } }, ?_, ?_, ?_⟩
  · unfold execTreadleCheckpoint
    rw [if_neg (by rw [owner, run]; decide)]
    show Host.Outcome.next ({ settleRing (offerDirect (hostRing u r) r) with
      rcd := { (settleRing (offerDirect (hostRing u r) r)).rcd with ckptWait := some r } } : State) = _
    rw [off, paid]
  · rw [offer]
  · generalize offerDirect u r = o at *
    rw [offer]

/-- The checkpoint carries the sequence number of the last commit. -/
theorem checkpoint_commitSeq (s : State) (idx : Nat) (l : List (Nat × Nat)) (v : Word64) :
    bytesAt (formRec s 0xD010 0 0 0x0B idx (pay ((8, v.toNat) :: l))).1.payload 0 8 = v.toNat := by
  have first : ((pay ((8, v.toNat) :: l)).take 8) = leBytes 8 v.toNat := by
    unfold pay
    rw [List.flatMap_cons, take_padTo (by decide) (by rw [List.length_append, length_leBytes]; omega),
      List.take_append_of_le_length (by rw [length_leBytes]), List.take_of_length_le (by rw [length_leBytes])]
  have long : 8 ≤ (pay ((8, v.toNat) :: l)).length := by
    have := congrArg List.length first
    rw [List.length_take, length_leBytes] at this
    omega
  show leNat ((padTo 35 (pay ((8, v.toNat) :: l))).take 8) = _
  rw [take_padTo (by decide) long, first, leNat_leBytes]
  exact Nat.mod_eq_of_lt v.isLt

end Sys2Proof.Machine
end

section
/-! ### Takeovers (06 R221 to R224, R228, Tables 6.9 to 6.11) -/
namespace Sys2Proof.Machine

/-- An event whose action has been taken, accepted in a calm state: its record and its report. -/
theorem acceptDone_calm {s : State} (c : calm s) (code sev cls idx : Nat) (pl : List Byte) :
    let t := acceptDone s code sev cls idx pl
    t = { s with rcd := t.rcd, err := t.err } ∧ lastRecord t code sev cls idx := by
  obtain ⟨ring, ⟨-, -, -, -, -, running⟩, thaw, room⟩ := c
  have frame := entryRecord_frame ring code sev 0 cls idx pl
  have add := ringAdd_room (s := (formRec s code sev 8 cls idx pl).2) (r := (formRec s code sev 8 cls idx pl).1) thaw
    (by exact Nat.lt_trans room (by decide)) (.inl room)
  have core : acceptDone s code sev cls idx pl = { entryRecord s code sev 0 cls idx pl with
      err := { (entryRecord s code sev 0 cls idx pl).err with
        accepted := bumpTbl 0xFFFFFFFF (entryRecord s code sev 0 cls idx pl).err.accepted (queueOf code sev) } } := by
    unfold acceptDone acceptCore
    dsimp only
    rw [if_neg (by rw [running]; simp), if_pos rfl]
    exact settleRing_paid (by rw [frame]; exact ring.2)
  intro t
  refine ⟨?_, ⟨(formRec s code sev 8 cls idx pl).1, false⟩, ?_, rfl, rfl, rfl, rfl⟩
  · rw [show t = _ from core]
    generalize entryRecord s code sev 0 cls idx pl = u at *
    rw [frame]
  · have rcd : t.rcd = (ringAdd (formRec s code sev 8 cls idx pl).2 (formRec s code sev 8 cls idx pl).1).rcd := by
      have entry := congrArg State.rcd frame
      rw [show t = _ from core]
      exact entry
    rw [rcd, add]
    exact List.getLast?_concat

/-- The Treadles after a takeover: the other one is active and the device its own. -/
def handedOver (s : State) (kind : Nat) : Trd :=
  { s.trd with activeB := !s.trd.activeB, owner := true, takeover := 0, standby := 0, lastKind := kind,
               failovers := Nat.min 255 (s.trd.failovers + 1), tokenQ := [] }

/-- What both takeovers change, with no fuse program. -/
theorem takeOver_frame {s : State} (idle : s.fuses.prog = []) (kind : Nat) :
    takeOver s kind =
      { s with trd := handedOver s kind, brl := (takeOver s kind).brl, chk := (takeOver s kind).chk, rst := (takeOver s kind).rst,
               err := { s.err with handlers := (takeOver s kind).err.handlers } } := by
  unfold takeOver finishFuseWord
  rw [idle]
  rfl

/-- A takeover leaves a calm state calm. -/
theorem takeOver_calm {s : State} (c : calm s) (idle : s.fuses.prog = []) (kind : Nat) : calm (takeOver s kind) := by
  obtain ⟨ring, ⟨q0, q1, q2, q3, handlers, running⟩, room⟩ := c
  have none : (takeOver s kind).err.handlers = [] := by
    unfold takeOver finishFuseWord restartResets
    rw [idle]
    exact congrArg (List.map _) handlers
  have frame := takeOver_frame idle kind
  rw [none] at frame
  refine ⟨ringOff_of ring (by rw [frame]) (by rw [frame]), ?_, by rw [frame]; exact room⟩
  unfold pipelineEmpty
  rw [frame]
  exact ⟨q0, q1, q2, q3, rfl, running⟩

/-- The number the new active Treadle is recorded with. -/
theorem trdIdx_handedOver {s t : State} {kind : Nat} (trd : t.trd.activeB = (handedOver s kind).activeB) :
    trdIdx t = if s.trd.activeB = true then 0 else 1 := by
  rw [trdIdx_eq, trd]
  unfold handedOver
  cases s.trd.activeB <;> rfl

/-- No write of q0_ctl has waited. -/
theorem q0Settle_none {s : State} (none : s.pci.q0Wait = none) : q0Settle s = s := by
  unfold q0Settle
  rw [none]

/-- The state in which a hot takeover has been recorded. -/
def hotRecorded (s : State) : State :=
  acceptDone (takeOver s 1) 0xD001 5 0x0B (trdIdx (takeOver s 1)) (trdOwn (takeOver s 1))

theorem hotRecorded_spec {s : State} (c : calm s) (idle : s.fuses.prog = []) :
    hotRecorded s =
        { s with trd := handedOver s 1, brl := (hotRecorded s).brl, chk := (hotRecorded s).chk, rst := (hotRecorded s).rst,
                 rcd := (hotRecorded s).rcd, err := (hotRecorded s).err } ∧
      lastRecord (hotRecorded s) 0xD001 5 0x0B (if s.trd.activeB then 0 else 1) := by
  have frame := takeOver_frame idle 1
  obtain ⟨whole, last⟩ := acceptDone_calm (takeOver_calm c idle 1) 0xD001 5 0x0B (trdIdx (takeOver s 1)) (trdOwn (takeOver s 1))
  have recorded' : lastRecord (hotRecorded s) 0xD001 5 0x0B (trdIdx (takeOver s 1)) := last
  rw [trdIdx_handedOver (s := s) (kind := 1) (by rw [frame])] at recorded'
  refine ⟨?_, recorded'⟩
  unfold hotRecorded
  generalize acceptDone (takeOver s 1) 0xD001 5 0x0B (trdIdx (takeOver s 1)) (trdOwn (takeOver s 1)) = u at *
  rw [whole, frame]

/-- A hot takeover is recorded, and then ends the programs in flight. -/
theorem takeoverDone_hot {s : State} (lost : s.trd.owner = false) (hot : s.trd.takeover = 1) :
    takeoverDone s = (hotRecorded s).progs.foldl
      (fun s e => issueRecord (endWith s e.1 { e.2 with wait := .none } stFailover e.2.index none) e.2.queue) (hotRecorded s) := by
  unfold takeoverDone
  rw [if_neg (by rw [lost]; decide), hot]
  rfl

/-- A program in flight whose record its queue keeps ends at its instruction with a hot takeover. -/
theorem hotEnded_spec {x : State} {k : Nat} {p : Prog} (cold : x.trd.standby ≠ 2) (tokens : x.trd.tokenQ = []) (host : p.queue ≠ 1023)
    (full : 2 ^ (getQ x p.queue).cplLog2 ≤ idxSub (getQ x p.queue).done (getQ x p.queue).cplHead) :
    let t := issueRecord (endWith x k { p with wait := .none } stFailover p.index none) p.queue
    getP t k = none ∧ (getQ t p.queue).pendRec = some (endRec x { p with wait := .none } stFailover p.index none) ∧ t.trd = x.trd ∧
      t.sets = x.sets ∧ t.mem = x.mem ∧ t.pci = x.pci := by
  have queue : getQ (endWith x k { p with wait := .none } stFailover p.index none) p.queue =
      { getQ x p.queue with running := none, pendRec := some (endRec x { p with wait := .none } stFailover p.index none) } :=
    (congrArg (fun q => Tbl.get Queue.absent q p.queue) (endWith_queues x k { p with wait := .none } stFailover p.index none)).trans
      (Tbl.get_put_same ..)
  have trd : (endWith x k { p with wait := .none } stFailover p.index none).trd = x.trd := by
    unfold endWith
    dsimp only
    rw [jot_cold (s := delP x k) cold]
    show ({ x.trd with tokenQ := dropNat x.trd.tokenQ k } : Trd) = x.trd
    rw [tokens]
    show ({ x.trd with tokenQ := [] } : Trd) = x.trd
    rw [← tokens]
  have frame := endWith_frame x k { p with wait := .none } stFailover p.index none
  intro t
  have kept : t = endWith x k { p with wait := .none } stFailover p.index none :=
    issueRecord_kept (by rw [queue]) host (.inr (by rw [queue]; exact full))
  rw [kept]
  refine ⟨endWith_slot .., by rw [queue], trd, ?_, ?_, ?_⟩
  all_goals rw [frame]

/-- The Treadle-held settings rebuilt from their stored values, and the grants and the key selection gone. -/
def coldSets (s : State) : State :=
  let x := takeOver s 2
  { x with sets := { regs := x.sets.regs.map (fun e => (e.1, { e.2 with image := e.2.val })),
                     hard := x.sets.hard.map (fun e => (e.1, { e.2 with golden := hdVote e.2 })) },
           trd := { x.trd with grants := [], bkey := 0 } }

/-- Queues whose descriptor fails its CRC are stopped. -/
def coldQueues (s : State) : State :=
  s.queues.foldl (fun s e => if badDescriptor s e.1 then queueEvent (stopQueue s e.1) 0xD022 2 e.1 else s) s

/-- What the last checkpoint holds is taken up again. -/
def coldResumed (s : State) : State :=
  match (match s.rcd.ckptWait with
    | some r => some r
    | none => s.rcd.ckpts.head?) with
  | some r => { s with brl := { s.brl with curCl := bytesAt r.payload 8 2, curItem := bytesAt r.payload 10 2 },
                       pwr := { s.pwr with rotation := bytesAt r.payload 12 1,
                                           calib := (List.range 64).map (fun g => (g, r.gtc)) } }
  | none => s

/-- Burling's clusters are deferred, and no transient history is left. -/
def coldDeferred (s : State) : State :=
  { s with brl := { s.brl with cls := (List.range 512).map (fun n => (n, { getB s n with defer := 16 })) },
           history := s.history.map (fun e => (e.1, { e.2 with transients := [] })) }

theorem getB_congr {s t : State} (same : t.brl = s.brl) (n : Nat) : getB t n = getB s n := by
  unfold getB
  rw [same]

theorem getB_coldDeferred (s : State) {n : Nat} (lt : n < 512) : (getB (coldDeferred s) n).defer = 16 := by
  have listed : n ∈ List.range 512 := List.mem_range.2 lt
  unfold coldDeferred
  generalize List.range 512 = l at *
  exact congrArg BrlCl.defer (Tbl.get_tabulate BrlCl.init l (fun n => { getB s n with defer := 16 }) listed)

/-- The takeover is recorded. -/
def coldRecorded (s : State) : State := acceptDone s 0xD002 5 0x0B (trdIdx s) (trdOwn s)

/-- Every queue's command in flight is completed cold. -/
def coldCompleted (s : State) : State := { (s.queues.map (·.1)).foldl coldRecord s with progs := [] }

theorem takeoverCold_eq (s : State) :
    takeoverCold s = coldCompleted (coldRecorded (coldDeferred (coldResumed (coldQueues (coldSets s))))) := rfl

/-- Chorno's own queue has no descriptor in memory. -/
theorem badDescriptor_chorno (s : State) : badDescriptor s 1023 = false := by
  unfold badDescriptor
  rw [bne_self_eq_false, Bool.and_false, Bool.false_and]

/-- A list of queues with Chorno's alone names no descriptor to check. -/
theorem coldQueues_chorno {s : State} {d : Queue} (queues : s.queues = [(1023, d)]) : coldQueues s = s := by
  unfold coldQueues
  rw [queues]
  exact if_neg (by rw [badDescriptor_chorno]; decide)

/-- Without a program of Chorno in flight nothing of its queue is completed cold. -/
theorem coldRecord_chorno {s : State} (ids : s.chn.ids = []) : coldRecord s 1023 = s := by
  unfold coldRecord
  dsimp only
  rw [if_neg (by simp), if_pos (by rw [ids]; simp)]

/-- Without a checkpoint nothing is taken up again. -/
theorem coldResumed_none {s : State} (noWait : s.rcd.ckptWait = none) (noCkpt : s.rcd.ckpts = []) : coldResumed s = s := by
  unfold coldResumed
  rw [noWait, noCkpt]
  rfl

/-- The state in which a cold takeover is recorded, without a checkpoint and with Chorno's queue alone. -/
def coldBefore (s : State) : State := coldDeferred (coldSets s)

theorem coldBefore_frame {s : State} (idle : s.fuses.prog = []) :
    coldBefore s =
      { s with sets := { regs := s.sets.regs.map (fun e => (e.1, { e.2 with image := e.2.val })), hard := (coldBefore s).sets.hard },
               trd := { handedOver s 2 with grants := [], bkey := 0 }, brl := (coldBefore s).brl, chk := (coldBefore s).chk,
               rst := (coldBefore s).rst, err := (takeOver s 2).err, history := (coldBefore s).history } := by
  have frame := takeOver_frame idle 2
  unfold coldBefore coldDeferred coldSets
  generalize takeOver s 2 = x at *
  rw [frame]

theorem coldBefore_calm {s : State} (c : calm s) (idle : s.fuses.prog = []) : calm (coldBefore s) := by
  obtain ⟨⟨off, due⟩, empty, room⟩ := takeOver_calm c idle 2
  refine ⟨⟨?_, due⟩, empty, room⟩
  have same := Tbl.get_map ⟨w64 0xFFFF0004, w64 0xFFFF0004, 0⟩ (takeOver s 2).sets.regs (fun c : SetCell => { c with image := c.val })
    (setPlace 3 0x21 0)
  rw [liveVal_ring] at off ⊢
  exact (congrArg (fun c : SetCell => c.val.toNat % 2) same).trans off

/-- What a recorded cold takeover leaves. -/
theorem coldRecorded_spec {s : State} (c : calm s) (idle : s.fuses.prog = []) :
    coldRecorded (coldBefore s) =
        { coldBefore s with rcd := (coldRecorded (coldBefore s)).rcd, err := (coldRecorded (coldBefore s)).err } ∧
      lastRecord (coldRecorded (coldBefore s)) 0xD002 5 0x0B (if s.trd.activeB then 0 else 1) := by
  obtain ⟨whole, last⟩ := acceptDone_calm (coldBefore_calm c idle) 0xD002 5 0x0B (trdIdx (coldBefore s)) (trdOwn (coldBefore s))
  have recorded' : lastRecord (coldRecorded (coldBefore s)) 0xD002 5 0x0B (trdIdx (coldBefore s)) := last
  rw [trdIdx_handedOver (s := s) (kind := 2) (by rw [coldBefore_frame idle])] at recorded'
  exact ⟨whole, recorded'⟩

/-- What a recorded cold takeover reads as. -/
theorem coldRecorded_reads {s : State} (c : calm s) (idle : s.fuses.prog = []) :
    let t : State := { coldRecorded (coldBefore s) with progs := [] }
    t.trd = { handedOver s 2 with grants := [], bkey := 0 } ∧ lastRecord t 0xD002 5 0x0B (if s.trd.activeB then 0 else 1) ∧
      (∀ e ∈ t.sets.regs, e.2.image = e.2.val) ∧ (∀ n, n < 512 → (getB t n).defer = 16) ∧ t.mem = s.mem ∧ t.pci = s.pci := by
  obtain ⟨whole, last⟩ := coldRecorded_spec c idle
  have frame := coldBefore_frame idle
  have trd := congrArg State.trd whole
  have trd' := congrArg State.trd frame
  have regs := congrArg (fun x : State => x.sets.regs) whole
  have regs' := congrArg (fun x : State => x.sets.regs) frame
  have mem := congrArg State.mem whole
  have mem' := congrArg State.mem frame
  have pci := congrArg State.pci whole
  have pci' := congrArg State.pci frame
  have brl := congrArg State.brl whole
  refine ⟨trd.trans trd', last, fun e listed => ?_, fun n lt => ?_, mem.trans mem', pci.trans pci'⟩
  · have listed' : e ∈ s.sets.regs.map (fun e => (e.1, { e.2 with image := e.2.val })) := by
      have images : (coldRecorded (coldBefore s)).sets.regs = s.sets.regs.map (fun e => (e.1, { e.2 with image := e.2.val })) := regs.trans regs'
      rw [← images]
      exact listed
    obtain ⟨e', -, rfl⟩ := List.mem_map.1 listed'
    rfl
  · have same : getB { coldRecorded (coldBefore s) with progs := [] } n = getB (coldBefore s) n := getB_congr brl n
    rw [same]
    exact getB_coldDeferred (coldSets s) lt

/-- A cold takeover without a checkpoint and with no queue but Chorno's. -/
theorem takeoverDone_cold {s : State} (c : calm s) (idle : s.fuses.prog = []) (lost : s.trd.owner = false) (cold : s.trd.takeover = 2)
    (queues : s.queues = [(1023, getQ s 1023)]) (ids : s.chn.ids = []) (noWait : s.rcd.ckptWait = none) (noCkpt : s.rcd.ckpts = []) :
    takeoverDone s = { coldRecorded (coldBefore s) with progs := [] } := by
  have frame := takeOver_frame idle 2
  have cold' : takeoverDone s = takeoverCold s := by
    unfold takeoverDone
    rw [if_neg (by rw [lost]; decide), cold]
    rfl
  obtain ⟨whole, -⟩ := coldRecorded_spec c idle
  have queuesTaken := congrArg State.queues frame
  have rcdTaken := congrArg State.rcd frame
  have chnTaken := congrArg State.chn frame
  have queuesKept := congrArg State.queues whole
  have chnKept := congrArg State.chn whole
  have checked : coldQueues (coldSets s) = coldSets s := coldQueues_chorno (queuesTaken.trans queues)
  have resumed : coldResumed (coldSets s) = coldSets s :=
    coldResumed_none ((congrArg Recorder.ckptWait rcdTaken).trans noWait) ((congrArg Recorder.ckpts rcdTaken).trans noCkpt)
  have queues' : (coldRecorded (coldBefore s)).queues = [(1023, getQ s 1023)] := queuesKept.trans (queuesTaken.trans queues)
  have ids' : (coldRecorded (coldBefore s)).chn.ids = [] := (congrArg Chorno.ids (chnKept.trans chnTaken)).trans ids
  rw [cold', takeoverCold_eq, checked, resumed, ← coldBefore]
  unfold coldCompleted
  rw [queues', List.map_cons, List.map_nil, List.foldl_cons, List.foldl_nil, coldRecord_chorno ids']

/-- TAKEOVER_COMPLETE with no write of q0_ctl waiting. -/
theorem takeover_performed {s t : State} (done : takeoverDone s = t) (none : t.pci.q0Wait = none) : exec .takeoverComplete s = .next t := by
  rw [exec_takeoverComplete]
  unfold execTakeoverComplete
  rw [done, q0Settle_none none]

/-- Settles O36: a fault by the branches of its declaration, a takeover stage by stage. -/
theorem treadlesTakeOver : Obligations.TreadlesTakeOver := by
  unfold Obligations.TreadlesTakeOver
  refine ⟨fun s t c run owner none => ⟨?_, ?_, ?_, ?_⟩, fun s ring room run owner => ⟨fun absent => ?_, fun syncing => ?_, ?_⟩,
    fun s k p c lost idle _ noWait => ⟨fun none => ?_, fun hot empty => ?_, fun hot one host full => ?_,
      fun cold queues ids noCkptWait noCkpt => ?_⟩⟩
  · intro active standby few
    obtain ⟨ring, -, room⟩ := c
    have taken := declareFaulty_active ring run owner active standby few
    have fault (code : Nat) : recorded { s with trd := deviceLost s } { faultRecorded s t (some code) with trd := deviceLost s } code 4 0x0B
        (if t = .b then 1 else 0) := by
      have src : b2n (decide (t = .b)) = if t = .b then 1 else 0 := by cases t <;> rfl
      rw [← src]
      exact faultRecorded_lost ring room t (deviceLost s) code
    exact ⟨⟨_, congrArg Host.Outcome.next (taken (some 0xD005)), fault 0xD005⟩,
      ⟨_, congrArg Host.Outcome.next (taken (some 0xD006)), fault 0xD006⟩, congrArg Host.Outcome.next (taken .none)⟩
  · intro other hot few i hi
    obtain ⟨x, records, ring, empty, loses⟩ := exec_standbyFault c run owner other none hot hi
    obtain ⟨held, trd, frame⟩ := standbyLost_hot records ring empty hot few
    exact ⟨_, loses, held, trd, frame⟩
  · intro syncing
    obtain ⟨ring, empty, -⟩ := c
    obtain ⟨held, trd, frame⟩ := standbyLost_syncing ring empty syncing
    obtain ⟨standby, attempts⟩ := recoveryFailed_counts s.trd s.trd.attempts
    exact ⟨_, congrArg Host.Outcome.next (if_pos ⟨owner, .inl syncing, run⟩), held, by rw [trd, standby], by rw [trd, attempts], frame⟩
  · intro none'
    exact congrArg Host.Outcome.next (if_neg (by omega))
  · exact execTreadleRecoveryTestEnd_absent ring room run owner absent
  · exact execStandbyHot_syncing ring room run owner syncing
  · obtain ⟨t, formed, rcd, frame⟩ := execTreadleCheckpoint_formed ring run owner
    exact ⟨t, _, formed, rcd, rfl, rfl, rfl, checkpoint_commitSeq .., frame⟩
  · have stays : takeoverDone s = s := by
      unfold takeoverDone
      rw [if_neg (by rw [lost]; decide), none]
      rfl
    exact takeover_performed stays noWait
  · obtain ⟨frame, last⟩ := hotRecorded_spec c idle
    have done : takeoverDone s = hotRecorded s := by
      rw [takeoverDone_hot lost hot, show (hotRecorded s).progs = [] by rw [frame]; exact empty]
      rfl
    exact ⟨hotRecorded s, takeover_performed done (by rw [frame]; exact noWait), by rw [frame]; rfl, last, by rw [frame], by rw [frame],
      by rw [frame]⟩
  · obtain ⟨frame, -⟩ := hotRecorded_spec c idle
    have progs : (hotRecorded s).progs = [(k, p)] := by rw [frame]; exact one
    have queue : getQ (hotRecorded s) p.queue = getQ s p.queue := by rw [frame]; rfl
    obtain ⟨gone, ended', trd, sets, mem, pci⟩ := hotEnded_spec (x := hotRecorded s) (k := k) (by rw [frame]; exact Nat.zero_ne_add_one 1)
      (by rw [frame]; rfl) host (by rw [queue]; exact full)
    have done : takeoverDone s = issueRecord (endWith (hotRecorded s) k { p with wait := .none } stFailover p.index none) p.queue := by
      rw [takeoverDone_hot lost hot, progs, List.foldl_cons, List.foldl_nil]
    exact ⟨_, _, takeover_performed done (by rw [pci, frame]; exact noWait), gone, ended', rfl, rfl, rfl, by rw [trd, frame]; rfl, by rw [sets, frame],
      by rw [mem, frame]⟩
  · obtain ⟨trd, last, images, deferred, mem, pci⟩ := coldRecorded_reads c idle
    exact ⟨_, takeover_performed (takeoverDone_cold c idle lost cold queues ids noCkptWait noCkpt) (by rw [pci]; exact noWait), rfl, trd, last, images,
      deferred, mem⟩

end Sys2Proof.Machine
end

section
/-! ### Hexah words: their fields, and the round trip (07 R244 to R247, Table 7.2) -/
namespace Sys2Proof.Machine

/-- The fields of a word put together from fields. -/
@[simp] theorem HexWord.of_word (h : HexWord) : HexWord.of h.word = h := by
  obtain ⟨op, rd, ra, rb, mid, low⟩ := h
  simp only [HexWord.of, HexWord.word, HexWord.mk.injEq]
  refine ⟨?_, ?_, ?_, ?_, ?_, ?_⟩
  all_goals
    simp (disch := omega) only [BitVec.extractLsb'_append_eq_of_le, BitVec.extractLsb'_append_eq_of_add_le, Nat.reduceSub,
      BitVec.extractLsb'_eq_self, Nat.sub_self]

/-- A word is put together from its fields. -/
@[simp] theorem HexWord.word_of (w : Word64) : (HexWord.of w).word = w := by
  simp only [HexWord.of, HexWord.word]
  iterate 5 rw [BitVec.extractLsb'_append_extractLsb'_eq_extractLsb' (by rfl)]
  exact BitVec.extractLsb'_eq_self

/-- A guarded instruction is its instruction where the guard holds. -/
theorem grd_eq_some {c : Bool} {i j : Instr} : grd c i = some j ↔ c = true ∧ i = j := by
  cases c <;> simp [grd]

/-- The fields of format S that name a setting. -/
def hexSetFields (op : BitVec 8) (rd ra : BitVec 5) (x : SetRef) : HexWord :=
  ⟨op, rd, ra, x.rb, x.blk ++ x.idx.extractLsb' 8 4, x.idx.extractLsb' 0 8 ++ BitVec.ofBool x.indexed ++ 0#23⟩

/-- The fields of a word that names a setting. -/
theorem of_hexS (op : BitVec 8) (rd ra : BitVec 5) (x : SetRef) : HexWord.of (hexS op rd ra x) = hexSetFields op rd ra x :=
  HexWord.of_word _

/-- The setting that the fields of format S name. -/
@[simp] theorem set_hexSetFields (op : BitVec 8) (rd ra : BitVec 5) (x : SetRef) : (hexSetFields op rd ra x).set = x := by
  obtain ⟨blk, idx, indexed, rb⟩ := x
  have index : idx.extractLsb' 8 4 ++ idx.extractLsb' 0 8 = idx := by
    rw [BitVec.extractLsb'_append_extractLsb'_eq_extractLsb' (by rfl)]
    exact BitVec.extractLsb'_eq_self
  have flag : (idx.extractLsb' 0 8 ++ BitVec.ofBool indexed ++ 0#23).getLsbD 23 = indexed := by
    rw [BitVec.getLsbD_append, BitVec.getLsbD_append]
    simp
  simp (disch := omega) only [HexWord.set, hexSetFields, BitVec.extractLsb'_append_eq_of_le, BitVec.extractLsb'_append_eq_of_add_le,
    Nat.reduceSub, BitVec.extractLsb'_eq_self, Nat.sub_self, index, flag]

/-- The bits below the index of a setting are 0. -/
theorem okS_hexSetFields (op : BitVec 8) (rd ra : BitVec 5) (x : SetRef) (a b : Bool) :
    (hexSetFields op rd ra x).okS a b = ((a || rd == 0) && (b || ra == 0)) := by
  have low : (hexSetFields op rd ra x).low.extractLsb' 0 23 = 0 := by
    simp (disch := omega) only [hexSetFields, BitVec.extractLsb'_append_eq_of_add_le, BitVec.extractLsb'_eq_self]
    rfl
  unfold HexWord.okS HexWord.unused
  rw [low]
  simp [hexSetFields]

/-- Fields whose bits [22:0] are 0 are those of the setting that they name. -/
theorem hexSetFields_set {f : HexWord} (zero : f.low.extractLsb' 0 23 = 0#23) : hexSetFields f.op f.rd f.ra f.set = f := by
  obtain ⟨op, rd, ra, rb, mid, low⟩ := f
  have block : mid.extractLsb' 4 5 ++ mid.extractLsb' 0 4 = mid := by
    rw [BitVec.extractLsb'_append_extractLsb'_eq_extractLsb' (by rfl)]
    exact BitVec.extractLsb'_eq_self
  have flag : BitVec.ofBool (low.getLsbD 23) = low.extractLsb' 23 1 := by
    ext i hi
    obtain rfl : i = 0 := by omega
    simp
  have index : low.extractLsb' 24 8 ++ BitVec.ofBool (low.getLsbD 23) ++ 0#23 = low := by
    dsimp only at zero
    rw [flag, ← zero, BitVec.extractLsb'_append_extractLsb'_eq_extractLsb' (by rfl),
      BitVec.extractLsb'_append_extractLsb'_eq_extractLsb' (by rfl)]
    exact BitVec.extractLsb'_eq_self
  simp (disch := omega) only [hexSetFields, HexWord.set, BitVec.extractLsb'_append_eq_of_le, BitVec.extractLsb'_append_eq_of_add_le,
    BitVec.extractLsb'_eq_self, Nat.sub_self, block, index]

/-- A field that is used or 0 is what it is where it is used, and 0 elsewhere. -/
theorem field_of_used {n : Nat} {used : Bool} {x : BitVec n} (h : (used || x == 0) = true) : (bif used then x else 0) = x := by
  cases used with
  | true => rfl
  | false => exact (eq_of_beq h).symm

/-- Formats R, I and B as one: the registers that are not used, bits [40:32] and, without an immediate, bits [31:0] are 0. -/
def HexWord.okRI (f : HexWord) (rd ra rb imm : Bool) : Bool := f.unused rd ra rb && f.mid == 0 && (imm || f.low == 0)

/-- A word without an immediate, as a case of `okRI`. -/
theorem HexWord.okR_eq (f : HexWord) (rd ra rb : Bool) : f.okR rd ra rb = f.okRI rd ra rb false := rfl

/-- A word with an immediate, as a case of `okRI`. -/
theorem HexWord.okI_eq (f : HexWord) (rd ra rb : Bool) : f.okI rd ra rb = f.okRI rd ra rb true := by
  simp [HexWord.okI, HexWord.okRI]

section
variable {f : HexWord} {k : BitVec 8} {rd ra rb : Bool} (op : f.op = k)
include op

/-- The fields of a defined word of format R, I or B. -/
theorem fields_of_okRI {imm : Bool} (ok : f.okRI rd ra rb imm = true) :
    ⟨k, bif rd then f.rd else 0, bif ra then f.ra else 0, bif rb then f.rb else 0, 0, bif imm then f.low else 0⟩ = f := by
  simp only [HexWord.okRI, HexWord.unused, Bool.and_eq_true] at ok
  obtain ⟨⟨⟨⟨hrd, hra⟩, hrb⟩, hmid⟩, hlow⟩ := ok
  rw [field_of_used hrd, field_of_used hra, field_of_used hrb, field_of_used hlow, ← op, ← eq_of_beq hmid]

/-- The fields of a defined word of format I whose immediate has a value. -/
theorem fields_of_okI {n : Nat} (ok : f.okI rd ra rb = true) (low : f.low.toNat = n) :
    ⟨k, bif rd then f.rd else 0, bif ra then f.ra else 0, bif rb then f.rb else 0, 0, BitVec.ofNat 32 n⟩ = f := by
  rw [HexWord.okI_eq] at ok
  rw [← low, BitVec.ofNat_toNat, BitVec.setWidth_eq]
  exact fields_of_okRI op ok

/-- The fields of a defined word of format S. -/
theorem fields_of_okS (ok : f.okS rd ra = true) :
    hexSetFields k (bif rd then f.rd else 0) (bif ra then f.ra else 0) f.set = f := by
  simp only [HexWord.okS, HexWord.unused, Bool.and_eq_true] at ok
  obtain ⟨⟨⟨hrd, hra⟩, -⟩, zero⟩ := ok
  rw [field_of_used hrd, field_of_used hra, ← op, hexSetFields_set (eq_of_beq zero)]

end

/-- Words are equal where their fields are. -/
theorem HexWord.word_inj {f g : HexWord} (h : f.word = g.word) : f = g := by
  rw [← HexWord.of_word f, h, HexWord.of_word]

/-- The opcode of the word that encodes an instruction names it: the settings instructions by their format, every other by its own
fields.  The slot and what the device observes are those of the instruction, or any where it has none. -/
theorem hexahForm_of_encodeHexah {i : Instr} {f : HexWord} (env : Env) (test : Bool) (h : encodeHexah i = some f.word) :
    ∃ slot env test, hexahForm slot env test f.word = some i := by
  unfold encodeHexah at h
  split at h
  case h_80 => cases h
  case h_66 | h_67 | h_68 | h_69 =>
    obtain rfl := HexWord.word_inj (Option.some.inj h)
    refine ⟨‹_›, ‹_›, ‹_›, ?_⟩
    unfold hexahForm
    rw [HexWord.of_word]
    exact grd_eq_some.2 ⟨okS_hexSetFields .., congrArg _ (set_hexSetFields ..)⟩
  all_goals
    obtain rfl := HexWord.word_inj (Option.some.inj h)
    refine ⟨‹_›, ‹_›, ‹_›, ?_⟩
    unfold hexahForm
    rw [HexWord.of_word]
    rfl

/-- The instruction that an opcode names is encoded by the word: QCTL and RESET by their immediate, the settings instructions by their
format, every other by its own fields. -/
theorem encodeHexah_of_hexahForm {slot : BitVec 6} {env : Env} {test : Bool} {f : HexWord} {i : Instr}
    (h : hexahForm slot env test f.word = some i) : encodeHexah i = some f.word := by
  obtain ⟨k, opcode⟩ : ∃ k, f.op.toNat = k := ⟨_, rfl⟩
  have op : f.op = BitVec.ofNat 8 k := by rw [← opcode, BitVec.ofNat_toNat, BitVec.setWidth_eq]
  unfold hexahForm at h
  rw [HexWord.of_word] at h
  dsimp only at h
  rw [opcode] at h
  split at h
  case h_72 => cases h
  case h_50 | h_60 =>
    split at h
    · next ok =>
      split at h <;> cases h <;> exact congrArg (fun f => some f.word) (fields_of_okI op ok ‹_›)
    · cases h
  case h_39 | h_40 | h_41 | h_42 =>
    obtain ⟨ok, rfl⟩ := grd_eq_some.1 h
    exact congrArg (fun f => some f.word) (fields_of_okS op ok)
  all_goals
    simp only [HexWord.okR_eq, HexWord.okI_eq] at h
    obtain ⟨ok, rfl⟩ := grd_eq_some.1 h
    exact congrArg (fun f => some f.word) (fields_of_okRI op ok)

/-- Settles O5: a word is its fields, and each format's fields are those of the instruction. -/
theorem hexahWordsRoundTrip : Obligations.HexahWordsRoundTrip := by
  unfold Obligations.HexahWordsRoundTrip
  refine ⟨fun i w wf encoded => ?_, fun slot env test w i decoded => ?_⟩
  · rw [← HexWord.word_of w] at encoded ⊢
    obtain ⟨slot, env, test, form⟩ := hexahForm_of_encodeHexah Env.quiet true encoded
    exact ⟨slot, env, test, Option.filter_eq_some_iff.2 ⟨form, wf⟩⟩
  · obtain ⟨form, wf⟩ := Option.filter_eq_some_iff.1 decoded
    rw [← HexWord.word_of w] at form ⊢
    exact ⟨wf, encodeHexah_of_hexahForm form⟩

/-- Settles O7: each word is decoded by evaluation, for every slot, shed and observation. -/
theorem writtenOutWordsDecode : Obligations.WrittenOutWordsDecode := by
  unfold Obligations.WrittenOutWordsDecode
  exact ⟨fun _ _ _ => rfl, fun _ _ _ => rfl, fun _ _ => rfl, fun _ _ _ => rfl, fun _ _ _ => rfl, fun _ _ => rfl⟩

end Sys2Proof.Machine
end

section
/-! ### Hexah arithmetic, logic and constants (07 R242, R246, R250, Table 7.4) -/
namespace Sys2Proof.Machine

/-- h0 reads zero. -/
@[simp] theorem reg_zero (p : Prog) : p.reg 0 = 0 := rfl

/-- A write to h0 is discarded. -/
@[simp] theorem setReg_zero (p : Prog) (v : Word64) : p.setReg 0 v = p := rfl

/-- A register other than h0 reads what was written to it last. -/
theorem reg_setReg_same (p : Prog) {rd : BitVec 5} (named : rd ≠ 0) (v : Word64) : (p.setReg rd v).reg rd = v := by
  simp only [Prog.setReg, Prog.reg, named, if_false, Tbl.get_put_same]

/-- A write to a register leaves every other one as it was. -/
theorem reg_setReg_ne (p : Prog) {rd r : BitVec 5} (other : r ≠ rd) (v : Word64) : (p.setReg rd v).reg r = p.reg r := by
  have place : r.toNat ≠ rd.toNat := fun same => other (BitVec.eq_of_toNat_eq same)
  unfold Prog.setReg
  split
  · rfl
  · unfold Prog.reg
    rw [Tbl.get_put_ne _ _ place]

/-- The unsigned quotient of Table 7.4, by numbers. -/
theorem divUnsigned_eq (a b : Word64) : divUnsigned a b = if b = 0 then BitVec.allOnes 64 else BitVec.ofNat 64 (a.toNat / b.toNat) := by
  unfold divUnsigned
  rw [← BitVec.toNat_udiv, BitVec.ofNat_toNat, BitVec.setWidth_eq]

/-- The unsigned remainder of Table 7.4, by numbers. -/
theorem remUnsigned_eq (a b : Word64) : remUnsigned a b = if b = 0 then a else BitVec.ofNat 64 (a.toNat % b.toNat) := by
  unfold remUnsigned
  rw [← BitVec.toNat_umod, BitVec.ofNat_toNat, BitVec.setWidth_eq]

/-- A comparison answers one where it holds. -/
theorem boolWord_of_iff {c : Bool} {P : Prop} [Decidable P] (h : c = true ↔ P) : boolWord c = if P then 1 else 0 := by
  unfold boolWord
  simp only [h]

/-- An immediate word above the low half of a register. -/
theorem immediate_above (imm : Word32) (a : Word64) :
    (imm.setWidth 64 <<< 32) ||| (a.setWidth 32).setWidth 64 = (imm ++ a.setWidth 32 : Word64) := by
  refine BitVec.eq_of_getLsbD_eq fun i hi => ?_
  rw [BitVec.getLsbD_append]
  by_cases low : i < 32 <;> simp [low, hi]

section
variable {s : State} {slot : BitVec 6} {p : Prog} (h : issues s slot p) (next : hasNext p)
include h next

/-- A three-register instruction writes the value of its operation to rd and goes on. -/
theorem aluR_writes {op : Word64 → Word64 → Word64} {rd ra rb : BitVec 5} {v : Word64} (value : op (p.reg ra) (p.reg rb) = v) :
    aluR op slot rd ra rb s = .next (putP s slot.toNat (onward (wrote p rd v))) := by
  unfold aluR
  rw [onProg_issues h, retireRd_next s slot next, value]

/-- An instruction with an immediate writes the value of its operation to rd and goes on. -/
theorem aluI_writes (op : Word64 → Word64 → Word64) (rd ra : BitVec 5) (imm : Word32) :
    aluI op slot rd ra imm s = .next (putP s slot.toNat (onward (wrote p rd (op (p.reg ra) (imm.signExtend 64))))) := by
  unfold aluI
  rw [onProg_issues h, retireRd_next s slot next]
  rfl

/-- A shift by 0 to 63 writes its value to rd and goes on. -/
theorem shiftI_writes (op : Word64 → Nat → Word64) (rd ra : BitVec 5) {imm : Word32} (defined : imm.toNat < 64) :
    shiftI op slot rd ra imm s = .next (putP s slot.toNat (onward (wrote p rd (op (p.reg ra) imm.toNat)))) := by
  unfold shiftI
  rw [onProg_issues h, if_pos defined, retireRd_next s slot next]

/-- The destination and the result of MOVI. -/
theorem execMovi_writes (rd : BitVec 5) (imm : Word32) :
    execMovi slot rd imm s = .next (putP s slot.toNat (onward (wrote p rd (imm.signExtend 64)))) := by
  unfold execMovi
  rw [onProg_issues h, retireRd_next s slot next]
  rfl

/-- The destination and the result of LDIH: the lower half stays. -/
theorem execLdih_writes (rd ra : BitVec 5) (imm : Word32) :
    execLdih slot rd ra imm s = .next (putP s slot.toNat (onward (wrote p rd (imm ++ (p.reg ra).setWidth 32)))) := by
  unfold execLdih
  rw [onProg_issues h, retireRd_next s slot next, immediate_above]

/-- The destination and the result of GTC. -/
theorem execGtc_writes (rd : BitVec 5) :
    execGtc slot rd s = .next (putP s slot.toNat (onward (wrote p rd (BitVec.ofNat 64 s.gtc)))) := by
  unfold execGtc
  rw [onProg_issues h, retireRd_next s slot next]
  rfl

end

/-- A shift by another amount is undefined and ends its program. -/
theorem shiftI_undefined {s : State} {slot : BitVec 6} {p : Prog} (h : issues s slot p) (op : Word64 → Nat → Word64) (rd ra : BitVec 5)
    {imm : Word32} (far : 64 ≤ imm.toNat) : shiftI op slot rd ra imm s = .next (endWith s slot.toNat p 0x0002 p.index none) := by
  unfold shiftI
  rw [onProg_issues h, if_neg (Nat.not_lt.2 far)]
  rfl

/-- Settles O8: instructions by `aluR_writes`, registers by what a read finds after a write. -/
theorem hexahRegisterInstructionsWriteRd : Obligations.HexahRegisterInstructionsWriteRd := by
  unfold Obligations.HexahRegisterInstructionsWriteRd
  refine ⟨fun s slot rd ra rb p h next => ?_, fun p v => ?_⟩
  · have writes := @aluR_writes s slot p h next
    exact ⟨(exec_add ..).trans (writes rfl), (exec_sub ..).trans (writes rfl), (exec_mul ..).trans (writes rfl),
      (exec_mulhu ..).trans (writes rfl), (exec_divu ..).trans (writes (divUnsigned_eq _ _)),
      (exec_remu ..).trans (writes (remUnsigned_eq _ _)), (exec_and ..).trans (writes rfl), (exec_or ..).trans (writes rfl),
      (exec_xor ..).trans (writes rfl), (exec_shl ..).trans (writes rfl), (exec_shr ..).trans (writes rfl),
      (exec_sar ..).trans (writes rfl), (exec_slt ..).trans (writes (boolWord_of_iff BitVec.slt_iff_toInt_lt)),
      (exec_sltu ..).trans (writes (boolWord_of_iff BitVec.ult_iff_toNat_lt)), (exec_seq ..).trans (writes (boolWord_of_iff beq_iff_eq))⟩
  · exact ⟨reg_zero p, setReg_zero p v, fun rd named => ⟨reg_setReg_same p named v, fun r other => reg_setReg_ne p other v⟩⟩

/-- Settles O9: each format by what it writes, undefined shifts by `shiftI_undefined`. -/
theorem hexahImmediateInstructionsWriteRd : Obligations.HexahImmediateInstructionsWriteRd := by
  unfold Obligations.HexahImmediateInstructionsWriteRd
  refine ⟨fun s slot rd ra imm p h next => ?_, fun s slot rd ra imm p h far f hf => ?_⟩
  · have alu := fun op => aluI_writes h next op rd ra imm
    refine ⟨(exec_addi ..).trans (alu _), (exec_andi ..).trans (alu _), (exec_ori ..).trans (alu _), (exec_xori ..).trans (alu _),
      (exec_movi ..).trans (execMovi_writes h next rd imm), (exec_ldih ..).trans (execLdih_writes h next rd ra imm),
      (exec_gtc ..).trans (execGtc_writes h next rd), fun defined => ?_⟩
    have shift := fun op => shiftI_writes h next op rd ra defined
    exact ⟨(exec_shli ..).trans (shift _), (exec_shri ..).trans (shift _), (exec_sari ..).trans (shift _)⟩
  · fin_cases hf <;> exact shiftI_undefined h _ rd ra far

end Sys2Proof.Machine
end

section
/-! ### Hexah control flow (07 R246, R251, Table 7.5, 06 R241) -/
namespace Sys2Proof.Machine

/-- BNE branches where its registers differ. -/
theorem bne_eq_decide_ne {a b : Word64} : (a != b) = decide (a ≠ b) := by
  rw [decide_not, ← beq_eq_decide]
  rfl

/-- BGE branches where BLT does not. -/
theorem not_slt_eq (a b : Word64) : (!(a.slt b)) = decide (b.toInt ≤ a.toInt) := by
  rw [BitVec.slt_eq_decide, ← decide_not]
  exact decide_eq_decide.2 Int.not_lt

/-- BGEU branches where BLTU does not. -/
theorem not_ult_eq (a b : Word64) : (!(a.ult b)) = decide (b.toNat ≤ a.toNat) := by
  rw [BitVec.ult_eq_decide, ← decide_not]
  exact decide_eq_decide.2 Nat.not_lt

section
variable {s : State} {slot : BitVec 6} {p : Prog} (h : issues s slot p)

/-- A program that has written a register leaves its words by a jump out of them, or at its last one. -/
theorem retireTo_wrote_outside (rd : BitVec 5) (v : Word64) {t : Int} (far : t < 0 ∨ (p.words : Int) ≤ t) :
    retireTo s slot (p.setReg rd v) t = endWith s slot.toNat { wrote p rd v with retired := p.retired + 1 } 0x0002 p.index none := by
  rw [retireTo_outside s slot (by rwa [setReg_words]), setReg_index, setReg_retired]
  rfl

include h

/-- A branch goes to its target, or to the next word, inside the program. -/
theorem branchIf_inside {cond : Word64 → Word64 → Bool} {ra rb : BitVec 5} {off : Word32} {c : Bool} {n : Nat}
    (value : cond (p.reg ra) (p.reg rb) = c) (inside : n < p.words)
    (target : (n : Int) = if c then (p.index : Int) + off.toInt else (p.index : Int) + 1) :
    branchIf cond slot ra rb off s = .next (putP s slot.toNat (gone p n)) := by
  unfold branchIf
  rw [onProg_issues h, value, retireTo_inside s slot target.symm inside]

/-- A branch that is taken out of the program ends it. -/
theorem branchIf_outside {cond : Word64 → Word64 → Bool} {ra rb : BitVec 5} {off : Word32} {c : Bool}
    (value : cond (p.reg ra) (p.reg rb) = c) (far : (p.index : Int) + off.toInt < 0 ∨ (p.words : Int) ≤ (p.index : Int) + off.toInt)
    (taken : c = true) :
    branchIf cond slot ra rb off s = .next (endWith s slot.toNat { p with retired := p.retired + 1 } 0x0002 p.index none) := by
  unfold branchIf
  rw [onProg_issues h, if_pos (value.trans taken), retireTo_outside s slot far]
  rfl

/-- JAL inside the program. -/
theorem execJal_inside {rd : BitVec 5} {off : Word32} {n : Nat} (inside : n < p.words) (target : (n : Int) = (p.index : Int) + off.toInt) :
    execJal slot rd off s = .next (putP s slot.toNat (gone (wrote p rd (BitVec.ofNat 64 (p.index + 1))) n)) := by
  unfold execJal
  rw [onProg_issues h, retireTo_inside s slot target.symm (by rwa [setReg_words])]
  rfl

/-- JR inside the program. -/
theorem execJr_inside {rd ra : BitVec 5} {n : Nat} (inside : n < p.words) (target : (p.reg ra).toNat = n) :
    execJr slot rd ra s = .next (putP s slot.toNat (gone (wrote p rd (BitVec.ofNat 64 (p.index + 1))) n)) := by
  unfold execJr
  rw [onProg_issues h, retireTo_inside s slot (congrArg Nat.cast target) (by rwa [setReg_words])]
  rfl

/-- JAL out of the program. -/
theorem execJal_outside {rd : BitVec 5} {off : Word32}
    (far : (p.index : Int) + off.toInt < 0 ∨ (p.words : Int) ≤ (p.index : Int) + off.toInt) :
    execJal slot rd off s = .next (endWith s slot.toNat
      { wrote p rd (BitVec.ofNat 64 (p.index + 1)) with retired := p.retired + 1 } 0x0002 p.index none) := by
  unfold execJal
  rw [onProg_issues h, retireTo_wrote_outside rd _ far]
  rfl

/-- JR out of the program. -/
theorem execJr_outside {rd ra : BitVec 5} (far : p.words ≤ (p.reg ra).toNat) :
    execJr slot rd ra s = .next (endWith s slot.toNat
      { wrote p rd (BitVec.ofNat 64 (p.index + 1)) with retired := p.retired + 1 } 0x0002 p.index none) := by
  unfold execJr
  rw [onProg_issues h, retireTo_wrote_outside rd _ (.inr (Int.ofNat_le.2 far))]
  rfl

section
variable (last : p.words ≤ p.index + 1)
include last

/-- A three-register instruction at the last word ends its program. -/
theorem aluR_last (op : Word64 → Word64 → Word64) (rd ra rb : BitVec 5) : aluR op slot rd ra rb s = .next (endWith s slot.toNat
    { wrote p rd (op (p.reg ra) (p.reg rb)) with retired := p.retired + 1 } 0x0002 p.index none) := by
  unfold aluR retireRd retire
  rw [onProg_issues h, setReg_index, retireTo_wrote_outside rd _ (.inr (by omega))]

/-- FENCE at the last word ends its program. -/
theorem execFence_last :
    execFence slot s = .next (endWith s slot.toNat { p with retired := p.retired + 1 } 0x0002 p.index none) := by
  unfold execFence
  rw [onProg_issues h, retire_last s slot last]
  rfl

/-- ABANDON at the last word ends its program. -/
theorem execAbandon_last : execAbandon slot s = .next (endWith (jot s) slot.toNat
    { p with staged := [], overfull := false, retired := p.retired + 1 } 0x0002 p.index none) := by
  unfold execAbandon
  rw [onProg_issues h, retire_last (jot s) slot (p := { p with staged := [], overfull := false }) last]
  rfl

end

end

/-- Settles O10: a target inside the program by `retireTo_inside`, one outside by `retireTo_outside`. -/
theorem hexahControlTransfersKeepToTheProgram : Obligations.HexahControlTransfersKeepToTheProgram := by
  unfold Obligations.HexahControlTransfersKeepToTheProgram
  refine ⟨fun s slot rd ra rb off p n h inside => ?_, fun s slot rd ra rb off p h => ⟨fun far => ?_, fun far => ?_, fun last => ?_⟩⟩
  · exact ⟨fun target => (exec_beq ..).trans (branchIf_inside h (beq_eq_decide ..) inside target),
      fun target => (exec_bne ..).trans (branchIf_inside h bne_eq_decide_ne inside target),
      fun target => (exec_blt ..).trans (branchIf_inside h BitVec.slt_eq_decide inside target),
      fun target => (exec_bge ..).trans (branchIf_inside h (not_slt_eq _ _) inside target),
      fun target => (exec_bltu ..).trans (branchIf_inside h BitVec.ult_eq_decide inside target),
      fun target => (exec_bgeu ..).trans (branchIf_inside h (not_ult_eq _ _) inside target),
      fun target => (exec_jal ..).trans (execJal_inside h inside target),
      fun target => (exec_jr ..).trans (execJr_inside h inside target)⟩
  · exact ⟨(exec_jal ..).trans (execJal_outside h far),
      fun taken => (exec_beq ..).trans (branchIf_outside h (beq_eq_decide ..) far (decide_eq_true taken)),
      fun taken => (exec_bne ..).trans (branchIf_outside h bne_eq_decide_ne far (decide_eq_true taken)),
      fun taken => (exec_blt ..).trans (branchIf_outside h BitVec.slt_eq_decide far (decide_eq_true taken)),
      fun taken => (exec_bge ..).trans (branchIf_outside h (not_slt_eq _ _) far (decide_eq_true taken)),
      fun taken => (exec_bltu ..).trans (branchIf_outside h BitVec.ult_eq_decide far (decide_eq_true taken)),
      fun taken => (exec_bgeu ..).trans (branchIf_outside h (not_ult_eq _ _) far (decide_eq_true taken))⟩
  · exact (exec_jr ..).trans (execJr_outside h far)
  · exact ⟨(exec_add ..).trans (aluR_last h last _ rd ra rb), (exec_fence ..).trans (execFence_last h last),
      (exec_abandon ..).trans (execAbandon_last h last)⟩

end Sys2Proof.Machine
end

section
/-! ### Staged and immediate settings (07 R254, R256, Table 7.7, 08 R280 to R282, R297) -/
namespace Sys2Proof.Machine

/-! The staged set of a program. -/

/-- A write to the staged set changes the staged set and its overfull mark alone. -/
theorem stageInto_frame (p : Prog) (e : Staged) :
    stageInto p e = { p with staged := (stageInto p e).staged, overfull := (stageInto p e).overfull } := by
  unfold stageInto
  split
  · rfl
  · split <;> rfl

section
variable {p : Prog} {e : Staged}

/-- A setting that is not staged yet stands last in the staged set. -/
theorem stageInto_new (fresh : stagedOf p.staged e.blk e.idx e.ctx = none) (room : p.staged.length < 1024) :
    stageInto p e = { p with staged := p.staged ++ [e] } := by
  unfold stageInto
  rw [fresh]
  exact if_neg (Nat.not_le.2 room)

/-- A setting that is not staged yet overfills a set of 1,024. -/
theorem stageInto_full (fresh : stagedOf p.staged e.blk e.idx e.ctx = none) (full : 1024 ≤ p.staged.length) :
    stageInto p e = { p with overfull := true } := by
  unfold stageInto
  rw [fresh]
  exact if_pos full

/-- A setting that is staged takes the new value in its place, under its old generation. -/
theorem stageInto_again {o : Staged} (staged : stagedOf p.staged e.blk e.idx e.ctx = some o) :
    (stageInto p e).staged.length = p.staged.length ∧ { o with val := e.val } ∈ (stageInto p e).staged := by
  unfold stageInto
  rw [staged]
  exact ⟨List.length_map .., List.mem_map.2 ⟨o, List.mem_of_find?_eq_some staged, if_pos rfl⟩⟩

end

/-- Staging a setting leaves the program's next word as it was. -/
theorem hasNext_stageInto {p : Prog} (next : hasNext p) (e : Staged) : hasNext (stageInto p e) := by
  rw [stageInto_frame]
  exact next

/-! The rows of the settings index, and a register of a setting that is written at once. -/

/-- The row of a setting is one of the index, in its block. -/
theorem setRow_mem {blk idx : Nat} {r : SetRow} (row : setRow blk idx = some r) : r ∈ setRows ∧ r.blk = blk := by
  have found := List.find?_some row
  simp only [Bool.and_eq_true, beq_iff_eq] at found
  exact ⟨List.mem_of_find?_eq_some row, found.1.1⟩

/-- A setting that a program names has a row in the index. -/
theorem setRow_of_resolve {p : Prog} {x : SetRef} {r : SetRow} {i : Nat} (named : resolve p x = some (r, i)) : setRow r.blk i = some r := by
  unfold resolve at named
  obtain ⟨-, named⟩ := Option.ite_none_left_eq_some.1 named
  obtain ⟨r', row, same⟩ := Option.map_eq_some_iff.1 named
  obtain ⟨rfl, rfl⟩ := Prod.mk.inj same
  rw [(setRow_mem row).2]
  exact row

/-- No immediate setting is one of RST: what WRI writes there is RST.SERVICE, a W1C field (16 R565). -/
theorem immediate_notReset {r : SetRow} (row : r ∈ setRows) (im : r.cls = .im) : r.blk ≠ 8 := by
  have all : ∀ r ∈ setRows, r.cls = .im → r.blk ≠ 8 := by decide
  exact all r row im

/-- A write of a setting changes the settings alone. -/
theorem putLive_frame (s : State) (blk idx ctx : Nat) (v : Word64) (g : Nat) :
    putLive s blk idx ctx v g = { s with sets := (putLive s blk idx ctx v g).sets } := by
  unfold putLive
  dsimp only
  split <;> rfl

/-- The register of a setting that is not hardened reads what was written to it, its reserved bits clear. -/
theorem liveVal_putLive {blk idx : Nat} {r : SetRow} (row : setRow blk idx = some r) (soft : r.cls ≠ .hd) (s : State) (ctx : Nat)
    (v : Word64) (g : Nat) : liveVal (putLive s blk idx ctx v g) blk idx ctx = v &&& BitVec.ofNat 64 r.mask := by
  have register : isHd blk idx = false := by
    unfold isHd
    rw [row]
    exact decide_eq_false soft
  unfold liveVal putLive setCell
  rw [register, row]
  exact congrArg SetCell.val (Tbl.get_put_same ..)

/-- The context of a per-context setting, or 0. -/
theorem ctxOr0_setCtx {p : Prog} {r : SetRow} (sel : r.perCtx = true → p.sel < 256) :
    ctxOr0 (setCtx p r) = if r.perCtx then p.sel else 0 := by
  unfold ctxOr0 setCtx
  split
  · exact if_pos (sel ‹_›)
  · rfl

section
variable {s : State} {slot : BitVec 6} {p : Prog} (h : issues s slot p) (next : hasNext p)
include h next

/-- STAGE of an ST or HD setting that the program may write. -/
theorem execStage_stages {x : SetRef} {r : SetRow} {i : Nat} (ok : SetRef.ok x = true) (named : resolve p x = some (r, i))
    (sel : r.perCtx = true → p.sel < 256) (staged : r.cls = .st ∨ r.cls = .hd) (may : r.priv ≤ p.priv)
    (free : ¬ (r.blk = 7 ∧ r.cls = .hd ∧ r.priv = 4)) (ra : BitVec 5) :
    execStage slot ra x s = .next (putP (jot s) slot.toNat (onward (stageInto p
      ⟨r.blk, i, setCtx p r, p.reg ra &&& BitVec.ofNat 64 r.mask, setGen s r.blk i (ctxOr0 (setCtx p r))⟩))) := by
  have cls : ¬ (!(r.cls == .st || r.cls == .hd)) = true := by rcases staged with st | hd <;> simp [*]
  unfold execStage
  rw [onSetting_named h ok named, if_neg free, if_neg cls, if_neg (Nat.not_lt.2 may), noSel_selected sel, if_neg Bool.false_ne_true]
  exact congrArg _ (retire_next _ _ (hasNext_stageInto next _))

/-- CHECK writes the identifier of the first rule that the staged set fails to rd. -/
theorem execCheck_reports (rd : BitVec 5) :
    execCheck slot rd s = .next (retired s slot p rd (ruleWord (if p.staged.isEmpty then 0 else firstRule s p))) := by
  unfold execCheck
  rw [onProg_issues h, retireRd_next s slot next]
  rfl

/-- ABANDON drops the staged set. -/
theorem execAbandon_drops :
    execAbandon slot s = .next (putP (jot s) slot.toNat (onward { p with staged := [], overfull := false })) := by
  unfold execAbandon
  rw [onProg_issues h]
  exact congrArg _ (retire_next (jot s) slot (p := { p with staged := [], overfull := false }) next)

/-- WRI of an IM setting without an action of its own. -/
theorem execWri_immediate {x : SetRef} {r : SetRow} {i : Nat} (ok : SetRef.ok x = true) (named : resolve p x = some (r, i))
    (im : r.cls = .im) (may : Nat.min 2 r.priv ≤ p.priv) (own : r.priv ≠ 3) (clu : r.blk ≠ 4) (esp : r.blk ≠ 11) (recorder : r.blk ≠ 12)
    (sel : r.perCtx = true → p.sel < 256 ∧ isFenced s p.sel = false ∧ (getC s p.sel).inUse = true) (ra : BitVec 5) :
    execWri slot ra x s = .next (putLive (putP (jot s) slot.toNat (onward p)) r.blk i (if r.perCtx then p.sel else 0)
      (p.reg ra &&& BitVec.ofNat 64 r.mask) 0) := by
  have notReset : r.blk ≠ 8 := immediate_notReset (setRow_mem (setRow_of_resolve named)).1 im
  have selected : r.perCtx = true → p.sel < 256 := fun per => (sel per).1
  have ctx : r.perCtx = true → setCtx p r = p.sel := fun per => if_pos per
  have priv : ¬ (p.priv < Nat.min 2 r.priv ∨ (r.priv = 3 ∧ p.queue ≠ 1023)) := by
    rintro (below | ⟨three, -⟩)
    · exact Nat.not_lt.2 may below
    · exact own three
  have free : ¬ (r.perCtx = true ∧ isFenced s (setCtx p r) = true) := fun ⟨per, fenced⟩ => by
    rw [ctx per, (sel per).2.1] at fenced
    cases fenced
  have used : ¬ (r.perCtx = true ∧ (!(getC s (setCtx p r)).inUse) = true) := fun ⟨per, absent⟩ => by
    rw [ctx per, (sel per).2.2] at absent
    cases absent
  unfold execWri
  rw [onSetting_named h ok named]
  unfold wriTo
  dsimp only
  rw [if_neg (by simp [im]), if_neg priv, noSel_selected selected, if_neg Bool.false_ne_true, if_neg free, if_neg used,
    retire_next _ _ next]
  unfold writeNow
  dsimp only
  rw [if_neg clu, if_neg esp, if_neg (fun both => recorder both.1), if_neg recorder, if_neg notReset, ctxOr0_setCtx selected]
  rfl

end

/-- Settles O13: STAGE by the three ways into the staged set, CHECK by its rule, WRI by the register that it writes. -/
theorem stagingAndImmediateWrites : Obligations.StagingAndImmediateWrites := by
  unfold Obligations.StagingAndImmediateWrites
  refine ⟨fun s slot ra x p r i h next ok named sel cls may free => ?_, fun s slot rd p h next => ⟨fun passes => ?_, fun entries fails => ?_, ?_⟩,
    fun s slot ra x p r i h next ok named im may own clu esp recorder sel => ?_⟩
  · refine ⟨_, _, (exec_stage ..).trans (execStage_stages h next ok named sel cls may free ra), getP_putP_same .., rfl, stageInto_frame ..,
      ?_, ?_, ?_⟩
    · intro fresh room
      rw [stageInto_new fresh room]
      exact ⟨rfl, rfl⟩
    · intro fresh full
      rw [stageInto_full fresh full]
      exact ⟨rfl, rfl⟩
    · exact fun o staged => stageInto_again staged
  · have zero : (if p.staged.isEmpty then 0 else firstRule s p) = 0 := by
      rcases passes with empty | pass
      · rw [empty]
        rfl
      · rw [pass, ite_self]
    rw [exec_check, execCheck_reports h next, zero]
    rfl
  · rw [exec_check, execCheck_reports h next, if_neg (by rwa [List.isEmpty_iff])]
    exact congrArg (fun v => Host.Outcome.next (retired s slot p rd v)) (if_neg fails)
  · exact (exec_abandon ..).trans (execAbandon_drops h next)
  · refine ⟨_, (exec_wri ..).trans (execWri_immediate h next ok named im may own clu esp recorder sel ra), ?_, ?_, putLive_frame ..⟩
    · rw [liveVal_putLive (setRow_of_resolve named) (by rw [im]; decide), BitVec.and_assoc, BitVec.and_self]
    · rw [putLive_frame]
      exact getP_putP_same ..

end Sys2Proof.Machine
end

section
/-! ### Commits that fail (07 R256, 08 R282, R292, R299, R300) -/
namespace Sys2Proof.Machine

/-- The instruction of a waiting program in a slot completes: it writes rd and goes on. -/
theorem wakeRd_slot (s : State) (slot : BitVec 6) {p : Prog} (next : hasNext p) (rd : Nat) (v : Word64) :
    wakeRd s slot.toNat p rd v = putP s slot.toNat (onward (wrote { p with wait := .none } (BitVec.ofNat 5 rd) v)) := by
  unfold wakeRd
  rw [BitVec.ofNat_toNat, BitVec.setWidth_eq]
  exact retireRd_next s slot (p := { p with wait := .none }) next _ v

/-- A journalled change of a program changes the programs and the Treadles alone. -/
theorem putP_jot_frame (s : State) (n : Nat) (v : Prog) :
    putP (jot s) n v = { s with progs := (putP (jot s) n v).progs, trd := (putP (jot s) n v).trd } := by
  unfold jot
  split <;> rfl

/-- A COMMIT that fails a rule goes on with the rule in rd, or ends its program. -/
theorem commitFails_eq (s : State) (slot : BitVec 6) {p : Prog} (next : hasNext p) (rd : Nat) (soft : Bool) {rule : Nat} (fails : rule ≠ 0) :
    let q := wrote { p with wait := .none } (BitVec.ofNat 5 rd) (BitVec.ofNat 64 (2 ^ 63 + rule))
    commitFails s slot.toNat p rd soft rule =
      if soft then putP s slot.toNat (onward q) else endWith s slot.toNat q 0x0005 p.index none := by
  have word : ruleWord rule = BitVec.ofNat 64 (2 ^ 63 + rule) := if_neg fails
  unfold commitFails
  rw [wakeRd_slot s slot next, word]
  rfl

section
variable {s : State} {slot : BitVec 6} {p : Prog} {rd : Nat} {soft : Bool}
  (head : tokenHead s = some (slot.toNat, p, rd, soft)) (free : stagedFenced s p = false)
include head free

/-- The first waiting COMMIT fails a rule. -/
theorem execCommitTokenGrant_failsRule (copiesOk : Bool) (fails : firstRule s p ≠ 0) :
    execCommitTokenGrant copiesOk s = .next (commitFails (dropToken s) slot.toNat p rd soft (firstRule s p)) := by
  unfold execCommitTokenGrant
  rw [head]
  dsimp only
  rw [free, if_neg Bool.false_ne_true, if_pos fails]

/-- A stored copy of a hardened setting of the first waiting COMMIT cannot be written: the failure is accepted with the first hardened
setting of the staged set. -/
theorem execCommitTokenGrant_failsWrite (passes : firstRule s p = 0) (hardened : ∃ e ∈ p.staged, isHd e.blk e.idx = true) :
    ∃ pl, ∃ e ∈ p.staged, isHd e.blk e.idx = true ∧
      execCommitTokenGrant false s = .next (accept s 0xD046 5 0x0C e.blk 0xFFFF 0xFFFF pl) := by
  obtain ⟨e, found⟩ : ∃ e, p.staged.find? (fun e => isHd e.blk e.idx) = some e := by
    rw [← Option.isSome_iff_exists, List.find?_isSome]
    exact hardened
  have any : (!false) = true ∧ p.staged.any (fun e => isHd e.blk e.idx) = true := ⟨rfl, List.any_eq_true.2 hardened⟩
  have hd : isHd e.blk e.idx = true := by simpa using List.find?_some found
  unfold execCommitTokenGrant
  rw [head]
  dsimp only
  rw [free, if_neg Bool.false_ne_true, if_neg (not_not_intro passes), if_pos any, found]
  exact ⟨_, e, List.mem_of_find?_eq_some found, hd, rfl⟩

/-- A block that is ON and outside every fence does not acknowledge prepare: rule 0x0004 fails, and the hang is accepted with the
block of the first staged setting. -/
theorem execCommitPrepareTimeout_failsPrepare {e : Staged} (first : p.staged.head? = some e) (passes : firstRule s p = 0) {domain : BitVec 16}
    (inside : domain.toNat ≤ 1120) (on : domState s domain.toNat = 1) (reach : isFencedEngine s domain.toNat = false) :
    ∃ pl, execCommitPrepareTimeout domain s =
      .next (accept (commitFails (jot (dropToken s)) slot.toNat p rd soft 4) 0xD044 4 0x0C e.blk 0xFFFF domain.toNat pl) := by
  have touched : ¬ (domain.toNat > 1120 ∨ domState s domain.toNat ≠ 1 ∨ isFencedEngine s domain.toNat = true ∨ stagedFenced s p = true ∨
      firstRule s p ≠ 0) := by
    rw [reach, free, on, passes]
    simpa using inside
  unfold execCommitPrepareTimeout
  rw [head]
  dsimp only
  rw [if_neg touched, first]
  exact ⟨_, rfl⟩

end

/-- Settles O16: rules by `commitFails_eq`, a hardened write and a prepare by the event that they accept. -/
theorem failedCommitsChangeNoSetting : Obligations.FailedCommitsChangeNoSetting := by
  unfold Obligations.FailedCommitsChangeNoSetting
  refine ⟨fun s slot p rd soft copiesOk head next free => ⟨fun fails => ?_, fun passes hardened c => ?_⟩,
    fun s slot p rd domain e head first next free passes inside on reach c => ?_⟩
  · rw [exec_commitTokenGrant, execCommitTokenGrant_failsRule head free copiesOk fails, commitFails_eq _ _ next _ _ fails]
    rfl
  · obtain ⟨pl, e, mem, hd, run⟩ := execCommitTokenGrant_failsWrite head free passes hardened
    obtain ⟨frame, -, last, held⟩ := accept_calm c 0xD046 5 0x0C e.blk 0xFFFF 0xFFFF pl
    refine ⟨_, (exec_commitTokenGrant ..).trans run, ?_, ?_, ?_, ⟨e, mem, hd, last⟩, held⟩ <;> rw [frame]
  · let q := onward (wrote { p with wait := .none } (BitVec.ofNat 5 rd) (BitVec.ofNat 64 (2 ^ 63 + 4)))
    let x := putP (jot (dropToken s)) slot.toNat q
    have waked : x = { s with progs := x.progs, trd := x.trd } := putP_jot_frame ..
    have trd : x.trd = { (dropToken s).trd with journal := x.trd.journal } := congrArg State.trd (jot_frame (dropToken s))
    obtain ⟨pl, run⟩ := execCommitPrepareTimeout_failsPrepare head free first passes inside on reach
    rw [commitFails_eq _ _ next _ _ (by decide)] at run
    have calmed : calm x := calm_of c (by rw [waked]) (by rw [waked]) (by rw [waked])
    obtain ⟨frame, -, last, held⟩ := accept_calm calmed 0xD044 4 0x0C e.blk 0xFFFF domain.toNat pl
    refine ⟨_, (exec_commitPrepareTimeout ..).trans run, ?_, ?_, ?_, ?_, last, held, ?_⟩
    · show (accept x ..).sets = _
      rw [frame, waked]
    · show (accept x ..).trd.commitSeq = _
      rw [frame, trd]
      rfl
    · show (accept x ..).trd.tokenQ = _
      rw [frame, trd]
      rfl
    · show getP (accept x ..) _ = _
      rw [frame]
      exact getP_putP_same ..
    · show accept x .. = { s with progs := (accept x ..).progs, trd := (accept x ..).trd, rcd := (accept x ..).rcd, err := (accept x ..).err }
      rw [frame, waked]

end Sys2Proof.Machine
end

section
/-! ### Sync objects, waits and launches from Hexah (07 R258 to R261, R269, R270, Tables 7.9 to 7.11) -/
namespace Sys2Proof.Machine

/-! Sync objects. -/

/-- State `t` differs from `x` in the operations of the Shuttles and the reads of the host that they wait for alone. -/
def shuttlesOnly (x t : State) : Prop := t = { x with shut := t.shut, pci := t.pci }

/-- Shuttle work after Shuttle work. -/
theorem shuttlesOnly_trans {x y z : State} (h : shuttlesOnly x y) (k : shuttlesOnly y z) : shuttlesOnly x z := by
  unfold shuttlesOnly at *
  rw [k, h]

/-- The operation at the front of an engine begins. -/
theorem startOp_shuttlesOnly (s : State) (e : Nat) : shuttlesOnly s (startOp s e) := by
  unfold startOp
  split
  · split
    · rfl
    · split
      · split <;> rfl
      · rfl
  · rfl

/-- An operation is fired to its engine. -/
theorem enqueue_shuttlesOnly (s : State) (c : Nat) (t : Trig) : shuttlesOnly s (enqueue s c t) := by
  unfold enqueue
  split
  · rfl
  · exact shuttlesOnly_trans (y := putEngine s t.eng _) rfl (startOp_shuttlesOnly ..)

/-- A context whose sync object has taken a value: the triggers whose condition it meets are disarmed, and wait for the commit point of
an open step (10 R366, R367). -/
def objectSet (x : Ctx) (o : Nat) (v : Word64) : Ctx :=
  let hit := fun (t : Trig) => t.object == o && decide (t.thresh.toNat ≤ v.toNat)
  { x with sync := Tbl.put x.sync o v, trigs := x.trigs.filter (fun t => !hit t),
           step := if x.step.isOpen then { x.step with firing := x.step.firing ++ x.trigs.filter hit } else x.step }

/-- A write of a sync object changes its context, and the Shuttles to which the fired triggers go. -/
theorem syncPut_shuttlesOnly (s : State) (c o : Nat) (v : Word64) :
    shuttlesOnly (putC s c (objectSet (getC s c) o v)) (syncPut s c o v) := by
  have eq : syncPut s c o v =
      let x := putC s c (objectSet (getC s c) o v)
      if (getC s c).step.isOpen then x
      else ((getC s c).trigs.filter fun t => t.object == o && decide (t.thresh.toNat ≤ v.toNat)).foldl (fun s t => enqueue s c t) x := rfl
  rw [eq]
  dsimp only
  split
  · rfl
  · exact List.foldlRecOn _ _ (motive := shuttlesOnly (putC s c (objectSet (getC s c) o v))) rfl fun _ h t _ =>
      shuttlesOnly_trans h (enqueue_shuttlesOnly _ c t)

/-- A sync object reads what it was set to, and every other object and context as before. -/
theorem syncPut_reads (s : State) (c o : Nat) (v : Word64) :
    let t := syncPut s c o v
    syncGet t c o = v ∧ (∀ x, x ≠ o → syncGet t c x = syncGet s c x) ∧ (∀ d, d ≠ c → getC t d = getC s d) ∧
      t = { s with ctxs := t.ctxs, shut := t.shut, pci := t.pci } := by
  have only := syncPut_shuttlesOnly s c o v
  unfold shuttlesOnly at only
  generalize syncPut s c o v = t at only ⊢
  have ctx : ∀ d, getC t d = getC (putC s c (objectSet (getC s c) o v)) d := fun d => by
    rw [only]
    rfl
  refine ⟨?_, fun x ne => ?_, fun d ne => ?_, ?_⟩
  · rw [syncGet, ctx, getC_putC_same]
    exact Tbl.get_put_same ..
  · rw [syncGet, ctx, getC_putC_same]
    exact Tbl.get_put_ne _ _ ne _
  · rw [ctx, getC_putC_ne s ne]
  · rw [only]
    rfl

section
variable {s : State} {slot : BitVec 6} {p : Prog} (h : issues s slot p) (next : hasNext p)
include h

/-- An instruction on the selected context runs where it is allocated and inside no fence. -/
theorem onCtx_allocated (sel : p.sel < 256) (free : isFenced s p.sel = false) (used : (getC s p.sel).inUse = true) (f : Prog → Nat → State) :
    onCtx s slot f = f p p.sel := by
  unfold onCtx
  rw [onProg_issues h, if_neg (by omega), free, if_neg Bool.false_ne_true, used]
  rfl

include next

/-- FENCE retires. -/
theorem execFence_retires : execFence slot s = .next (putP s slot.toNat (onward p)) := by
  unfold execFence
  rw [onProg_issues h, retire_next s slot next]

section
variable (sel : p.sel < 256) (free : isFenced s p.sel = false) (used : (getC s p.sel).inUse = true)
include sel free used

/-- SCTR reads the step counter. -/
theorem execSctr_reads (rd : BitVec 5) : execSctr slot rd s = .next (retired s slot p rd (getC s p.sel).stepCtr) := by
  unfold execSctr
  rw [onCtx_allocated h sel free used, retireRd_next s slot next]
  rfl

/-- SYRD reads a sync object. -/
theorem execSyrd_reads (rd ra : BitVec 5) :
    execSyrd slot rd ra s = .next (retired s slot p rd (syncGet s p.sel ((p.reg ra).toNat % 256))) := by
  unfold execSyrd
  rw [onCtx_allocated h sel free used, retireRd_next s slot next]
  rfl

/-- SSET writes the step counter, but answers 1 while a step is open or a launch runs. -/
theorem execSset_eq (rd ra : BitVec 5) : execSset slot rd ra s = .next
    (if (getC s p.sel).step.isOpen = true ∨ ∃ l ∈ (getC s p.sel).launches, l.started = true then retired s slot p rd 1
      else retired (putC s p.sel { getC s p.sel with stepCtr := p.reg ra }) slot p rd 0) := by
  have busy : ((getC s p.sel).step.isOpen || (getC s p.sel).launches.any (·.started)) = true ↔
      (getC s p.sel).step.isOpen = true ∨ ∃ l ∈ (getC s p.sel).launches, l.started = true := by
    rw [Bool.or_eq_true, List.any_eq_true]
  unfold execSset
  rw [onCtx_allocated h sel free used, retireRd_next s slot next, retireRd_next _ slot next]
  simp only [busy]
  rfl

/-- SYADD adds to a sync object and answers its old value. -/
theorem execSyadd_adds (rd ra rb : BitVec 5) :
    let o := (p.reg ra).toNat % 256
    execSyadd slot rd ra rb s = .next (retired (syncPut s p.sel o (syncGet s p.sel o + p.reg rb)) slot p rd (syncGet s p.sel o)) := by
  unfold execSyadd
  rw [onCtx_allocated h sel free used]
  exact congrArg _ (retireRd_next _ slot next ..)

/-- SYSET sets a sync object. -/
theorem execSyset_sets (ra rb : BitVec 5) :
    execSyset slot ra rb s = .next (putP (syncPut s p.sel ((p.reg ra).toNat % 256) (p.reg rb)) slot.toNat (onward p)) := by
  unfold execSyset
  rw [onCtx_allocated h sel free used]
  exact congrArg _ (retire_next _ slot next)

end
end

/-- What a sync object and the contexts read once the program that has written the object goes on. -/
theorem putP_syncPut_reads (s : State) (n c o : Nat) (v : Word64) (q : Prog) :
    let t := putP (syncPut s c o v) n q
    getP t n = some q ∧ syncGet t c o = v ∧ (∀ x, x ≠ o → syncGet t c x = syncGet s c x) ∧ (∀ d, d ≠ c → getC t d = getC s d) ∧
      t = { s with progs := t.progs, ctxs := t.ctxs, shut := t.shut, pci := t.pci } := by
  obtain ⟨same, others, ctxs, frame⟩ := syncPut_reads s c o v
  refine ⟨getP_putP_same .., same, others, ctxs, ?_⟩
  generalize syncPut s c o v = x at *
  rw [frame]
  rfl

/-! Waits. -/

section
variable {s : State} {slot : BitVec 6} {p : Prog} (h : issues s slot p) (sel : p.sel < 256) (free : isFenced s p.sel = false)
  (used : (getC s p.sel).inUse = true) {imm : Word32}
include h sel free used

/-- A timeout of 0 is undefined. -/
theorem execWait_noTimeout (zero : imm.toNat % 2 ^ 31 = 0) (rd ra rb : BitVec 5) :
    execWait slot rd ra rb imm s = .next (ended s slot p 0x0002) := by
  unfold execWait
  rw [onCtx_allocated h sel free used]
  exact congrArg _ (if_pos zero)

variable (timed : imm.toNat % 2 ^ 31 ≠ 0) {rd ra rb : BitVec 5}
include timed

/-- WAIT on a condition that holds goes on. -/
theorem execWait_met (next : hasNext p) (met : (p.reg rb).toNat ≤ (syncGet s p.sel ((p.reg ra).toNat % 256)).toNat) :
    execWait slot rd ra rb imm s = .next (retired s slot p rd 0) := by
  unfold execWait
  rw [onCtx_allocated h sel free used]
  dsimp only [objOf]
  rw [if_neg timed, if_pos met, retireRd_next s slot next]
  rfl

/-- WAIT on a condition that does not hold keeps its slot. -/
theorem execWait_parks (unmet : (syncGet s p.sel ((p.reg ra).toNat % 256)).toNat < (p.reg rb).toNat) :
    let o := (p.reg ra).toNat % 256
    execWait slot rd ra rb imm s = .next (putP s slot.toNat
      { p with wait := .object p.sel o (p.reg rb) (s.aon + imm.toNat % 2 ^ 31 * 1000) rd.toNat (imm.getLsbD 31) }) := by
  intro o
  unfold execWait
  rw [onCtx_allocated h sel free used]
  dsimp only [objOf]
  rw [if_neg timed, if_neg (Nat.not_le.2 unmet)]
  rfl

end

section
variable {s : State} {slot : BitVec 6} {p : Prog} {c o d : Nat} {v : Word64} {rd : BitVec 5} {soft : Bool}
  (here : getP s slot.toNat = some p) (served : serves s p.queue = true) (waits : p.wait = .object c o v d rd.toNat soft)

/-- The program of an instruction whose queue is served. -/
theorem held_served (here : getP s slot.toNat = some p) (served : serves s p.queue = true) : held s slot = some p := by
  unfold held
  rw [here]
  exact if_pos served

include here served waits

/-- WAIT_WAKE completes a wait whose condition holds, and another not. -/
theorem execWaitWake_eq (next : hasNext p) : execWaitWake slot s =
    .next (if v.toNat ≤ (syncGet s c o).toNat then retired s slot { p with wait := .none } rd 0 else s) := by
  unfold execWaitWake
  rw [held_served here served]
  dsimp only
  rw [waits]
  dsimp only
  rw [wakeRd_onward s slot.isLt next]
  rfl

/-- WAIT_TIMEOUT tests the condition once more at the deadline. -/
theorem execWaitTimeout_eq (next : hasNext p) : execWaitTimeout slot s = .next (if s.aon < d then s
    else if v.toNat ≤ (syncGet s c o).toNat then retired s slot { p with wait := .none } rd 0
    else if soft then retired s slot { p with wait := .none } rd 1 else endWith s slot.toNat p 0x0010 p.index none) := by
  unfold execWaitTimeout
  rw [held_served here served]
  dsimp only
  rw [waits]
  dsimp only
  rw [wakeRd_onward s slot.isLt next, wakeRd_onward s slot.isLt next]
  rfl

end

/-! Launches. -/

/-- A launch of a context that is not paired takes the next number and stands behind the earlier ones. -/
theorem acceptLaunch_unpaired {s : State} {c : Nat} (lt : c < 256) (unpaired : isPaired s c = false) (b : List Byte) :
    let n := (getC s c).launchNo + 1
    acceptLaunch s c b = (n, jot (putC { watchBegun s c with orderCtr := s.orderCtr + 1 } c
      { getC s c with launchNo := n, launches := (getC s c).launches ++ [launchFrom s c n b] })) := by
  have watch : (if hasWork s c = true then s else watchRestart s c) = watchBegun s c := by
    unfold watchBegun
    cases hasWork s c <;> simp [lt]
  have alone : ∀ x : State, x.sets = s.sets → ∀ n ordered sat, pairLaunch x c n ordered sat = x := fun x sets n ordered sat => by
    have same : isPaired x c = false := by
      rw [← unpaired]
      unfold isPaired pleach
      rw [liveVal_congr sets (by decide) (by decide)]
    unfold pairLaunch
    rw [same]
    rfl
  have frame := watchBegun_frame s c
  unfold acceptLaunch
  dsimp only
  rw [watch, alone _ (by rw [jot_frame, frame]; rfl)]
  generalize watchBegun s c = y at *
  rw [frame]
  rfl

/-- What the state reads once a launch of a context stands behind the earlier ones. -/
theorem launched_reads (s : State) (c : Nat) (x : Ctx) :
    let t := jot (putC { watchBegun s c with orderCtr := s.orderCtr + 1 } c x)
    getC t c = x ∧ (∀ d, d ≠ c → getC t d = getC s d) ∧ t.mem = s.mem ∧ t.orderCtr = s.orderCtr + 1 := by
  dsimp only
  rw [watchBegun_frame]
  refine ⟨?_, fun d ne => ?_, jot_mem _, ?_⟩
  · rw [getC_jot, getC_putC_same]
  · rw [getC_jot, getC_putC_ne _ ne]
    rfl
  · rw [jot_frame]
    rfl

section
variable {s s' : State} {slot : BitVec 6} {p : Prog} (h : issues s slot p) (sel : p.sel < 256) (free : isFenced s p.sel = false)
  (used : (getC s p.sel).inUse = true) {ra : BitVec 5} {env : Env} {b : List Byte} (ok : progRead s p (p.reg ra) 64 8 env = (.ok b, s'))
include h sel free used ok

/-- LAUNCH of a descriptor that breaks Table 7.9, or on a context that has ended. -/
theorem execLaunch_malformed (bad : (getC s' p.sel).ended = true ∨ launchOk s' p.sel b = false) (rd : BitVec 5) :
    execLaunch slot rd ra env s = .next (ended s' slot p 0x0002) := by
  have refused : (getC s' p.sel).ended = true ∨ (!launchOk s' p.sel b) = true := by rwa [Bool.not_eq_true']
  unfold execLaunch
  rw [onCtx_allocated h sel free used, withOper_read ok, if_pos refused]
  rfl

/-- LAUNCH that is accepted. -/
theorem execLaunch_accepted (next : hasNext p) (going : (getC s' p.sel).ended = false) (good : launchOk s' p.sel b = true)
    (rd : BitVec 5) : execLaunch slot rd ra env s =
      .next (retired (acceptLaunch s' p.sel b).2 slot p rd (BitVec.ofNat 64 (acceptLaunch s' p.sel b).1)) := by
  unfold execLaunch
  rw [onCtx_allocated h sel free used, withOper_read ok, if_neg (by simp [going, good])]
  exact congrArg _ (retireRd_next _ slot next ..)

end

/-- Settles O19: objects by `syncPut_reads`, waits by the branches of their commands, launches by `acceptLaunch_unpaired`. -/
theorem objectsWaitsAndLaunches : Obligations.ObjectsWaitsAndLaunches := by
  unfold Obligations.ObjectsWaitsAndLaunches
  refine ⟨fun s slot rd ra rb p h next => ⟨?_, fun sel free used => ?_⟩, fun s slot rd ra rb imm p next => ⟨fun h sel free used => ?_,
    fun c o v d soft here served waits => ?_⟩, fun s s' slot rd ra env b p h next sel free used ok => ⟨fun bad => ?_, fun going good alone => ?_⟩⟩
  · exact (exec_fence ..).trans (execFence_retires h next)
  · have sset := (exec_sset ..).trans (execSset_eq h next sel free used rd ra)
    refine ⟨(exec_sctr ..).trans (execSctr_reads h next sel free used rd), (exec_syrd ..).trans (execSyrd_reads h next sel free used rd ra),
      fun busy => ?_, fun idle => ?_, ?_, ?_⟩
    · rw [sset, if_pos busy]
    · rw [sset, if_neg idle]
    · exact ⟨_, (exec_syadd ..).trans (execSyadd_adds h next sel free used rd ra rb), putP_syncPut_reads ..⟩
    · exact ⟨_, (exec_syset ..).trans (execSyset_sets h next sel free used ra rb), putP_syncPut_reads ..⟩
  · exact ⟨fun zero => (exec_wait ..).trans (execWait_noTimeout h sel free used zero rd ra rb),
      fun timed met => (exec_wait ..).trans (execWait_met h sel free used timed next met),
      fun timed unmet => (exec_wait ..).trans (execWait_parks h sel free used timed unmet)⟩
  · have wake := (exec_waitWake ..).trans (execWaitWake_eq here served waits next)
    have timeout := (exec_waitTimeout ..).trans (execWaitTimeout_eq here served waits next)
    refine ⟨fun met => ?_, fun unmet => ?_, fun early => ?_, fun due met => ?_, fun due unmet isSoft => ?_, fun due unmet isHard => ?_⟩
    · rw [wake, if_pos met]
    · rw [wake, if_neg (Nat.not_le.2 unmet)]
    · rw [timeout, if_pos early]
    · rw [timeout, if_neg (Nat.not_lt.2 due), if_pos met]
    · rw [timeout, if_neg (Nat.not_lt.2 due), if_neg (Nat.not_le.2 unmet), if_pos isSoft]
    · rw [timeout, if_neg (Nat.not_lt.2 due), if_neg (Nat.not_le.2 unmet), isHard, if_neg Bool.false_ne_true]
  · exact (exec_launch ..).trans (execLaunch_malformed h sel free used ok bad rd)
  · have run := (exec_launch ..).trans (execLaunch_accepted h sel free used ok next going good rd)
    rw [acceptLaunch_unpaired sel alone b] at run
    exact ⟨_, run, getP_putP_same .., launched_reads ..⟩

end Sys2Proof.Machine
end

section
/-! ### RESET and CTXDEL (07 R262, Table 7.12, 16 R547, R553, Table 16.4) -/
namespace Sys2Proof.Machine

/-- State `t` differs from `x` in the progress of Burling and in records alone. -/
def slicesAndRecords (x t : State) : Prop := recordsOnly { x with brl := t.brl } t

/-- Two such changes, one after the other. -/
theorem slicesAndRecords_trans {x y z : State} (h : slicesAndRecords x y) (k : slicesAndRecords y z) : slicesAndRecords x z := by
  unfold slicesAndRecords recordsOnly at *
  rw [k, h]

/-- A slice that ends under a fence. -/
theorem abortSlice_slicesAndRecords {s : State} (ring : ringOff s) (n : Nat) : slicesAndRecords s (abortSlice s n) := by
  unfold abortSlice
  split
  · rfl
  · unfold slicesAndRecords recordsOnly
    dsimp only
    rw [recordRaw_frame (s := updB s n _) ring]
    rfl

/-- The slices that a fence reaches. -/
theorem abortSlices_slicesAndRecords {s : State} (ring : ringOff s) (level : Nat) (cs es : List Nat) :
    slicesAndRecords s (abortSlices s level cs es) := by
  have both : keepsRuns s (abortSlices s level cs es) ∧ slicesAndRecords s (abortSlices s level cs es) :=
    List.foldlRecOn _ _ (motive := fun t => keepsRuns s t ∧ slicesAndRecords s t) ⟨⟨rfl, rfl, rfl, rfl⟩, rfl⟩ fun _ h _ _ => by
      obtain ⟨keeps, only⟩ := h
      have ring' := keepsRuns_ringOff keeps ring
      exact ⟨keepsRuns_trans keeps (abortSlice_keepsRuns ring' _), slicesAndRecords_trans only (abortSlice_slicesAndRecords ring' _)⟩
  exact both.2

/-- In state `t` the fence of a reset has been raised from `s`, around what Table 16.4 encloses, as the one reset in progress. -/
def fenceRaised (s : State) (level target : Nat) (waiters : List (Nat × Nat)) (t : State) (r : ResetRun) : Prop :=
  t.rst.runs = [(s.rst.nextId, r)] ∧ r.level = level ∧ r.target = target ∧ r.ctxs = enclosedCtxs s level target ∧
  r.engines = enclosedEngines s level target ∧ r.raised = s.gtc ∧ r.waiters = waiters ∧ t.mem = s.mem ∧ t.ctxs = s.ctxs ∧ t.sets = s.sets

/-- A record leaves a raised fence as it is. -/
theorem fenceRaised_records {s t u : State} {level target : Nat} {waiters : List (Nat × Nat)} {r : ResetRun}
    (raised : fenceRaised s level target waiters t r) (only : recordsOnly t u) : fenceRaised s level target waiters u r := by
  rw [only]
  exact raised

section
variable {s : State} (ring : ringOff s) (idle : s.rst.runs = [])
include ring idle

/-- The fence of a reset below the chip that takes no other over. -/
theorem raiseRun_alone {r : ResetRun} (low : r.level < 4) {inner : Tbl ResetRun} (alone : inner = []) :
    ∃ t r', raiseRun s r inner = (s.rst.nextId, t) ∧ ringOff t ∧ t.mem = s.mem ∧ t.ctxs = s.ctxs ∧ t.sets = s.sets ∧
      t.rst.runs = [(s.rst.nextId, r')] ∧ r' = { r with merged := false, snapshot := r'.snapshot } := by
  have keeps := abortSlices_keepsRuns ring r.level r.ctxs r.engines
  have only := abortSlices_slicesAndRecords ring r.level r.ctxs r.engines
  have ring' := keepsRuns_ringOff keeps ring
  obtain ⟨-, rst, sets, -⟩ := keeps
  have mem : (abortSlices s r.level r.ctxs r.engines).mem = s.mem := recordsOnly_keeps only State.mem fun _ _ _ => rfl
  have ctxs : (abortSlices s r.level r.ctxs r.engines).ctxs = s.ctxs := recordsOnly_keeps only State.ctxs fun _ _ _ => rfl
  subst alone
  unfold raiseRun
  rw [if_neg (Nat.not_le.2 low)]
  generalize abortSlices s r.level r.ctxs r.engines = x at *
  dsimp only
  rw [rst, idle]
  refine ⟨_, _, rfl, ring', mem, ctxs, sets, rfl, ?_⟩
  simp only [List.any_nil, Bool.or_false]
  rfl

/-- The start of a reset below the chip while no other is in progress. -/
theorem startReset_raises {level : Nat} (low : level < 4) (target cause origin : Nat) (esc ovr counts : Bool)
    (waiters : List (Nat × Nat)) :
    ∃ t r, startReset s level target cause [] [] origin esc ovr counts waiters [] = (s.rst.nextId, t) ∧ ringOff t ∧
      fenceRaised s level target waiters t r := by
  have alone : ∀ cs es, enclosing s level cs es = none := by simp [enclosing, idle]
  unfold startReset
  simp only [alone]
  generalize found : List.filter _ s.rst.runs = inner
  have nothing : inner = [] := by
    rw [← found, idle]
    rfl
  subst nothing
  obtain ⟨t, r, run, off, mem, ctxs, sets, runs, same⟩ := raiseRun_alone (s := { s with rst := { s.rst with seq := s.rst.seq + 1 } }) ring idle
    (r := { level := level, target := target, cause := cause, ctxs := enclosedCtxs s level target, engines := enclosedEngines s level target,
            raised := s.gtc, budget := (liveVal s 8 0x11 0).toNat, drainEnd := none, completed := 0, aborted := 0,
            seqNo := s.rst.seq.toNat + 1, escalated := esc, overrun := ovr, restarted := false, merged := false, counts := counts,
            waiters := waiters, handlers := [], origin := origin, fn := none, snapshot := [] }) low rfl
  refine ⟨t, r, run, off, runs, ?_⟩
  rw [same]
  exact ⟨rfl, rfl, rfl, rfl, rfl, rfl, mem, ctxs, sets⟩

/-- The reset that a program's instruction starts below the chip: at the level of a job tag with the record of the kill. -/
theorem resetFor_raises {level target : Nat} (low : level < 4) {slot : BitVec 6} {p : Prog} (rd : BitVec 5) (w : Nat → WaitOn)
    (outside : ¬ ((getQ s p.queue).ctx < 256 ∧ (getQ s p.queue).ctx ∈ enclosedCtxs s level target)) :
    ∃ t r, resetFor s slot p level target rd w = parkOn t slot p (w s.rst.nextId) ∧
      fenceRaised s level target [(slot.toNat, rd.toNat)] t r := by
  have goesOn : ¬ (level ≥ 4 ∨ ((getQ s p.queue).ctx < 256 ∧ (enclosedCtxs s level target).contains (getQ s p.queue).ctx = true)) := by
    rw [List.contains_iff_mem]
    rintro (high | inside)
    · omega
    · exact outside inside
  unfold resetFor
  dsimp only
  rw [if_neg goesOn]
  by_cases job : level = 1
  · subst job
    obtain ⟨t, r, run, off, raised⟩ := startReset_raises ring idle low target 0xC000 0xFFFF false false false [(slot.toNat, rd.toNat)]
    rw [if_pos rfl]
    unfold killJob
    rw [run]
    dsimp only
    rw [settleRing_paid (record_ringOff off ..).2]
    exact ⟨_, r, rfl, fenceRaised_records raised (record_recordsOnly off ..)⟩
  · obtain ⟨t, r, run, off, raised⟩ := startReset_raises ring idle low target 0xC000 0xFFFF false false (countsLevel level) [(slot.toNat, rd.toNat)]
    rw [if_neg job]
    unfold beginReset
    rw [run]
    dsimp only
    rw [settleRing_paid off.2]
    exact ⟨t, r, rfl, raised⟩

end

/-- A reset that encloses the program's own context, and one of the chip or above, first ends the program. -/
theorem resetFor_ends {s : State} {level target : Nat} {slot : BitVec 6} {p : Prog} (rd : BitVec 5) (w : Nat → WaitOn)
    (own : 4 ≤ level ∨ ((getQ s p.queue).ctx < 256 ∧ (getQ s p.queue).ctx ∈ enclosedCtxs s level target)) :
    resetFor s slot p level target rd w = endWith s slot.toNat { p with retired := p.retired + 1 } 0 0xFFFF (some (level, target)) := by
  unfold resetFor
  dsimp only
  rw [if_pos (own.imp_right fun ⟨real, mem⟩ => ⟨real, List.contains_iff_mem.2 mem⟩)]
  rfl

/-- A reset instruction of a target that may be absent: it answers 1, ends the program, or raises its fence. -/
theorem resetInstruction_cases {s : State} {slot : BitVec 6} {p : Prog} (next : hasNext p) {i : Instr} {level target : Nat} {rd : BitVec 5}
    {w : Nat → WaitOn} {absent : Prop} [Decidable absent] (low : level < 4)
    (run : exec i s = .next (if absent then retireRd s slot p rd 1 else resetFor s slot p level target rd w)) :
    let inside := (getQ s p.queue).ctx < 256 ∧ (getQ s p.queue).ctx ∈ enclosedCtxs s level target
    (absent → exec i s = .next (retired s slot p rd 1)) ∧
    (¬ absent → inside → exec i s =
      .next (endWith s slot.toNat { p with retired := p.retired + 1 } 0 0xFFFF (some (level, target)))) ∧
    (¬ absent → ¬ inside → s.rst.runs = [] → ringOff s → ∃ t r, exec i s = .next t ∧
      getP t slot.toNat = some { p with wait := w s.rst.nextId } ∧ fenceRaised s level target [(slot.toNat, rd.toNat)] t r) := by
  refine ⟨fun gone => ?_, fun here inside => ?_, fun here outside idle ring => ?_⟩
  · rw [run, if_pos gone, retireRd_next s slot next]
    rfl
  · rw [run, if_neg here, resetFor_ends rd w (.inr inside)]
  · obtain ⟨t, r, eq, raised⟩ := resetFor_raises ring idle low rd w outside
    rw [run, if_neg here, eq]
    exact ⟨_, r, rfl, getP_putP_same .., raised⟩

section
variable {s : State} {slot : BitVec 6} {p : Prog} (h : issues s slot p) {rd ra : BitVec 5}
include h

/-- RESET of a context, within the privilege of the program. -/
theorem exec_resetContext_eq (own : p.priv = 0 → (p.reg ra).toNat = (getQ s p.queue).ctx) (named : (p.reg ra).toNat ≤ 255) :
    exec (.resetContext slot rd ra) s = .next (if (!(getC s (p.reg ra).toNat).inUse) = true then retireRd s slot p rd 1
      else resetFor s slot p 0 (p.reg ra).toNat rd (fun id => .reset id rd.toNat)) := by
  rw [exec_resetContext]
  unfold execResetContext
  rw [onProg_issues h]
  dsimp only
  rw [if_neg (fun other => other.2 (own other.1)), if_neg (Nat.not_lt.2 named)]

/-- A tenant's RESET of another context. -/
theorem exec_resetContext_other (tenant : p.priv = 0) (other : (p.reg ra).toNat ≠ (getQ s p.queue).ctx) :
    exec (.resetContext slot rd ra) s = .next (ended s slot p 0x0001) := by
  rw [exec_resetContext]
  unfold execResetContext
  rw [onProg_issues h]
  dsimp only
  rw [if_pos ⟨tenant, other⟩]
  rfl

section
variable (priv : 1 ≤ p.priv)
include priv

/-- CTXDEL of a context number. -/
theorem exec_ctxdel_eq (named : (p.reg ra).toNat ≤ 255) :
    exec (.ctxdel slot rd ra) s = .next (if (!(getC s (p.reg ra).toNat).inUse) = true then retireRd s slot p rd 1
      else resetFor s slot p 0 (p.reg ra).toNat rd (fun id => .delete id (p.reg ra).toNat rd.toNat)) := by
  rw [exec_ctxdel]
  unfold execCtxdel
  rw [onPriv_issues h priv]
  dsimp only
  rw [if_neg (Nat.not_lt.2 named)]

/-- RESET of a job tag. -/
theorem exec_resetJobTag_eq (named : (p.reg ra).toNat < 2 ^ 32) :
    exec (.resetJobTag slot rd ra) s = .next (if (enclosedCtxs s 1 (p.reg ra).toNat).isEmpty = true then retireRd s slot p rd 1
      else resetFor s slot p 1 (p.reg ra).toNat rd (fun id => .reset id rd.toNat)) := by
  rw [exec_resetJobTag]
  unfold execResetJobTag
  rw [onPriv_issues h priv]
  dsimp only
  rw [if_neg (Nat.not_le.2 named)]

/-- RESET of an engine. -/
theorem exec_resetEngine_eq (named : resetEngineDom (p.reg ra).toNat = true) :
    exec (.resetEngine slot rd ra) s = .next (if domState s (p.reg ra).toNat ≠ 1 then retireRd s slot p rd 1
      else resetFor s slot p 2 (p.reg ra).toNat rd (fun id => .reset id rd.toNat)) := by
  rw [exec_resetEngine]
  unfold execResetEngine
  rw [onPriv_issues h priv]
  dsimp only
  rw [named, if_neg (by decide)]

/-- RESET of a partition. -/
theorem exec_resetPartition_eq (named : (p.reg ra).toNat ≤ 7) :
    exec (.resetPartition slot rd ra) s = .next (if (!partDefined s (p.reg ra).toNat) = true then retireRd s slot p rd 1
      else resetFor s slot p 3 (p.reg ra).toNat rd (fun id => .reset id rd.toNat)) := by
  rw [exec_resetPartition]
  unfold execResetPartition
  rw [onPriv_issues h priv]
  dsimp only
  rw [if_neg (Nat.not_lt.2 named)]

/-- RESET of the chip. -/
theorem exec_resetChip_ends (zero : p.reg ra = 0) : exec (.resetChip slot rd ra) s =
    .next (endWith s slot.toNat { p with retired := p.retired + 1 } 0 0xFFFF (some (4, 0))) := by
  rw [exec_resetChip]
  unfold execResetChip
  rw [onPriv_issues h priv, if_neg (not_not_intro zero), resetFor_ends rd _ (.inl (by decide))]

end

/-- RESET as a power-cycle request. -/
theorem exec_resetPowerCycle_ends (priv : 2 ≤ p.priv) (zero : p.reg ra = 0) : exec (.resetPowerCycle slot rd ra) s =
    .next (endWith s slot.toNat { p with retired := p.retired + 1 } 0 0xFFFF (some (5, 0))) := by
  rw [exec_resetPowerCycle]
  unfold execResetPowerCycle
  rw [onPriv_issues h priv, if_neg (not_not_intro zero), resetFor_ends rd _ (.inl (by decide))]

end

/-- Settles O20: each level below the chip by `resetInstruction_cases`, the chip and above by `resetFor_ends`. -/
theorem resetInstructionsRaiseTheirFence : Obligations.ResetInstructionsRaiseTheirFence := by
  unfold Obligations.ResetInstructionsRaiseTheirFence
  intro s slot rd ra p h next
  refine ⟨fun own named => ?_, fun tenant other => exec_resetContext_other h tenant other, fun priv => ⟨fun named => ?_, fun named => ?_,
    fun named => ?_, fun named => ?_, fun zero => exec_resetChip_ends h priv zero, fun zero priv => exec_resetPowerCycle_ends h priv zero⟩⟩
  · have cases := resetInstruction_cases next (by decide) (exec_resetContext_eq h (rd := rd) own named)
    simp only [Bool.not_eq_true', Bool.not_eq_false] at cases
    exact cases
  · have cases := resetInstruction_cases next (by decide) (exec_ctxdel_eq h (rd := rd) priv named)
    simp only [Bool.not_eq_true', Bool.not_eq_false] at cases
    exact cases
  · have cases := resetInstruction_cases next (by decide) (exec_resetJobTag_eq h (rd := rd) priv named)
    simp only [List.isEmpty_iff] at cases
    exact cases
  · have cases := resetInstruction_cases next (by decide) (exec_resetEngine_eq h (rd := rd) priv named)
    simp only [ne_eq, not_not] at cases
    exact cases
  · have cases := resetInstruction_cases next (by decide) (exec_resetPartition_eq h (rd := rd) priv named)
    simp only [Bool.not_eq_true', Bool.not_eq_false] at cases
    exact cases

end Sys2Proof.Machine
end

section
/-! ### The registers of settings, and commits that go live (07 R256, 08 R286, R290 to R293) -/
namespace Sys2Proof.Machine

/-! What a register of a setting reads after a write. -/

/-- The live value of a setting and its generation. -/
def settingAt (s : State) (blk idx ctx : Nat) : Word64 × Nat := (liveVal s blk idx ctx, setGen s blk idx ctx)

/-- The place of a setting in its table: a hardened setting has one place for all contexts. -/
def settingPlace (blk idx ctx : Nat) : Nat := setPlace blk idx (if isHd blk idx then 0 else ctx)

/-- Settings at one place are one setting, under one context. -/
theorem setPlace_inj {blk idx c blk' idx' c' : Nat} (hi : idx < 4096) (hc : c < 256) (hi' : idx' < 4096) (hc' : c' < 256)
    (same : setPlace blk idx c = setPlace blk' idx' c') : blk = blk' ∧ idx = idx' ∧ c = c' := by
  obtain ⟨ctx, block, index⟩ := setPlace_parts (blk := blk) hi hc
  obtain ⟨ctx', block', index'⟩ := setPlace_parts (blk := blk') hi' hc'
  rw [same] at ctx block index
  exact ⟨block.symm.trans block', index.symm.trans index', ctx.symm.trans ctx'⟩

/-- Settings at one place have one block and one index. -/
theorem settingPlace_inj {blk idx c blk' idx' c' : Nat} (hi : idx < 4096) (hc : c < 256) (hi' : idx' < 4096) (hc' : c' < 256)
    (same : settingPlace blk idx c = settingPlace blk' idx' c') : blk = blk' ∧ idx = idx' := by
  have ctxs : ∀ {b i k : Nat}, k < 256 → (if isHd b i then 0 else k) < 256 := fun lt => by split <;> omega
  obtain ⟨block, index, -⟩ := setPlace_inj hi (ctxs hc) hi' (ctxs hc') same
  exact ⟨block, index⟩

/-- Four equal copies vote for their value. -/
theorem hdVote_same (v : Word64) (g : Nat) : hdVote ⟨v, v, v, v, g⟩ = v := by
  unfold hdVote
  rw [BitVec.and_self, BitVec.or_self, BitVec.or_self]

/-- A setting just written reads the value, its reserved bits clear, and the generation. -/
theorem settingAt_putLive_same {blk idx : Nat} {r : SetRow} (row : setRow blk idx = some r) (s : State) (ctx : Nat) (v : Word64) (g : Nat) :
    settingAt (putLive s blk idx ctx v g) blk idx ctx = (v &&& BitVec.ofNat 64 r.mask, g) := by
  unfold settingAt liveVal setGen putLive hdCell setCell
  rw [row]
  cases isHd blk idx with
  | true => simp only [if_true, Tbl.get_put_same, hdVote_same]; rfl
  | false => simp only [Bool.false_eq_true, if_false, Tbl.get_put_same]; rfl

/-- A setting at another place than the one just written reads as before. -/
theorem settingAt_putLive_other {blk idx ctx blk' idx' ctx' : Nat} (other : settingPlace blk' idx' ctx' ≠ settingPlace blk idx ctx)
    (s : State) (v : Word64) (g : Nat) : settingAt (putLive s blk idx ctx v g) blk' idx' ctx' = settingAt s blk' idx' ctx' := by
  unfold settingPlace at other
  unfold settingAt liveVal setGen putLive
  cases hd : isHd blk idx <;> cases hd' : isHd blk' idx' <;> rw [hd, hd'] at other
  case false.false => exact congrArg (fun c : SetCell => (c.val, c.gen)) (Tbl.get_put_ne _ _ other _)
  case true.true => exact congrArg (fun c : HdCell => (hdVote c, c.gen)) (Tbl.get_put_ne _ _ other _)
  case false.true | true.false => rfl

/-! What a staged set leaves once it is written. -/

/-- The place of a staged setting. -/
def stagedPlace (e : Staged) : Nat := settingPlace e.blk e.idx (ctxOr0 e.ctx)

/-- The settings with every value of a staged set written, under one generation. -/
def putStaged (g : Nat) (s : State) (l : List Staged) : State :=
  l.foldl (fun s e => putLive s e.blk e.idx (ctxOr0 e.ctx) e.val g) s

/-- Writing a staged set changes the settings alone. -/
theorem putStaged_frame (g : Nat) (s : State) (l : List Staged) : putStaged g s l = { s with sets := (putStaged g s l).sets } := by
  induction l generalizing s with
  | nil => rfl
  | cons e l ih =>
    show putStaged g (putLive ..) l = { s with sets := (putStaged g (putLive ..) l).sets }
    rw [ih, putLive_frame]

/-- A setting whose place no staged setting has reads as before. -/
theorem settingAt_putStaged_other {blk idx ctx : Nat} (g : Nat) (s : State) {l : List Staged}
    (other : ∀ e ∈ l, settingPlace blk idx ctx ≠ stagedPlace e) : settingAt (putStaged g s l) blk idx ctx = settingAt s blk idx ctx := by
  induction l generalizing s with
  | nil => rfl
  | cons e l ih =>
    obtain ⟨here, later⟩ := List.forall_mem_cons.1 other
    exact (ih _ later).trans (settingAt_putLive_other here s e.val g)

/-- A staged setting reads the value staged and the generation, where no two staged settings share a place. -/
theorem settingAt_putStaged {g : Nat} {s : State} {l : List Staged} (apart : (l.map stagedPlace).Nodup) {e : Staged} (mem : e ∈ l)
    {r : SetRow} (row : setRow e.blk e.idx = some r) (defined : e.val &&& BitVec.ofNat 64 r.mask = e.val) :
    settingAt (putStaged g s l) e.blk e.idx (ctxOr0 e.ctx) = (e.val, g) := by
  induction l generalizing s with
  | nil => cases mem
  | cons f l ih =>
    obtain ⟨fresh, apart⟩ := List.nodup_cons.1 apart
    rcases List.mem_cons.1 mem with rfl | mem
    · have later : ∀ f ∈ l, stagedPlace e ≠ stagedPlace f := fun f mem same => fresh (List.mem_map.2 ⟨f, mem, same.symm⟩)
      refine (settingAt_putStaged_other g _ later).trans ?_
      rw [settingAt_putLive_same row, defined]
    · exact ih apart mem

/-! The commit instant. -/

/-- At a plain setting the block takes no action of its own at the commit instant. -/
theorem afterCommit_plain (s : State) {e : Staged} (plain : plainSetting e.blk e.idx) (old : Word64) : afterCommit s e old = s := by
  obtain ⟨blk, idx, ctx, val, gen⟩ := e
  unfold afterCommit
  dsimp only at plain ⊢
  split
  case h_13 => rfl
  all_goals exact absurd (by simp) plain

/-- At plain settings no block takes an action of its own. -/
theorem afterCommits_plain (s : State) {l : List Staged} (plain : ∀ e ∈ l, plainSetting e.blk e.idx) (old : Staged → Word64) :
    (l.map fun e => (e, old e)).foldl (fun s e => afterCommit s e.1 e.2) s = s := by
  induction l with
  | nil => rfl
  | cons e l ih =>
    obtain ⟨here, later⟩ := List.forall_mem_cons.1 plain
    rw [List.map_cons, List.foldl_cons, afterCommit_plain s here, ih later]

/-- The commit instant of plain settings: every value is written under the new sequence number, and no block does more. -/
theorem commitNow_plain (s : State) {l : List Staged} (plain : ∀ e ∈ l, plainSetting e.blk e.idx) :
    commitNow s l = { putStaged (s.trd.commitSeq + 1).toNat (jot s) l with
      trd := { (jot s).trd with commitSeq := s.trd.commitSeq + 1, lastCommit := s.gtc } } := by
  have noDebt : l.any (fun e => e.blk == 7 && e.idx == 0x10) = false := by
    rw [List.any_eq_false]
    intro e mem debt
    simp only [Bool.and_eq_true, beq_iff_eq] at debt
    exact plain e mem (by simp [debt])
  unfold commitNow
  dsimp only
  rw [noDebt, if_neg Bool.false_ne_true, afterCommits_plain _ plain]
  show (let x := putStaged (s.trd.commitSeq + 1).toNat (jot s) l
    { x with trd := { x.trd with commitSeq := s.trd.commitSeq + 1, lastCommit := x.gtc } }) = _
  rw [putStaged_frame, jot_frame]

/-- With the commit token, a staged set that passes every rule goes live, and the program goes on with the new sequence number. -/
theorem execCommitTokenGrant_grants {s : State} {slot : BitVec 6} {p : Prog} {rd : Nat} {soft : Bool}
    (head : tokenHead s = some (slot.toNat, p, rd, soft)) (next : hasNext p) (free : stagedFenced s p = false) (passes : firstRule s p = 0) :
    execCommitTokenGrant true s = .next (putP (commitNow (dropToken s) p.staged) slot.toNat
      (onward (wrote { p with staged := [], overfull := false, committed := true, wait := .none } (BitVec.ofNat 5 rd)
        (commitNow (dropToken s) p.staged).trd.commitSeq))) := by
  unfold execCommitTokenGrant
  rw [head]
  dsimp only
  rw [free, if_neg Bool.false_ne_true, if_neg (not_not_intro passes), if_neg (fun failed => Bool.noConfusion failed.1)]
  exact congrArg _ (wakeRd_slot _ slot (p := { p with staged := [], overfull := false, committed := true }) next rd _)

/-- COMMIT: of an empty set it writes 0; of one that the program may commit it queues for the token. -/
theorem execCommit_issues {s : State} {slot : BitVec 6} {p : Prog} (h : issues s slot p) (rd : BitVec 5) {imm : Word32}
    (flag : imm.toNat ≤ 1) : execCommit slot rd imm s = .next (
      if p.staged.isEmpty then retireRd s slot p rd 0
      else if stagedAbove p then ended s slot p stPrivilege
      else if stagedFenced s p then ended s slot p stRefusedFenced
      else putP { s with trd := { s.trd with tokenQ := s.trd.tokenQ ++ [slot.toNat] } } slot.toNat
        { p with wait := .commit rd.toNat (imm == 1) }) := by
  unfold execCommit
  rw [onProg_issues h, if_neg (Nat.not_lt.2 flag)]
  rfl

/-- Settles O15: COMMIT by `execCommit_issues`, the commit instant by `commitNow_plain` and what each setting reads after it. -/
theorem commitsGoLiveTogether : Obligations.CommitsGoLiveTogether := by
  unfold Obligations.CommitsGoLiveTogether
  refine ⟨fun s slot rd imm p h flag => ?_, fun s slot p rd soft head next _ free passes rows apart => ?_⟩
  · rw [exec_commit, execCommit_issues h rd flag]
    have full : p.staged ≠ [] → ¬ p.staged.isEmpty = true := mt List.isEmpty_iff.1
    refine ⟨fun empty next => ?_, fun staged above => ?_, fun staged may fenced => ?_, fun staged may free => ?_⟩
    · rw [if_pos (List.isEmpty_iff.2 empty), retireRd_next s slot next]
      rfl
    · rw [if_neg (full staged), if_pos above]
      rfl
    · rw [if_neg (full staged), may, if_neg Bool.false_ne_true, if_pos fenced]
      rfl
    · rw [if_neg (full staged), may, free, if_neg Bool.false_ne_true, if_neg Bool.false_ne_true]
  · have apart : (p.staged.map stagedPlace).Nodup := apart
    have run := execCommitTokenGrant_grants head next free passes
    rw [commitNow_plain _ fun e mem => (rows e mem).1] at run
    refine ⟨_, (exec_commitTokenGrant ..).trans run, rfl, rfl, ?_, getP_putP_same .., fun e mem => ?_, fun blk idx ctx hi hc other => ?_, ?_⟩
    · rw [putP_trd, jot_frame]
      rfl
    · obtain ⟨-, -, r, row, defined⟩ := rows e mem
      exact Prod.mk.inj (settingAt_putStaged (g := (s.trd.commitSeq + 1).toNat) (s := jot (dropToken s)) apart mem row defined)
    · have elsewhere : ∀ e ∈ p.staged, settingPlace blk idx ctx ≠ stagedPlace e := fun e mem same => by
        have inside : ctxOr0 e.ctx < 256 := by unfold ctxOr0; split <;> omega
        obtain ⟨block, index⟩ := settingPlace_inj hi hc (rows e mem).2.1 inside same
        exact other e mem ⟨block.symm, index.symm⟩
      have kept := settingAt_putStaged_other (s.trd.commitSeq + 1).toNat (jot (dropToken s)) elsewhere
      have journal : settingAt (jot (dropToken s)) blk idx ctx = settingAt s blk idx ctx := by
        rw [jot_frame]
        rfl
      exact congrArg Prod.fst (kept.trans journal)
    · rw [putStaged_frame, jot_frame]
      rfl

end Sys2Proof.Machine
end

section
/-! ### Stored copies repaired, and registers rewritten from the image (08 R279, R296, R301, Table 8.4) -/
namespace Sys2Proof.Machine

/-! Hardened settings. -/

/-- Every copy of a hardened setting rewritten with one value, its generation kept. -/
def copiesPut (s : State) (blk idx : Nat) (v : Word64) : State :=
  { s with sets := { s.sets with hard := Tbl.put s.sets.hard (setPlace blk idx 0) ⟨v, v, v, v, (hdCell s blk idx).gen⟩ } }

/-- A repair of a hardened setting, with what the Treadles count of it, and its record: the copies are equal, the value is live, the
record stands last, and no register, byte or program has changed. -/
theorem copiesPut_recorded {s : State} {blk idx : Nat} (hd : isHd blk idx = true) (ring : ringOff s) (room : ringOpen s) (v : Word64)
    (trd : Trd) (code sev cls : Nat) (pl : List Byte) :
    let t := record { copiesPut s blk idx v with trd := trd } code sev cls blk pl
    hdCell t blk idx = ⟨v, v, v, v, (hdCell s blk idx).gen⟩ ∧ liveVal t blk idx 0 = v ∧ lastRecord t code sev cls blk ∧
      t.sets.regs = s.sets.regs ∧ t.mem = s.mem ∧ t.progs = s.progs := by
  have ring' : ringOff { copiesPut s blk idx v with trd := trd } := ringOff_congr ring rfl rfl
  intro t
  have frame : t = _ := record_frame ring' code sev cls blk pl
  have cell : hdCell t blk idx = ⟨v, v, v, v, (hdCell s blk idx).gen⟩ := by
    rw [frame]
    exact Tbl.get_put_same ..
  refine ⟨cell, ?_, record_last ring' room .., ?_, ?_, ?_⟩
  · unfold liveVal
    rw [if_pos hd, cell, hdVote_same]
  all_goals
    rw [frame]
    rfl

section
variable {s : State} {blk : BitVec 5} {idx : BitVec 12} (hd : isHd blk.toNat idx.toNat = true) (owner : s.trd.owner = true)
  (run : s.phase = .run)
include hd owner run

/-- The refresh finds four equal copies. -/
theorem execHardenedRefresh_equal {c : HdCell} (copies : hdCell s blk.toNat idx.toNat = c) (equal : c.c0 = c.c1 ∧ c.c1 = c.c2 ∧ c.golden = c.c0) :
    execHardenedRefresh blk idx true s = .next s := by
  subst copies
  unfold execHardenedRefresh
  simp only [hd, owner, run]
  rw [if_neg (by simp), if_pos equal]

/-- The refresh finds a copy that differs, where a majority of the stored copies or, without one, the golden copy, says what the value is. -/
theorem execHardenedRefresh_repairs {c : HdCell} (copies : hdCell s blk.toNat idx.toNat = c)
    (differ : ¬ (c.c0 = c.c1 ∧ c.c1 = c.c2 ∧ c.golden = c.c0)) :
    (∀ v, majority c = some v → ∃ trd pl, execHardenedRefresh blk idx true s =
      .next (record { copiesPut s blk.toNat idx.toNat v with trd := trd } (if c.golden = v then 0xD040 else 0xD041) 1 0x0C blk.toNat pl)) ∧
    (majority c = none → c.golden = c.c0 ∨ c.golden = c.c1 ∨ c.golden = c.c2 → ∃ trd pl, execHardenedRefresh blk idx true s =
      .next (record { copiesPut s blk.toNat idx.toNat c.golden with trd := trd } 0xD042 1 0x0C blk.toNat pl)) := by
  subst copies
  have writes : ¬ ((!isHd blk.toNat idx.toNat || !s.trd.owner || decide (s.phase ≠ .run)) = true) := by simp [hd, owner, run]
  unfold execHardenedRefresh
  dsimp only
  rw [if_neg writes, if_neg differ, if_neg (by simp)]
  refine ⟨fun v most => ?_, fun apart agrees => ?_⟩
  · rw [most]
    dsimp only
    split
    · exact ⟨_, _, rfl⟩
    · exact ⟨_, _, rfl⟩
  · rw [apart]
    dsimp only
    rw [if_pos agrees]
    exact ⟨_, _, rfl⟩

end

/-- Four equal copies have the value as their majority. -/
theorem majority_equal {c : HdCell} (equal : c.c0 = c.c1) : majority c = some c.c0 := if_pos (.inl equal)

/-! Registers. -/

/-- A register rewritten from the image of the active Treadle. -/
def imageRestored (s : State) (blk idx c : Nat) : State :=
  { s with sets := { s.sets with
      regs := Tbl.put s.sets.regs (setPlace blk idx c) { setCell s blk idx c with val := (setCell s blk idx c).image } } }

/-- The register reads the image. -/
theorem setCell_imageRestored (s : State) (blk idx c : Nat) :
    setCell (imageRestored s blk idx c) blk idx c = { setCell s blk idx c with val := (setCell s blk idx c).image } :=
  Tbl.get_put_same ..

/-- The host error ring stays off when a register is rewritten: its control is another register, or its image has it off. -/
theorem ringOff_imageRestored {s : State} (ring : ringOff s) (image : (setCell s 3 0x21 0).image.toNat % 2 = 0) {blk idx c : Nat}
    (hi : idx < 4096) (hc : c < 256) : ringOff (imageRestored s blk idx c) := by
  have soft : isHd 3 0x21 = false := by decide
  have control : ∀ t, liveVal t 3 0x21 0 = (setCell t 3 0x21 0).val := fun t => by
    unfold liveVal
    rw [soft, if_neg Bool.false_ne_true]
  obtain ⟨off, due⟩ := ring
  refine ⟨?_, due⟩
  rw [control] at off ⊢
  by_cases same : setPlace 3 0x21 0 = setPlace blk idx c
  · obtain ⟨rfl, rfl, rfl⟩ := setPlace_inj (by decide) (by decide) hi hc same
    rw [setCell_imageRestored]
    exact image
  · have kept : setCell (imageRestored s blk idx c) 3 0x21 0 = setCell s 3 0x21 0 := Tbl.get_put_ne _ _ same _
    rw [kept]
    exact off

/-- A parity error in an ST or IM setting, whose image can be read. -/
theorem execSettingParity_restores {s : State} {blk : BitVec 5} {idx : BitVec 12} {r : SetRow} (row : setRow blk.toNat idx.toNat = some r)
    (cls : r.cls = .st ∨ r.cls = .im) (owner : s.trd.owner = true) (run : s.phase = .run) (ctx : BitVec 8) :
    ∃ pl, execSettingParity blk idx ctx true s =
      .next (record (imageRestored s blk.toNat idx.toNat (if r.perCtx then ctx.toNat else 0)) 0xD045 1 0x0C blk.toNat pl) := by
  have writes : ¬ ((!(r.cls == .st || r.cls == .im) || !s.trd.owner || decide (s.phase ≠ .run)) = true) := by
    rcases cls with cls | cls <;> simp [cls, owner, run]
  unfold execSettingParity
  dsimp only
  rw [row]
  dsimp only
  rw [if_neg writes, if_neg (by simp)]
  exact ⟨_, rfl⟩

/-- Settles O17: the refresh by `execHardenedRefresh_repairs`, parity by `execSettingParity_restores`. -/
theorem storedSettingsAreRepaired : Obligations.StoredSettingsAreRepaired := by
  unfold Obligations.StoredSettingsAreRepaired
  refine ⟨fun s blk idx hd owner run ring room => ?_, fun s blk idx ctx r row cls owner run ring room image => ?_⟩
  · have repaired := fun v trd code pl => copiesPut_recorded hd ring room v trd code 1 0x0C pl
    refine ⟨fun equal => (exec_hardenedRefresh ..).trans (execHardenedRefresh_equal hd owner run rfl equal), fun v most golden differ => ?_,
      fun v most golden => ?_, fun apart agrees => ?_⟩
    · obtain ⟨trd, pl, ran⟩ := (execHardenedRefresh_repairs hd owner run rfl fun equal => differ ⟨equal.1, equal.2.1⟩).1 v most
      rw [if_pos golden] at ran
      exact ⟨_, (exec_hardenedRefresh ..).trans ran, repaired v trd 0xD040 pl⟩
    · obtain ⟨trd, pl, ran⟩ := (execHardenedRefresh_repairs hd owner run rfl fun equal => golden
        (equal.2.2.trans (Option.some.inj ((majority_equal equal.1).symm.trans most)))).1 v most
      rw [if_neg golden] at ran
      exact ⟨_, (exec_hardenedRefresh ..).trans ran, repaired v trd 0xD041 pl⟩
    · obtain ⟨trd, pl, ran⟩ := (execHardenedRefresh_repairs hd owner run rfl fun equal =>
        Option.some_ne_none _ ((majority_equal equal.1).symm.trans apart)).2 apart agrees
      exact ⟨_, (exec_hardenedRefresh ..).trans ran, repaired _ trd 0xD042 pl⟩
  · intro c
    have inside : c < 256 := by show (if r.perCtx then ctx.toNat else 0) < 256; split <;> omega
    have ring' : ringOff (imageRestored s blk.toNat idx.toNat c) := ringOff_imageRestored ring image idx.isLt inside
    obtain ⟨pl, ran⟩ := execSettingParity_restores row cls owner run ctx
    have frame := record_frame ring' 0xD045 1 0x0C blk.toNat pl
    refine ⟨_, (exec_settingParity ..).trans ran, ?_, record_last ring' room .., ?_, ?_, ?_, ?_⟩
    · show setCell (record (imageRestored ..) ..) _ _ _ = _
      rw [frame]
      exact setCell_imageRestored s blk.toNat idx.toNat c
    all_goals
      rw [frame]
      rfl

end Sys2Proof.Machine
end

section
/-! ### Sheds that issue, their lanes, and the faults of threads (09 R309, R334, 10 R338 to R349, R372) -/

namespace Sys2Proof

/-- What a table lists under a number just written. -/
theorem Tbl.mem_put_same {α : Type} (t : Tbl α) (k : Nat) (v : α) : (k, v) ∈ Tbl.put t k v := by
  induction t with
  | nil => exact List.mem_cons_self
  | cons e t ih =>
    unfold Tbl.put
    split
    · exact List.mem_cons_self
    · split
      · exact List.mem_cons_self
      · exact List.mem_cons_of_mem _ ih

namespace Machine

/-! The shed that an instruction names. -/

/-- What a run is: the slot and the shed that the state holds, of a live context, and nothing that the shed waits for. -/
structure RunsNow (s : State) (r : Run) : Prop where
  slot : getS s r.key = r.slot
  shed : Tbl.get Shed.idle r.slot.sheds r.shed = r.h
  occupied : r.slot.ended = false
  noReRun : r.slot.reRunAt = none
  inUse : (getC s r.ctx).inUse = true
  alive : (getC s r.ctx).ended = false
  noFault : (getC s r.ctx).fault = 0
  started : r.h.started = true
  going : r.h.ended ≠ BitVec.allOnes 16
  wait : r.h.wait = .none

/-- A shed that an instruction finds to issue runs now. -/
theorem runsNow_of_runnable {s : State} {w : ShedRef} {tileVec : Bool} {r : Run} (h : runnable s w tileVec = some r) : RunsNow s r := by
  unfold runnable at h
  obtain ⟨free, same⟩ := Option.ite_none_left_eq_some.1 h
  obtain rfl := Option.some.inj same
  simp only [Bool.or_eq_true, not_or, Bool.not_eq_true, Bool.not_eq_false', bne_eq_false_iff_eq, beq_eq_false_iff_ne,
    Option.isSome_eq_false_iff, Option.isNone_iff_eq_none] at free
  obtain ⟨⟨⟨⟨⟨⟨⟨⟨⟨⟨⟨⟨occupied, -⟩, noReRun⟩, inUse⟩, alive⟩, noFault⟩, -⟩, -⟩, -⟩, -⟩, started⟩, going⟩, wait⟩ :=
    free
  exact ⟨rfl, rfl, occupied, noReRun, inUse, alive, noFault, started, going, wait⟩

/-- An instruction of a shed that issues runs on that shed. -/
theorem onShed_runs {s : State} {w : ShedRef} {tileVec : Bool} {r : Run} (h : runnable s w tileVec = some r) (f : Run → State) :
    onShed s w tileVec f = f r := by
  unfold onShed
  rw [h]

section
variable {s : State} {w : ShedRef} {tileVec : Bool} {r : Run}

/-- A per-thread instruction acts on the lanes that its guard admits. -/
theorem perThread_issues (h : shedIssues s w tileVec r) {g : BitVec 4} (clean : guardClean r.h g) {ok : Bool} (defined : ok = true)
    (f : Run → Half → State) : perThread s w g ok tileVec f = f r (guardMask r.h g) := by
  obtain ⟨guard, noPoison⟩ := clean
  have word : ¬ (!ok || g == 8) = true := by rw [defined]; simpa using guard
  unfold perThread
  rw [onShed_runs h.1, if_neg h.2, if_neg word, noPoison]
  rfl

/-- A shed instruction acts once. -/
theorem perShed_issues (h : shedIssues s w tileVec r) {ok : Bool} (defined : ok = true) (f : Run → State) :
    perShed s w 0 ok tileVec f = f r := by
  unfold perShed
  rw [onShed_runs h.1, if_neg h.2, defined]
  rfl

/-- A per-thread instruction with an undefined guard or field ends the context. -/
theorem perThread_undefined (h : runnable s w tileVec = some r) (lanes : r.h.exec ≠ 0) {g : BitVec 4} {ok : Bool}
    (bad : g = 8 ∨ ok = false) (f : Run → Half → State) : perThread s w g ok tileVec f = illegal s r := by
  have undefined : (!ok || g == 8) = true := by rcases bad with rfl | rfl <;> simp
  unfold perThread
  rw [onShed_runs h, if_neg lanes, if_pos undefined]

/-- A shed instruction with an undefined guard or field ends the context. -/
theorem perShed_undefined (h : runnable s w tileVec = some r) (lanes : r.h.exec ≠ 0) {g : BitVec 4} {ok : Bool}
    (bad : g ≠ 0 ∨ ok = false) (f : Run → State) : perShed s w g ok tileVec f = illegal s r := by
  have undefined : (!ok || g != 0) = true := by
    rcases bad with bad | rfl
    · rw [bne_iff_ne.2 bad, Bool.or_true]
    · rfl
  unfold perShed
  rw [onShed_runs h, if_neg lanes, if_pos undefined]

/-- A shed whose execution mask is zero passes over a per-thread instruction (R311). -/
theorem perThread_passesOver (h : runnable s w tileVec = some r) (none : r.h.exec = 0) (g : BitVec 4) (ok : Bool)
    (f : Run → Half → State) : perThread s w g ok tileVec f = putShed s r { r.h with pc := r.h.pc + 8 } := by
  unfold perThread
  rw [onShed_runs h, if_pos none]
  rfl

/-- A shed whose execution mask is zero passes over a shed instruction (R311). -/
theorem perShed_passesOver (h : runnable s w tileVec = some r) (none : r.h.exec = 0) (g : BitVec 4) (ok : Bool)
    (f : Run → State) : perShed s w g ok tileVec f = putShed s r { r.h with pc := r.h.pc + 8 } := by
  unfold perShed
  rw [onShed_runs h, if_pos none]
  rfl

end

/-! Writing a shed. -/

/-- Writing a shed changes the slots alone. -/
theorem putShed_frame (s : State) (r : Run) (h : Shed) : putShed s r h = { s with slots := (putShed s r h).slots } := rfl

/-- The slot of a shed just written. -/
theorem getS_putShed (s : State) (r : Run) (h : Shed) :
    getS (putShed s r h) r.key = { getS s r.key with sheds := Tbl.put (getS s r.key).sheds r.shed h } := Tbl.get_put_same ..

/-- Another slot than that of the shed just written. -/
theorem getS_putShed_ne (s : State) (r : Run) (h : Shed) {k : Nat} (other : k ≠ r.key) : getS (putShed s r h) k = getS s k :=
  Tbl.get_put_ne _ _ other _

/-! Faults of threads. -/

/-- A calm state stays calm when a context changes. -/
theorem calm_putC {s : State} (c : calm s) (n : Nat) (x : Ctx) : calm (putC s n x) :=
  ⟨ringOff_of c.1 rfl rfl, c.2⟩

/-- A calm state stays calm when a slot changes. -/
theorem calm_putS {s : State} (c : calm s) (n : Nat) (x : Slot) : calm (putS s n x) :=
  ⟨ringOff_of c.1 rfl rfl, c.2⟩

/-- The first fault of a live context is noted with its place, and recorded. -/
theorem faultCtx_faulted {s : State} {r : Run} (now : RunsNow s r) (c : calm s) (status addr lane : Nat) (isIndex : Bool) :
    faulted s (faultCtx s r.ctx status addr r.no r.shed lane r.slot.host isIndex) r status addr lane isIndex := by
  have noted := calm_putC c r.ctx
    { getC s r.ctx with fault := status, faultAt := ⟨addr, r.no, r.shed, lane, r.slot.host, isIndex⟩ }
  have live : ¬ (!(getC s r.ctx).inUse || (getC s r.ctx).ended) = true := by simp [now.inUse, now.alive]
  have recorded : ∃ code pl, faultCtx s r.ctx status addr r.no r.shed lane r.slot.host isIndex =
      accept (putC s r.ctx { getC s r.ctx with fault := status, faultAt := ⟨addr, r.no, r.shed, lane, r.slot.host, isIndex⟩ })
        code 3 0x02 r.slot.host r.ctx 0xFFFF pl ∧ code = if status = 0x0113 then 0x4010 else 0x4020 := by
    unfold faultCtx
    dsimp only
    rw [if_neg live, if_pos now.noFault]
    split
    · exact ⟨_, _, rfl, rfl⟩
    · exact ⟨_, _, rfl, rfl⟩
  obtain ⟨code, pl, eq, rfl⟩ := recorded
  have acc := accept_accepted noted (if status = 0x0113 then 0x4010 else 0x4020) 3 0x02 r.slot.host r.ctx 0xFFFF pl
  rw [← eq] at acc
  have ctxs := accepted_keeps acc State.ctxs fun _ _ => rfl
  have reads : ∀ d, getC (faultCtx s r.ctx status addr r.no r.shed lane r.slot.host isIndex) d = getC (putC s r.ctx _) d := fun d =>
    congrArg (fun t => Tbl.get Ctx.free t d) ctxs
  refine ⟨(reads _).trans (getC_putC_same ..), fun d other => (reads d).trans (getC_putC_ne _ other _), acc.1, ?_⟩
  conv_lhs => rw [acc.2]
  rw [ctxs]
  rfl

section
variable {s : State} {r : Run} (now : RunsNow s r) (c : calm s)
include now c

/-- A fault of a thread with an address. -/
theorem threadFault_faulted (status addr lane : Nat) : faulted s (threadFault s r status addr lane) r status addr lane false :=
  faultCtx_faulted now c status addr lane false

/-- A fault of a thread without an address. -/
theorem indexFault_faulted (status lane : Nat) : faulted s (indexFault s r status lane) r status (instrIndex s r) lane true :=
  faultCtx_faulted now c status (instrIndex s r) lane true

/-- An undefined word. -/
theorem illegal_faulted : faulted s (illegal s r) r 0x0109 (instrIndex s r) 0xFF true := indexFault_faulted now c 0x0109 0xFF

/-- Consumption of poison. -/
theorem consume_faulted (lane : Nat) : faulted s (consume s r lane) r 0x0113 (instrIndex s r) lane true :=
  indexFault_faulted now c 0x0113 lane

/-- A step instruction outside its place. -/
theorem stepSequence_faulted (lane : Nat) : faulted s (stepSequence s r lane) r 0x010B (instrIndex s r) lane true :=
  indexFault_faulted now c 0x010B lane

end

/-! Lanes and registers. -/

/-- The lanes of a mask. -/
theorem mem_lanesOf {m : Half} {l : Nat} : l ∈ lanesOf m ↔ l < 16 ∧ m.getLsbD l = true := by
  simp [lanesOf]

/-- Lanes of a mask are the lanes whose bit is set. -/
theorem lt_of_getLsbD {m : Half} {l : Nat} (h : m.getLsbD l = true) : l < 16 := BitVec.lt_of_getLsbD h

/-- A mask with a lane is not zero. -/
theorem ne_zero_of_lanesOf {m : Half} {l : Nat} {rest : List Nat} (h : lanesOf m = l :: rest) : m ≠ 0 := by
  rintro rfl
  have mem : l ∈ lanesOf 0 := h ▸ List.mem_cons_self
  simpa using (mem_lanesOf.1 mem).2

/-- The registers of two lanes lie apart. -/
theorem regKey_inj {l l' : Nat} {x y : BitVec 6} (same : 64 * l + x.toNat = 64 * l' + y.toNat) : l = l' ∧ x = y := by
  have hx := x.isLt
  have hy := y.isLt
  exact ⟨by omega, BitVec.eq_of_toNat_eq (by omega)⟩

/-- Writing a register changes the registers and their poison marks alone. -/
theorem setG_frame (h : Shed) (l : Nat) (x : BitVec 6) (v : Word64) (po : Bool) :
    h.setG l x v po = { h with regs := (h.setG l x v po).regs, regP := (h.setG l x v po).regP } := by
  unfold Shed.setG
  split <;> rfl

/-- A write to g0 is discarded. -/
theorem setG_zero (h : Shed) (l : Nat) (v : Word64) (po : Bool) : h.setG l 0 v po = h := if_pos rfl

/-- Reading a register after a write: the value written, in the lane and register written, unless that is g0. -/
theorem g_setG (h : Shed) (l l' : Nat) (x y : BitVec 6) (v : Word64) (po : Bool) :
    (h.setG l x v po).g l' y = if l' = l ∧ y = x ∧ x ≠ 0 then v else h.g l' y := by
  by_cases zero : x = 0
  · rw [zero, setG_zero, if_neg fun e => e.2.2 rfl]
  unfold Shed.setG Shed.g
  rw [if_neg zero]
  by_cases same : l' = l ∧ y = x
  · obtain ⟨rfl, rfl⟩ := same
    rw [if_neg zero, if_pos (show l' = l' ∧ y = y ∧ y ≠ 0 from ⟨rfl, rfl, zero⟩)]
    exact Tbl.get_put_same ..
  · have other : 64 * l' + y.toNat ≠ 64 * l + x.toNat := fun e => same (regKey_inj e)
    rw [if_neg fun e : l' = l ∧ y = x ∧ x ≠ 0 => same ⟨e.1, e.2.1⟩]
    exact congrArg (ite (y = 0) 0) (Tbl.get_put_ne _ _ other _)

/-- Reading a poison mark after a write. -/
theorem gp_setG (h : Shed) (l l' : Nat) (x y : BitVec 6) (v : Word64) (po : Bool) :
    (h.setG l x v po).gp l' y = if l' = l ∧ y = x ∧ x ≠ 0 then po else h.gp l' y := by
  by_cases zero : x = 0
  · rw [zero, setG_zero, if_neg fun e => e.2.2 rfl]
  have marks : (h.setG l x v po).regP.contains (64 * l' + y.toNat) =
      if l' = l ∧ y = x then po else h.regP.contains (64 * l' + y.toNat) := by
    have key : 64 * l' + y.toNat = 64 * l + x.toNat ↔ l' = l ∧ y = x := ⟨regKey_inj, fun ⟨e, f⟩ => by rw [e, f]⟩
    unfold Shed.setG
    rw [if_neg zero, ← if_congr key rfl rfl, Bool.eq_iff_iff]
    cases po
    · simp [dropNat, and_comm]
    · simp [mem_insertNat]
  unfold Shed.gp
  rw [marks]
  by_cases same : l' = l ∧ y = x
  · rw [if_pos same, if_pos ⟨same.1, same.2, zero⟩, same.2, bne_iff_ne.2 zero]
    rfl
  · rw [if_neg same, if_neg fun e : l' = l ∧ y = x ∧ x ≠ 0 => same ⟨e.1, e.2.1⟩]

/-- A shed with register `rd` written in each of a list of lanes. -/
def setLanes (rd : BitVec 6) (v : Nat → Word64 × Bool) (h : Shed) (ls : List Nat) : Shed :=
  ls.foldl (fun h l => h.setG l rd (v l).1 (v l).2) h

/-- Writing a register in lanes changes the registers and their poison marks alone. -/
theorem setLanes_frame (rd : BitVec 6) (v : Nat → Word64 × Bool) (h : Shed) (ls : List Nat) :
    setLanes rd v h ls = { h with regs := (setLanes rd v h ls).regs, regP := (setLanes rd v h ls).regP } := by
  induction ls generalizing h with
  | nil => rfl
  | cons l ls ih =>
    show setLanes rd v (h.setG l rd (v l).1 (v l).2) ls = { h with
      regs := (setLanes rd v (h.setG l rd (v l).1 (v l).2) ls).regs, regP := (setLanes rd v (h.setG l rd (v l).1 (v l).2) ls).regP }
    rw [ih, setG_frame]

/-- Reading a register after a write in lanes. -/
theorem setLanes_reads (rd : BitVec 6) (v : Nat → Word64 × Bool) (h : Shed) (ls : List Nat) (l : Nat) (x : BitVec 6) :
    (setLanes rd v h ls).g l x = (if l ∈ ls ∧ x = rd ∧ rd ≠ 0 then (v l).1 else h.g l x) ∧
    (setLanes rd v h ls).gp l x = (if l ∈ ls ∧ x = rd ∧ rd ≠ 0 then (v l).2 else h.gp l x) := by
  induction ls generalizing h with
  | nil => simp [setLanes]
  | cons k ls ih =>
    have later := ih (h.setG k rd (v k).1 (v k).2)
    rw [g_setG, gp_setG] at later
    simp only [List.mem_cons]
    refine ⟨later.1.trans ?_, later.2.trans ?_⟩ <;>
    · by_cases here : l = k
      · subst here
        simp only [true_and, true_or, ite_eq_right_iff]
        exact fun both => (if_pos both.2).symm
      · simp only [here, false_and, false_or, if_false]

/-- The shed after a write of a register in every lane of a mask, at the next word. -/
theorem wroteLanes_setLanes (h : Shed) (m : Half) (rd : BitVec 6) (v : Nat → Word64 × Bool) :
    wroteLanes h { setLanes rd v h (lanesOf m) with pc := (setLanes rd v h (lanesOf m)).pc + 8 } m rd (fun l => (v l).1)
      (fun l => (v l).2) := by
  refine ⟨by rw [setLanes_frame], fun l hl x => ?_⟩
  have reads := setLanes_reads rd v h (lanesOf m) l x
  simp only [mem_lanesOf, hl, true_and] at reads
  exact reads

/-! Work lane by lane. -/

/-- The work of one lane is that of its instruction. -/
theorem eachLane_one (f : Nat → Shed × Env → State → Option (Shed × Env) × State) (l : Nat) (a : Shed × Env) (s : State) :
    eachLane f [l] a s = f l a s := by
  unfold eachLane
  split
  case h_1 ran => exact ran.symm
  case h_2 ran => exact ran.symm

/-- The first lane that faults ends the instruction. -/
theorem eachLane_fault {f : Nat → Shed × Env → State → Option (Shed × Env) × State} {l : Nat} {a : Shed × Env} {s s' : State}
    (ran : f l a s = (none, s')) (rest : List Nat) : eachLane f (l :: rest) a s = (none, s') := by
  unfold eachLane
  rw [ran]

/-- The shed after a write of a register in the one lane of a mask, at the next word. -/
theorem wroteLanes_one {h : Shed} {m : Half} {l : Nat} (lane : lanesOf m = [l]) (rd : BitVec 6) (v : Word64) (po : Bool) :
    wroteLanes h { h.setG l rd v po with pc := (h.setG l rd v po).pc + 8 } m rd (fun _ => v) (fun _ => po) := by
  have wrote := wroteLanes_setLanes h m rd (fun _ => (v, po))
  rwa [lane] at wrote

end Machine
end Sys2Proof
end

section
/-! ### Marked bytes in device memory: what a store leaves, what a clean read gives (13 R452 to R454) -/
namespace Sys2Proof.Machine

/-- Whether marked bytes written from cell `a` on put a poisoned byte into granule `g`. -/
def marksGranule (a : Nat) (l : Marked) (g : Nat) : Bool :=
  let lo := if g * 32 < a then 0 else g * 32 - a
  ((l.drop lo).take (g * 32 + 32 - a - lo)).any (·.2)

/-- The poison of a granule after marked bytes are written from cell `a` on. -/
def markGranule (a : Nat) (l : Marked) (s : State) (g : Nat) : State :=
  if marksGranule a l g then setPoison s (g * 32)
  else if a ≤ g * 32 ∧ g * 32 + 32 ≤ a + l.length then clearPoison s (g * 32) else s

theorem storeMarked_eq (s : State) (a : Nat) (l : Marked) :
    storeMarked s a l = (granules a l.length).foldl (markGranule a l) (memPuts s a (l.map (·.1))) := rfl

/-- Marking a granule changes poison alone. -/
theorem markGranule_frame (a : Nat) (l : Marked) (s : State) (g : Nat) :
    markGranule a l s g = { s with mem := { s.mem with poison := (markGranule a l s g).mem.poison } } := by
  unfold markGranule
  split
  · rfl
  · split <;> rfl

/-- A store of marked bytes writes its bytes; beyond them it changes poison alone. -/
theorem storeMarked_frame (s : State) (a : Nat) (l : Marked) :
    storeMarked s a l = { s with mem := { (memPuts s a (l.map (·.1))).mem with poison := (storeMarked s a l).mem.poison } } := by
  have marked := foldl_poison_frame (markGranule_frame a l) (granules a l.length) (memPuts s a (l.map (·.1)))
  rw [← storeMarked_eq] at marked
  rw [marked]
  generalize (storeMarked s a l).mem.poison = p
  rw [memPuts_frame]

/-- A store of marked bytes changes memory alone. -/
theorem storeMarked_mem (s : State) (a : Nat) (l : Marked) : storeMarked s a l = { s with mem := (storeMarked s a l).mem } := by
  rw [storeMarked_frame]

/-- What a byte reads after a store of marked bytes. -/
theorem memGet_storeMarked (s : State) (a : Nat) (l : Marked) (x : Nat) :
    memGet (storeMarked s a l) x = memGet (memPuts s a (l.map (·.1))) x := by
  rw [storeMarked_frame]
  rfl

/-- The bytes stored read back. -/
theorem memGets_storeMarked (s : State) (a : Nat) (l : Marked) : memGets (storeMarked s a l) a l.length = l.map (·.1) := by
  have back := memGets_memPuts s a (l.map (·.1))
  rw [List.length_map] at back
  rw [← back]
  exact memGets_congr (by rw [storeMarked_frame]) a _

/-- The bytes around a store read as before. -/
theorem memGet_storeMarked_out (s : State) (a : Nat) (l : Marked) {x : Nat} (out : x < a ∨ a + l.length ≤ x) :
    memGet (storeMarked s a l) x = memGet s x := by
  rw [memGet_storeMarked]
  exact memGet_memPuts_out _ _ _ _ (by rwa [List.length_map])

/-- A store of bytes with one mark: they read back, the bytes around them stay, and memory alone changes. -/
theorem storeMarked_spec (s : State) (a : Nat) {l : List Byte} {n : Nat} (length : l.length = n) (po : Bool) :
    memGets (storeMarked s a (l.map (fun b => (b, po)))) a n = l ∧
    (∀ x, x < a ∨ a + n ≤ x → memGet (storeMarked s a (l.map (fun b => (b, po)))) x = memGet s x) ∧
    storeMarked s a (l.map (fun b => (b, po))) = { s with mem := (storeMarked s a (l.map (fun b => (b, po)))).mem } := by
  have bytes := memGets_storeMarked s a (l.map (fun b => (b, po)))
  rw [List.length_map, length, List.map_map] at bytes
  exact ⟨bytes.trans (List.map_id' _), fun x out => memGet_storeMarked_out s a _ (by rwa [List.length_map, length]),
    storeMarked_mem ..⟩

@[simp] theorem length_memGets (s : State) (a n : Nat) : (memGets s a n).length = n := by
  induction n generalizing a with
  | zero => rfl
  | succ n ih => exact congrArg (· + 1) (ih (a + 1))

/-- A read of granules at which the controller observes nothing changes nothing. -/
theorem readHbm_quiet (s : State) (a n ctx agent : Nat) :
    readHbm s a n Env.quiet ctx agent = ((memGets s a n, anyPoison s a n), s) := by
  unfold readHbm
  dsimp only
  rw [List.foldl_fixed' fun g => rfl]

/-- A read of clean memory gives its bytes, unmarked. -/
theorem readMarked_clean {s : State} {a n : Nat} (clean : anyPoison s a n = false) (ctx agent : Nat) :
    readMarked s (.hbm a) n Env.quiet ctx agent = ((memGets s a n).map (fun b => (b, false)), s) := by
  have marks : ∀ l : List Byte,
      (l.zipIdx).map (fun e => (e.1, false && isPoison s (a + e.2))) = l.map (fun b => (b, false)) := fun l => by
    conv_rhs => rw [← List.zipIdx_map_fst 0 l, List.map_map]
    rfl
  unfold readMarked readPlace
  dsimp only
  rw [readHbm_quiet, clean]
  exact Prod.ext (marks _) rfl

/-- A translation at which nothing is observed changes nothing. -/
theorem xlatE_quiet (s : State) (c va : Nat) (k : Access) (own : Option Nat) : xlatE s c va k own Env.quiet = (xlat s c va k own, s) := by
  unfold xlatE
  dsimp only
  rw [if_pos (.inl rfl)]

end Sys2Proof.Machine
end

section
/-! ### Writes of the recorder's, the performance counters' and the injection settings (09 R312, 12 R434, 20 R695, R702) -/
namespace Sys2Proof.Machine

section
variable {s : State} {slot : BitVec 6} {p : Prog} (h : issues s slot p) (next : hasNext p)
include next

/-- A program that may write an immediate setting retires and writes it. -/
theorem wriTo_writes {r : SetRow} (im : r.cls = .im) (may : Nat.min 2 r.priv ≤ p.priv) (own : r.priv ≠ 3)
    (sel : r.perCtx = true → p.sel < 256 ∧ isFenced s p.sel = false ∧ (getC s p.sel).inUse = true) (i : Nat) (v : Word64) :
    wriTo s slot p r i v = writeNow (putP (jot s) slot.toNat (onward p)) r i (setCtx p r) v := by
  have ctx : r.perCtx = true → setCtx p r = p.sel := fun per => if_pos per
  have priv : ¬ (p.priv < Nat.min 2 r.priv ∨ (r.priv = 3 ∧ p.queue ≠ 1023)) := by
    rintro (below | ⟨three, -⟩)
    · exact Nat.not_lt.2 may below
    · exact own three
  have free : ¬ (r.perCtx = true ∧ isFenced s (setCtx p r) = true) := fun ⟨per, fenced⟩ => by
    rw [ctx per, (sel per).2.1] at fenced
    cases fenced
  have used : ¬ (r.perCtx = true ∧ (!(getC s (setCtx p r)).inUse) = true) := fun ⟨per, absent⟩ => by
    rw [ctx per, (sel per).2.2] at absent
    cases absent
  unfold wriTo
  dsimp only
  rw [if_neg (by simp [im]), if_neg priv, noSel_selected (fun per => (sel per).1), if_neg Bool.false_ne_true, if_neg free, if_neg used,
    retire_next _ _ next]

include h

/-- A write of an immediate setting that is not per-context, where the value in ra meets the condition. -/
theorem wriWhen_writes {blk idx : Nat} {r : SetRow} (row : setRow blk idx = some r) (im : r.cls = .im) (may : Nat.min 2 r.priv ≤ p.priv)
    (own : r.priv ≠ 3) (sel : r.perCtx = true → p.sel < 256 ∧ isFenced s p.sel = false ∧ (getC s p.sel).inUse = true)
    {cond : Word64 → Bool} {ra : BitVec 5} (meets : cond (p.reg ra) = true) :
    wriWhen cond blk idx slot ra s = .next (writeNow (putP (jot s) slot.toNat (onward p)) r idx (setCtx p r) (p.reg ra)) := by
  unfold wriWhen
  rw [onProg_issues h, row]
  dsimp only
  rw [if_pos meets, wriTo_writes next im may own sel]

/-- A write of REC.FREEZE by an administrator's program. -/
theorem wriWhen_freeze (priv : 1 ≤ p.priv) {cond : Word64 → Bool} {ra : BitVec 5} (meets : cond (p.reg ra) = true) :
    wriWhen cond 12 8 slot ra s = .next (writeFreeze (putP (jot s) slot.toNat (onward p)) (p.reg ra)) :=
  wriWhen_writes h next (r := ⟨12, 0x8, 0x8, .im, 1, false, 0xFFFF01, 0x0⟩) (by decide) rfl priv (by decide)
    (fun per => by cases per) meets

/-- READ_PTR_WRITE sets the readout position. -/
theorem execReadPtrWrite_writes (priv : 1 ≤ p.priv) (ra : BitVec 5) :
    execReadPtrWrite slot ra s = .next { putP (jot s) slot.toNat (onward p) with
      rcd := { s.rcd with readPtr := p.reg ra &&& 0xE000FFFFFFFFFFFF } } := by
  refine (wriWhen_writes h next (r := ⟨12, 0x9, 0x9, .im, 1, false, 0xE000FFFFFFFFFFFF, 0x0⟩) (by decide) rfl priv (by decide)
    (fun per => by cases per) rfl).trans ?_
  rw [jot_frame]
  rfl

/-- READ_DATA_AUTOINC reads the word at the readout position and advances it. -/
theorem execReadDataAutoinc_reads (auto : s.rcd.readPtr.getLsbD 61 = true) (rd : BitVec 5) :
    execReadDataAutoinc slot rd s = .next { retired s slot p rd (readWord s 12 0x17 0) with
      rcd := { s.rcd with readPtr := (readAdvance s).rcd.readPtr } } := by
  have bit : s.rcd.readPtr.toNat.testBit 61 = true := auto
  unfold execReadDataAutoinc
  rw [onProg_issues h, if_pos auto, retireRd_next _ slot next]
  unfold readAdvance
  dsimp only
  rw [if_pos bit]
  rfl

/-- A write of CLU.PERF_CTL of the selected context. -/
theorem wriWhen_perf (sel : p.sel < 256) (free : isFenced s p.sel = false) (used : (getC s p.sel).inUse = true) {cond : Word64 → Bool}
    {ra : BitVec 5} (meets : cond (p.reg ra) = true) :
    wriWhen cond 4 0x40 slot ra s = .next (putLive (perfWrite (putP (jot s) slot.toNat (onward p)) p.sel (p.reg ra)) 4 0x40 p.sel
      (p.reg ra &&& 3) 0) :=
  wriWhen_writes h next (r := ⟨4, 0x40, 0x40, .im, 0, true, 0x3, 0x0⟩) (by decide) rfl (Nat.zero_le _) (by decide)
    (fun _ => ⟨sel, free, used⟩) meets

/-- A write of CHK.INJECT by an operator's program. -/
theorem wriWhen_inject (priv : 2 ≤ p.priv) {cond : Word64 → Bool} {ra : BitVec 5} (meets : cond (p.reg ra) = true) :
    wriWhen cond 6 0xF0 slot ra s = .next (putLive (putP (jot s) slot.toNat (onward p)) 6 0xF0 0 (p.reg ra &&& 0xFFFFFFFF01) 0) :=
  wriWhen_writes h next (r := ⟨6, 0xF0, 0xF0, .im, 2, false, 0xFFFFFFFF01, 0x0⟩) (by decide) rfl priv (by decide)
    (fun per => by cases per) meets

end

/-! Freezes of the volatile ring. -/

/-- The seconds of a freeze, of the limit_s field of REC.FREEZE (R695). -/
def freezeSeconds (v : Word64) : Nat := if v.toNat / 2 ^ 8 % 2 ^ 16 = 0 then 60 else Nat.min 3600 (v.toNat / 2 ^ 8 % 2 ^ 16)

/-- The recorder once a freeze has started, or started again. -/
def frozenNow (s : State) (v : Word64) : Recorder :=
  { s.rcd with frozen := true, frzEnd := s.aon + 1000000000 * freezeSeconds v,
               frzStart := if s.rcd.frozen then s.rcd.frzStart else s.gtc,
               frzCounts := if s.rcd.frozen then s.rcd.frzCounts else [0, 0, 0, 0, 0, 0], freezeReg := v &&& 0xFFFF01 }

/-- A write of REC.FREEZE with freeze = 1. -/
theorem writeFreeze_starts {s : State} {v : Word64} (one : v.getLsbD 0 = true) : writeFreeze s v = { s with rcd := frozenNow s v } := by
  have field : bitsOf v.toNat 23 8 = v.toNat / 2 ^ 8 % 2 ^ 16 := by unfold bitsOf; rw [Nat.shiftRight_eq_div_pow]
  have limit : ∀ n : Nat, (if n = 0 then 60 else if n > 3600 then 3600 else n) = if n = 0 then 60 else Nat.min 3600 n := fun n => by
    have least : Nat.min 3600 n = if n > 3600 then 3600 else n := by
      show min 3600 n = _
      split <;> omega
    rw [least]
  unfold writeFreeze frozenNow freezeSeconds
  rw [if_pos one]
  simp only [limit, field, Nat.mul_comm]
  rfl

/-- The recorder's register of REC.FREEZE written. -/
def freezeWritten (s : State) (v : Word64) : State := { s with rcd := { s.rcd with freezeReg := v &&& 0xFFFF01 } }

/-- A write of REC.FREEZE with freeze = 0, with the host error ring off. -/
theorem writeFreeze_ends {s : State} (ring : ringOff s) {v : Word64} (zero : v.getLsbD 0 = false) :
    writeFreeze s v = freezeWritten (endFreeze s) v := by
  have paid : (endFreeze s).err.ringDue = false := by
    unfold endFreeze
    split
    · rw [recordRaw_frame (s := { s with rcd := { s.rcd with frozen := false, frzCounts := [0, 0, 0, 0, 0, 0], freezeReg := 0 } }) ring]
      exact ring.2
    · exact ring.2
  unfold writeFreeze
  rw [zero, if_neg Bool.false_ne_true]
  exact settleRing_paid paid

/-- The end of a freeze: its summary stands last in the ring that it opens again. -/
theorem endFreeze_frozen {s : State} (frozen : s.rcd.frozen = true) (ring : ringOff s) (room : s.rcd.ring.length < 16320) :
    recorded { s with rcd := { s.rcd with frozen := false, frzCounts := [0, 0, 0, 0, 0, 0], freezeReg := 0 } } (endFreeze s)
      0xA003 0 0x0D 0 := by
  have off : ringOff { s with rcd := { s.rcd with frozen := false, frzCounts := [0, 0, 0, 0, 0, 0], freezeReg := 0 } } := ring
  unfold endFreeze
  rw [if_pos frozen]
  dsimp only
  rw [← record_off off]
  exact record_recorded off ⟨rfl, room⟩ ..

/-- Without a freeze there is none to end. -/
theorem endFreeze_thawed {s : State} (thawed : s.rcd.frozen = false) : endFreeze s = s := by
  unfold endFreeze
  rw [thawed]
  rfl

/-- The readout position after a read with autoinc (R702). -/
theorem readAdvance_position {s : State} (auto : s.rcd.readPtr.getLsbD 61 = true) :
    (readAdvance s).rcd.readPtr.toNat = s.rcd.readPtr.toNat / 2 ^ 48 * 2 ^ 48 + (s.rcd.readPtr.toNat % 2 ^ 48 + 1) % 2 ^ 48 := by
  have bit : s.rcd.readPtr.toNat.testBit 61 = true := auto
  have lt := s.rcd.readPtr.isLt
  unfold readAdvance
  dsimp only
  rw [if_pos bit]
  generalize s.rcd.readPtr.toNat = n at lt
  unfold w64
  rw [BitVec.toNat_ofNat, Nat.mod_eq_of_lt (by omega)]

/-! The performance counters. -/

/-- The live value of CLU.PERF_CTL just written. -/
theorem liveVal_perf (s : State) (c : Nat) {v : Word64} {n : Nat} (low : v.toNat % 4 = n) :
    liveVal (putLive s 4 0x40 c (v &&& 3) 0) 4 0x40 c = BitVec.ofNat 64 n := by
  have row : setRow 4 0x40 = some ⟨4, 0x40, 0x40, .im, 0, true, 0x3, 0x0⟩ := by decide
  rw [liveVal_putLive row (by decide), BitVec.and_assoc]
  apply BitVec.eq_of_toNat_eq
  rw [BitVec.toNat_and, show (3 &&& BitVec.ofNat 64 0x3 : Word64).toNat = 2 ^ 2 - 1 from rfl, Nat.and_two_pow_sub_one_eq_mod,
    BitVec.toNat_ofNat]
  omega

/-- Contexts and programs are no settings. -/
theorem putLive_others (s : State) (blk idx ctx : Nat) (v : Word64) (g : Nat) (c k : Nat) (n : Nat) :
    getC (putLive s blk idx ctx v g) c = getC s c ∧ getP (putLive s blk idx ctx v g) n = getP s n ∧
    perfWord (putLive s blk idx ctx v g) c k = perfWord s c k := by
  rw [putLive_frame]
  exact ⟨rfl, rfl, rfl⟩

/-- The journal and a program's retirement leave the counters as they are. -/
theorem perfWord_retired (s : State) (slot : BitVec 6) (p : Prog) (c k : Nat) :
    perfWord (putP (jot s) slot.toNat p) c k = perfWord s c k := by
  rw [jot_frame]
  rfl

/-- The journal and a program's retirement leave the contexts as they are. -/
theorem getC_retired (s : State) (slot : BitVec 6) (p : Prog) (c : Nat) : getC (putP (jot s) slot.toNat p) c = getC s c := by
  rw [jot_frame]
  rfl

/-- A context whose counters have stopped where they stand. -/
def perfStopped (s : State) (c : Nat) : Ctx :=
  if (getC s c).perfOn then { getC s c with perfOn := false, beats := perfWord s c 0, stall := perfWord s c 2 } else getC s c

section
variable {v : Word64} (s : State) (c : Nat)

/-- PERF_START. -/
theorem perfWrite_start (start : v.toNat % 4 = 1) : perfWrite s c v = putC s c { getC s c with perfOn := true } := by
  unfold perfWrite
  rw [start]
  rfl

/-- PERF_STOP. -/
theorem perfWrite_stop (stop : v.toNat % 4 = 2) : perfWrite s c v = putC s c (perfStopped s c) := by
  unfold perfWrite
  rw [stop]
  rfl

/-- PERF_ZERO. -/
theorem perfWrite_zero (zero : v.toNat % 4 = 3) : perfWrite s c v = putC s c { getC s c with beats := 0, tileOps := 0, stall := 0 } := by
  unfold perfWrite
  rw [zero]
  rfl

/-- Stopped counters do not count. -/
theorem perfStopped_off : (perfStopped s c).perfOn = false := by
  unfold perfStopped
  split
  · rfl
  · exact Bool.not_eq_true _ ▸ ‹_›

/-- Stopped counters stand where they stood. -/
theorem perfWord_stopped (k : Nat) : perfWord (putC s c (perfStopped s c)) c k = perfWord s c k := by
  have x : getC (putC s c (perfStopped s c)) c = perfStopped s c := getC_putC_same ..
  unfold perfWord
  rw [x]
  by_cases on : (getC s c).perfOn = true
  · rw [perfStopped, if_pos on]
    by_cases one : k = 1
    · rw [if_pos one, if_pos one]
    · by_cases zero : k = 0 <;> simp [one, zero, perfWord]
  · rw [perfStopped, if_neg on]
    rfl

end

/-- Settles O14: freezes by `writeFreeze_starts` and `writeFreeze_ends`, the counters by `perfWrite_command`. -/
theorem recorderPerfAndInjectWrites : Obligations.RecorderPerfAndInjectWrites := by
  unfold Obligations.RecorderPerfAndInjectWrites
  refine ⟨fun s slot ra rd p h next => ⟨fun priv one => ?_, fun priv zero thawed ring => ?_, fun priv zero frozen ring room => ?_,
    fun priv => (exec_readPtrWrite ..).trans (execReadPtrWrite_writes h next priv ra), fun auto => ?_⟩,
    fun s slot ra p h next => ⟨fun sel free used => ?_, fun priv one => ?_, fun priv zero => ?_⟩⟩
  · have run := wriWhen_freeze h next priv (cond := fun v => v.getLsbD 0) one
    rw [writeFreeze_starts one] at run
    have kept : frozenNow (putP (jot s) slot.toNat (onward p)) (p.reg ra) = frozenNow s (p.reg ra) := by rw [jot_frame]; rfl
    rw [kept] at run
    exact ⟨_, (exec_freezeStart ..).trans run, getP_putP_same .., rfl, rfl, fun frozen => ⟨if_pos frozen, if_pos frozen⟩,
      fun thawed => ⟨if_neg (by simp [thawed]), if_neg (by simp [thawed])⟩, rfl⟩
  · have ring' : ringOff (putP (jot s) slot.toNat (onward p)) := by rw [jot_frame]; exact ring
    have run := wriWhen_freeze h next priv (cond := fun v => !v.getLsbD 0) (ra := ra) (by rw [zero]; rfl)
    have thawed' : (putP (jot s) slot.toNat (onward p)).rcd.frozen = false := by rw [jot_frame]; exact thawed
    rw [writeFreeze_ends ring' zero, endFreeze_thawed thawed'] at run
    exact ⟨_, (exec_freezeEnd ..).trans run, getP_putP_same .., thawed'⟩
  · have ring' : ringOff (putP (jot s) slot.toNat (onward p)) := by rw [jot_frame]; exact ring
    have rcd : (putP (jot s) slot.toNat (onward p)).rcd = s.rcd := by rw [jot_frame]; rfl
    have run := wriWhen_freeze h next priv (cond := fun v => !v.getLsbD 0) (ra := ra) (by rw [zero]; rfl)
    obtain ⟨last, frame⟩ := endFreeze_frozen (s := putP (jot s) slot.toNat (onward p))
      (by rw [rcd]; exact frozen) ring' (by rw [rcd]; exact room)
    rw [writeFreeze_ends ring' zero] at run
    refine ⟨_, (exec_freezeEnd ..).trans run, ?_, ?_, ?_, last⟩
    · rw [freezeWritten, frame]
      exact getP_putP_same ..
    · rw [freezeWritten, frame]
    · rw [freezeWritten, frame]
  · exact ⟨_, (exec_readDataAutoinc ..).trans (execReadDataAutoinc_reads h next auto rd), getP_putP_same ..,
      readAdvance_position auto, rfl⟩
  · have row := fun {cond} meets => wriWhen_perf (cond := cond) (ra := ra) h next sel free used meets
    have reads := fun x k => putLive_others (putC (putP (jot s) slot.toNat (onward p)) p.sel x) 4 0x40 p.sel (p.reg ra &&& 3) 0 p.sel k
      slot.toNat
    have prog := fun x => (reads x 0).2.1.trans (getP_putP_same (jot s) slot.toNat (onward p))
    have ctx := fun x => (reads x 0).1.trans (getC_putC_same ..)
    refine ⟨fun start => ?_, fun stop => ?_, fun zero => ?_⟩
    · have run := row (cond := fun v => v.toNat % 4 == 1) (beq_iff_eq.2 start)
      rw [perfWrite_start _ _ start, getC_retired] at run
      exact ⟨_, (exec_perfStart ..).trans run, prog _, ctx _, liveVal_perf _ _ start⟩
    · have run := row (cond := fun v => v.toNat % 4 == 2) (beq_iff_eq.2 stop)
      rw [perfWrite_stop _ _ stop] at run
      refine ⟨_, (exec_perfStop ..).trans run, prog _, ?_, liveVal_perf _ _ stop, fun k => ?_⟩
      · rw [ctx, perfStopped_off]
      · rw [(reads _ k).2.2, perfWord_stopped, perfWord_retired]
    · have run := row (cond := fun v => v.toNat % 4 == 3) (beq_iff_eq.2 zero)
      rw [perfWrite_zero _ _ zero, getC_retired] at run
      exact ⟨_, (exec_perfZero ..).trans run, prog _, ctx _, liveVal_perf _ _ zero⟩
  all_goals
    have row : setRow 6 0xF0 = some ⟨6, 0xF0, 0xF0, .im, 2, false, 0xFFFFFFFF01, 0x0⟩ := by decide
    have live := liveVal_putLive row (by decide) (putP (jot s) slot.toNat (onward p)) 0 (p.reg ra &&& 0xFFFFFFFF01) 0
    rw [BitVec.and_assoc, show (0xFFFFFFFF01 &&& BitVec.ofNat 64 0xFFFFFFFF01 : Word64) = 0xFFFFFFFF01 from rfl] at live
    have prog := (putLive_others (putP (jot s) slot.toNat (onward p)) 6 0xF0 0 (p.reg ra &&& 0xFFFFFFFF01) 0 0 0 slot.toNat).2.1
  · exact ⟨_, (exec_injectArm ..).trans (wriWhen_inject h next priv one), prog.trans (getP_putP_same ..), live, putLive_frame ..⟩
  · refine ⟨_, (exec_injectDisarm ..).trans (wriWhen_inject h next priv (by rw [zero]; rfl)), prog.trans (getP_putP_same ..), live, ?_,
      putLive_frame ..⟩
    rw [live, BitVec.getLsbD_and, zero, Bool.false_and]

end Sys2Proof.Machine
end

section
/-! ### Barriers, empty masks and undefined words (10 R311, R343, R344, R352, R372) -/
namespace Sys2Proof.Machine

/-- The started sheds of a slot that have not ended. -/
def liveSheds (x : Slot) : List (Nat × Shed) := x.sheds.filter (fun e => e.2.started && e.2.ended != BitVec.allOnes 16)

/-- A shed once the barrier that it waits at has been met. -/
def pastBars (h : Shed) : Shed := if h.wait = .bars then { h with wait := .none, pc := h.pc + 8 } else h

/-- A slot once the barrier has been met. -/
def barsMet (x : Slot) : Slot := { x with sheds := x.sheds.map (fun e => (e.1, pastBars e.2)) }

/-- A shed past its barrier waits at none. -/
theorem pastBars_wait (h : Shed) : (pastBars h).wait ≠ .bars := by
  unfold pastBars
  split
  · exact fun e => ShedWait.noConfusion e
  · assumption

/-- Whether a slot's barrier has been met: it has live sheds, and all of them have reached it. -/
def atBars (x : Slot) : Bool := !(liveSheds x).isEmpty && (liveSheds x).all (fun e => e.2.wait == .bars)

/-- What settling a barrier does. -/
theorem settleBars_eq (s : State) (k : Nat) :
    settleBars s k = if atBars (getS s k) then putS s k (barsMet (getS s k)) else s := by
  have same : ∀ e : Nat × Shed, (if e.2.wait = .bars then (e.1, { e.2 with wait := .none, pc := e.2.pc + 8 }) else e) =
      (e.1, pastBars e.2) := fun e => by
    unfold pastBars
    split <;> rfl
  unfold settleBars barsMet
  simp only [same]
  rfl

/-- A barrier that some shed has not reached holds the sheds that have. -/
theorem settleBars_holds {s : State} {k : Nat} (behind : ∃ e ∈ liveSheds (getS s k), e.2.wait ≠ .bars) : settleBars s k = s := by
  obtain ⟨e, mem, wait⟩ := behind
  have some : (liveSheds (getS s k)).all (fun e => e.2.wait == .bars) = false := List.all_eq_false.2 ⟨e, mem, by simpa using wait⟩
  rw [settleBars_eq, atBars, some, Bool.and_false]
  rfl

/-- A barrier that every shed has reached lets them all go on. -/
theorem settleBars_releases {s : State} {k : Nat} (live : liveSheds (getS s k) ≠ [])
    (all : ∀ e ∈ liveSheds (getS s k), e.2.wait = .bars) : settleBars s k = putS s k (barsMet (getS s k)) := by
  have some : (liveSheds (getS s k)).isEmpty = false := by simpa using live
  have every : (liveSheds (getS s k)).all (fun e => e.2.wait == .bars) = true :=
    List.all_eq_true.2 fun e mem => beq_iff_eq.2 (all e mem)
  rw [settleBars_eq, atBars, some, every]
  rfl

/-- A shed that has come to a barrier is one of the live sheds of its slot. -/
theorem liveSheds_bars {s : State} {r : Run} (now : RunsNow s r) :
    (r.shed, { r.h with wait := .bars }) ∈ liveSheds { r.slot with sheds := Tbl.put r.slot.sheds r.shed { r.h with wait := .bars } } :=
  List.mem_filter.2 ⟨Tbl.mem_put_same .., Bool.and_eq_true_iff.2 ⟨now.started, bne_iff_ne.2 now.going⟩⟩

/-- BARS of the last shed of a slot to come: the slot's sheds go on, and nothing else changes. -/
theorem barsMet_reads {s : State} {r : Run} (now : RunsNow s r) :
    let x : Slot := { r.slot with sheds := Tbl.put r.slot.sheds r.shed { r.h with wait := .bars } }
    (∀ e ∈ (barsMet x).sheds, e.2.wait ≠ .bars) ∧ Tbl.get Shed.idle (barsMet x).sheds r.shed = { r.h with pc := r.h.pc + 8 } := by
  refine ⟨fun e mem => ?_, ?_⟩
  · obtain ⟨d, -, rfl⟩ := List.mem_map.1 mem
    exact pastBars_wait d.2
  · refine (Tbl.get_map Shed.idle _ pastBars r.shed).trans ?_
    rw [Tbl.get_put_same]
    refine (if_pos rfl).trans ?_
    rw [← now.wait]

/-- Settles O26: barriers by `settleBars_holds` and `settleBars_releases`, empty masks by `perThread_passesOver` and
`perShed_passesOver`, undefined words by `illegal_faulted`. -/
theorem barriersEmptyMasksAndUndefinedWords : Obligations.BarriersEmptyMasksAndUndefinedWords := by
  unfold Obligations.BarriersEmptyMasksAndUndefinedWords
  refine ⟨fun s w f r h hd ha hb hc => ?_, fun s w f g b env word r h => ⟨fun none => ?_, fun lanes c => ?_, fun c undefined => ?_⟩⟩
  · have now := runsNow_of_runnable h.1
    intro live x
    have at_ : getS (putShed s r { r.h with wait := .bars }) r.key = x := (getS_putShed s r _).trans (by rw [now.slot])
    have bars : f.guard = 0 → f.mod = 0 → exec (.bars w f) s = .next (settleBars (putShed s r { r.h with wait := .bars }) r.key) :=
      fun guard mod => by
        rw [exec_bars]
        unfold execBars
        rw [guard]
        exact congrArg _ (perShed_issues h (by simp [hd, ha, hb, hc, mod]) _)
    refine ⟨fun clean mod => ?_, fun clean mod => ?_, fun guard mod => ⟨fun behind => ?_, fun all => ?_⟩⟩
    · exact congrArg _ (perThread_issues h clean (by simp [hd, ha, hb, hc, mod]) _)
    · exact congrArg _ (perThread_issues h clean (by simp [hd, ha, hb, hc, mod]) _)
    · rw [bars guard mod, settleBars_holds (by rw [at_]; exact behind)]
    · have met := settleBars_releases (s := putShed s r { r.h with wait := .bars }) (k := r.key)
        (by rw [at_]; exact List.ne_nil_of_mem (liveSheds_bars now)) (by rw [at_]; exact all)
      rw [at_] at met
      obtain ⟨gone, here⟩ := barsMet_reads now
      refine ⟨_, (bars guard mod).trans (congrArg _ met), rfl, fun k other => ?_, ?_, ?_⟩
      · rw [getS_putS_ne _ other, getS_putShed_ne _ _ _ other]
      · rw [getS_putS_same]
        exact gone
      · rw [getS_putS_same]
        exact here
  · have thread : ∀ {c g ok f}, exec c s = .next (perThread s w g ok false f) →
        exec c s = .next (putShed s r { r.h with pc := r.h.pc + 8 }) := fun run => run.trans (congrArg _ (perThread_passesOver h none ..))
    have shed : ∀ {c g ok f}, exec c s = .next (perShed s w g ok false f) →
        exec c s = .next (putShed s r { r.h with pc := r.h.pc + 8 }) := fun run => run.trans (congrArg _ (perShed_passesOver h none ..))
    simp only [List.forall_mem_cons]
    exact ⟨thread rfl, thread rfl, thread rfl, shed rfl, shed rfl, thread rfl, thread rfl, thread rfl, thread rfl, thread rfl, thread rfl,
      shed rfl, thread rfl, shed rfl, thread rfl, by simp⟩
  · have faults := illegal_faulted (runsNow_of_runnable h) c
    refine ⟨fun bad => ⟨_, congrArg Host.Outcome.next (perThread_undefined h lanes (bad.imp_right ?_) _), faults⟩,
      fun bad => ⟨_, congrArg Host.Outcome.next (perThread_undefined h lanes (bad.imp_right ?_) _), faults⟩,
      fun bad => ⟨_, congrArg Host.Outcome.next (perShed_undefined h lanes (.inl bad) _), faults⟩⟩
    · rintro (rc | mod)
      · rw [beq_false_of_ne rc, Bool.false_and]
      · rw [beq_false_of_ne mod, Bool.and_false]
    · intro far
      unfold shiftImm
      rw [decide_eq_false (Nat.not_lt.2 far), Bool.and_false]
  · refine ⟨_, ?_, illegal_faulted (runsNow_of_runnable h) c⟩
    rw [exec_illegalInstr]
    unfold execIllegalInstr illegalWord
    rw [undefined]
    exact congrArg _ (onShed_runs h _)

end Sys2Proof.Machine
end

section
/-! ### Loads, stores and atomics of threads (10 R350, R351, 09 R324, R329, R331, R359) -/
namespace Sys2Proof.Machine

/-! Loads. -/

/-- Lanes that all go on change the shed one after another. -/
theorem eachLane_folds {f : Nat → Shed × Env → State → Option (Shed × Env) × State} {g : Shed → Nat → Shed} {env : Env}
    {s : State} {ls : List Nat} (ran : ∀ l ∈ ls, ∀ h, f l (h, env) s = (some (g h l, env), s)) (h : Shed) :
    eachLane f ls (h, env) s = (some (ls.foldl g h, env), s) := by
  induction ls generalizing h with
  | nil => rfl
  | cons l ls ih =>
    unfold eachLane
    rw [ran l List.mem_cons_self h]
    exact ih (fun k mem => ran k (List.mem_cons_of_mem _ mem)) (g h l)

/-- The shed after a lane has loaded a pair. -/
def setPair (rd : BitVec 6) (v : Nat → Nat) (po : Nat → Bool) (h : Shed) (l : Nat) : Shed :=
  (h.setG l rd (w64 (v l)) (po l)).setG l (rd + 1) (w64 (v l / 2 ^ 64)) (po l)

/-- The register above an even one is another, and not g0. -/
theorem even_succ {rd : BitVec 6} (even : rd.toNat % 2 = 0) : rd + 1 ≠ rd ∧ rd + 1 ≠ 0 := by
  have sum : (rd + 1).toNat = (rd.toNat + 1) % 64 := BitVec.toNat_add rd 1
  have bound := rd.isLt
  have odd : (rd + 1).toNat = rd.toNat + 1 := by omega
  refine ⟨fun e => ?_, fun e => ?_⟩
  · rw [e] at odd
    omega
  · rw [e] at odd
    exact Nat.succ_ne_zero _ odd.symm

/-- Loading pairs changes the registers and their poison marks alone. -/
theorem setPairs_frame (rd : BitVec 6) (v : Nat → Nat) (po : Nat → Bool) (h : Shed) (ls : List Nat) :
    ls.foldl (setPair rd v po) h =
      { h with regs := (ls.foldl (setPair rd v po) h).regs, regP := (ls.foldl (setPair rd v po) h).regP } := by
  induction ls generalizing h with
  | nil => rfl
  | cons l ls ih =>
    show ls.foldl (setPair rd v po) (setPair rd v po h l) = { h with
      regs := (ls.foldl (setPair rd v po) (setPair rd v po h l)).regs, regP := (ls.foldl (setPair rd v po) (setPair rd v po h l)).regP }
    rw [ih, setPair, setG_frame, setG_frame h]

/-- Reading a register after a lane has loaded a pair. -/
theorem setPair_reads {rd : BitVec 6} (even : rd.toNat % 2 = 0) (v : Nat → Nat) (po : Nat → Bool) (h : Shed) (k l : Nat)
    (x : BitVec 6) :
    (setPair rd v po h k).g l x =
      (if l = k ∧ x = rd ∧ rd ≠ 0 then w64 (v l) else if l = k ∧ x = rd + 1 then w64 (v l / 2 ^ 64) else h.g l x) ∧
    (setPair rd v po h k).gp l x = (if l = k ∧ (x = rd ∧ rd ≠ 0 ∨ x = rd + 1) then po l else h.gp l x) := by
  obtain ⟨other, live⟩ := even_succ even
  unfold setPair
  rw [g_setG, g_setG, gp_setG, gp_setG]
  generalize rd + 1 = high at other live
  by_cases lane : l = k
  · subst lane
    by_cases here : x = high
    · have live : ¬ high = 0#6 := live
      simp [here, other, live]
    · simp [here]
  · simp [lane]

/-- Reading a register after pairs are loaded. -/
theorem setPairs_reads {rd : BitVec 6} (even : rd.toNat % 2 = 0) (v : Nat → Nat) (po : Nat → Bool) (h : Shed) (ls : List Nat)
    (l : Nat) (x : BitVec 6) :
    (ls.foldl (setPair rd v po) h).g l x =
      (if l ∈ ls ∧ x = rd ∧ rd ≠ 0 then w64 (v l) else if l ∈ ls ∧ x = rd + 1 then w64 (v l / 2 ^ 64) else h.g l x) ∧
    (ls.foldl (setPair rd v po) h).gp l x = (if l ∈ ls ∧ (x = rd ∧ rd ≠ 0 ∨ x = rd + 1) then po l else h.gp l x) := by
  induction ls generalizing h with
  | nil => simp
  | cons k ls ih =>
    obtain ⟨value, mark⟩ := ih (setPair rd v po h k)
    obtain ⟨first, firstMark⟩ := setPair_reads even v po h k l x
    rw [List.foldl_cons, value, mark, first, firstMark]
    by_cases lane : l = k
    · simp only [lane, List.mem_cons, true_or, true_and]
      by_cases again : k ∈ ls
      · simp only [again, true_and]
        grind
      · simp only [again, false_and, if_false, and_self]
    · simp only [lane, List.mem_cons, false_or, false_and, if_false, and_self]

/-- The shed after a write of a register pair in every lane of a mask, at the next word. -/
theorem wrotePair_setPairs (h : Shed) (m : Half) {rd : BitVec 6} (even : rd.toNat % 2 = 0) (v : Nat → Nat) (po : Nat → Bool) :
    wrotePair h { (lanesOf m).foldl (setPair rd v po) h with pc := ((lanesOf m).foldl (setPair rd v po) h).pc + 8 } m rd v po := by
  refine ⟨by rw [setPairs_frame], fun l hl x => ?_⟩
  have reads := setPairs_reads even v po h (lanesOf m) l x
  simp only [mem_lanesOf, hl, true_and] at reads
  exact reads

section
variable {s : State} {w : ShedRef} {f : TI} {env : Env} {r : Run} {n : Nat} (h : shedIssues s w false r) (clean : guardClean r.h f.guard)
  (defined : (memMod true f.mod && (n != 16 || f.rd.toNat % 2 == 0)) = true)
include h clean defined

/-- A load whose lanes all reach their bytes writes their values. -/
theorem loadN_reads {b : Nat → Marked} (reads : ∀ l, (guardMask r.h f.guard).getLsbD l = true → r.h.gp l f.ra = false ∧
      memAddr r.h l f % n = 0 ∧ slotRead r.key 2 (memAddr r.h l f) n env [] s = (.ok (b l, env), s)) :
    loadN n w f env s = .next (advance s r (if n = 16
      then (lanesOf (guardMask r.h f.guard)).foldl (setPair f.rd (fun l => leNat ((b l).map (·.1))) (fun l => (b l).any (·.2))) r.h
      else setLanes f.rd (fun l => (widen n (f.mod.getLsbD 0) (leNat ((b l).map (·.1))), (b l).any (·.2))) r.h
        (lanesOf (guardMask r.h f.guard)))) := by
  unfold loadN
  refine congrArg _ ((perThread_issues h clean defined _).trans ?_)
  dsimp only
  rw [eachLane_folds (g := fun h l => if n = 16
    then setPair f.rd (fun l => leNat ((b l).map (·.1))) (fun l => (b l).any (·.2)) h l
    else h.setG l f.rd (widen n (f.mod.getLsbD 0) (leNat ((b l).map (·.1)))) ((b l).any (·.2)))]
  · refine congrArg (advance s r) ?_
    by_cases wide : n = 16
    · simp only [if_pos wide]
    · simp only [if_neg wide]
      rfl
  · intro l mem g
    obtain ⟨address, aligned, read⟩ := reads l (mem_lanesOf.1 mem).2
    dsimp only
    rw [address, if_neg Bool.false_ne_true, if_neg (not_not_intro aligned), read]
    rfl

/-- A load consumes a poisoned address. -/
theorem loadN_poisoned {l : Nat} {rest : List Nat} (first : lanesOf (guardMask r.h f.guard) = l :: rest)
    (address : r.h.gp l f.ra = true) : loadN n w f env s = .next (consume s r l) := by
  unfold loadN
  refine congrArg _ ((perThread_issues h clean defined _).trans ?_)
  dsimp only
  rw [first, eachLane_fault (s' := consume s r l) (by dsimp only; rw [address]; rfl)]

/-- A load from an address that is not aligned ends the context. -/
theorem loadN_unaligned {l : Nat} {rest : List Nat} (first : lanesOf (guardMask r.h f.guard) = l :: rest)
    (address : r.h.gp l f.ra = false) (odd : memAddr r.h l f % n ≠ 0) :
    loadN n w f env s = .next (threadFault s r 0x0102 (memAddr r.h l f) l) := by
  unfold loadN
  refine congrArg _ ((perThread_issues h clean defined _).trans ?_)
  dsimp only
  rw [first, eachLane_fault (s' := threadFault s r 0x0102 (memAddr r.h l f) l)
    (by dsimp only; rw [address, if_neg Bool.false_ne_true, if_pos odd])]

end

/-- A power of 256 is a power of 2. -/
theorem pow_256 (n : Nat) : 256 ^ n = 2 ^ (8 * n) := (Nat.pow_mul 2 8 n).symm

/-- The value of bytes widened to a register. -/
theorem widen_eq {n v : Nat} (bound : v < 2 ^ (8 * n)) (signed : Bool) :
    widen n signed v =
      if signed = true ∧ 2 ^ (8 * n - 1) ≤ v then BitVec.ofInt 64 ((v : Int) - 2 ^ (8 * n)) else BitVec.ofNat 64 v := by
  unfold widen sgn
  rw [Nat.mod_eq_of_lt bound]
  cases signed with
  | false => rfl
  | true =>
    by_cases high : 2 ^ (8 * n - 1) ≤ v
    · rw [if_pos rfl, if_pos high, if_pos ⟨rfl, high⟩, Nat.cast_pow]
      rfl
    · rw [if_pos rfl, if_neg high, if_neg fun e => high e.2, BitVec.ofInt_natCast]

/-- The narrow loads with their sizes. -/
theorem narrowLoads : ∀ e ∈ [(Instr.ldB, 1), (Instr.ldH, 2), (Instr.ldW, 4), (Instr.ldD, 8)],
    e.2 ≠ 16 ∧ ∀ w f env s, exec (e.1 w f env) s = loadN e.2 w f env s := by
  intro e mem
  rcases List.mem_cons.1 mem with rfl | mem
  · exact ⟨by decide, exec_ldB⟩
  rcases List.mem_cons.1 mem with rfl | mem
  · exact ⟨by decide, exec_ldH⟩
  rcases List.mem_cons.1 mem with rfl | mem
  · exact ⟨by decide, exec_ldW⟩
  rw [List.mem_singleton.1 mem]
  exact ⟨by decide, exec_ldD⟩

/-! Stores. -/

/-- Bytes within a granule lie in that one. -/
theorem granules_one {a n : Nat} (some' : 0 < n) (within : a % 32 + n ≤ 32) : granules a n = [a / 32] := by
  have last : (a + n - 1) / 32 - a / 32 + 1 = 1 := by omega
  unfold granules
  rw [if_neg (Nat.ne_of_gt some'), last]
  show [0 + a / 32] = [a / 32]
  rw [Nat.zero_add]

/-- A store with a poisoned byte within a granule poisons it (13 R453). -/
theorem isPoison_storeMarked (s : State) {a : Nat} {l : Marked} (some' : 0 < l.length) (within : a % 32 + l.length ≤ 32)
    (poisoned : l.any (·.2) = true) : isPoison (storeMarked s a l) a = true := by
  have marks : marksGranule a l (a / 32) = true := by
    have start : (if a / 32 * 32 < a then 0 else a / 32 * 32 - a) = 0 := by split <;> omega
    unfold marksGranule
    dsimp only
    rw [start, List.drop_zero, List.take_of_length_le (by omega)]
    exact poisoned
  rw [storeMarked_eq, granules_one some' within, List.foldl_cons, List.foldl_nil, markGranule, if_pos marks]
  unfold isPoison setPoison
  rw [Nat.mul_div_cancel _ (by decide), List.contains_iff_mem, mem_insertNat]
  exact .inl rfl

/-- The bytes that a store of `n` bytes writes in a lane: `rd`, or the pair it names, little-endian. -/
def storeBytes (r : Run) (l n : Nat) (f : TI) : Marked :=
  (leBytes n ((r.h.g l f.rd).toNat + (if n = 16 then (r.h.g l (f.rd + 1)).toNat * 2 ^ 64 else 0))).map
    (fun b => (b, r.h.gp l f.rd || (n == 16 && r.h.gp l (f.rd + 1))))

/-- How a store ends once its lane has written. -/
def storeEnds (s : State) (r : Run) (va l : Nat) : Except Nat State → State
  | .ok t => advance t r r.h
  | .error st => threadFault s r st va l

section
variable {s : State} {w : ShedRef} {f : TI} {env : Env} {r : Run} {n l : Nat} (h : shedIssues s w false r)
  (clean : guardClean r.h f.guard) (defined : (memMod false f.mod && (n != 16 || f.rd.toNat % 2 == 0)) = true)
  (lane : lanesOf (guardMask r.h f.guard) = [l])
include h clean defined lane

/-- A store in a step before STEP.BEGIN ends the context. -/
theorem storeN_outside (may : mayWrite s r = false) : storeN n w f env s = .next (indexFault s r 0x010B 0xFF) := by
  unfold storeN
  refine congrArg _ ((perThread_issues h clean defined _).trans ?_)
  rw [if_pos ⟨ne_zero_of_lanesOf lane, by rw [may]; rfl⟩]

/-- A store of one lane that reaches device memory writes its bytes. -/
theorem storeN_reaches {pa : Nat} (may : mayWrite s r = true) (address : r.h.gp l f.ra = false) (aligned : memAddr r.h l f % n = 0)
    (reach : reaches s r (memAddr r.h l f) .write env pa) :
    storeN n w f env s =
      .next (storeEnds s r (memAddr r.h l f) l (threadWrite s r l (.hbm pa) (storeBytes r l n f))) := by
  obtain ⟨there, free⟩ := reach
  have mayGo : ¬ (guardMask r.h f.guard ≠ 0 ∧ (!mayWrite s r) = true) := by simp [may]
  have noWait : ¬ (lanesOf (guardMask r.h f.guard)).any (fun l => writeHeld s r (memAddr r.h l f)) = true := by simp [lane, free]
  unfold storeN
  refine congrArg _ ((perThread_issues h clean defined _).trans ?_)
  dsimp only
  rw [if_neg mayGo, if_neg noWait, lane, eachLane_one]
  rw [address, if_neg Bool.false_ne_true, if_neg (not_not_intro aligned), there]
  dsimp only
  rw [if_neg (show ¬ placeDown s (.hbm pa) = true from Bool.false_ne_true)]
  unfold storeBytes
  cases threadWrite s r l (.hbm pa) ((leBytes n ((r.h.g l f.rd).toNat + (if n = 16 then (r.h.g l (f.rd + 1)).toNat * 2 ^ 64 else 0))).map
    (fun b => (b, r.h.gp l f.rd || (n == 16 && r.h.gp l (f.rd + 1))))) <;> rfl

end

section
variable {s : State} {r : Run}

/-- Outside a step a primary copy writes at once. -/
theorem threadWrite_now (now : writesNow s r) (l pa : Nat) (b : Marked) :
    threadWrite s r l (.hbm pa) b = .ok (storeMarked s pa b) := by
  obtain ⟨closed, primary⟩ := now
  unfold threadWrite
  rw [closed, primary]
  rfl

variable {l pa : Nat} {b : Marked} (inside : (getC s r.ctx).step.isOpen = true)
include inside

/-- In a step a write outside the input ranges is held. -/
theorem threadWrite_held (outside : inStepRange s r.ctx (.hbm pa) = false) {x : Slot} (slot : getS s r.key = x)
    (room : holdEntries s r.key { holdBytes x (.hbm pa) b r.shed l x.seq with seq := x.seq + 1 } ≤ 8192) :
    threadWrite s r l (.hbm pa) b = .ok (putS s r.key { holdBytes x (.hbm pa) b r.shed l x.seq with seq := x.seq + 1 }) := by
  unfold threadWrite
  rw [if_pos inside, outside, if_neg Bool.false_ne_true, slot]
  exact if_neg (Nat.not_lt.2 room)

/-- In a step a write to an input range fails. -/
theorem threadWrite_range (range : inStepRange s r.ctx (.hbm pa) = true) : threadWrite s r l (.hbm pa) b = .error 0x0104 := by
  unfold threadWrite
  rw [if_pos inside, if_pos range]

end

/-! Atomics. -/

/-- The low bytes of a number are those of its remainder. -/
theorem leBytes_mod (n v : Nat) : leBytes n (v % 256 ^ n) = leBytes n v := by
  induction n generalizing v with
  | zero => rfl
  | succ n ih =>
    have low : BitVec.ofNat 8 (v % 256 ^ (n + 1)) = BitVec.ofNat 8 v :=
      BitVec.eq_of_toNat_eq (Nat.mod_mod_of_dvd v (Dvd.intro_left (256 ^ n) rfl))
    have high : v % 256 ^ (n + 1) / 256 = v / 256 % 256 ^ n := by rw [Nat.pow_succ', Nat.mod_mul_right_div_self]
    unfold leBytes
    rw [low, high, ih]

section
variable {n : Nat} (fits : n = 4 ∨ n = 8)
include fits

/-- The bytes of a value cut to the size of an atomic. -/
theorem leBytes_cut (v : Nat) : leBytes n (BitVec.ofNat 64 (v % 2 ^ (8 * n))).toNat = leBytes n v := by
  have small : v % 2 ^ (8 * n) < 2 ^ 64 :=
    Nat.lt_of_lt_of_le (Nat.mod_lt _ (Nat.two_pow_pos _)) (Nat.pow_le_pow_right (by decide) (by omega))
  rw [BitVec.toNat_ofNat, Nat.mod_eq_of_lt small, ← pow_256, leBytes_mod]

/-- An old value read as the value of an atomic. -/
theorem w64_cut {old : Nat} (bound : old < 2 ^ (8 * n)) : (w64 old).toNat % 2 ^ (8 * n) = old := by
  have small : old < 2 ^ 64 := Nat.lt_of_lt_of_le bound (Nat.pow_le_pow_right (by decide) (by omega))
  rw [w64, BitVec.toNat_ofNat, Nat.mod_eq_of_lt small, Nat.mod_eq_of_lt bound]

/-- The signed value of a pattern, by its upper half. -/
theorem sgn_half {v : Nat} (bound : v < 2 ^ (8 * n)) :
    sgn (8 * n) v = if v < 2 ^ (8 * n) / 2 then (v : Int) else (v : Int) - (2 ^ (8 * n) : Nat) := by
  have half : 2 ^ (8 * n) / 2 = 2 ^ (8 * n - 1) := by rcases fits with rfl | rfl <;> rfl
  unfold sgn
  rw [Nat.mod_eq_of_lt bound, half]
  by_cases low : v < 2 ^ (8 * n - 1)
  · rw [if_neg (Nat.not_le.2 low), if_pos low]
  · rw [if_pos (Nat.not_lt.1 low), if_neg low]

end

/-- What an atomic of one lane does that leaves the value `new` in the `n` bytes from `pa` on. -/
def atomicDoes (s : State) (r : Run) (f : T3) (pa n new : Nat) (o : Host.Outcome State Fault Refusal) : Prop :=
  (writesNow s r → isPoison s pa = false → ∃ t h, o = .next t ∧
    memGets t pa n = leBytes n new ∧ (∀ a, a < pa ∨ pa + n ≤ a → memGet t a = memGet s a) ∧
    t = { putShed s r h with mem := t.mem } ∧
    wroteLanes r.h h (guardMask r.h f.guard) f.rd (fun _ => BitVec.ofNat 64 (leNat (memGets s pa n))) (fun _ => false)) ∧
  ((getC s r.ctx).step.isOpen = true → r.h.begun = true →
    (f.rd ≠ 0 → calm s → ∃ t, o = .next t ∧ faulted s t r 0x0105 (instrIndex s r) 0xFF true) ∧
    (f.rd = 0 → inStepRange s r.ctx (.hbm pa) = false → holdEntries s r.key r.slot < 8192 → ∃ t, o = .next t ∧ t.mem = s.mem ∧
      (getS t r.key).atomics.length = r.slot.atomics.length + 1 ∧ (getS t r.key).held = r.slot.held))

/-- An atomic on clean memory returns the old value and leaves the new one. -/
theorem atomicNow_clean {s : State} {pa n : Nat} (clean : anyPoison s pa n = false) (op : Nat) (val cmp : Word64) (ctx : Nat) :
    atomicNow s (.hbm pa) op n val cmp false Env.quiet ctx = ((w64 (leNat (memGets s pa n)), false),
      storeMarked s pa ((leBytes n (atomicValue op n (w64 (leNat (memGets s pa n))) val cmp).toNat).map (fun b => (b, false)))) := by
  have bytes : ((memGets s pa n).map (fun b => (b, false))).map (·.1) = memGets s pa n := List.map_map.trans (List.map_id' _)
  have marks : ((memGets s pa n).map (fun b => (b, false))).any (·.2) = false := by simp
  unfold atomicNow
  rw [readMarked_clean clean]
  dsimp only
  rw [bytes, marks]
  rfl

/-- One more held atomic takes one more entry. -/
theorem holdEntries_atomic (s : State) (k : Nat) (x : Slot) (a : HeldAtomic) :
    holdEntries s k { x with atomics := x.atomics ++ [a] } = holdEntries s k x + 1 := by
  unfold holdEntries
  dsimp only
  rw [List.length_append, List.length_singleton]
  omega

section
variable {s : State} {w : ShedRef} {f : T3} {r : Run} {l pa n op : Nat} {ok : Bool} (h : shedIssues s w false r)
  (clean : guardClean r.h f.guard) (defined : ok = true) (lane : lanesOf (guardMask r.h f.guard) = [l]) (ha : r.h.gp l f.ra = false)
  (hb : r.h.gp l f.rb = false) (hc : r.h.gp l f.rc = false) (reach : reaches s r (r.h.g l f.ra).toNat .atomic Env.quiet pa)
  (aligned : (r.h.g l f.ra).toNat % n = 0)
include h clean defined lane

/-- An atomic that returns a value ends the context in a step. -/
theorem atomic_returns (inside : (getC s r.ctx).step.isOpen = true) (begun : r.h.begun = true) (returns : f.rd ≠ 0) (env : Env) :
    atomic op n ok w f env s = .next (indexFault s r 0x0105 0xFF) := by
  have may : ¬ (!mayWrite s r) = true := by simp [mayWrite, begun]
  unfold atomic
  refine congrArg _ ((perThread_issues h clean defined _).trans ?_)
  dsimp only
  rw [if_neg (ne_zero_of_lanesOf lane), if_neg may, if_pos ⟨inside, returns⟩]

include ha hb hc reach aligned

/-- An atomic of clean data outside a step acts at once. -/
theorem atomic_now (now : writesNow s r) (unpoisoned : anyPoison s pa n = false) :
    atomic op n ok w f Env.quiet s = .next (advance
      (storeMarked s pa ((leBytes n (atomicValue op n (w64 (leNat (memGets s pa n))) (r.h.g l f.rb) (r.h.g l f.rc)).toNat).map
        (fun b => (b, false)))) r (r.h.setG l f.rd (w64 (leNat (memGets s pa n))) false)) := by
  obtain ⟨there, free⟩ := reach
  obtain ⟨closed, primary⟩ := now
  have may : ¬ (!mayWrite s r) = true := by simp [mayWrite, closed]
  have noWait : ¬ (lanesOf (guardMask r.h f.guard)).any (fun l => writeHeld s r (r.h.g l f.ra).toNat) = true := by simp [lane, free]
  unfold atomic
  refine congrArg _ ((perThread_issues h clean defined _).trans ?_)
  dsimp only
  rw [if_neg (ne_zero_of_lanesOf lane), if_neg may, closed, if_neg (fun e => Bool.false_ne_true e.1), if_neg noWait, lane, eachLane_one]
  dsimp only
  rw [ha, if_neg Bool.false_ne_true, if_neg (not_not_intro aligned), there]
  dsimp only
  rw [if_neg Bool.false_ne_true, primary, if_neg (show ¬ (none : Option Nat).isSome = true from Bool.false_ne_true),
    hb, hc, Bool.and_false, Bool.or_false, atomicNow_clean unpoisoned]

/-- An atomic in a step that returns nothing is held. -/
theorem atomic_held (inside : (getC s r.ctx).step.isOpen = true) (begun : r.h.begun = true) (silent : f.rd = 0)
    (outside : inStepRange s r.ctx (.hbm pa) = false) (room : holdEntries s r.key r.slot < 8192) :
    ∃ a, atomic op n ok w f Env.quiet s = .next (advance
      (putS { s with orderCtr := s.orderCtr + 1 } r.key { r.slot with atomics := r.slot.atomics ++ [a] }) r r.h) := by
  obtain ⟨there, free⟩ := reach
  have may : ¬ (!mayWrite s r) = true := by simp [mayWrite, begun]
  have noWait : ¬ (lanesOf (guardMask r.h f.guard)).any (fun l => writeHeld s r (r.h.g l f.ra).toNat) = true := by simp [lane, free]
  have slot : getS s r.key = r.slot := (runsNow_of_runnable h.1).slot
  refine ⟨⟨.hbm pa, op, n, r.h.g l f.rb, r.h.g l f.rc, false, r.shed, l, s.orderCtr⟩, ?_⟩
  unfold atomic
  refine congrArg _ ((perThread_issues h clean defined _).trans ?_)
  dsimp only
  rw [if_neg (ne_zero_of_lanesOf lane), if_neg may, if_neg (fun e => e.2 silent), if_neg noWait, lane, eachLane_one]
  dsimp only
  rw [ha, if_neg Bool.false_ne_true, if_neg (not_not_intro aligned), there]
  dsimp only
  rw [if_pos inside, outside, if_neg Bool.false_ne_true, hb, hc, Bool.and_false, Bool.or_false, slot, holdEntries_atomic,
    if_neg (Nat.not_lt.2 room)]

/-- An atomic of one lane does what its operation says. -/
theorem atomic_does (fits : n = 4 ∨ n = 8) (even : pa % n = 0) {new : Nat}
    (value : leBytes n (atomicValue op n (w64 (leNat (memGets s pa n))) (r.h.g l f.rb) (r.h.g l f.rc)).toNat = leBytes n new) :
    atomicDoes s r f pa n new (atomic op n ok w f Env.quiet s) := by
  have now := runsNow_of_runnable h.1
  have some' : 0 < n := by omega
  have within : pa % 32 + n ≤ 32 := by rcases fits with rfl | rfl <;> omega
  refine ⟨fun writes unpoisoned => ?_, fun inside begun => ⟨fun returns c => ?_, fun silent outside room => ?_⟩⟩
  · have one : anyPoison s pa n = false := by
      unfold anyPoison
      rw [granules_one some' within, List.any_cons, List.any_nil, Bool.or_false]
      exact unpoisoned
    have run := atomic_now (op := op) h clean defined lane ha hb hc reach aligned writes one
    rw [value] at run
    obtain ⟨bytes, around, frame⟩ := storeMarked_spec s pa (length_leBytes n new) false
    generalize storeMarked s pa ((leBytes n new).map (fun b => (b, false))) = t at run bytes around frame
    refine ⟨_, _, run, (memGets_congr (by rfl) ..).trans bytes, around, ?_, wroteLanes_one lane f.rd _ false⟩
    rw [frame]
    rfl
  · exact ⟨_, atomic_returns h clean defined lane inside begun returns _, indexFault_faulted now c _ _⟩
  · obtain ⟨a, run⟩ := atomic_held (op := op) h clean defined lane ha hb hc reach aligned inside begun silent outside room
    have slot := getS_putShed (putS { s with orderCtr := s.orderCtr + 1 } r.key { r.slot with atomics := r.slot.atomics ++ [a] }) r
      { r.h with pc := r.h.pc + 8 }
    rw [getS_putS_same] at slot
    exact ⟨_, run, rfl, (congrArg (·.atomics.length) slot :).trans List.length_append, (congrArg Slot.held slot :)⟩

end

/-- An atomic leaves what its operation gives for the old value. -/
theorem atomicValue_leaves {op n old : Nat} {val cmp : Word64} {f : Nat → Nat} (fits : n = 4 ∨ n = 8) (bound : old < 2 ^ (8 * n))
    (gives : atomicValue op n (w64 old) val cmp = BitVec.ofNat 64 (f ((w64 old).toNat % 2 ^ (8 * n)) % 2 ^ (8 * n))) :
    leBytes n (atomicValue op n (w64 old) val cmp).toNat = leBytes n (f old) := by
  rw [gives, leBytes_cut fits, w64_cut fits bound]

/-- ATOM of a defined operation. -/
theorem execAtom_eq {f : T3} {k n : Nat} (small : k < 10) (size : n = 4 ∧ f.mod.toNat = k ∨ n = 8 ∧ f.mod.toNat = k + 16)
    (third : k = 9 ∨ f.rc = 0) (w : ShedRef) (env : Env) (s : State) : execAtom w f env s = atomic k n true w f env s := by
  have op : f.mod.toNat % 16 = k := by omega
  have width : (if f.mod.getLsbD 4 then 8 else 4) = n := by
    have bit : f.mod.getLsbD 4 = decide (f.mod.toNat / 16 % 2 = 1) := Nat.testBit_eq_decide_div_mod_eq
    rw [bit]
    rcases size with ⟨rfl, e⟩ | ⟨rfl, e⟩
    · exact if_neg (by rw [decide_eq_true_eq]; omega)
    · exact if_pos (by rw [decide_eq_true_eq]; omega)
  have defined : (decide (k < 10) && decide (f.mod.toNat < 32) && (k == 9 || f.rc == 0)) = true := by
    rw [decide_eq_true small, decide_eq_true (by omega), Bool.true_and, Bool.true_and, Bool.or_eq_true, beq_iff_eq, beq_iff_eq]
    exact third
  unfold execAtom
  dsimp only
  rw [op, width, defined]

/-- A write in lanes depends on the values in the lanes of its mask alone. -/
theorem wroteLanes_congr {h h' : Shed} {m : Half} {rd : BitVec 6} {v v' : Nat → Word64} {po : Nat → Bool}
    (same : ∀ l, m.getLsbD l = true → v l = v' l) (wrote : wroteLanes h h' m rd v po) : wroteLanes h h' m rd v' po := by
  refine ⟨wrote.1, fun l hl x => ⟨(wrote.2 l hl x).1.trans ?_, (wrote.2 l hl x).2⟩⟩
  by_cases here : m.getLsbD l = true ∧ x = rd ∧ rd ≠ 0
  · rw [if_pos here, if_pos here, same l here.1]
  · rw [if_neg here, if_neg here]

/-- The stores with their sizes. -/
theorem wideStores : ∀ e ∈ [(Instr.stB, 1), (Instr.stH, 2), (Instr.stW, 4), (Instr.stD, 8), (Instr.stQ, 16)],
    0 < e.2 ∧ ∀ w f env s, exec (e.1 w f env) s = storeN e.2 w f env s := by
  intro e mem
  rcases List.mem_cons.1 mem with rfl | mem
  · exact ⟨by decide, exec_stB⟩
  rcases List.mem_cons.1 mem with rfl | mem
  · exact ⟨by decide, exec_stH⟩
  rcases List.mem_cons.1 mem with rfl | mem
  · exact ⟨by decide, exec_stW⟩
  rcases List.mem_cons.1 mem with rfl | mem
  · exact ⟨by decide, exec_stD⟩
  rw [List.mem_singleton.1 mem]
  exact ⟨by decide, exec_stQ⟩

/-- Settles O27: loads by `loadN_reads`, stores by `storeN_reaches`, atomics by `atomic_does`. -/
theorem threadMemoryInstructions : Obligations.ThreadMemoryInstructions := by
  unfold Obligations.ThreadMemoryInstructions
  refine ⟨?_, ?_, ?_⟩
  · intro s w f env r b h clean word m v po reads ext
    have now := runsNow_of_runnable h.1
    refine ⟨fun e mem => ?_, fun even reach => ?_⟩
    · obtain ⟨narrow, run⟩ := narrowLoads e mem
      have defined : (memMod true f.mod && (e.2 != 16 || f.rd.toNat % 2 == 0)) = true := by rw [word, bne_iff_ne.2 narrow]; rfl
      refine ⟨fun reach lengths => ?_, fun l rest first c => ⟨fun address => ?_, fun address odd => ?_⟩⟩
      · have wide : ∀ l, m.getLsbD l = true → widen e.2 (f.mod.getLsbD 0) (v l) = ext e.2 (v l) := fun l lane => by
          have low := leNat_lt ((b l).map (·.1))
          rw [List.length_map, lengths l lane, pow_256] at low
          exact widen_eq low _
        have load := loadN_reads h clean defined reach
        rw [if_neg narrow] at load
        exact ⟨_, (run ..).trans load,
          wroteLanes_congr wide (wroteLanes_setLanes r.h m f.rd (fun l => (widen e.2 (f.mod.getLsbD 0) (v l), po l)))⟩
      · exact ⟨_, (run ..).trans (loadN_poisoned h clean defined first address), consume_faulted now c l⟩
      · exact ⟨_, (run ..).trans (loadN_unaligned h clean defined first address odd), threadFault_faulted now c _ _ l⟩
    · have defined : (memMod true f.mod && ((16 : Nat) != 16 || f.rd.toNat % 2 == 0)) = true := by rw [word, even]; rfl
      have load := loadN_reads h clean defined reach
      rw [if_pos rfl] at load
      exact ⟨_, (exec_ldQ ..).trans load, wrotePair_setPairs r.h m even v po⟩
  · intro s w f env r l pa h clean word lane address va reach e mem pair n v po aligned
    have now := runsNow_of_runnable h.1
    obtain ⟨some', run⟩ := wideStores e mem
    have defined : (memMod false f.mod && (n != 16 || f.rd.toNat % 2 == 0)) = true := by
      rw [word, Bool.true_and, Bool.or_eq_true, bne_iff_ne, beq_iff_eq]
      exact or_iff_not_imp_left.2 fun wide => pair (not_not.1 wide)
    have store : mayWrite s r = true → exec (e.1 w f env) s =
        .next (storeEnds s r va l (threadWrite s r l (.hbm pa) ((leBytes n v).map (fun b => (b, po))))) := fun may =>
      (run w f env s).trans (storeN_reaches h clean defined lane may address aligned reach)
    refine ⟨fun writes => ?_, fun inside begun outside => ?_, fun c inside out => ?_, fun c inside begun range => ?_⟩
    · have stored := store (by simp [mayWrite, writes.1])
      rw [threadWrite_now writes] at stored
      obtain ⟨bytes, around, frame⟩ := storeMarked_spec s pa (length_leBytes n v) po
      have poison : po = true → pa % 32 + n ≤ 32 → isPoison (storeMarked s pa ((leBytes n v).map (fun b => (b, po)))) pa = true :=
        fun marked within => isPoison_storeMarked s (by rwa [List.length_map, length_leBytes])
          (by rwa [List.length_map, length_leBytes]) (by
            obtain ⟨b, byte⟩ := List.exists_mem_of_length_pos (Nat.lt_of_lt_of_eq some' (length_leBytes n v).symm)
            exact List.any_eq_true.2 ⟨(b, po), List.mem_map_of_mem byte, marked⟩)
      generalize storeMarked s pa ((leBytes n v).map (fun b => (b, po))) = t at stored bytes around frame poison
      refine ⟨_, stored, (memGets_congr (by rfl) ..).trans bytes, around, poison, ?_⟩
      rw [frame]
      rfl
    · intro x room
      have stored := store (by simp [mayWrite, begun])
      rw [threadWrite_held inside outside now.slot room] at stored
      exact stored
    · exact ⟨_, (run ..).trans (storeN_outside h clean defined lane (by simp [mayWrite, inside, out])), indexFault_faulted now c _ _⟩
    · have stored := store (by simp [mayWrite, begun])
      rw [threadWrite_range inside range] at stored
      exact ⟨_, stored, threadFault_faulted now c _ _ l⟩
  · intro s w f r l pa n k h clean lane ha hb hc va reach aligned even z old b cmp sg fl does
    have low : old < 2 ^ (8 * n) := by
      have low := leNat_lt (memGets s pa n)
      rwa [length_memGets, pow_256] at low
    refine ⟨fun size third => ?_, fun four third => ?_⟩
    · have fits : n = 4 ∨ n = 8 := size.imp And.left And.left
      have bLow : b < 2 ^ (8 * n) := Nat.mod_lt _ (Nat.two_pow_pos _)
      have atom : k < 10 → ∀ new, leBytes n (atomicValue k n (w64 old) (r.h.g l f.rb) (r.h.g l f.rc)).toNat = leBytes n new →
          does (.atom w f Env.quiet) new := fun small new value => by
        have acts := atomic_does (ok := true) h clean rfl lane ha hb hc reach aligned fits even value
        rwa [← execAtom_eq small size third] at acts
      have leaves := fun {op : Nat} op' gives =>
        atomicValue_leaves (op := op) (val := r.h.g l f.rb) (cmp := r.h.g l f.rc) (f := op') fits low gives
      have add := leaves (op := 0) (fun a => (a + b) % z) (congrArg (BitVec.ofNat 64) (Nat.mod_mod _ _).symm)
      have min := leaves (op := 1) (fun a => if sgn (8 * n) a ≤ sgn (8 * n) b then a else b) rfl
      have max := leaves (op := 2) (fun a => if sgn (8 * n) a ≤ sgn (8 * n) b then b else a) rfl
      rw [sgn_half fits low, sgn_half fits bLow] at min max
      refine ⟨?_, ?_, ?_, ?_, ?_, ?_, ?_, ?_, ?_, ?_⟩ <;> rintro rfl
      · exact atom (by decide) _ add
      · exact atom (by decide) _ min
      · exact atom (by decide) _ max
      · exact atom (by decide) _ (leaves (fun a => Nat.min a b) rfl)
      · exact atom (by decide) _ (leaves (fun a => Nat.max a b) rfl)
      · exact atom (by decide) _ (leaves (fun a => a &&& b) rfl)
      · exact atom (by decide) _ (leaves (fun a => a ||| b) rfl)
      · exact atom (by decide) _ (leaves (fun a => a ^^^ b) rfl)
      · exact atom (by decide) _ (leaves (fun _ => b) rfl)
      · exact atom (by decide) _ (leaves (fun a => if a = cmp then b else a) rfl)
    · subst four
      have float : ∀ k : BitVec 8, k.toNat < 3 → f.mod = k → ∀ op : Fl → Fl → Fl,
          (∀ v, atomicValue (16 + k.toNat) 4 v (r.h.g l f.rb) (r.h.g l f.rc) = BitVec.ofNat 64
            (encodeF fmtFp32 none (op (decodeF fmtFp32 (v.toNat % 2 ^ (8 * 4))) (decodeF fmtFp32 b)) % 2 ^ (8 * 4))) →
          does (.atomf w f Env.quiet) (fl op) := fun k small mod op gives => by
        have value := atomicValue_leaves (f := fun a => encodeF fmtFp32 none (op (decodeF fmtFp32 a) (decodeF fmtFp32 b)))
          (.inl rfl) low (gives (w64 old))
        have defined : (decide (f.mod.toNat < 4) && f.rc == 0) = true := by
          rw [mod, third, decide_eq_true (by omega)]
          rfl
        rw [← mod] at value
        exact atomic_does h clean defined lane ha hb hc reach aligned (.inl rfl) even value
      exact ⟨fun mod => float 0 (by decide) mod flAdd fun _ => rfl, fun mod => float 1 (by decide) mod flMin fun _ => rfl,
        fun mod => float 2 (by decide) mod flMax fun _ => rfl⟩

end Sys2Proof.Machine
end

section
/-! ### Steps, software checks and commit points (09 R326 to R331, 10 R358 to R361) -/
namespace Sys2Proof.Machine

/-! STEP.BEGIN and STEP.COMMIT. -/

section
variable {s : State} {w : ShedRef} {f : T3} {env : Env} {r : Run} (h : shedIssues s w false r) (hg : f.guard = 0) (hd : f.rd = 0)
  (hb : f.rb = 0) (hc : f.rc = 0) (hm : f.mod = 0)
include h hg hd hb hc hm

/-- The state after the first STEP.BEGIN of a slot in a step that it opens with input ranges `l`. -/
def stepOpened (s : State) (r : Run) (l : List (Nat × Nat)) : State :=
  let t := putC s r.ctx { getC s r.ctx with step := { Step.closed with isOpen := true, ctr := (getC s r.ctx).stepCtr, ranges := l } }
  advance (updS t r.key (fun y => snapShed { y with descRead := true } r.shed r.h)) r { r.h with begun := true, closed := false }

omit h hg hd hb hc hm in
/-- What the first STEP.BEGIN of a slot leaves. -/
theorem stepOpened_spec {slot : Slot} (is : getS s r.key = slot) (first : slot.snap = []) (l : List (Nat × Nat)) :
    getC (stepOpened s r l) r.ctx =
      { getC s r.ctx with step := { Step.closed with isOpen := true, ctr := (getC s r.ctx).stepCtr, ranges := l } } ∧
    (∀ d, d ≠ r.ctx → getC (stepOpened s r l) d = getC s d) ∧ (getS (stepOpened s r l) r.key).descRead = true ∧
    Tbl.get Shed.idle (getS (stepOpened s r l) r.key).sheds r.shed = { r.h with begun := true, closed := false, pc := r.h.pc + 8 } ∧
    Tbl.get Shed.idle (getS (stepOpened s r l) r.key).snap r.shed = r.h ∧ (getS (stepOpened s r l) r.key).snapT = slot.tiles ∧
    (∀ k, k ≠ r.key → getS (stepOpened s r l) k = getS s k) ∧
    stepOpened s r l = { s with slots := (stepOpened s r l).slots, ctxs := (stepOpened s r l).ctxs } := by
  have here : getS (stepOpened s r l) r.key = { snapShed { slot with descRead := true } r.shed r.h with
      sheds := Tbl.put slot.sheds r.shed { r.h with begun := true, closed := false, pc := r.h.pc + 8 } } := by
    unfold stepOpened advance updS
    rw [getS_putShed, getS_putS_same]
    subst is
    rfl
  rw [here]
  refine ⟨getC_putC_same .., fun d other => getC_putC_ne _ other _, rfl, Tbl.get_put_same ..,
    Tbl.get_put_same .., ?_, fun k other => ?_, rfl⟩
  · exact if_pos (by rw [first]; rfl)
  · exact (getS_putShed_ne _ _ _ other).trans (getS_putS_ne _ other _)

/-- The first STEP.BEGIN of a slot reads the descriptor. -/
theorem execStepBegin_first {b : Marked} (out : r.h.begun = false) (address : r.h.gp ((lanesOf r.h.exec).headD 0) f.ra = false)
    (first : r.slot.snap = []) (checked : unchecked s r.key = false) (unread : r.slot.descRead = false)
    (closed : (getC s r.ctx).step.isOpen = false)
    (reads : slotRead r.key 2 (r.h.g ((lanesOf r.h.exec).headD 0) f.ra).toNat 64 env [] s = (.ok (b, env), s))
    (unmarked : ∀ x ∈ b, x.2 = false) :
    execStepBegin w f env s = .next ((stepRanges (b.map (·.1))).elim
      (threadFault s r 0x0107 (r.h.g ((lanesOf r.h.exec).headD 0) f.ra).toNat ((lanesOf r.h.exec).headD 0)) (stepOpened s r)) := by
  have noPoison : ¬ (b.any (·.2)) = true := by simpa using fun x y mem => unmarked (x, y) mem
  unfold execStepBegin
  rw [hg]
  refine congrArg _ ((perShed_issues h (by rw [hd, hb, hc, hm]; rfl) _).trans ?_)
  dsimp only
  rw [address, if_neg Bool.false_ne_true, out, if_neg Bool.false_ne_true, first, checked, Bool.and_false,
    if_neg Bool.false_ne_true, unread, if_neg Bool.false_ne_true, reads]
  dsimp only
  rw [if_neg noPoison]
  cases ranges : stepRanges (b.map (·.1)) with
  | none =>
    rfl
  | some l =>
    dsimp only
    rw [closed]
    rfl

/-- STEP.BEGIN inside a step ends the context. -/
theorem execStepBegin_again (inside : r.h.begun = true) (address : r.h.gp ((lanesOf r.h.exec).headD 0) f.ra = false) :
    execStepBegin w f env s = .next (stepSequence s r 0xFF) := by
  unfold execStepBegin
  rw [hg]
  refine congrArg _ ((perShed_issues h (by rw [hd, hb, hc, hm]; rfl) _).trans ?_)
  dsimp only
  rw [address, inside]
  rfl

/-- STEP.COMMIT of a context that is not paired. -/
theorem execStepCommit_alone (ha : f.ra = 0) (alone : isPaired s r.ctx = false ∨ r.h.begun = false) :
    execStepCommit w f s =
      .next (if r.h.begun then putShed s r { r.h with closed := true, wait := .commit } else stepSequence s r 0xFF) := by
  unfold execStepCommit
  rw [hg]
  refine congrArg _ ((perShed_issues h (by rw [hd, ha, hb, hc, hm]; rfl) _).trans ?_)
  cases begun : r.h.begun with
  | false => rfl
  | true =>
    rw [alone.resolve_right (by rw [begun]; decide)]
    rfl

end

/-! CKASSERT. -/

/-- No lane of a mask meets a condition that none of its lanes meets. -/
theorem firstLane_none {m : Half} {p : Nat → Bool} (no : ∀ l, m.getLsbD l → p l = false) : firstLane m p = none :=
  List.find?_eq_none.2 fun l mem => by rw [no l (mem_lanesOf.1 mem).2]; decide

/-- The first lane of a mask that meets a condition. -/
theorem firstLane_some {m : Half} {p : Nat → Bool} {l : Nat} (lane : m.getLsbD l = true) (meets : p l = true) :
    ∃ k, firstLane m p = some k :=
  Option.isSome_iff_exists.1 (List.find?_isSome.2 ⟨l, mem_lanesOf.2 ⟨lt_of_getLsbD lane, lane⟩, meets⟩)

/-- A slot whose part of the step is to run again after a mismatch. -/
def disagreed (s : State) (r : Run) : State :=
  updS s r.key (fun x => { x with mismatch := r.slot.mismatch + 1, reRunAt := some (r.slot.mismatch + 1) })

/-- A mismatch found by software in lane `l`, with the tag `tag`, is recorded. -/
def mismatched (s : State) (r : Run) (l tag : Nat) : State :=
  accept (disagreed s r) 0x3040 2 0x02 r.slot.host r.ctx 0xFFFF
    (softPay (disagreed s r) r.ctx r.slot.host r.no r.shed l tag 0xFFFF (r.slot.mismatch + 1))

/-- What a mismatch found by software leaves. -/
theorem mismatched_spec {s : State} {r : Run} (now : RunsNow s r) (c : calm s) (l tag : Nat) :
    inPipeline (mismatched s r l tag) 0x3040 2 ∧
    getS (mismatched s r l tag) r.key = { r.slot with mismatch := r.slot.mismatch + 1, reRunAt := some (r.slot.mismatch + 1) } ∧
    (∀ k, k ≠ r.key → getS (mismatched s r l tag) k = getS s k) ∧
    mismatched s r l tag =
      { s with slots := (mismatched s r l tag).slots, rcd := (mismatched s r l tag).rcd, err := (mismatched s r l tag).err } := by
  have acc : accepted (disagreed s r) (mismatched s r l tag) 0x3040 2 := accept_accepted (calm_putS c _ _) ..
  have slots := accepted_keeps acc State.slots fun _ _ => rfl
  have reads : ∀ k, getS (mismatched s r l tag) k = getS (disagreed s r) k := fun k => congrArg (fun x => Tbl.get Slot.idle x k) slots
  refine ⟨acc.1, (reads _).trans ((getS_putS_same ..).trans (by rw [now.slot])), 
    fun k other => (reads k).trans (getS_putS_ne _ other _), ?_⟩
  refine acc.2.trans ?_
  rw [slots]
  rfl

section
variable {s : State} {w : ShedRef} {f : T3} {r : Run} (h : shedIssues s w false r) (clean : guardClean r.h f.guard) (hd : f.rd = 0)
  (hm : f.mod = 0)
include h clean hd hm

/-- CKASSERT outside a step ends the context. -/
theorem execCkassert_outside (closed : (getC s r.ctx).step.isOpen = false) :
    execCkassert w f s = .next (stepSequence s r 0xFF) := by
  unfold execCkassert
  refine congrArg _ ((perThread_issues h clean (by rw [hd, hm]; rfl) _).trans ?_)
  rw [closed]
  rfl

variable (inside : (getC s r.ctx).step.isOpen = true)
  (operands : ∀ l, (guardMask r.h f.guard).getLsbD l → r.h.gp l f.ra = false ∧ r.h.gp l f.rb = false ∧ r.h.gp l f.rc = false)
include inside operands

/-- CKASSERT of clean operands in a step compares them. -/
theorem execCkassert_compares :
    execCkassert w f s = .next ((firstLane (guardMask r.h f.guard) (fun l => r.h.g l f.ra != r.h.g l f.rb)).elim (advance s r r.h)
      (fun l => mismatched s r l ((r.h.g l f.rc).toNat % 65536))) := by
  have noPoison : firstLane (guardMask r.h f.guard) (fun l => r.h.gp l f.ra || r.h.gp l f.rb || r.h.gp l f.rc) = none :=
    firstLane_none fun l lane => by
      obtain ⟨a, b, c⟩ := operands l lane
      rw [a, b, c]
      rfl
  unfold execCkassert
  refine congrArg _ ((perThread_issues h clean (by rw [hd, hm]; rfl) _).trans ?_)
  dsimp only
  rw [inside, noPoison]
  cases firstLane (guardMask r.h f.guard) (fun l => r.h.g l f.ra != r.h.g l f.rb) <;> rfl

end

/-! The bytes that a step leaves (R330). -/

/-- Bytes of memory with single bytes written one after another. -/
def written (m : Nat → Byte) (l : List (Nat × Byte)) : Nat → Byte := l.foldl (fun m e => Function.update m e.1 e.2) m

/-- A byte that is not written stays. -/
theorem written_out {m : Nat → Byte} {l : List (Nat × Byte)} {a : Nat} (out : a ∉ l.map (·.1)) : written m l a = m a := by
  induction l generalizing m with
  | nil => rfl
  | cons e l ih =>
    rw [List.map_cons, List.mem_cons, not_or] at out
    exact (ih out.2).trans (Function.update_of_ne out.1 ..)

/-- Each byte written once is there. -/
theorem written_mem {m : Nat → Byte} {l : List (Nat × Byte)} (once : (l.map (·.1)).Nodup) {e : Nat × Byte} (mem : e ∈ l) :
    written m l e.1 = e.2 := by
  induction l generalizing m with
  | nil => exact absurd mem List.not_mem_nil
  | cons f l ih =>
    rw [List.map_cons, List.nodup_cons] at once
    rcases List.mem_cons.1 mem with rfl | mem
    · exact (written_out once.1).trans (Function.update_self ..)
    · exact ih once.2 mem

/-- The bytes of a run with their addresses. -/
def placed : Nat → Marked → List (Nat × Byte)
  | _, [] => []
  | a, b :: l => (a, b.1) :: placed (a + 1) l

/-- A store writes its bytes one after another. -/
theorem memGet_storeMarked_placed (s : State) (a : Nat) (l : Marked) : memGet (storeMarked s a l) = written (memGet s) (placed a l) := by
  funext x
  rw [memGet_storeMarked]
  induction l generalizing s a with
  | nil => rfl
  | cons b l ih =>
    refine (ih (memPut s a b.1) (a + 1)).trans (congrArg (fun m => written m (placed (a + 1) l) x) ?_)
    funext y
    by_cases here : y = a
    · subst here
      exact (memGet_memPut_same ..).trans (Function.update_self y b.1 (memGet s)).symm
    · exact (memGet_memPut_ne _ here _).trans (Function.update_of_ne here b.1 (memGet s)).symm

/-- A final byte of device memory, not poisoned, under its own address. -/
def inDevice (e : Nat × HeldByte × Nat) : Prop := e.2.1.place = .hbm e.1 ∧ e.2.1.poison = false

/-- The runs of bytes of device memory start there, and their bytes are those of the table in its order. -/
theorem runsOf_inDevice {t : Tbl (HeldByte × Nat)} (device : ∀ e ∈ t, inDevice e) :
    (∀ r ∈ runsOf t, r.2.1 = .hbm r.1) ∧ (runsOf t).flatMap (fun r => placed r.1 r.2.2) = t.map (fun e => (e.1, e.2.1.byte)) := by
  induction t with
  | nil => exact ⟨fun r mem => absurd mem List.not_mem_nil, rfl⟩
  | cons e t ih =>
    obtain ⟨k, b, so⟩ := e
    obtain ⟨starts, bytes⟩ := ih fun f mem => device f (List.mem_cons_of_mem _ mem)
    have here : b.place = .hbm k := (device _ List.mem_cons_self).1
    simp only [runsOf]
    rw [List.map_cons, ← bytes]
    split
    case h_1 k' p' l r later =>
      rw [later] at starts ⊢
      split
      case isTrue next =>
        refine ⟨fun f mem => ?_, ?_⟩
        · rcases List.mem_cons.1 mem with rfl | mem
          · exact here
          · exact starts f (List.mem_cons_of_mem _ mem)
        · rw [next.1]
          rfl
      case isFalse =>
        refine ⟨fun f mem => ?_, rfl⟩
        rcases List.mem_cons.1 mem with rfl | mem
        · exact here
        · exact starts f mem
    case h_2 last =>
      rw [last]
      exact ⟨fun f mem => by rw [List.mem_singleton.1 mem]; exact here, rfl⟩

/-- A table of final bytes of device memory, in rising order. -/
def deviceTable (t : Tbl (HeldByte × Nat)) : Prop := Tbl.rising t = true ∧ ∀ e ∈ t, inDevice e

/-- A table of final bytes of device memory takes one more. -/
theorem deviceTable_put {t : Tbl (HeldByte × Nat)} (fine : deviceTable t) {b : HeldByte}
    (device : b.poison = false ∧ ∃ pa, b.place = .hbm pa) (so : Nat) : deviceTable (Tbl.put t (placeKey b.place) (b, so)) := by
  obtain ⟨clean, pa, place⟩ := device
  refine ⟨Tbl.rising_put _ _ _ fine.1, fun e mem => ?_⟩
  rcases Tbl.mem_put _ _ _ mem with rfl | mem
  · exact ⟨by rw [place]; rfl, clean⟩
  · exact fine.2 e mem

/-- Held bytes of device memory give final bytes there. -/
theorem deviceTable_finalBytes {l : List (Nat × Slot)}
    (device : ∀ e ∈ l, ∀ b ∈ e.2.held, b.poison = false ∧ ∃ pa, b.place = .hbm pa) :
    deviceTable (finalBytes l) := by
  unfold finalBytes
  refine List.foldlRecOn (motive := deviceTable) l _ ⟨rfl, fun e mem => absurd mem List.not_mem_nil⟩ fun t fine e he =>
    List.foldlRecOn (motive := deviceTable) e.2.held _ fine fun t fine b hb => ?_
  have more := deviceTable_put fine (device e he b hb) e.2.logical
  dsimp only
  split
  case h_2 => exact more
  case h_1 =>
    split
    · exact more
    · exact fine

/-- While no other context has a step open, no place is held for one (09 R328). -/
theorem stepHolder_alone {s : State} {c : Nat} (alone : ∀ d, d ≠ c → (getC s d).step.isOpen = false) (p : Place) :
    stepHolder s c p = none := by
  unfold stepHolder
  rw [List.find?_eq_none]
  intro d _
  by_cases other : d = c
  · simp [other]
  · simp [inStepRange, alone d other]

/-- Runs of bytes of device memory become visible one after another. -/
def storeRuns (s : State) (l : List (Nat × Place × Marked)) : State := l.foldl (fun s r => storeMarked s r.1 r.2.2) s

/-- Storing runs changes memory alone. -/
theorem storeRuns_frame (s : State) (l : List (Nat × Place × Marked)) : storeRuns s l = { s with mem := (storeRuns s l).mem } := by
  induction l generalizing s with
  | nil => rfl
  | cons r l ih =>
    have first := storeMarked_mem s r.1 r.2.2
    refine (ih (storeMarked s r.1 r.2.2)).trans ?_
    show _ = { s with mem := (storeRuns (storeMarked s r.1 r.2.2) l).mem }
    generalize (storeRuns (storeMarked s r.1 r.2.2) l).mem = m
    rw [first]

/-- What memory holds after runs are stored. -/
theorem memGet_storeRuns (s : State) (l : List (Nat × Place × Marked)) :
    memGet (storeRuns s l) = written (memGet s) (l.flatMap (fun r => placed r.1 r.2.2)) := by
  induction l generalizing s with
  | nil => rfl
  | cons r l ih =>
    refine (ih (storeMarked s r.1 r.2.2)).trans ?_
    rw [memGet_storeMarked_placed, List.flatMap_cons]
    exact (List.foldl_append ..).symm

/-- Held bytes of device memory are stored at once while no other context has a step open. -/
theorem applyHeld_stores {s : State} {c : Nat} (alone : ∀ d, d ≠ c → (getC s d).step.isOpen = false) {l : List (Nat × Slot)}
    (device : ∀ e ∈ l, ∀ b ∈ e.2.held, b.poison = false ∧ ∃ pa, b.place = .hbm pa) :
    applyHeld s c l = storeRuns s (runsOf (finalBytes l)) := by
  have starts := (runsOf_inDevice (deviceTable_finalBytes device).2).1
  unfold applyHeld
  generalize runsOf (finalBytes l) = runs at starts
  induction runs generalizing s with
  | nil => rfl
  | cons r runs ih =>
    have next := ih (s := storeMarked s r.1 r.2.2) (by rw [storeMarked_mem]; exact alone)
      fun f mem => starts f (List.mem_cons_of_mem _ mem)
    rw [List.foldl_cons, stepHolder_alone alone, starts r List.mem_cons_self]
    exact next

/-- The held bytes of device memory after a commit: the last of each place, and no other byte changes (R330). -/
theorem applyHeld_bytes {s : State} {c : Nat} (alone : ∀ d, d ≠ c → (getC s d).step.isOpen = false) {l : List (Nat × Slot)}
    (device : ∀ e ∈ l, ∀ b ∈ e.2.held, b.poison = false ∧ ∃ pa, b.place = .hbm pa) :
    (∀ e ∈ finalBytes l, memGet (applyHeld s c l) e.1 = e.2.1.byte) ∧
    (∀ a, a ∉ (finalBytes l).map (·.1) → memGet (applyHeld s c l) a = memGet s a) ∧
    applyHeld s c l = { s with mem := (applyHeld s c l).mem } := by
  obtain ⟨rising, inside⟩ := deviceTable_finalBytes device
  have once : ((finalBytes l).map (·.1)).Nodup := ((Tbl.rising_iff _).1 rising).imp Nat.ne_of_lt
  have numbers : ((finalBytes l).map (fun e => (e.1, e.2.1.byte))).map (·.1) = (finalBytes l).map (·.1) := List.map_map
  rw [applyHeld_stores alone device, memGet_storeRuns, (runsOf_inDevice inside).2]
  refine ⟨fun e mem => ?_, fun a out => written_out (by rwa [numbers]), storeRuns_frame ..⟩
  exact written_mem (by rwa [numbers]) (List.mem_map_of_mem (f := fun e => (e.1, e.2.1.byte)) mem)

/-! The commit point. -/

/-- Slots without held atomics leave none to perform. -/
theorem applyAtomics_none {l : List (Nat × Slot)} (none : ∀ e ∈ l, e.2.atomics = []) (s : State) (ordered : Bool) (c : Nat) :
    applyAtomics s l ordered c = s := by
  have empty : l.flatMap (fun e => e.2.atomics.map (fun a => (a, e.2.logical))) = [] :=
    List.flatMap_eq_nil_iff.2 fun e mem => by rw [none e mem]; rfl
  unfold applyAtomics
  rw [empty]
  rfl

/-- Idle engines send no link operations. -/
theorem sendHeldOps_idle {s : State} (idle : s.shut = []) (c : Nat) : sendHeldOps s c = s := by
  have empty : ∀ e, engineQ s e = [] := fun e => by
    unfold engineQ
    rw [idle]
    rfl
  unfold sendHeldOps
  refine List.foldl_fixed' (fun i => ?_) _
  dsimp only
  rw [empty]
  rfl

/-- While no slot is twinned, no comparison is to be settled. -/
theorem settleTwins_none {s : State} (alone : ∀ e ∈ s.slots, e.2.twinOf = none) (c n : Nat) : settleTwins s c n = (true, s) := by
  have single : ∀ k, twinSlot s k = none := fun k => List.find?_eq_none.2 fun e mem => by
    rw [alone e mem, Bool.and_eq_true, not_and]
    exact fun _ => Bool.false_ne_true
  unfold settleTwins
  refine List.foldl_fixed' (fun e => ?_) _
  dsimp only
  rw [single]

/-- A slot, if it is one of a launch that runs, holds nothing, and its started sheds are past STEP.COMMIT. -/
def rested (c n : Nat) (x : Slot) : Prop :=
  x.ctx = c ∧ x.launch = n ∧ x.ended = false → x.held = [] ∧ x.descRead = false ∧
    ∀ h ∈ x.sheds, h.2.started = true → h.2.closed = false ∧ h.2.wait = .none

/-- After the commit point a slot rests whose started sheds had all come to STEP.COMMIT. -/
theorem rested_freshSlot {c n : Nat} {x : Slot}
    (closed : x.ctx = c ∧ x.launch = n ∧ x.ended = false → ∀ h ∈ x.sheds, h.2.started = true → h.2.closed = true) :
    rested c n (freshSlot x) := by
  refine fun live => ⟨rfl, rfl, fun h mem => ?_⟩
  obtain ⟨g, before, rfl⟩ := List.mem_map.1 mem
  dsimp only
  split
  case isTrue => exact fun _ => ⟨rfl, rfl⟩
  case isFalse running => exact fun started => absurd (closed live g before started) running

/-- What a table reads under a number is listed there, or it is the default. -/
theorem get_listed {α : Type} (d : α) (t : Tbl α) (k : Nat) : Tbl.get d t k = d ∨ (k, Tbl.get d t k) ∈ t := by
  induction t with
  | nil => exact .inl rfl
  | cons e t ih =>
    obtain ⟨k', v⟩ := e
    unfold Tbl.get
    split
    case isTrue same => exact .inr (same ▸ List.mem_cons_self)
    case isFalse => exact ih.imp_right (List.mem_cons_of_mem _)

/-- A slot that moves home keeps everything else, and the slots that rest. -/
theorem goHome_keeps (s : State) (k : Nat) :
    goHome s k = { s with slots := (goHome s k).slots } ∧
    ∀ c n, (∀ e ∈ s.slots, rested c n e.2) → ∀ e ∈ (goHome s k).slots, rested c n e.2 := by
  unfold goHome
  dsimp only
  split
  case isFalse => exact ⟨rfl, fun _ _ rest => rest⟩
  case isTrue =>
    refine ⟨rfl, fun c n rest e mem => ?_⟩
    have here : rested c n (getS s k) := by
      rcases get_listed Slot.idle s.slots k with idle | listed
      · exact fun live => absurd (idle ▸ live.2.2 : Slot.idle.ended = false) (by decide)
      · exact rest _ listed
    rcases Tbl.mem_put _ _ _ mem with rfl | mem
    · exact here
    · exact rest e mem

/-- Slots that move home one after another. -/
theorem goHomes_keep (l : List (Nat × Slot)) (s : State) :
    l.foldl (fun s e => goHome s e.1) s = { s with slots := (l.foldl (fun s e => goHome s e.1) s).slots } ∧
    ∀ c n, (∀ e ∈ s.slots, rested c n e.2) → ∀ e ∈ (l.foldl (fun s e => goHome s e.1) s).slots, rested c n e.2 := by
  induction l generalizing s with
  | nil => exact ⟨rfl, fun _ _ rest => rest⟩
  | cons f l ih =>
    obtain ⟨frame, keep⟩ := goHome_keeps s f.1
    obtain ⟨frames, keeps⟩ := ih (goHome s f.1)
    refine ⟨frames.trans ?_, fun c n rest => keeps c n (keep c n rest)⟩
    show _ = { s with slots := (l.foldl (fun s (e : Nat × Slot) => goHome s e.1) (goHome s f.1)).slots }
    generalize (l.foldl (fun s (e : Nat × Slot) => goHome s e.1) (goHome s f.1)).slots = slots
    rw [frame]

/-- The context of a step after its commit point. -/
def committed (s : State) (c : Nat) : State :=
  putC s c { getC s c with step := Step.closed, stepCtr := (getC s c).stepCtr + 1 }

/-- A state whose step of a launch has committed: the slots of the launch have gone on, and the pair's re-run is over. -/
def goneOn (s : State) (c n : Nat) (t : State) : State :=
  { t with slots := t.slots.map (fun e => if (launchSlots s c n).any (fun f => f.1 == e.1) then (e.1, freshSlot e.2) else e),
           pairs := t.pairs.map (fun e => if e.1 = c then (e.1, { e.2 with rerun := false, slots := [], loc := [] }) else e) }

/-- The slots of a launch are those of its context and number that have not ended. -/
theorem mem_launchSlots {s : State} {c n : Nat} {e : Nat × Slot} :
    e ∈ launchSlots s c n ↔ e ∈ s.slots ∧ e.2.ctx = c ∧ e.2.launch = n ∧ e.2.ended = false := by
  simp [launchSlots, and_assoc]

/-- After the commit point every slot of the launch rests. -/
theorem goneOn_rests {s t : State} (same : t.slots = s.slots) {c n : Nat}
    (closed : ∀ e ∈ launchSlots s c n, ∀ h ∈ e.2.sheds, h.2.started = true → h.2.closed = true) :
    ∀ e ∈ (goneOn s c n t).slots, rested c n e.2 := by
  intro e mem
  obtain ⟨f, before, rfl⟩ := List.mem_map.1 mem
  rw [same] at before
  split
  case isTrue => exact rested_freshSlot fun live => closed f (mem_launchSlots.2 ⟨before, live⟩)
  case isFalse other =>
    exact fun live => absurd (List.any_eq_true.2 ⟨f, mem_launchSlots.2 ⟨before, live⟩, beq_self_eq_true f.1⟩) other

/-- The commit point of a step of its own: its held bytes are stored, its slots go on, and they may move home. -/
theorem commitStep_alone {s : State} {c : Nat} {l : Launch} (idle : s.shut = []) (waiting : (getC s c).step.waiting = [])
    (firing : (getC s c).step.firing = []) (single : ∀ e ∈ s.slots, e.2.twinOf = none)
    (noAtomics : ∀ e ∈ launchSlots s c l.number, e.2.atomics = [])
    (stores : applyHeld (committed s c) c (launchSlots s c l.number) =
      { committed s c with mem := (applyHeld (committed s c) c (launchSlots s c l.number)).mem }) :
    commitStep s c l = (launchSlots s c l.number).foldl (fun s e => goHome s e.1)
      (watchRestart (goneOn s c l.number (applyHeld (committed s c) c (launchSlots s c l.number))) c) := by
  have primaries : (launchSlots s c l.number).filter (fun e => e.2.twinOf.isNone) = launchSlots s c l.number :=
    List.filter_eq_self.2 fun e mem => by rw [single e (mem_launchSlots.1 mem).1]; rfl
  unfold commitStep
  dsimp only
  rw [primaries, applyAtomics_none noAtomics, waiting, firing]
  refine congrArg (fun t => (launchSlots s c l.number).foldl (fun s e => goHome s e.1) (watchRestart t c)) (sendHeldOps_idle ?_ c)
  show (applyHeld (committed s c) c (launchSlots s c l.number)).shut = []
  rw [stores]
  exact idle

/-- Every started shed of a launch that may commit has come to its STEP.COMMIT. -/
theorem commitReady_closed {s : State} {c n : Nat} (ready : commitReady s c n = true) :
    ∀ e ∈ launchSlots s c n, ∀ h ∈ e.2.sheds, h.2.started = true → h.2.closed = true := by
  unfold commitReady at ready
  simp only [Bool.and_eq_true, List.all_eq_true, Bool.or_eq_true, Bool.not_eq_true'] at ready
  obtain ⟨⟨-, slots⟩, -⟩ := ready
  intro e mem h shed started
  exact ((slots e mem).1.2 h shed).resolve_left (by rw [started]; decide)

/-- The commit point of a step that is neither twinned nor paired. -/
theorem execStepCommitPoint_commits {s : State} {ctx : BitVec 8} {l : Launch} {rest : List Launch}
    (running : (getC s ctx.toNat).launches = l :: rest) (started : l.started = true) (ready : commitReady s ctx.toNat l.number = true)
    (unpaired : isPaired s ctx.toNat = false) (single : ∀ e ∈ s.slots, e.2.twinOf = none) :
    execStepCommitPoint ctx s = .next (commitStep s ctx.toNat l) := by
  have pair : pairAllows s ctx.toNat l.number = (true, s) := by
    unfold pairAllows
    rw [unpaired]
    rfl
  unfold execStepCommitPoint
  dsimp only
  rw [running]
  dsimp only
  rw [started, ready, settleTwins_none single]
  dsimp only
  rw [pair]
  rfl

/-- Nothing happens before every shed has come to its STEP.COMMIT. -/
theorem execStepCommitPoint_waits {s : State} {ctx : BitVec 8} {l : Launch} {rest : List Launch}
    (running : (getC s ctx.toNat).launches = l :: rest) (ready : commitReady s ctx.toNat l.number = false) :
    execStepCommitPoint ctx s = .next s := by
  unfold execStepCommitPoint
  dsimp only
  rw [running]
  dsimp only
  rw [ready, Bool.and_false]
  rfl

/-- Settles O31: steps by `execStepBegin_first`, CKASSERT by `execCkassert_compares`, the commit point by `commitStep_alone` and
`applyHeld_bytes`. -/
theorem stepsAndSoftwareChecks : Obligations.StepsAndSoftwareChecks := by
  unfold Obligations.StepsAndSoftwareChecks
  refine ⟨?_, ?_, ?_⟩
  · intro s w f env r b l h hg hd hb hc hm lane va
    have now := runsNow_of_runnable h.1
    refine ⟨fun out address first checked unread closed reads unmarked => ?_, fun inside address c => ?_,
      fun ha inside unpaired => ?_, fun ha out c => ?_⟩
    · have run := (exec_stepBegin ..).trans (execStepBegin_first h hg hd hb hc hm out address first checked unread closed reads unmarked)
      refine ⟨fun ranges => ?_, fun bad c => ?_⟩
      · rw [ranges] at run
        exact ⟨_, run, stepOpened_spec now.slot first l⟩
      · rw [bad] at run
        exact ⟨_, run, threadFault_faulted now c ..⟩
    · exact ⟨_, (exec_stepBegin ..).trans (execStepBegin_again h hg hd hb hc hm inside address), stepSequence_faulted now c _⟩
    · refine (exec_stepCommit ..).trans ((execStepCommit_alone h hg hd hb hc hm ha (.inl unpaired)).trans ?_)
      rw [if_pos inside]
    · refine ⟨_, (exec_stepCommit ..).trans ((execStepCommit_alone h hg hd hb hc hm ha (.inr out)).trans ?_),
        stepSequence_faulted now c 0xFF⟩
      rw [out]
      rfl
  · intro s w f r h clean hd hm m
    have now := runsNow_of_runnable h.1
    refine ⟨fun closed c => ⟨_, (exec_ckassert ..).trans (execCkassert_outside h clean hd hm closed), stepSequence_faulted now c _⟩,
      fun inside operands => ?_⟩
    have run := (exec_ckassert ..).trans (execCkassert_compares h clean hd hm inside operands)
    refine ⟨fun agree => ?_, fun ⟨l, _, lane, differ⟩ c => ?_⟩
    · rw [firstLane_none fun l lane => by rw [agree l lane]; exact bne_self_eq_false _] at run
      exact run
    · obtain ⟨k, found⟩ := firstLane_some (p := fun l => r.h.g l f.ra != r.h.g l f.rb) lane (bne_iff_ne.2 differ)
      rw [found] at run
      exact ⟨_, run, mismatched_spec now c k _⟩
  · intro s ctx l rest c sl running
    refine ⟨execStepCommitPoint_waits running, fun started ready unpaired idle waiting firing alone single device => ?_⟩
    have held : ∀ e ∈ sl, ∀ b ∈ e.2.held, b.poison = false ∧ ∃ pa, b.place = .hbm pa := fun e mem => (device e mem).2
    obtain ⟨bytes, around, frame⟩ := applyHeld_bytes (s := committed s c)
      (fun d other => by rw [committed, getC_putC_ne _ other]; exact alone d other) held
    have run := (exec_stepCommitPoint ..).trans ((execStepCommitPoint_commits running started ready unpaired single).trans
      (congrArg _ (commitStep_alone idle waiting firing single (fun e mem => (device e mem).1) frame)))
    generalize applyHeld (committed s c) c sl = u at run bytes around frame
    have rest := goneOn_rests (t := u) (by rw [frame]; rfl) (commitReady_closed ready)
    have watch := watchRestart_frame (goneOn s c l.number u) c
    generalize watchRestart (goneOn s c l.number u) c = v at run watch
    obtain ⟨home, rests⟩ := goHomes_keep sl v
    generalize sl.foldl (fun s e => goHome s e.1) v = t at run home rests
    have ctxs : ∀ d, getC t d = getC (committed s c) d := fun d => by
      rw [home, watch, frame]
      rfl
    have cells : ∀ a, memGet t a = memGet u a := fun a => by
      rw [home, watch]
      rfl
    refine ⟨_, run, (ctxs c).trans (getC_putC_same ..), fun d other => (ctxs d).trans (getC_putC_ne _ other _),
      fun e mem => (cells _).trans (bytes e mem), fun a out => (cells a).trans (around a out), fun e mem => ?_⟩
    obtain ⟨listed, live⟩ := mem_launchSlots.1 mem
    exact rests c l.number (by rw [watch]; exact rest) e listed live

end Sys2Proof.Machine
end

section
/-! ### Triggers, Shuttle operations and XLAT_DONE (09 R319, 10 R365 to R367, R371, Tables 10.9 and 10.10) -/
namespace Sys2Proof.Machine

/-! TRIG.ARM. -/

/-- Arming with 256 triggers armed arms nothing and answers 1. -/
theorem armTrig_full {s : State} {c : Nat} (full : 256 ≤ (getC s c).trigs.length) (b : List Byte) (me : Option (Nat × Nat × Nat)) :
    armTrig s c b me = (1, { s with orderCtr := s.orderCtr + 1 }) := if_pos full

/-- The context with one more trigger armed. -/
def armed (s : State) (c : Nat) (b : List Byte) : Ctx := { getC s c with trigs := (getC s c).trigs ++ [trigOf b s.orderCtr none] }

/-- Arming a trigger whose object has not reached its threshold. -/
theorem armTrig_arms {s : State} {c : Nat} {b : List Byte} (room : (getC s c).trigs.length < 256)
    (object : (trigOf b s.orderCtr none).object < 256)
    (below : (syncGet s c (trigOf b s.orderCtr none).object).toNat < (trigOf b s.orderCtr none).thresh.toNat)
    (me : Option (Nat × Nat × Nat)) :
    armTrig s c b me = (0, putC { s with orderCtr := s.orderCtr + 1 } c (armed s c b)) := by
  unfold armTrig
  dsimp only
  rw [if_neg (Nat.not_le.2 room), if_neg (by omega)]
  exact if_neg (Nat.not_le.2 below)

section
variable {s : State} {w : ShedRef} {f : T3} {env : Env} {r : Run} {l : Nat} {b : Marked} (h : shedIssues s w false r)
  (clean : guardClean r.h f.guard) (hb : f.rb = 0) (hc : f.rc = 0) (hm : f.mod = 0) (lane : lanesOf (guardMask r.h f.guard) = [l])
  (primary : r.slot.twinOf = none) (address : r.h.gp l f.ra = false)
  (reads : slotRead r.key 3 (r.h.g l f.ra).toNat 64 env [] s = (.ok (b, env), s)) (unmarked : ∀ e ∈ b, e.2 = false)
include h clean hb hc hm lane primary address reads unmarked

/-- TRIG.ARM of one lane whose descriptor keeps the rules writes what arming answers. -/
theorem execTrigArm_arms (valid : trigValid s r.ctx (b.map (·.1)) = true) {res : Nat} {t : State}
    (arms : armTrig s r.ctx (b.map (·.1)) (some (r.key, r.shed, l)) = (res, t)) (alone : hasTwin t r.key = false) :
    execTrigArm w f env s = .next (advance t r (r.h.setG l f.rd (BitVec.ofNat 64 res) false)) := by
  have noPoison : ¬ (b.any (·.2)) = true := by simpa using fun x y mem => unmarked (x, y) mem
  unfold execTrigArm
  refine congrArg _ ((perThread_issues h clean (by rw [hb, hc, hm]; rfl) _).trans ?_)
  dsimp only
  rw [primary, if_neg (by decide), lane, eachLane_one]
  dsimp only
  rw [address, if_neg Bool.false_ne_true, reads]
  dsimp only
  rw [if_neg noPoison, valid, if_neg (by decide), arms]
  dsimp only
  unfold noteEcho
  rw [alone, if_neg Bool.false_ne_true]
  rfl

/-- TRIG.ARM of a descriptor that breaks a rule ends the context. -/
theorem execTrigArm_invalid (invalid : trigValid s r.ctx (b.map (·.1)) = false) :
    execTrigArm w f env s = .next (threadFault s r 0x010E (r.h.g l f.ra).toNat l) := by
  have noPoison : ¬ (b.any (·.2)) = true := by simpa using fun x y mem => unmarked (x, y) mem
  unfold execTrigArm
  refine congrArg _ ((perThread_issues h clean (by rw [hb, hc, hm]; rfl) _).trans ?_)
  dsimp only
  rw [primary, if_neg (by decide), lane, eachLane_one]
  dsimp only
  rw [address, if_neg Bool.false_ne_true, reads]
  dsimp only
  rw [if_neg noPoison, invalid, if_pos (by decide)]

end

/-! Memory Shuttles. -/

section
variable {s : State} {c : Nat} {va pa n : Nat} (some' : 0 < n) (page : va % 4096 + n ≤ 4096)
include some' page

/-- A Shuttle reads clean bytes within a page of device memory. -/
theorem shutRead_page (there : xlat s c va .read none = .ok (.hbm pa)) (clean : anyPoison s pa n = false) (agent fuel : Nat) :
    shutRead c agent (fuel + 2) va n Env.quiet [] s = (((memGets s pa n).map (fun b => (b, false)), none), s) := by
  have whole : Nat.min n (4096 - va % 4096) = n := Nat.min_eq_left (by omega)
  unfold shutRead
  rw [if_neg (by omega)]
  dsimp only
  rw [xlatE_quiet, there]
  dsimp only
  rw [if_neg (show ¬ placeDown s (.hbm pa) = true from Bool.false_ne_true), whole, readMarked_clean clean]
  dsimp only
  rw [Nat.sub_self]
  unfold shutRead
  rw [if_pos rfl]
  rfl

/-- A Shuttle writes bytes within a page of device memory. -/
theorem shutWrite_page (there : xlat s c va .write none = .ok (.hbm pa)) {l : Marked} (length : l.length = n) (fuel : Nat) :
    shutWrite c none (fuel + 2) va l Env.quiet s = (none, storeMarked s pa l) := by
  have whole : Nat.min l.length (4096 - va % 4096) = l.length := Nat.min_eq_left (by omega)
  have full : ¬ l.isEmpty = true := by rw [List.isEmpty_iff_length_eq_zero]; omega
  unfold shutWrite
  rw [if_neg full]
  dsimp only
  rw [xlatE_quiet, there]
  dsimp only
  rw [if_neg (show ¬ placeDown s (.hbm pa) = true from Bool.false_ne_true), whole, List.take_length, List.drop_length]
  rfl

end

/-- Resets do not look at what translates. -/
theorem walk_countDrain (s : State) (c' c va : Nat) (k : Access) (n table : Nat) :
    walk (countDrain s c') c va k n table = walk s c va k n table := by
  induction n generalizing table with
  | zero => rfl
  | succ n ih =>
    unfold walk
    simp only [ih]
    rfl

/-- A request that completes in a drain changes no translation. -/
theorem xlat_countDrain (s : State) (c' c va : Nat) (k : Access) (own : Option Nat) :
    xlat (countDrain s c') c va k own = xlat s c va k own := by
  unfold xlat
  simp only [walk_countDrain]
  rfl

/-- An engine without a further operation starts none. -/
theorem startOp_empty {s : State} {e : Nat} (empty : engineQ s e = []) : startOp s e = s := by
  unfold startOp
  rw [empty]

/-- The end of an operation that copies bytes within a page each, the last of its engine. -/
theorem performOp_copies {s : State} {e src dst : Nat} {x : Xfer} (memory : e < 12) (copy : x.trig.kind = 1) (done : x.trig.done = 0xFFFF)
    (own : x.trig.inStep = none) (some' : 0 < x.trig.len) (srcPage : x.trig.src % 4096 + x.trig.len ≤ 4096)
    (dstPage : x.trig.dst % 4096 + x.trig.len ≤ 4096) (source : xlat s x.ctx x.trig.src .read none = .ok (.hbm src))
    (dest : xlat s x.ctx x.trig.dst .write none = .ok (.hbm dst)) (clean : anyPoison s src x.trig.len = false) :
    performOp s e x [] Env.quiet =
      watchRestart (putEngine (storeMarked s dst ((memGets s src x.trig.len).map (fun b => (b, false)))) e []) x.ctx := by
  have wrote := shutWrite_page some' dstPage dest (l := (memGets s src x.trig.len).map (fun b => (b, false)))
    (by rw [List.length_map, length_memGets])
  have empty : ∀ t, engineQ (putEngine t e []) e = [] := fun t => Tbl.get_put_same ..
  unfold performOp
  dsimp only
  rw [copy, if_neg (show ¬ (1 : Nat) = 2 by decide), shutRead_page some' srcPage source clean]
  dsimp only
  rw [if_neg (Nat.not_le.2 memory), own, wrote]
  dsimp only
  rw [startOp_empty (empty _), done]
  unfold syncBump
  exact if_neg fun e => absurd e.1 (by decide)

/-- Settles O32: triggers by `execTrigArm_arms` and `execTrigArm_invalid`, Shuttles by `performOp_copies`. -/
theorem triggersAndShuttles : Obligations.TriggersAndShuttles := by
  unfold Obligations.TriggersAndShuttles
  refine ⟨?_, ?_, fun s ctx => ⟨fun unused => ?_, fun used => ?_⟩⟩
  · intro s w f env r l b h clean hb hc hm lane primary alone address va x t0 reads unmarked does
    refine ⟨fun valid => ?_, fun invalid c => ?_⟩
    · have arms := fun {res t} a => execTrigArm_arms (res := res) (t := t) h clean hb hc hm lane primary address reads unmarked valid a
      refine ⟨fun full => ?_, fun room object below => ?_⟩
      · exact ⟨_, _, (exec_trigArm ..).trans (arms (armTrig_full full _ _) alone), wroteLanes_one lane f.rd _ false, rfl, rfl,
          fun _ _ => rfl, rfl⟩
      · exact ⟨_, _, (exec_trigArm ..).trans (arms (armTrig_arms room object below _) alone), wroteLanes_one lane f.rd _ false, rfl,
          getC_putC_same .., fun _ other => getC_putC_ne _ other _, rfl⟩
    · exact ⟨_, (exec_trigArm ..).trans (execTrigArm_invalid h clean hb hc hm lane primary address reads unmarked invalid),
        threadFault_faulted (runsNow_of_runnable h.1) c _ _ _⟩
  · intro s e src dst x front memory runs noTag noData copy done own free noFault noHold _ some' srcPage dstPage source dest clean
    have may : ¬ ((!engineRuns s e) = true ∨
        x.tag.isSome = true ∨ x.data.isSome = true ∨ (getC s x.ctx).fault ≠ 0 ∨ destHeld s x = true) := by
      simp [runs, noTag, noData, noFault, noHold]
    have run : execTriggeredOpComplete e Env.quiet s = .next (performOp (countDrain s x.ctx) e x [] Env.quiet) := by
      unfold execTriggeredOpComplete
      rw [front]
      dsimp only
      rw [free, if_neg Bool.false_ne_true, if_neg may]
    rw [performOp_copies memory copy done own some' srcPage dstPage ((xlat_countDrain ..).trans source)
      ((xlat_countDrain ..).trans dest) clean, memGets_congr (s := s) (t := countDrain s x.ctx) rfl, watchRestart_frame] at run
    obtain ⟨bytes, around, frame⟩ :=
      storeMarked_spec (countDrain s x.ctx) dst (length_memGets (countDrain s x.ctx) src x.trig.len) false
    rw [memGets_congr (s := s) (t := countDrain s x.ctx) rfl] at bytes around frame
    generalize storeMarked (countDrain s x.ctx) dst ((memGets s src x.trig.len).map (fun b => (b, false))) = c at run bytes around frame
    refine ⟨_, (exec_triggeredOpComplete ..).trans run, (memGets_congr (by rfl) ..).trans bytes, around, Tbl.get_put_same .., ?_, ?_⟩
    · intro d other
      rw [frame]
      exact Tbl.get_put_ne _ _ other _
    · rw [frame]
      rfl
  · exact (exec_xlatDone ..).trans (congrArg _ (if_neg (by rw [unused]; exact Bool.false_ne_true)))
  · exact (exec_xlatDone ..).trans (congrArg _ (if_pos used))

end Sys2Proof.Machine
end

section
/-! ### O33: a launch whose slot stands behind a later number in the table of slots (09 R309) -/
namespace Sys2Proof.Machine

/-- The END of the last lanes of a shed outside a step: the launch ends if they were its last (R309). -/
theorem execThreadEnd_last {s : State} {w : ShedRef} {r : Run} (h : shedIssues s w false r) {guard : BitVec 4}
    (clean : guardClean r.h guard)
    (last : r.h.ended ||| guardMask r.h guard = BitVec.allOnes 16) (outside : r.h.begun = false) :
    execThreadEnd w ⟨guard, 0, 0, 0, 0, 0⟩ s = .next (endLaunch (settleBars (advance s r
      { r.h with ended := r.h.ended ||| guardMask r.h guard, exec := r.h.exec &&& ~~~guardMask r.h guard }) r.key) r.ctx r.slot.launch) := by
  unfold execThreadEnd
  refine congrArg _ ((perThread_issues h clean rfl _).trans ?_)
  dsimp only
  have inside : ¬ (r.h.begun && !r.h.closed) = true := by rw [outside]; exact Bool.false_ne_true
  rw [if_neg (not_not_intro last), if_neg inside]

/-- A launch with an entry whose sheds have not all ended does not end. -/
theorem endLaunch_going {s : State} {c n : Nat} {e : Nat × Slot} (mem : e ∈ launchSlots s c n) (going : slotDone e.2 = false) :
    endLaunch s c n = s := by
  have some : (launchSlots s c n).all (fun e => slotDone e.2) = false := by
    rw [List.all_eq_false]
    exact ⟨e, mem, by rw [going]; exact Bool.false_ne_true⟩
  unfold endLaunch
  exact if_pos (by rw [some, Bool.not_false, Bool.or_true])

/-- The only shed of a launch, before the END of its sixteen lanes. -/
def lastShed : Shed := { Shed.idle with started := true, exec := BitVec.allOnes 16 }

/-- The only slot of a launch of context 3, on cluster 10. -/
def lastSlot : Slot := { Slot.idle with ctx := 3, launch := 1, host := 10, active := true, ended := false, sheds := [(0, lastShed)] }

/-- A released device whose table of slots lists slot 2, which is free, before slot 1, which runs the last shed of a launch. -/
def slotsOutOfOrder : State :=
  { State.reset with ctxs := [(3, { Ctx.free with inUse := true })], slots := [(2, Slot.idle), (1, lastSlot)] }

/-- The shed that issues the END. -/
def lastRun : Run := ⟨1, lastSlot, 0, lastShed⟩

/-- The shed once its lanes have ended. -/
def endedShed : Shed := { lastShed with ended := BitVec.allOnes 16, exec := 0, pc := 8 }

/-- Slot 1 once it is written: listed a second time, before slot 2, while the entry behind slot 2 keeps the shed as it was. -/
def slotListedTwice : State :=
  { slotsOutOfOrder with slots := [(1, { lastSlot with sheds := [(0, endedShed)] }), (2, Slot.idle), (1, lastSlot)] }

/-- Refutes O33 by its clause (2), which ends the launch on the END of its last lane for every table of slots that lists one slot of the
launch: the clause does not ask for a table in rising order (`Tbl.rising`), and where the slot stands behind a later number
(`slotsOutOfOrder`) the write of its shed adds a second entry (`slotListedTwice`), so that the launch keeps an entry with a running shed
and does not end (`endLaunch_going`). -/
theorem not_launchesThreadsAndSlots : ¬ Obligations.LaunchesThreadsAndSlots := by
  unfold Obligations.LaunchesThreadsAndSlots
  rintro ⟨-, ends, -⟩
  have issues : shedIssues slotsOutOfOrder ⟨0, 1, 0⟩ false lastRun := by unfold shedIssues; decide +kernel
  have clean : guardClean lastRun.h 0 := by unfold guardClean; decide
  obtain ⟨-, -, launch⟩ := ends slotsOutOfOrder ⟨0, 1, 0⟩ ⟨0, 0, 0, 0, 0, 0⟩ lastRun issues clean rfl rfl rfl rfl rfl
  obtain ⟨t, run, slotEnded, -⟩ := launch (by decide) rfl (by decide) (by decide) rfl (by decide)
  have written : settleBars (advance slotsOutOfOrder lastRun { lastShed with
      ended := lastShed.ended ||| guardMask lastShed 0, exec := lastShed.exec &&& ~~~guardMask lastShed 0 }) 1 = slotListedTwice := rfl
  have stays : endLaunch slotListedTwice 3 1 = slotListedTwice := endLaunch_going (e := (1, lastSlot)) (by decide) (by decide)
  rw [exec_threadEnd, execThreadEnd_last issues clean (by decide) rfl] at run
  rw [← Host.Outcome.next.inj run, show lastRun.h = lastShed from rfl, show lastRun.key = 1 from rfl, written] at slotEnded
  exact absurd ((congrArg (fun t => (getS t 1).ended) stays).symm.trans slotEnded) (by decide)

end Sys2Proof.Machine
end
